-- ==== Sys2Proof/Word.lean ====
section
/-! DEFINITION.  The word types of the AS9764: registers are 32 bits wide, memory is byte-addressed. -/

namespace Sys2Proof

/-- A 32-bit register (chapter 02). -/
abbrev Word := BitVec 32

/-- A byte of memory. -/
abbrev Byte := BitVec 8

/-- A register pair or fence value (R53). -/
abbrev Word64 := BitVec 64

end Sys2Proof
end

