-- ==== Sys2Proof/Syntax.lean ====
section
/-! DEFINITION.  The commands of the block: one constructor of `Instr` for each row of
    spec/opcode_table.json, in the table's order, with the operands the row's rule gives it.
    Where a row is an event whose outcome depends on something outside the device (a sink, a sensor, a
    temperature report, a parity upset), the operand carries what was seen. -/

namespace Sys2Proof

/-- R53, R117, R131: the two requesters whose register copies and latches are kept apart. -/
inductive Rq where
  | host | fw
  deriving DecidableEq, Repr

/-- R403: the transports of the Icavaven Command Protocol. -/
inductive Tr where
  | pcie | spi | i2c
  deriving DecidableEq, Repr

/-- R47, R415: the two windows a register write reaches: the REG window (BAR 0) and the ring window (BAR 2). -/
inductive Win where
  | reg | ring
  deriving DecidableEq, Repr

/-- R544: the capture registers. -/
inductive Cap where
  | accessAddr | parityAddr | surfErrSid | fenceErrFid
  deriving DecidableEq, Repr

/-- R66: the bank in which a parity mismatch is found. -/
inductive Bank where
  | proof | armed | active | unbanked
  deriving DecidableEq, Repr

/-- R65: one mismatch a scrub pass finds: the bank and the primary-map offset of the word; `latent` when it arises behind
    the pass, so that the next check of the word finds it.
    Log 8 (DESIGN CHOICE, safe). -/
structure ScrubHit where
  bank : Bank
  off : BitVec 24
  latent : Bool := false
  deriving DecidableEq, Repr

/-- R125, R153: an upset found by a table scrubber; `double` when it cannot be repaired.
    Log 8 (DESIGN CHOICE, safe). -/
structure Upset where
  index : BitVec 16
  double : Bool
  deriving DecidableEq, Repr

/-- R262: who reads the DRAM word in error. -/
inductive Reader where
  | layer (l : Fin 128)
  | crust (q : Fin 8)
  | scraper
  | dma (ch : Fin 16)
  | composer (pipe : Fin 4)
  | curve (l : Fin 128)
  | lut (pipe : Fin 4)
  | window
  deriving DecidableEq, Repr

/-- R266: whose fetch-store data failed parity. -/
inductive StoreReader where
  | layer (l : Fin 128)
  | crust (q : Fin 8)
  deriving DecidableEq, Repr

/-- R284: what underran, as PIPE_n_UNDERRUN_LAST.KIND codes it. -/
inductive UnderKind where
  | video | graphic | under | top
  deriving DecidableEq, Repr

/-- R271: what one channel's temperature report says. -/
structure RefReport where
  mult : BitVec 2
  temp : BitVec 8
  deriving DecidableEq, Repr

/-- R317, R318: what Hearth firmware reads from a DisplayPort sink when it is plugged in.
    Log 8 (DESIGN CHOICE, safe). -/
structure Sink where
  wordA : Word
  wordB : Word
  deriving DecidableEq, Repr

/-- R51: the data of a write request: its first doubleword, and the byte enables and data of those that follow it. -/
structure WriteData where
  word : Word
  more : List (BitVec 4 × Word)
  deriving DecidableEq, Repr

/-- R131: the word of a surface or fence command, and whether it comes before its requester's last one has completed. -/
structure CmdWord where
  word : Word
  early : Bool
  deriving DecidableEq, Repr

/-- R151: the word of a doorbell, and whether it comes in the CORE_CLK cycle of the doorbell before it. -/
structure BellWord where
  word : Word
  second : Bool
  deriving DecidableEq, Repr

/-- R183, R205, R212: a layer or pipe, and the line of the frame that is composed when its parity fails. -/
structure OnLine (n : Nat) where
  index : Fin n
  line : BitVec 14
  deriving DecidableEq, Repr

/-- R250: a tile of a plane, and the line of the frame that is composed when its data fail parity. -/
structure TileOnLine where
  tile : BitVec 13
  line : BitVec 14
  deriving DecidableEq, Repr

/-- R266: whose fetch-store data failed parity, and on which line. -/
structure StoreOnLine where
  reader : StoreReader
  line : BitVec 14
  deriving DecidableEq, Repr

/-- R262: who reads the DRAM word in error, and at which address. -/
structure EccRead where
  reader : Reader
  addr : BitVec 40
  deriving DecidableEq, Repr

/-- R308: the pipe whose TE input sees an edge, and the time since the command before it. -/
structure TeSeen where
  pipe : Fin 4
  dt : Nat
  deriving DecidableEq, Repr

/-- R387: how a read of the copy engine failed: an uncorrectable DRAM error, a PCIe completion with Unsupported Request or
    Completer Abort status, a poisoned one, or a completion timeout. -/
inductive BusError where
  | dram | refused | poisoned | timeout
  deriving DecidableEq, Repr

/-- R387: the failing read was one of host space. -/
def BusError.host : BusError → Bool
  | .dram => false
  | .refused => true
  | .poisoned => true
  | .timeout => true

/-- What a list of channels gives for channel `c`. -/
def forChannel {α : Type} (c : Nat) (none : α) : List (Fin 16 × α) → α
  | [] => none
  | x :: t => if x.1.val = c then x.2 else forChannel c none t

/-- R524: the straps sampled at reset release. -/
structure Straps where
  testMode : Bool
  i2cAddr : Bool
  starter : Bool
  edp : Bool
  deriving DecidableEq, Repr

/-- R464: the board's main rails. -/
inductive Rail where
  | vddIn | vddPhy | vdda18 | vddio18 | vddioRef
  deriving DecidableEq, Repr

/-- R498 to R501: what a self-test slice observed, what the boot ROM expects of it, and how long it ran in µs.
    `exclude` marks the failing elements of THERMAL, SUPPLY and AGEING (R510).
    Log 8 (DESIGN CHOICE, safe). -/
structure SliceSeen where
  count : Word
  signature : Word
  expCount : Word
  expSignature : Word
  elementFail : Bool
  detail : Word
  exclude : BitVec 64
  micros : Nat
  deriving DecidableEq, Repr

/-- R447: what a start finds: the straps, which slots hold an image of manufacture that passes (R442), the channels that
    train and their size code, whether retained DRAM was found lost (R476), a sink on DP_0, what the slices of a
    start-up test observe in ascending ID (R504), the DEGRADE of every ageing pair (R452), and whether the start stops
    before normal service (R448).
    Log 8 (DESIGN CHOICE, safe). -/
structure StartSeen where
  straps : Straps
  slotPass : BitVec 2
  trained : BitVec 16
  chSize : BitVec 2
  dramLost : Bool
  sinkOnDp0 : Bool
  tests : List SliceSeen
  degrade : List (BitVec 16)
  stall : Bool
  deriving DecidableEq, Repr

/-- A command or event of the AS9764 block. -/
inductive Instr where
  /-- REG_WRITE (R47, R51): a write request; `be` are the byte enables of its first doubleword. -/
  | regWrite (rq : Rq) (win : Win) (off : BitVec 26) (be : BitVec 4) (data : WriteData)
  /-- UNMAPPED_READ (R49). -/
  | unmappedRead (rq : Rq) (off : BitVec 26) (be : BitVec 4)
  /-- UNALIGNED_READ (R52). -/
  | unalignedRead (rq : Rq) (off : BitVec 26) (be : BitVec 4)
  /-- REGISTER_PAIR_LOWER_READ (R53). -/
  | registerPairLowerRead (rq : Rq) (off : BitVec 24) (both : Bool)
  /-- POSTED_WRITE (R58). -/
  | postedWrite (rq : Rq) (off : BitVec 24) (data : Word)
  /-- POSTED_WRITE_LANDED (R58). -/
  | postedWriteLanded (area : Fin 12)
  /-- SYS_UNLOCK_WRITE (R62). -/
  | sysUnlockWrite (rq : Rq) (data : Word)
  /-- UNLOCK_TIMEOUT (R62). -/
  | unlockTimeout (rq : Rq)
  /-- WARM_RESET_WRITE (R72). -/
  | warmResetWrite (rq : Rq) (data : Word)
  /-- SYS_LOCKDOWN_WRITE (R73). -/
  | sysLockdownWrite (rq : Rq) (data : Word)
  /-- CAPTURE_REARM (R544). -/
  | captureRearm (rq : Rq) (cap : Cap) (data : Word)
  /-- SYS_TICK_CTRL_WRITE (R22). -/
  | sysTickCtrlWrite (rq : Rq) (data : Word)
  /-- TICK_CLR_COUNTS (R30). -/
  | tickClrCounts (rq : Rq) (data : Word)
  /-- FALLBACK_TICK (R24). -/
  | fallbackTick (dt : Nat)
  /-- FALLBACK_TIMER_TICK (R24). -/
  | fallbackTimerTick (dt : Nat)
  /-- FLATTEN_ITEM_COMPLETE (R245). -/
  | flattenItemComplete (pipe : Fin 4)
  /-- CRUST_SLOT_DRAIN (R248). -/
  | crustSlotDrain (pipe : Fin 4)
  /-- COMMIT_STROBE (R86). -/
  | commitStrobe (rq : Rq) (data : Word)
  /-- COMMIT_VALIDATION_END (R95). -/
  | commitValidationEnd (rq : Rq)
  /-- COMMIT_CLR_COUNTS (R120). -/
  | commitClrCounts (rq : Rq) (data : Word)
  /-- CUTOFF (R97). -/
  | cutoff (pipe : Fin 4)
  /-- SWAP_POINT (R82). -/
  | swapPoint (pipe : Fin 4) (dt : Nat)
  /-- SURFACE_RETIRE_DRAIN (R138). -/
  | surfaceRetireDrain (sid : BitVec 14)
  /-- LINE_ZERO (R321). -/
  | lineZero (pipe : Fin 4)
  /-- SCAN_OUT_FETCH_ISSUE (R263). -/
  | scanOutFetchIssue (pipe : Fin 4) (line : BitVec 14)
  /-- UNDERRUN (R282). -/
  | underrun (pipe : Fin 4) (line : BitVec 16) (kind : UnderKind) (index : BitVec 7)
  /-- WRITEBACK_LINE_OVERFLOW (R223). -/
  | writebackLineOverflow (pipe : Fin 4) (line : BitVec 14)
  /-- WRITEBACK_FRAME_DONE (R222). -/
  | writebackFrameDone (pipe : Fin 4)
  /-- REPLAY_ABORT (R313). -/
  | replayAbort (pipe : Fin 4) (line : BitVec 14)
  /-- CONFIG_SCRUB_PASS (R65). -/
  | configScrubPass (found : List ScrubHit)
  /-- SAFE_BLACK_RELOAD (R67). -/
  | safeBlackReload (pipe : Fin 4)
  /-- RELOAD_FAIL (R67). -/
  | reloadFail (pipe : Fin 4)
  /-- SURF_CMD_REGISTER (R132). -/
  | surfCmdRegister (rq : Rq) (data : CmdWord)
  /-- SURF_CMD_UNREGISTER (R134). -/
  | surfCmdUnregister (rq : Rq) (data : CmdWord)
  /-- SURF_CMD_CLEAR_TORN (R134). -/
  | surfCmdClearTorn (rq : Rq) (data : CmdWord)
  /-- SURF_CMD_BAD_OP (R134). -/
  | surfCmdBadOp (rq : Rq) (data : CmdWord)
  /-- SEAL_CHECK_END (R136). -/
  | sealCheckEnd
  /-- DESC_SCRUB (R125). -/
  | descScrub (hits : List Upset)
  /-- DRAM_WINDOW_WRITE (R144). -/
  | dramWindowWrite (addr : BitVec 40) (data : List Byte) (dt : Nat)
  /-- DRAM_WINDOW_READ (R142). -/
  | dramWindowRead (addr : BitVec 40) (len : BitVec 13)
  /-- FENCE_CMD_ALLOC (R147). -/
  | fenceCmdAlloc (rq : Rq) (data : CmdWord)
  /-- FENCE_CMD_FREE (R148). -/
  | fenceCmdFree (rq : Rq) (data : CmdWord)
  /-- FENCE_CMD_BAD_OP (R148). -/
  | fenceCmdBadOp (rq : Rq) (data : CmdWord)
  /-- FENCE_DOORBELL (R149). -/
  | fenceDoorbell (rq : Rq) (fid : BitVec 12) (data : BellWord)
  /-- FENCE_SCRUB (R153). -/
  | fenceScrub (hits : List Upset)
  /-- COEF_WRITE (R174). -/
  | coefWrite (rq : Rq) (off : BitVec 24) (data : Word)
  /-- CLAIM_SCRUB (R181). -/
  | claimScrub (blocks : List (Fin 1024))
  /-- LS_PARITY (R183). -/
  | lsParity (vl : OnLine 64)
  /-- TM_LOAD (R204). -/
  | tmLoad (rq : Rq) (layer : Fin 128) (data : Word)
  /-- TM_LOAD_COMPLETE (R204). -/
  | tmLoadComplete (layer : Fin 128)
  /-- TM_PARITY (R205). -/
  | tmParity (layer : OnLine 128)
  /-- LUT_LOAD (R212). -/
  | lutLoad (rq : Rq) (pipe : Fin 4) (data : Word)
  /-- LUT_LOAD_COMPLETE (R212). -/
  | lutLoadComplete (pipe : Fin 4)
  /-- LUT_PARITY (R212). -/
  | lutParity (pipe : OnLine 4)
  /-- CRUST_HINT_GO (R241). -/
  | crustHintGo (rq : Rq) (data : Word)
  /-- CRUST_TILE_SEL_WRITE (R255). -/
  | crustTileSelWrite (rq : Rq) (data : Word)
  /-- CRUST_CLR_COUNTS (R257). -/
  | crustClrCounts (rq : Rq) (pipe : Fin 4) (data : Word)
  /-- TILE_SCRUB (R249). -/
  | tileScrub (hits : List (BitVec 16))
  /-- CRUST_DATA_PARITY (R250). -/
  | crustDataParity (plane : Fin 8) (tile : TileOnLine)
  /-- DRAM_ECC_ERROR (R262). -/
  | dramEccError (ch : Fin 16) (uncorrectable : Bool) (reader : EccRead) (dt : Nat)
  /-- STORE_PARITY (R266). -/
  | storeParity (src : StoreOnLine)
  /-- REFRESH_MULT_UPDATE (R271). -/
  | refreshMultUpdate (reports : List RefReport)
  /-- DRAM_RETRAIN (R271). -/
  | dramRetrain (ch : Fin 16)
  /-- FETCH_DECL_WRITE (R267). -/
  | fetchDeclWrite (rq : Rq) (k : Fin 8) (data : Word)
  /-- DECL_TEST_END (R267). -/
  | declTestEnd
  /-- FETCH_EFF_WRITE (R288). -/
  | fetchEffWrite (rq : Rq) (data : Word)
  /-- CLASS_B_RASTER_STOP (R306). -/
  | classBRasterStop (pipe : Fin 4)
  /-- PIXEL_PLL_LOCK (R306). -/
  | pixelPllLock (pipe : Fin 4)
  /-- LINK_TRAINING_COMPLETE (R306). -/
  | linkTrainingComplete (port : Fin 6)
  /-- TRAIN_FAIL (R318). -/
  | trainFail (port : Fin 4)
  /-- RETRAIN_TIMER (R318). -/
  | retrainTimer (port : Fin 4)
  /-- REF_IN_EDGE (R303). -/
  | refInEdge (dt : Nat)
  /-- GENLOCK_REF_LOST (R302). -/
  | genlockRefLost (pipe : Fin 4)
  /-- TE_EDGE (R308). -/
  | teEdge (pipe : TeSeen)
  /-- TE_TIMEOUT (R309). -/
  | teTimeout (pipe : Fin 4)
  /-- HPD_PLUG (R318). -/
  | hpdPlug (port : Fin 4) (sink : Sink)
  /-- HPD_UNPLUG (R318). -/
  | hpdUnplug (port : Fin 4)
  /-- IRQ_HPD (R318). -/
  | irqHpd (port : Fin 4) (linkLost : Bool) (hdcpReq : Bool)
  /-- HDCP_AUTH_COMPLETE (R320). -/
  | hdcpAuthComplete (port : Fin 4) (ok : Bool) (unwrapOk : Bool) (repeater : Bool)
  /-- HDCP_RETRY (R320). -/
  | hdcpRetry (port : Fin 4)
  /-- DSI_ERROR_REPORT (R322). -/
  | dsiErrorReport (dsi : Fin 2)
  /-- SIG_SNAP_SEL_WRITE (R335). -/
  | sigSnapSelWrite (rq : Rq) (data : Word)
  /-- SIG_CLR_COUNTS (R347). -/
  | sigClrCounts (rq : Rq) (pipe : Fin 4) (data : Word)
  /-- SQ_TAIL_WRITE (R350). -/
  | sqTailWrite (rq : Rq) (q : Fin 4) (data : Word)
  /-- SQ_RESUME (R370). -/
  | sqResume (rq : Rq) (q : Fin 4) (data : Word)
  /-- SCRAPER_JOB_START (R356). -/
  | scraperJobStart
  /-- SCRAPER_ROW_COMPLETE (R365). -/
  | scraperRowComplete
  /-- SCRAPER_JOB_END (R369). -/
  | scraperJobEnd
  /-- DMA_GO (R381). -/
  | dmaGo (rq : Rq) (ch : Fin 16) (data : Word)
  /-- DMA_RESUME (R381). -/
  | dmaResume (rq : Rq) (ch : Fin 16) (data : Word)
  /-- DMA_DESC_COMPLETE (R385). -/
  | dmaDescComplete (ch : Fin 16) (hostData : List Byte)
  /-- DMA_BUS_ERROR (R387): how and where the read failed, how far each channel has come in its descriptor, and the bytes
      that host memory gave its reads up to there. -/
  | dmaBusError (kind : BusError) (addr : Word64) (ends : List (Fin 16 × Word)) (data : List (Fin 16 × List Byte)) (dt : Nat)
  /-- DMA_HALT_SETTLED (R387). -/
  | dmaHaltSettled
  /-- CLEAR_HALT (R388). -/
  | clearHalt (rq : Rq) (data : Word)
  /-- CHK_INIT (R397). -/
  | chkInit (rq : Rq) (unit : Fin 8) (data : Word)
  /-- CHK_FEED8 (R396). -/
  | chkFeed8 (rq : Rq) (unit : Fin 8) (data : Word)
  /-- CHK_FEED16 (R396). -/
  | chkFeed16 (rq : Rq) (unit : Fin 8) (data : Word)
  /-- CHK_FEED32 (R396). -/
  | chkFeed32 (rq : Rq) (unit : Fin 8) (data : Word)
  /-- ICP_PACKET_RECEIVED (R406). -/
  | icpPacketReceived (tr : Tr) (packet : List Byte)
  /-- ICP_CMD_TAIL_WRITE (R416). -/
  | icpCmdTailWrite (data : Word)
  /-- ICP_RPL_HEAD_WRITE (R416). -/
  | icpRplHeadWrite (data : Word)
  /-- ICP_RING_TAKE (R416). -/
  | icpRingTake
  /-- WRITE_PACKET (R419). -/
  | writePacket (tr : Tr) (bytes : List Byte)
  /-- READ_REPLY (R419). -/
  | readReply (tr : Tr) (len : BitVec 9)
  /-- READ_STATUS (R422). -/
  | readStatus (tr : Tr)
  /-- SIDEBAND_BAD_COMMAND (R419). -/
  | sidebandBadCommand (tr : Tr)
  /-- HOST_LOST (R414). -/
  | hostLost
  /-- DEVICE_INFO (R423). -/
  | deviceInfo (tr : Tr) (seq : BitVec 16) (ps : List Word)
  /-- HEARTBEAT (R414). -/
  | heartbeat (tr : Tr) (seq : BitVec 16) (ps : List Word)
  /-- ACK_ATTENTION (R410). -/
  | ackAttention (tr : Tr) (seq : BitVec 16) (ps : List Word)
  /-- GET_STATUS (R423). -/
  | getStatus (tr : Tr) (seq : BitVec 16) (ps : List Word)
  /-- CLAIM_CONTROL (R412). -/
  | claimControl (tr : Tr) (seq : BitVec 16) (ps : List Word)
  /-- RELEASE_CONTROL (R412). -/
  | releaseControl (tr : Tr) (seq : BitVec 16) (ps : List Word)
  /-- SOFT_RESET (R424). -/
  | softReset (tr : Tr) (seq : BitVec 16) (ps : List Word)
  /-- SHUTDOWN (R490). -/
  | shutdown (tr : Tr) (seq : BitVec 16) (ps : List Word)
  /-- POWER_STATE (R491). -/
  | powerState (tr : Tr) (seq : BitVec 16) (ps : List Word)
  /-- SURF_REGISTER (R132). -/
  | surfRegister (tr : Tr) (seq : BitVec 16) (ps : List Word)
  /-- SURF_UNREGISTER (R134). -/
  | surfUnregister (tr : Tr) (seq : BitVec 16) (ps : List Word)
  /-- SURF_CLEAR_TORN (R134). -/
  | surfClearTorn (tr : Tr) (seq : BitVec 16) (ps : List Word)
  /-- SURF_QUERY (R423). -/
  | surfQuery (tr : Tr) (seq : BitVec 16) (ps : List Word)
  /-- SURF_SEAL_STATUS (R423). -/
  | surfSealStatus (tr : Tr) (seq : BitVec 16) (ps : List Word)
  /-- FENCE_ALLOC (R147). -/
  | fenceAlloc (tr : Tr) (seq : BitVec 16) (ps : List Word)
  /-- FENCE_FREE (R148). -/
  | fenceFree (tr : Tr) (seq : BitVec 16) (ps : List Word)
  /-- FENCE_SIGNAL (R149). -/
  | fenceSignal (tr : Tr) (seq : BitVec 16) (ps : List Word)
  /-- FENCE_READ (R423). -/
  | fenceRead (tr : Tr) (seq : BitVec 16) (ps : List Word)
  /-- PIPE_HANDOVER (R41). -/
  | pipeHandover (tr : Tr) (seq : BitVec 16) (ps : List Word)
  /-- PIPE_RECLAIM (R42). -/
  | pipeReclaim (tr : Tr) (seq : BitVec 16) (ps : List Word)
  /-- LAYOUT_BEGIN (R425). -/
  | layoutBegin (tr : Tr) (seq : BitVec 16) (ps : List Word)
  /-- LAYOUT_WINDOW (R426). -/
  | layoutWindow (tr : Tr) (seq : BitVec 16) (ps : List Word)
  /-- LAYOUT_SET (R427). -/
  | layoutSet (tr : Tr) (seq : BitVec 16) (ps : List Word)
  /-- LAYOUT_GET (R423). -/
  | layoutGet (tr : Tr) (seq : BitVec 16) (ps : List Word)
  /-- ATLAS_SET (R423). -/
  | atlasSet (tr : Tr) (seq : BitVec 16) (ps : List Word)
  /-- METER_TABLE_SET (R429). -/
  | meterTableSet (tr : Tr) (seq : BitVec 16) (ps : List Word)
  /-- METER_WRITE (R429). -/
  | meterWrite (tr : Tr) (seq : BitVec 16) (ps : List Word)
  /-- PIPE_STATUS (R423). -/
  | pipeStatus (tr : Tr) (seq : BitVec 16) (ps : List Word)
  /-- PORT_STATUS (R423). -/
  | portStatus (tr : Tr) (seq : BitVec 16) (ps : List Word)
  /-- SINK_READ (R423). -/
  | sinkRead (tr : Tr) (seq : BitVec 16) (ps : List Word) (seen : Option (List Byte))
  /-- DPCD_WRITE (R423). -/
  | dpcdWrite (tr : Tr) (seq : BitVec 16) (ps : List Word) (acked : Bool)
  /-- HDCP_TOPOLOGY (R423). -/
  | hdcpTopology (tr : Tr) (seq : BitVec 16) (ps : List Word) (seen : Option (List Word))
  /-- PIPE_RESET (R423). -/
  | pipeReset (tr : Tr) (seq : BitVec 16) (ps : List Word)
  /-- DSI_DCS (R423). -/
  | dsiDcs (tr : Tr) (seq : BitVec 16) (ps : List Word) (seen : Option (List Byte))
  /-- PIPE_TIMING_SET (R423). -/
  | pipeTimingSet (tr : Tr) (seq : BitVec 16) (ps : List Word)
  /-- SENSOR_READ (R437). -/
  | sensorRead (tr : Tr) (seq : BitVec 16) (ps : List Word)
  /-- LOG_INFO (R423). -/
  | logInfo (tr : Tr) (seq : BitVec 16) (ps : List Word)
  /-- LOG_READ (R438). -/
  | logRead (tr : Tr) (seq : BitVec 16) (ps : List Word)
  /-- HEALTH_READ (R507). -/
  | healthRead (tr : Tr) (seq : BitVec 16) (ps : List Word)
  /-- MARGIN_READ (R454). -/
  | marginRead (tr : Tr) (seq : BitVec 16) (ps : List Word)
  /-- FW_INFO (R441). -/
  | fwInfo (tr : Tr) (seq : BitVec 16) (ps : List Word)
  /-- FW_BEGIN (R442). -/
  | fwBegin (tr : Tr) (seq : BitVec 16) (ps : List Word)
  /-- FW_CHUNK (R442). -/
  | fwChunk (tr : Tr) (seq : BitVec 16) (ps : List Word)
  /-- FW_COMMIT (R442). -/
  | fwCommit (tr : Tr) (seq : BitVec 16) (ps : List Word)
  /-- FW_ACTIVATE (R442). -/
  | fwActivate (tr : Tr) (seq : BitVec 16) (ps : List Word)
  /-- SELFTEST_RUN (R505). -/
  | selftestRun (tr : Tr) (seq : BitVec 16) (ps : List Word)
  /-- SELFTEST_RESULT (R508). -/
  | selftestResult (tr : Tr) (seq : BitVec 16) (ps : List Word)
  /-- DEBUG_CHALLENGE (R513). -/
  | debugChallenge (tr : Tr) (seq : BitVec 16) (ps : List Word)
  /-- DEBUG_OPEN (R514). -/
  | debugOpen (tr : Tr) (seq : BitVec 16) (ps : List Word)
  /-- DEBUG_CHALLENGE_EXPIRY (R513). -/
  | debugChallengeExpiry
  /-- STRUCTURAL_SCAN_ENTRY (R515). -/
  | structuralScanEntry (rq : Rq) (data : Word)
  /-- WATCHDOG_EXPIRY (R435). -/
  | watchdogExpiry (dt : Nat)
  /-- SENSOR_SAMPLE (R436). -/
  | sensorSample (therm : List (BitVec 16)) (droop : List (BitVec 16)) (dt : Nat)
  /-- LEAVEN_RUN (R452). -/
  | leavenRun
  /-- LEAVEN_RUN_COMPLETE (R453). -/
  | leavenRunComplete (degrade : List (BitVec 16))
  /-- AON_POWER_ON (R464). -/
  | aonPowerOn
  /-- RAIL_TIMEOUT (R464). -/
  | railTimeout (rail : Rail)
  /-- RAIL_RETRY (R464). -/
  | railRetry
  /-- RESET_RELEASE (R447). -/
  | resetRelease (seen : StartSeen)
  /-- START_TIMEOUT (R448). -/
  | startTimeout
  /-- START_SUCCESS (R448). -/
  | startSuccess
  /-- RESET_N_ASSERT (R472). -/
  | resetNAssert
  /-- BROWNOUT_WARN (R468). -/
  | brownoutWarn (island : Fin 7)
  /-- BROWNOUT_RECOVERY (R469). -/
  | brownoutRecovery (island : Fin 7) (minMv : BitVec 12) (micros : Nat)
  /-- BROWNOUT_RESET (R470). -/
  | brownoutReset (island : Fin 7)
  /-- AON_BROWNOUT (R471). -/
  | aonBrownout
  /-- FUNCTION_LEVEL_RESET (R477). -/
  | functionLevelReset
  /-- PERST_ASSERT (R478). -/
  | perstAssert
  /-- PERST_DEASSERT (R478). -/
  | perstDeassert
  /-- POWER_PIPE_RESET (R479). -/
  | powerPipeReset (rq : Rq) (data : Word)
  /-- POWER_CTRL_HOLD (R483). -/
  | powerCtrlHold (rq : Rq) (data : Word)
  /-- POWER_CTRL_DEEP (R486). -/
  | powerCtrlDeep (rq : Rq) (data : Word)
  /-- POWER_CTRL_ACTIVE (R485). -/
  | powerCtrlActive (rq : Rq) (data : Word)
  /-- THERMAL_HOLD_EXIT (R485). -/
  | thermalHoldExit
  /-- WAKE_N_FALL (R488). -/
  | wakeNFall
  /-- SIDEBAND_WAKE (R487). -/
  | sidebandWake (tr : Tr)
  /-- SLICE_END (R499). -/
  | sliceEnd (seen : SliceSeen)
  /-- SLICE_BUDGET_EXPIRY (R500). -/
  | sliceBudgetExpiry (seen : SliceSeen)
  /-- REFCLK_LOST (R537). -/
  | refclkLost
  /-- REFCLK_RETURN (R537). -/
  | refclkReturn
  /-- HOLD_ENTRY_COMPLETE (R483). -/
  | holdEntryComplete
  /-- HOLD_EXIT_COMPLETE (R485). -/
  | holdExitComplete
  /-- DEEP_ENTRY_COMPLETE (R486). -/
  | deepEntryComplete
  /-- HEALTH_RECORD_MINUTES (R507). -/
  | healthRecordMinutes
  deriving DecidableEq, Repr

end Sys2Proof
end

