-- ==== Sys2Proof/Decode.lean ====
section
/-! DEFINITION.  Decoding.  The rows of spec/opcode_table.json are commands and events of a block and give no bits,
    so no word spells one. -/

namespace Sys2Proof

/-- The command that a word spells by the table's bits: none, because no row of the table gives bits.
    Log 2 (DESIGN CHOICE, safe). -/
def decodeTableWord (_nbits _w : Nat) : Option Instr := none

end Sys2Proof
end

