-- ==== Sys2Proof/Config.lean ====
section
/-! DEFINITION.  What the spec leaves open: constants without a body, so that a statement about them holds for
    every value.  Each is named in a row of the assumption log. -/

namespace Sys2Proof.Config

/-- R70: the grade fuse, 0 = AS9764-C, 1 = AS9764-E.
    Log 5 (DESIGN CHOICE, safe). -/
opaque gradeE : Bool

/-- A value the spec leaves open, drawn by number: the `n`-th draw of the run.
    Log 4 (DESIGN CHOICE, safe). -/
opaque freeNat : Nat → Nat

/-- R230: whether the device's own line coding fits a line's pixels into 256 bytes.
    Log 5 (DESIGN CHOICE, safe). -/
opaque lineFits : List Nat → Bool

/-- Values of COMMIT_RESULT that the spec does not state: 0 to 3 the INDEX shown with KIND 3 for the DSC settings of
    that pipe when it selects no port (R92, R319), 4 to 6 the INDEX, COMMIT_NEEDED and COMMIT_AVAILABLE when the
    declarations alone exceed the budget and no pipe is explicit (R279).
    Log 5 (DESIGN CHOICE, safe). -/
opaque unstated : Nat → Nat

/-- R172, R330: the 12-bit value of the signature for a component that a bypassed horizontal axis let pass outside 0 to
    4,095.
    Log 5 (DESIGN CHOICE, safe). -/
opaque wide12 : Int → Nat

/-- R382: whether a host range shares a byte with a base address register window of the device.
    Log 5 (DESIGN CHOICE, safe). -/
opaque barHit : Nat → Nat → Bool

/-- R440, R511: an ECDSA P-384 signature verifies over a SHA-384 hash under image key A (false) or B (true).
    Log 5 (DESIGN CHOICE, safe). -/
opaque verifyImage : Bool → List (BitVec 8) → List (BitVec 8) → Bool

/-- R513: an ECDSA P-384 signature verifies over a SHA-384 hash under the debug key.
    Log 5 (DESIGN CHOICE, safe). -/
opaque verifyDebug : List (BitVec 8) → List (BitVec 8) → Bool

/-- R513: the 64-bit device identifier, low word first.
    Log 5 (DESIGN CHOICE, safe). -/
opaque deviceId : Nat → BitVec 32

/-- R452: an island's fused factory margin in mV.
    Log 5 (DESIGN CHOICE, safe). -/
opaque factoryMargin : Nat → Nat

end Sys2Proof.Config
end

