-- ==== Sys2Proof/Machine/Bits.lean ====
section
/-! DEFINITION.  Plain arithmetic helpers: bits of a number, little-endian bytes, rounding division,
    saturating counters, two's complement views. -/

namespace Sys2Proof.Machine

/-- Bits `lo .. lo+len-1` of `v`. -/
def bits (v lo len : Nat) : Nat := v / 2 ^ lo % 2 ^ len

/-- `v` with bits `lo .. lo+len-1` replaced by `x`. -/
def setBits (v lo len x : Nat) : Nat :=
  v - bits v lo len * 2 ^ lo + x % 2 ^ len * 2 ^ lo

/-- Bit `i` of `v`. -/
def bit (v i : Nat) : Bool := v / 2 ^ i % 2 = 1

/-- A Boolean as a number. -/
def b2n (b : Bool) : Nat := if b then 1 else 0

/-- Division rounded up. -/
def ceilDiv (a b : Nat) : Nat := (a + b - 1) / b

/-- A counter that saturates at `2 ^ w - 1`. -/
def satAdd (w a n : Nat) : Nat := min (a + n) (2 ^ w - 1)

/-- Two's complement value of the low `w` bits of `v`. -/
def toInt (w v : Nat) : Int :=
  if v % 2 ^ w < 2 ^ (w - 1) then ((v % 2 ^ w : Nat) : Int) else ((v % 2 ^ w : Nat) : Int) - (2 ^ w : Nat)

/-- The `w`-bit two's complement of `x`. -/
def ofInt (w : Nat) (x : Int) : Nat := (x % ((2 ^ w : Nat) : Int)).toNat

/-- `x` confined to `lo .. hi`. -/
def clampInt (lo hi x : Int) : Int := max lo (min hi x)

/-- Little-endian bytes of `v`, `n` of them. -/
def leBytes : Nat → Nat → List Byte
  | 0, _ => []
  | n + 1, v => BitVec.ofNat 8 v :: leBytes n (v / 256)

/-- The number spelt by little-endian bytes. -/
def ofLe : List Byte → Nat
  | [] => 0
  | b :: t => b.toNat + 256 * ofLe t

/-- A difference modulo `2 ^ w`, for counters that wrap. -/
def subMod (w a b : Nat) : Nat := (a + 2 ^ w - b % 2 ^ w) % 2 ^ w

/-- `a` is newer than `b`, compared modulo `2 ^ w` (half-range comparison). -/
def newerMod (w a b : Nat) : Bool := subMod w a b ≠ 0 && subMod w a b < 2 ^ (w - 1)

/-- The first element that satisfies `p`. -/
def firstWith {α : Type} (p : α → Bool) : List α → Option α
  | [] => none
  | a :: t => if p a then some a else firstWith p t

/-- How many elements satisfy `p`. -/
def countP {α : Type} (p : α → Bool) : List α → Nat
  | [] => 0
  | a :: t => (if p a then 1 else 0) + countP p t

/-- The sum of `f` over a list. -/
def sumOf {α : Type} (f : α → Nat) : List α → Nat
  | [] => 0
  | a :: t => f a + sumOf f t

/-- The largest `f` over a list, 0 when empty. -/
def maxOf {α : Type} (f : α → Nat) : List α → Nat
  | [] => 0
  | a :: t => max (f a) (maxOf f t)

/-- Does `x` lie in `lo .. hi`, both ends included (R8)? -/
def within (lo hi x : Nat) : Bool := lo ≤ x && x ≤ hi

/-- Do the half-open ranges `[a, a+n)` and `[b, b+m)` meet? -/
def overlaps (a n b m : Nat) : Bool := a < b + m && b < a + n && n ≠ 0 && m ≠ 0

end Sys2Proof.Machine
end

