-- ==== Sys2Proof/Machine/Coef.lean ====
section
/-! DEFINITION.  The contents of the coefficient sets 0 to 3 (R175). -/

namespace Sys2Proof.Machine

/-- R175 set 0, Lanczos-3: taps 1 to 6 of phases 0 to 63, computed from the formula of the rule. -/
def lanczos : List (List Int) :=
  [ [0, 0, 1024, 0, 0, 0], [3, -13, 1023, 14, -3, 0], [6, -25, 1022, 28, -7, 0], [9, -37, 1021, 42, -11, 0]
  , [12, -48, 1018, 57, -15, 0], [14, -59, 1014, 73, -19, 1], [17, -69, 1009, 89, -23, 1], [19, -78, 1003, 106, -27, 1]
  , [21, -87, 996, 123, -31, 2], [23, -95, 989, 141, -36, 2], [24, -103, 981, 159, -40, 3], [26, -110, 971, 178, -45, 4]
  , [27, -116, 962, 197, -50, 4], [28, -122, 952, 216, -55, 5], [29, -127, 940, 236, -60, 6], [30, -132, 927, 256, -64, 7] ] ++
  [ [31, -136, 913, 277, -69, 8], [31, -140, 902, 297, -74, 8], [32, -143, 887, 318, -79, 9], [32, -145, 871, 340, -84, 10]
  , [32, -147, 855, 361, -89, 12], [32, -149, 839, 383, -94, 13], [32, -150, 823, 404, -99, 14], [31, -151, 806, 426, -103, 15]
  , [31, -151, 788, 448, -108, 16], [31, -151, 769, 470, -112, 17], [30, -150, 751, 492, -117, 18], [29, -149, 732, 514, -121, 19]
  , [29, -147, 710, 536, -125, 21], [28, -146, 691, 558, -129, 22], [27, -144, 670, 580, -132, 23], [26, -141, 649, 601, -135, 24] ] ++
  [ [25, -138, 623, 627, -138, 25], [24, -135, 601, 649, -141, 26], [23, -132, 580, 670, -144, 27], [22, -129, 558, 691, -146, 28]
  , [21, -125, 536, 710, -147, 29], [19, -121, 514, 732, -149, 29], [18, -117, 492, 751, -150, 30], [17, -112, 470, 769, -151, 31]
  , [16, -108, 448, 788, -151, 31], [15, -103, 426, 806, -151, 31], [14, -99, 404, 823, -150, 32], [13, -94, 383, 839, -149, 32]
  , [12, -89, 361, 855, -147, 32], [10, -84, 340, 871, -145, 32], [9, -79, 318, 887, -143, 32], [8, -74, 297, 902, -140, 31] ] ++
  [ [8, -69, 277, 913, -136, 31], [7, -64, 256, 927, -132, 30], [6, -60, 236, 940, -127, 29], [5, -55, 216, 952, -122, 28]
  , [4, -50, 197, 962, -116, 27], [4, -45, 178, 971, -110, 26], [3, -40, 159, 981, -103, 24], [2, -36, 141, 989, -95, 23]
  , [2, -31, 123, 996, -87, 21], [1, -27, 106, 1003, -78, 19], [1, -23, 89, 1009, -69, 17], [1, -19, 73, 1014, -59, 14]
  , [0, -15, 57, 1018, -48, 12], [0, -11, 42, 1021, -37, 9], [0, -7, 28, 1022, -25, 6], [0, -3, 14, 1023, -13, 3] ]

/-- `n / d` rounded to the nearest integer, halves away from zero. -/
def roundAway (n : Int) (d : Nat) : Int :=
  if 0 ≤ n then ((2 * n.natAbs + d) / (2 * d) : Nat) else -(((2 * n.natAbs + d) / (2 * d) : Nat) : Int)

/-- R175: 1,024 times the cubic convolution kernel with a = -0.5 at `n / 64`, rounded. -/
def cubic (n : Nat) : Int :=
  if n ≤ 64 then roundAway (3 * (n : Int) ^ 3 - 320 * (n : Int) ^ 2 + 524288) 512
  else if n < 128 then roundAway (-(n : Int) ^ 3 + 320 * (n : Int) ^ 2 - 32768 * n + 1048576) 512
  else 0

/-- R175 set 1 before its adjusted tap. -/
def catmullRaw (ph k : Nat) : Int :=
  if 2 ≤ k ∧ k ≤ 5 then cubic (64 * ((k : Int) - 3) - ph).natAbs else 0

/-- R175: the coefficient of tap `k` of phase `ph` of sets 0 to 3. -/
def builtinTap (set ph k : Nat) : Int :=
  match set with
  | 0 => if 1 ≤ k ∧ k ≤ 6 then (lanczos.getD ph []).getD (k - 1) 0 else 0
  | 1 =>
    let adj := if ph < 32 then 3 else 4
    if k = adj then
      1024 - (catmullRaw ph 2 + catmullRaw ph 3 + catmullRaw ph 4 + catmullRaw ph 5 - catmullRaw ph adj)
    else catmullRaw ph k
  | 2 => if k = 3 then 1024 - 16 * (ph : Int) else if k = 4 then 16 * (ph : Int) else 0
  | _ => if k = (if ph < 32 then 3 else 4) then 1024 else 0

/-- R195: the register word at an offset of sets 0 to 3, counted from the first. -/
def builtinCoef (off : Nat) : Word :=
  let set := off / 0x400
  let ph := off % 0x400 / 16
  let j := off % 16 / 4
  BitVec.ofNat 32 (ofInt 12 (builtinTap set ph (2 * j)) + ofInt 12 (builtinTap set ph (2 * j + 1)) * 65536)

end Sys2Proof.Machine
end

