-- ==== Sys2Proof/Machine/RegTable.lean ====
section
/-! DEFINITION.  The register tables of the spec (rows "Bits | Field | Type | Reset | Survives" of
    spec/01 to spec/17), one `Fld` a named field and one `Reg` a register with its instances.
    A field that lies in the upper word of a register pair is given at that word's offset.  The BAR2 ring
    registers of R418 stand at `ringBase` above their window offsets, so that no key is used twice. -/

namespace Sys2Proof.Machine

/-- R11: the access types. -/
inductive Acc where
  | rw | rws | ro | w1c | wo | rwp | rwk | w1
  deriving DecidableEq, Repr

/-- R13: the Survives column, weakest first. -/
inductive Surv where
  | none | pipe | flr | warm | deep | cold
  deriving DecidableEq, Repr

/-- R13: the order of the Survives values. -/
def Surv.rank : Surv → Nat
  | .none => 0 | .pipe => 1 | .flr => 2 | .warm => 3 | .deep => 4 | .cold => 5

/-- A named field: word offset of instance 0, lowest bit, width, type, reset value, survival, and the
    strides of the first and second instance index. -/
structure Fld where
  off : Nat
  lo : Nat
  len : Nat
  acc : Acc
  rst : Nat
  surv : Surv
  s1 : Nat
  s2 : Nat
  deriving DecidableEq, Repr

/-- The field of instance `n`. -/
def Fld.i (f : Fld) (n : Nat) : Fld := { f with off := f.off + n * f.s1 }

/-- The field of instance `n`, sub-instance `k`. -/
def Fld.ij (f : Fld) (n k : Nat) : Fld := { f with off := f.off + n * f.s1 + k * f.s2 }

/-- A register: offset of instance 0, the count and stride of its two instance indices, whether it is a
    register pair (R53), and its fields. -/
structure Reg where
  off : Nat
  n1 : Nat
  s1 : Nat
  n2 : Nat
  s2 : Nat
  pair : Bool
  flds : List Fld
  deriving DecidableEq, Repr

/-- Key offset of the BAR2 ring registers (R415, R418). -/
def ringBase : Nat := 0x2000000

namespace F

/-- R70 SYS_ID.GRADE (fused) -/
def SYS_ID_GRADE : Fld := ⟨0x0, 0, 1, .ro, 0x0, .cold, 0x0, 0x0⟩
/-- R70 SYS_ID.STEPPING -/
def SYS_ID_STEPPING : Fld := ⟨0x0, 8, 8, .ro, 0xB0, .cold, 0x0, 0x0⟩
/-- R70 SYS_ID.PART -/
def SYS_ID_PART : Fld := ⟨0x0, 16, 16, .ro, 0x9764, .cold, 0x0, 0x0⟩
/-- R71 SYS_UNLOCK.TARGET -/
def SYS_UNLOCK_TARGET : Fld := ⟨0x10, 0, 16, .rw, 0x0, .none, 0x0, 0x0⟩
/-- R71 SYS_UNLOCK.KEY -/
def SYS_UNLOCK_KEY : Fld := ⟨0x10, 16, 15, .wo, 0x0, .none, 0x0, 0x0⟩
/-- R71 SYS_UNLOCK.ARMED -/
def SYS_UNLOCK_ARMED : Fld := ⟨0x10, 31, 1, .ro, 0x0, .none, 0x0, 0x0⟩
/-- R72 SYS_RESET_CTRL.WARM_RESET -/
def SYS_RESET_CTRL_WARM_RESET : Fld := ⟨0x14, 0, 1, .rwk, 0x0, .none, 0x0, 0x0⟩
/-- R72 SYS_RESET_CTRL.RETAIN_DRAM -/
def SYS_RESET_CTRL_RETAIN_DRAM : Fld := ⟨0x14, 8, 1, .rwk, 0x0, .warm, 0x0, 0x0⟩
/-- R73 SYS_LOCKDOWN.UNLOCK_DISABLE -/
def SYS_LOCKDOWN_UNLOCK_DISABLE : Fld := ⟨0x18, 0, 1, .w1, 0x0, .flr, 0x0, 0x0⟩
/-- R73 SYS_LOCKDOWN.DEBUG_REQ_DISABLE -/
def SYS_LOCKDOWN_DEBUG_REQ_DISABLE : Fld := ⟨0x18, 1, 1, .w1, 0x0, .flr, 0x0, 0x0⟩
/-- R74 SYS_RESET_CAUSE.COLD -/
def SYS_RESET_CAUSE_COLD : Fld := ⟨0x20, 0, 1, .ro, 0x1, .deep, 0x0, 0x0⟩
/-- R74 SYS_RESET_CAUSE.PIN -/
def SYS_RESET_CAUSE_PIN : Fld := ⟨0x20, 1, 1, .ro, 0x0, .deep, 0x0, 0x0⟩
/-- R74 SYS_RESET_CAUSE.WATCHDOG -/
def SYS_RESET_CAUSE_WATCHDOG : Fld := ⟨0x20, 2, 1, .ro, 0x0, .deep, 0x0, 0x0⟩
/-- R74 SYS_RESET_CAUSE.BROWNOUT -/
def SYS_RESET_CAUSE_BROWNOUT : Fld := ⟨0x20, 3, 1, .ro, 0x0, .deep, 0x0, 0x0⟩
/-- R74 SYS_RESET_CAUSE.SOFTWARE -/
def SYS_RESET_CAUSE_SOFTWARE : Fld := ⟨0x20, 4, 1, .ro, 0x0, .deep, 0x0, 0x0⟩
/-- R74 SYS_RESET_CAUSE.DEEP_EXIT -/
def SYS_RESET_CAUSE_DEEP_EXIT : Fld := ⟨0x20, 5, 1, .ro, 0x0, .deep, 0x0, 0x0⟩
/-- R75 SYS_BOOT_COUNT.FAILED_RUN -/
def SYS_BOOT_COUNT_FAILED_RUN : Fld := ⟨0x24, 0, 4, .ro, 0x0, .cold, 0x0, 0x0⟩
/-- R75 SYS_BOOT_COUNT.STARTS -/
def SYS_BOOT_COUNT_STARTS : Fld := ⟨0x24, 16, 16, .ro, 0x0, .cold, 0x0, 0x0⟩
/-- R76 SYS_FAULT_SUMMARY.CFG_PARITY -/
def SYS_FAULT_SUMMARY_CFG_PARITY : Fld := ⟨0x30, 0, 1, .w1c, 0x0, .warm, 0x0, 0x0⟩
/-- R76 SYS_FAULT_SUMMARY.SAFE_BLACK -/
def SYS_FAULT_SUMMARY_SAFE_BLACK : Fld := ⟨0x30, 1, 1, .w1c, 0x0, .warm, 0x0, 0x0⟩
/-- R76 SYS_FAULT_SUMMARY.UNDERRUN -/
def SYS_FAULT_SUMMARY_UNDERRUN : Fld := ⟨0x30, 2, 1, .w1c, 0x0, .warm, 0x0, 0x0⟩
/-- R76 SYS_FAULT_SUMMARY.LAYER_FAULT -/
def SYS_FAULT_SUMMARY_LAYER_FAULT : Fld := ⟨0x30, 3, 1, .w1c, 0x0, .warm, 0x0, 0x0⟩
/-- R76 SYS_FAULT_SUMMARY.ENGINE_HALT -/
def SYS_FAULT_SUMMARY_ENGINE_HALT : Fld := ⟨0x30, 4, 1, .w1c, 0x0, .warm, 0x0, 0x0⟩
/-- R76 SYS_FAULT_SUMMARY.WATCHDOG -/
def SYS_FAULT_SUMMARY_WATCHDOG : Fld := ⟨0x30, 5, 1, .w1c, 0x0, .warm, 0x0, 0x0⟩
/-- R77 SYS_ACCESS_ERR.ACCESS_WIDTH -/
def SYS_ACCESS_ERR_ACCESS_WIDTH : Fld := ⟨0x40, 0, 1, .w1c, 0x0, .none, 0x0, 0x0⟩
/-- R77 SYS_ACCESS_ERR.ACCESS_ALIGN -/
def SYS_ACCESS_ERR_ACCESS_ALIGN : Fld := ⟨0x40, 1, 1, .w1c, 0x0, .none, 0x0, 0x0⟩
/-- R77 SYS_ACCESS_ERR.ALIAS_IGNORED -/
def SYS_ACCESS_ERR_ALIAS_IGNORED : Fld := ⟨0x40, 2, 1, .w1c, 0x0, .none, 0x0, 0x0⟩
/-- R77 SYS_ACCESS_ERR.POSTED_DROP -/
def SYS_ACCESS_ERR_POSTED_DROP : Fld := ⟨0x40, 3, 1, .w1c, 0x0, .none, 0x0, 0x0⟩
/-- R77 SYS_ACCESS_ERR.LOCKED_WRITE -/
def SYS_ACCESS_ERR_LOCKED_WRITE : Fld := ⟨0x40, 4, 1, .w1c, 0x0, .none, 0x0, 0x0⟩
/-- R77 SYS_ACCESS_ERR.KEY_BAD -/
def SYS_ACCESS_ERR_KEY_BAD : Fld := ⟨0x40, 5, 1, .w1c, 0x0, .none, 0x0, 0x0⟩
/-- R77 SYS_ACCESS_ERR.LOCK_VIOLATION -/
def SYS_ACCESS_ERR_LOCK_VIOLATION : Fld := ⟨0x40, 6, 1, .w1c, 0x0, .none, 0x0, 0x0⟩
/-- R77 SYS_ACCESS_ERR.UNMAPPED -/
def SYS_ACCESS_ERR_UNMAPPED : Fld := ⟨0x40, 7, 1, .w1c, 0x0, .none, 0x0, 0x0⟩
/-- R78 SYS_ACCESS_ADDR.OFFSET -/
def SYS_ACCESS_ADDR_OFFSET : Fld := ⟨0x44, 0, 26, .ro, 0x0, .none, 0x0, 0x0⟩
/-- R78 SYS_ACCESS_ADDR.CAUSE -/
def SYS_ACCESS_ADDR_CAUSE : Fld := ⟨0x44, 26, 4, .ro, 0x0, .none, 0x0, 0x0⟩
/-- R78 SYS_ACCESS_ADDR.WRITE -/
def SYS_ACCESS_ADDR_WRITE : Fld := ⟨0x44, 30, 1, .ro, 0x0, .none, 0x0, 0x0⟩
/-- R78 SYS_ACCESS_ADDR.VALID -/
def SYS_ACCESS_ADDR_VALID : Fld := ⟨0x44, 31, 1, .w1c, 0x0, .none, 0x0, 0x0⟩
/-- R78 SYS_ACCESS_COUNT.ERRORS -/
def SYS_ACCESS_COUNT_ERRORS : Fld := ⟨0x48, 0, 16, .ro, 0x0, .none, 0x0, 0x0⟩
/-- R78 SYS_ACCESS_COUNT.LOCK_VIOLATIONS -/
def SYS_ACCESS_COUNT_LOCK_VIOLATIONS : Fld := ⟨0x48, 16, 16, .ro, 0x0, .none, 0x0, 0x0⟩
/-- R79 SYS_POSTED_BUSY.BUSY -/
def SYS_POSTED_BUSY_BUSY : Fld := ⟨0x50, 0, 12, .ro, 0x0, .none, 0x0, 0x0⟩
/-- R79 SYS_POSTED_BUSY.DROP_AREA -/
def SYS_POSTED_BUSY_DROP_AREA : Fld := ⟨0x50, 24, 4, .ro, 0x0, .none, 0x0, 0x0⟩
/-- R79 SYS_POSTED_BUSY.DROP_OFF -/
def SYS_POSTED_BUSY_DROP_OFF : Fld := ⟨0x50, 28, 1, .ro, 0x0, .none, 0x0, 0x0⟩
/-- R80 SYS_PARITY_STATUS.PROOF -/
def SYS_PARITY_STATUS_PROOF : Fld := ⟨0x60, 0, 1, .w1c, 0x0, .flr, 0x0, 0x0⟩
/-- R80 SYS_PARITY_STATUS.ARMED -/
def SYS_PARITY_STATUS_ARMED : Fld := ⟨0x60, 1, 1, .w1c, 0x0, .flr, 0x0, 0x0⟩
/-- R80 SYS_PARITY_STATUS.ACTIVE -/
def SYS_PARITY_STATUS_ACTIVE : Fld := ⟨0x60, 2, 1, .w1c, 0x0, .flr, 0x0, 0x0⟩
/-- R80 SYS_PARITY_STATUS.UNBANKED -/
def SYS_PARITY_STATUS_UNBANKED : Fld := ⟨0x60, 3, 1, .w1c, 0x0, .flr, 0x0, 0x0⟩
/-- R80 SYS_PARITY_STATUS.SAFE_BLACK -/
def SYS_PARITY_STATUS_SAFE_BLACK : Fld := ⟨0x60, 4, 4, .ro, 0x0, .flr, 0x0, 0x0⟩
/-- R80 SYS_PARITY_STATUS.RELOAD_FAIL -/
def SYS_PARITY_STATUS_RELOAD_FAIL : Fld := ⟨0x60, 8, 1, .w1c, 0x0, .flr, 0x0, 0x0⟩
/-- R80 SYS_PARITY_ADDR.OFFSET -/
def SYS_PARITY_ADDR_OFFSET : Fld := ⟨0x64, 0, 24, .ro, 0x0, .flr, 0x0, 0x0⟩
/-- R80 SYS_PARITY_ADDR.BANK -/
def SYS_PARITY_ADDR_BANK : Fld := ⟨0x64, 29, 2, .ro, 0x0, .flr, 0x0, 0x0⟩
/-- R80 SYS_PARITY_ADDR.VALID -/
def SYS_PARITY_ADDR_VALID : Fld := ⟨0x64, 31, 1, .w1c, 0x0, .flr, 0x0, 0x0⟩
/-- R80 SYS_SCRUB_COUNT.PASSES -/
def SYS_SCRUB_COUNT_PASSES : Fld := ⟨0x68, 0, 32, .ro, 0x0, .none, 0x0, 0x0⟩
/-- R29 SYS_TICK_CTRL.SRC -/
def SYS_TICK_CTRL_SRC : Fld := ⟨0x80, 0, 3, .rw, 0x0, .warm, 0x0, 0x0⟩
/-- R30 SYS_TICK_STATUS.CUR_SRC -/
def SYS_TICK_STATUS_CUR_SRC : Fld := ⟨0x84, 0, 3, .ro, 0x0, .none, 0x0, 0x0⟩
/-- R30 SYS_TICK_STATUS.FALLBACK -/
def SYS_TICK_STATUS_FALLBACK : Fld := ⟨0x84, 4, 1, .ro, 0x0, .none, 0x0, 0x0⟩
/-- R30 SYS_TICK_STATUS.BAD_SRC -/
def SYS_TICK_STATUS_BAD_SRC : Fld := ⟨0x84, 5, 1, .w1c, 0x0, .none, 0x0, 0x0⟩
/-- R30 SYS_TICK_STATUS.CLR_COUNTS -/
def SYS_TICK_STATUS_CLR_COUNTS : Fld := ⟨0x84, 8, 1, .wo, 0x0, .none, 0x0, 0x0⟩
/-- R30 SYS_TICK_STATUS.SKIPPED_COUNT -/
def SYS_TICK_STATUS_SKIPPED_COUNT : Fld := ⟨0x84, 16, 16, .ro, 0x0, .none, 0x0, 0x0⟩
/-- R31 SYS_TICK_CARRY.COUNT -/
def SYS_TICK_CARRY_COUNT : Fld := ⟨0x88, 0, 32, .ro, 0x0, .none, 0x0, 0x0⟩
/-- R31 SYS_TICK_COUNT.TICKS -/
def SYS_TICK_COUNT_TICKS : Fld := ⟨0x8C, 0, 32, .ro, 0x0, .flr, 0x0, 0x0⟩
/-- R303 SYS_REF_CTRL.POL -/
def SYS_REF_CTRL_POL : Fld := ⟨0x90, 0, 1, .rw, 0x0, .warm, 0x0, 0x0⟩
/-- R303 SYS_REF_CTRL.FILTER -/
def SYS_REF_CTRL_FILTER : Fld := ⟨0x90, 4, 4, .rw, 0x3, .warm, 0x0, 0x0⟩
/-- R303 SYS_REF_STATUS.PERIOD -/
def SYS_REF_STATUS_PERIOD : Fld := ⟨0x94, 0, 20, .ro, 0x0, .none, 0x0, 0x0⟩
/-- R303 SYS_REF_STATUS.PRESENT -/
def SYS_REF_STATUS_PRESENT : Fld := ⟨0x94, 31, 1, .ro, 0x0, .none, 0x0, 0x0⟩
/-- R118 COMMIT_STROBE.PIPE -/
def COMMIT_STROBE_PIPE : Fld := ⟨0x10000, 0, 4, .wo, 0x0, .none, 0x0, 0x0⟩
/-- R118 COMMIT_STROBE.WB -/
def COMMIT_STROBE_WB : Fld := ⟨0x10000, 4, 4, .wo, 0x0, .none, 0x0, 0x0⟩
/-- R118 COMMIT_STROBE.CRUST -/
def COMMIT_STROBE_CRUST : Fld := ⟨0x10000, 8, 8, .wo, 0x0, .none, 0x0, 0x0⟩
/-- R118 COMMIT_STROBE.PORT -/
def COMMIT_STROBE_PORT : Fld := ⟨0x10000, 16, 6, .wo, 0x0, .none, 0x0, 0x0⟩
/-- R118 COMMIT_STROBE.LAYER_SEL -/
def COMMIT_STROBE_LAYER_SEL : Fld := ⟨0x10000, 24, 2, .wo, 0x0, .none, 0x0, 0x0⟩
/-- R119 COMMIT_LAYER_MASK_VL.MASK -/
def COMMIT_LAYER_MASK_VL_MASK : Fld := ⟨0x10008, 0, 64, .rw, 0x0, .none, 0x0, 0x0⟩
/-- R119 COMMIT_LAYER_MASK_GL.MASK -/
def COMMIT_LAYER_MASK_GL_MASK : Fld := ⟨0x10010, 0, 64, .rw, 0x0, .none, 0x0, 0x0⟩
/-- R119 COMMIT_VIEW.BANK -/
def COMMIT_VIEW_BANK : Fld := ⟨0x10018, 0, 2, .rw, 0x0, .none, 0x0, 0x0⟩
/-- R119 COMMIT_STATUS.PENDING -/
def COMMIT_STATUS_PENDING : Fld := ⟨0x10020, 0, 1, .ro, 0x0, .none, 0x0, 0x0⟩
/-- R119 COMMIT_STATUS.DONE -/
def COMMIT_STATUS_DONE : Fld := ⟨0x10020, 1, 1, .ro, 0x0, .none, 0x0, 0x0⟩
/-- R119 COMMIT_STATUS.ACCEPTED -/
def COMMIT_STATUS_ACCEPTED : Fld := ⟨0x10020, 2, 1, .ro, 0x0, .none, 0x0, 0x0⟩
/-- R119 COMMIT_STATUS.SEQ -/
def COMMIT_STATUS_SEQ : Fld := ⟨0x10020, 16, 16, .ro, 0x0, .none, 0x0, 0x0⟩
/-- R120 COMMIT_RESULT.INDEX -/
def COMMIT_RESULT_INDEX : Fld := ⟨0x10024, 0, 7, .ro, 0x0, .none, 0x0, 0x0⟩
/-- R120 COMMIT_RESULT.KIND -/
def COMMIT_RESULT_KIND : Fld := ⟨0x10024, 12, 4, .ro, 0x0, .none, 0x0, 0x0⟩
/-- R120 COMMIT_RESULT.CODE -/
def COMMIT_RESULT_CODE : Fld := ⟨0x10024, 24, 8, .ro, 0x0, .none, 0x0, 0x0⟩
/-- R120 COMMIT_NEEDED.VALUE -/
def COMMIT_NEEDED_VALUE : Fld := ⟨0x10028, 0, 32, .ro, 0x0, .none, 0x0, 0x0⟩
/-- R120 COMMIT_AVAILABLE.VALUE -/
def COMMIT_AVAILABLE_VALUE : Fld := ⟨0x1002C, 0, 32, .ro, 0x0, .none, 0x0, 0x0⟩
/-- R120 COMMIT_ERR.BAD_STROBE -/
def COMMIT_ERR_BAD_STROBE : Fld := ⟨0x10030, 0, 1, .w1c, 0x0, .none, 0x0, 0x0⟩
/-- R120 COMMIT_ERR.STROBE_BUSY -/
def COMMIT_ERR_STROBE_BUSY : Fld := ⟨0x10030, 1, 1, .w1c, 0x0, .none, 0x0, 0x0⟩
/-- R120 COMMIT_ERR.VIEW_WRITE -/
def COMMIT_ERR_VIEW_WRITE : Fld := ⟨0x10030, 2, 1, .w1c, 0x0, .none, 0x0, 0x0⟩
/-- R120 COMMIT_ERR.CLR_COUNTS -/
def COMMIT_ERR_CLR_COUNTS : Fld := ⟨0x10030, 8, 1, .wo, 0x0, .none, 0x0, 0x0⟩
/-- R120 COMMIT_COUNTS.ACCEPTED -/
def COMMIT_COUNTS_ACCEPTED : Fld := ⟨0x10040, 0, 16, .ro, 0x0, .none, 0x0, 0x0⟩
/-- R120 COMMIT_COUNTS.REFUSED -/
def COMMIT_COUNTS_REFUSED : Fld := ⟨0x10040, 16, 16, .ro, 0x0, .none, 0x0, 0x0⟩
/-- R46 PIPE_n_OWNER.OWNER -/
def PIPE_OWNER_OWNER : Fld := ⟨0x20008, 0, 1, .ro, 0x0, .warm, 0x4000, 0x0⟩
/-- R46 PIPE_n_OWNER.PENDING -/
def PIPE_OWNER_PENDING : Fld := ⟨0x20008, 1, 1, .ro, 0x0, .flr, 0x4000, 0x0⟩
/-- R46 PIPE_n_OWNER.OWNERSHIP_VIOLATION -/
def PIPE_OWNER_OWNERSHIP_VIOLATION : Fld := ⟨0x20008, 8, 1, .w1c, 0x0, .flr, 0x4000, 0x0⟩
/-- R46 PIPE_n_OWNER.VIOLATION_COUNT -/
def PIPE_OWNER_VIOLATION_COUNT : Fld := ⟨0x20008, 16, 16, .ro, 0x0, .flr, 0x4000, 0x0⟩
/-- R121 PIPE_n_CUTOFF.LINES -/
def PIPE_CUTOFF_LINES : Fld := ⟨0x20010, 0, 13, .rw, 0x0, .warm, 0x4000, 0x0⟩
/-- R121 PIPE_n_CUTOFF.EFFECTIVE -/
def PIPE_CUTOFF_EFFECTIVE : Fld := ⟨0x20010, 16, 13, .ro, 0x0, .none, 0x4000, 0x0⟩
/-- R121 PIPE_n_FLIP_CTRL.TIMEOUT_FRAMES -/
def PIPE_FLIP_CTRL_TIMEOUT_FRAMES : Fld := ⟨0x20014, 0, 8, .rw, 0x8, .warm, 0x4000, 0x0⟩
/-- R121 PIPE_n_COMMIT_STATUS.ARMED -/
def PIPE_COMMIT_STATUS_ARMED : Fld := ⟨0x20018, 0, 1, .ro, 0x0, .none, 0x4000, 0x0⟩
/-- R121 PIPE_n_COMMIT_STATUS.LATE_WAITING -/
def PIPE_COMMIT_STATUS_LATE_WAITING : Fld := ⟨0x20018, 1, 1, .ro, 0x0, .none, 0x4000, 0x0⟩
/-- R121 PIPE_n_COMMIT_STATUS.CLASS_B -/
def PIPE_COMMIT_STATUS_CLASS_B : Fld := ⟨0x20018, 2, 1, .ro, 0x0, .none, 0x4000, 0x0⟩
/-- R121 PIPE_n_COMMIT_STATUS.LATE -/
def PIPE_COMMIT_STATUS_LATE : Fld := ⟨0x20018, 8, 1, .w1c, 0x0, .flr, 0x4000, 0x0⟩
/-- R121 PIPE_n_COMMIT_STATUS.SUPERSEDED -/
def PIPE_COMMIT_STATUS_SUPERSEDED : Fld := ⟨0x20018, 9, 1, .w1c, 0x0, .flr, 0x4000, 0x0⟩
/-- R121 PIPE_n_COMMIT_STATUS.FLIP_HELD -/
def PIPE_COMMIT_STATUS_FLIP_HELD : Fld := ⟨0x20018, 10, 1, .w1c, 0x0, .flr, 0x4000, 0x0⟩
/-- R121 PIPE_n_COMMIT_STATUS.FENCE_TIMEOUT -/
def PIPE_COMMIT_STATUS_FENCE_TIMEOUT : Fld := ⟨0x20018, 11, 1, .w1c, 0x0, .flr, 0x4000, 0x0⟩
/-- R121 PIPE_n_HELD_GROUPS.GROUPS -/
def PIPE_HELD_GROUPS_GROUPS : Fld := ⟨0x2001C, 0, 16, .ro, 0x0, .none, 0x4000, 0x0⟩
/-- R121 PIPE_n_HELD_GROUPS.UNGROUPED -/
def PIPE_HELD_GROUPS_UNGROUPED : Fld := ⟨0x2001C, 16, 1, .ro, 0x0, .none, 0x4000, 0x0⟩
/-- R121 PIPE_n_COMMIT_SEQ.ARMED_SEQ -/
def PIPE_COMMIT_SEQ_ARMED_SEQ : Fld := ⟨0x20020, 0, 16, .ro, 0x0, .none, 0x4000, 0x0⟩
/-- R121 PIPE_n_COMMIT_SEQ.ACTIVE_SEQ -/
def PIPE_COMMIT_SEQ_ACTIVE_SEQ : Fld := ⟨0x20020, 16, 16, .ro, 0x0, .none, 0x4000, 0x0⟩
/-- R121 PIPE_n_COMMIT_COUNTS.LATE_COUNT -/
def PIPE_COMMIT_COUNTS_LATE_COUNT : Fld := ⟨0x20024, 0, 16, .ro, 0x0, .flr, 0x4000, 0x0⟩
/-- R121 PIPE_n_COMMIT_COUNTS.SUPERSEDED_COUNT -/
def PIPE_COMMIT_COUNTS_SUPERSEDED_COUNT : Fld := ⟨0x20024, 16, 16, .ro, 0x0, .flr, 0x4000, 0x0⟩
/-- R121 PIPE_n_HOLD_COUNTS.HELD_COUNT -/
def PIPE_HOLD_COUNTS_HELD_COUNT : Fld := ⟨0x20028, 0, 16, .ro, 0x0, .flr, 0x4000, 0x0⟩
/-- R121 PIPE_n_HOLD_COUNTS.TIMEOUT_COUNT -/
def PIPE_HOLD_COUNTS_TIMEOUT_COUNT : Fld := ⟨0x20028, 16, 16, .ro, 0x0, .flr, 0x4000, 0x0⟩
/-- R121 PIPE_n_SWAP_COUNT.SWAPS -/
def PIPE_SWAP_COUNT_SWAPS : Fld := ⟨0x2002C, 0, 32, .ro, 0x0, .none, 0x4000, 0x0⟩
/-- R325 PIPE_n_TG_CTRL.EN -/
def PIPE_TG_CTRL_EN : Fld := ⟨0x20100, 0, 1, .rws, 0x0, .none, 0x4000, 0x0⟩
/-- R325 PIPE_n_TG_CTRL.HSYNC_POL -/
def PIPE_TG_CTRL_HSYNC_POL : Fld := ⟨0x20100, 1, 1, .rws, 0x0, .none, 0x4000, 0x0⟩
/-- R325 PIPE_n_TG_CTRL.VSYNC_POL -/
def PIPE_TG_CTRL_VSYNC_POL : Fld := ⟨0x20100, 2, 1, .rws, 0x0, .none, 0x4000, 0x0⟩
/-- R325 PIPE_n_TG_CTRL.PORT_SEL -/
def PIPE_TG_CTRL_PORT_SEL : Fld := ⟨0x20100, 4, 3, .rws, 0x7, .none, 0x4000, 0x0⟩
/-- R325 PIPE_n_HTIMING_A.HACTIVE -/
def PIPE_HTIMING_A_HACTIVE : Fld := ⟨0x20104, 0, 14, .rws, 0x780, .none, 0x4000, 0x0⟩
/-- R325 PIPE_n_HTIMING_A.HFP -/
def PIPE_HTIMING_A_HFP : Fld := ⟨0x20104, 16, 14, .rws, 0x58, .none, 0x4000, 0x0⟩
/-- R325 PIPE_n_HTIMING_B.HSYNC -/
def PIPE_HTIMING_B_HSYNC : Fld := ⟨0x20108, 0, 14, .rws, 0x2C, .none, 0x4000, 0x0⟩
/-- R325 PIPE_n_HTIMING_B.HBP -/
def PIPE_HTIMING_B_HBP : Fld := ⟨0x20108, 16, 14, .rws, 0x94, .none, 0x4000, 0x0⟩
/-- R325 PIPE_n_VTIMING_A.VACTIVE -/
def PIPE_VTIMING_A_VACTIVE : Fld := ⟨0x2010C, 0, 14, .rws, 0x438, .none, 0x4000, 0x0⟩
/-- R325 PIPE_n_VTIMING_A.VFP -/
def PIPE_VTIMING_A_VFP : Fld := ⟨0x2010C, 16, 14, .rws, 0x4, .none, 0x4000, 0x0⟩
/-- R325 PIPE_n_VTIMING_B.VSYNC -/
def PIPE_VTIMING_B_VSYNC : Fld := ⟨0x20110, 0, 14, .rws, 0x5, .none, 0x4000, 0x0⟩
/-- R325 PIPE_n_VTIMING_B.VBP -/
def PIPE_VTIMING_B_VBP : Fld := ⟨0x20110, 16, 14, .rws, 0x24, .none, 0x4000, 0x0⟩
/-- R325 PIPE_n_PCLK.KHZ -/
def PIPE_PCLK_KHZ : Fld := ⟨0x20114, 0, 22, .rws, 0x24414, .none, 0x4000, 0x0⟩
/-- R325 PIPE_n_PCLK.M1001 -/
def PIPE_PCLK_M1001 : Fld := ⟨0x20114, 31, 1, .rws, 0x0, .none, 0x4000, 0x0⟩
/-- R325 PIPE_n_VRR.VTOTAL_MAX -/
def PIPE_VRR_VTOTAL_MAX : Fld := ⟨0x20118, 0, 16, .rws, 0x0, .none, 0x4000, 0x0⟩
/-- R325 PIPE_n_VRR.EN -/
def PIPE_VRR_EN : Fld := ⟨0x20118, 16, 1, .rws, 0x0, .none, 0x4000, 0x0⟩
/-- R325 PIPE_n_GENLOCK.PHASE -/
def PIPE_GENLOCK_PHASE : Fld := ⟨0x20120, 0, 24, .rws, 0x0, .none, 0x4000, 0x0⟩
/-- R325 PIPE_n_GENLOCK.GROUP -/
def PIPE_GENLOCK_GROUP : Fld := ⟨0x20120, 24, 2, .rws, 0x0, .none, 0x4000, 0x0⟩
/-- R325 PIPE_n_GENLOCK.SRC -/
def PIPE_GENLOCK_SRC : Fld := ⟨0x20120, 26, 1, .rws, 0x0, .none, 0x4000, 0x0⟩
/-- R325 PIPE_n_GENLOCK.PULL -/
def PIPE_GENLOCK_PULL : Fld := ⟨0x20120, 27, 1, .rws, 0x0, .none, 0x4000, 0x0⟩
/-- R326 PIPE_n_GENLOCK_STATUS.STATE -/
def PIPE_GENLOCK_STATUS_STATE : Fld := ⟨0x20124, 0, 3, .ro, 0x0, .none, 0x4000, 0x0⟩
/-- R326 PIPE_n_GENLOCK_STATUS.REF_LOST -/
def PIPE_GENLOCK_STATUS_REF_LOST : Fld := ⟨0x20124, 3, 1, .w1c, 0x0, .flr, 0x4000, 0x0⟩
/-- R326 PIPE_n_GENLOCK_STATUS.LOSS_COUNT -/
def PIPE_GENLOCK_STATUS_LOSS_COUNT : Fld := ⟨0x20124, 8, 8, .ro, 0x0, .flr, 0x4000, 0x0⟩
/-- R326 PIPE_n_GENLOCK_STATUS.ERROR -/
def PIPE_GENLOCK_STATUS_ERROR : Fld := ⟨0x20124, 16, 16, .ro, 0x0, .none, 0x4000, 0x0⟩
/-- R325 PIPE_n_TE.EN -/
def PIPE_TE_EN : Fld := ⟨0x20130, 0, 1, .rws, 0x0, .none, 0x4000, 0x0⟩
/-- R325 PIPE_n_TE.EDGE -/
def PIPE_TE_EDGE : Fld := ⟨0x20130, 1, 1, .rws, 0x0, .none, 0x4000, 0x0⟩
/-- R325 PIPE_n_TE.DELAY -/
def PIPE_TE_DELAY : Fld := ⟨0x20130, 4, 10, .rws, 0x0, .none, 0x4000, 0x0⟩
/-- R325 PIPE_n_TE.TIMEOUT -/
def PIPE_TE_TIMEOUT : Fld := ⟨0x20130, 16, 16, .rws, 0x0, .none, 0x4000, 0x0⟩
/-- R326 PIPE_n_TE_STATUS.TE_LOST -/
def PIPE_TE_STATUS_TE_LOST : Fld := ⟨0x20134, 0, 1, .w1c, 0x0, .flr, 0x4000, 0x0⟩
/-- R326 PIPE_n_TE_STATUS.LOST_ACTIVE -/
def PIPE_TE_STATUS_LOST_ACTIVE : Fld := ⟨0x20134, 1, 1, .ro, 0x0, .none, 0x4000, 0x0⟩
/-- R326 PIPE_n_TE_STATUS.LOST_FRAMES -/
def PIPE_TE_STATUS_LOST_FRAMES : Fld := ⟨0x20134, 16, 16, .ro, 0x0, .flr, 0x4000, 0x0⟩
/-- R325 PIPE_n_REST_CTRL.EN -/
def PIPE_REST_CTRL_EN : Fld := ⟨0x20140, 0, 1, .rws, 0x0, .none, 0x4000, 0x0⟩
/-- R325 PIPE_n_REST_CTRL.REPLAY_EN -/
def PIPE_REST_CTRL_REPLAY_EN : Fld := ⟨0x20140, 1, 1, .rws, 0x0, .none, 0x4000, 0x0⟩
/-- R325 PIPE_n_REST_CTRL.ENTRY -/
def PIPE_REST_CTRL_ENTRY : Fld := ⟨0x20140, 8, 8, .rws, 0x3C, .none, 0x4000, 0x0⟩
/-- R325 PIPE_n_REST_CTRL.MIN_HZ -/
def PIPE_REST_CTRL_MIN_HZ : Fld := ⟨0x20140, 16, 8, .rws, 0x18, .none, 0x4000, 0x0⟩
/-- R325 PIPE_n_REPLAY_BASE.BASE -/
def PIPE_REPLAY_BASE_BASE : Fld := ⟨0x20148, 12, 28, .rws, 0x0, .none, 0x4000, 0x0⟩
/-- R326 PIPE_n_REST_STATUS.STATE -/
def PIPE_REST_STATUS_STATE : Fld := ⟨0x20150, 0, 2, .ro, 0x0, .none, 0x4000, 0x0⟩
/-- R326 PIPE_n_REST_STATUS.QUIET -/
def PIPE_REST_STATUS_QUIET : Fld := ⟨0x20150, 8, 8, .ro, 0x0, .none, 0x4000, 0x0⟩
/-- R326 PIPE_n_REST_STATUS.REPLAY_ABORT -/
def PIPE_REST_STATUS_REPLAY_ABORT : Fld := ⟨0x20150, 16, 1, .w1c, 0x0, .flr, 0x4000, 0x0⟩
/-- R326 PIPE_n_REST_STATUS.REPLAY_ACCESS -/
def PIPE_REST_STATUS_REPLAY_ACCESS : Fld := ⟨0x20150, 17, 1, .w1c, 0x0, .flr, 0x4000, 0x0⟩
/-- R325 PIPE_n_DSC.EN -/
def PIPE_DSC_EN : Fld := ⟨0x20160, 0, 1, .rws, 0x0, .none, 0x4000, 0x0⟩
/-- R325 PIPE_n_DSC.SLICES -/
def PIPE_DSC_SLICES : Fld := ⟨0x20160, 8, 5, .rws, 0x2, .none, 0x4000, 0x0⟩
/-- R325 PIPE_n_DSC.BPP_X16 -/
def PIPE_DSC_BPP_X16 : Fld := ⟨0x20160, 16, 9, .rws, 0x80, .none, 0x4000, 0x0⟩
/-- R325 PIPE_n_DSC_SLICE_H.SLICE_H -/
def PIPE_DSC_SLICE_H_SLICE_H : Fld := ⟨0x20164, 0, 16, .rws, 0x8, .none, 0x4000, 0x0⟩
/-- R326 PIPE_n_TG_STATUS.RUNNING -/
def PIPE_TG_STATUS_RUNNING : Fld := ⟨0x20170, 0, 1, .ro, 0x0, .none, 0x4000, 0x0⟩
/-- R326 PIPE_n_TG_STATUS.STEP -/
def PIPE_TG_STATUS_STEP : Fld := ⟨0x20170, 1, 3, .ro, 0x0, .none, 0x4000, 0x0⟩
/-- R326 PIPE_n_TG_STATUS.CAP_MPIX -/
def PIPE_TG_STATUS_CAP_MPIX : Fld := ⟨0x20170, 4, 12, .ro, 0x960, .none, 0x4000, 0x0⟩
/-- R326 PIPE_n_TG_STATUS.LINE -/
def PIPE_TG_STATUS_LINE : Fld := ⟨0x20170, 16, 16, .ro, 0x0, .none, 0x4000, 0x0⟩
/-- R226 PIPE_n_BLEND_CTRL.ZMODE -/
def PIPE_BLEND_CTRL_ZMODE : Fld := ⟨0x20400, 0, 1, .rws, 0x0, .none, 0x4000, 0x0⟩
/-- R226 PIPE_n_BG.R -/
def PIPE_BG_R : Fld := ⟨0x20408, 0, 16, .rws, 0x0, .none, 0x4000, 0x0⟩
/-- R226 PIPE_n_BG.G -/
def PIPE_BG_G : Fld := ⟨0x20408, 16, 16, .rws, 0x0, .none, 0x4000, 0x0⟩
/-- R226 PIPE_n_BG.B -/
def PIPE_BG_B : Fld := ⟨0x2040C, 0, 16, .rws, 0x0, .none, 0x4000, 0x0⟩
/-- R226 PIPE_n_OUT_CTRL.MATRIX -/
def PIPE_OUT_CTRL_MATRIX : Fld := ⟨0x20480, 0, 2, .rws, 0x1, .none, 0x4000, 0x0⟩
/-- R226 PIPE_n_OUT_CTRL.LUT_EN -/
def PIPE_OUT_CTRL_LUT_EN : Fld := ⟨0x20480, 2, 1, .rws, 0x0, .none, 0x4000, 0x0⟩
/-- R226 PIPE_n_OUT_CTRL.LUT_RAM -/
def PIPE_OUT_CTRL_LUT_RAM : Fld := ⟨0x20480, 3, 1, .rws, 0x0, .none, 0x4000, 0x0⟩
/-- R226 PIPE_n_OUT_CTRL.OETF -/
def PIPE_OUT_CTRL_OETF : Fld := ⟨0x20480, 4, 3, .rws, 0x0, .none, 0x4000, 0x0⟩
/-- R226 PIPE_n_OUT_CTRL.ENCODE -/
def PIPE_OUT_CTRL_ENCODE : Fld := ⟨0x20480, 8, 2, .rws, 0x0, .none, 0x4000, 0x0⟩
/-- R226 PIPE_n_OUT_CTRL.YC_MATRIX -/
def PIPE_OUT_CTRL_YC_MATRIX : Fld := ⟨0x20480, 10, 1, .rws, 0x0, .none, 0x4000, 0x0⟩
/-- R226 PIPE_n_OUT_CTRL.RANGE -/
def PIPE_OUT_CTRL_RANGE : Fld := ⟨0x20480, 11, 1, .rws, 0x1, .none, 0x4000, 0x0⟩
/-- R226 PIPE_n_OUT_CTRL.BPC -/
def PIPE_OUT_CTRL_BPC : Fld := ⟨0x20480, 12, 2, .rws, 0x1, .none, 0x4000, 0x0⟩
/-- R226 PIPE_n_OUT_CTRL.DITHER -/
def PIPE_OUT_CTRL_DITHER : Fld := ⟨0x20480, 14, 2, .rws, 0x0, .none, 0x4000, 0x0⟩
/-- R226 PIPE_n_OUT_LEVEL.OUT_GAIN -/
def PIPE_OUT_LEVEL_OUT_GAIN : Fld := ⟨0x20484, 0, 16, .rws, 0x3C00, .none, 0x4000, 0x0⟩
/-- R226 PIPE_n_OUT_LEVEL.HLG_PEAK -/
def PIPE_OUT_LEVEL_HLG_PEAK : Fld := ⟨0x20484, 16, 16, .rws, 0x3E8, .none, 0x4000, 0x0⟩
/-- R226 PIPE_n_OUT_COEF_k.COEF -/
def PIPE_OUT_COEF_COEF : Fld := ⟨0x20490, 0, 16, .rws, 0x0, .none, 0x4000, 0x4⟩
/-- R226 PIPE_n_OUT_COEF_k words 0, 4 and 8, whose reset value differs -/
def PIPE_OUT_COEF_COEF_DIAG : Fld := ⟨0x20490, 0, 16, .rws, 0x1000, .none, 0x4000, 0x10⟩
/-- R226 PIPE_n_LUT_ADDR.ADDR_LO -/
def PIPE_LUT_ADDR_ADDR_LO : Fld := ⟨0x204C0, 6, 26, .rw, 0x0, .flr, 0x4000, 0x0⟩
/-- R226 PIPE_n_LUT_ADDR.ADDR_HI -/
def PIPE_LUT_ADDR_ADDR_HI : Fld := ⟨0x204C4, 0, 8, .rw, 0x0, .flr, 0x4000, 0x0⟩
/-- R226 PIPE_n_LUT_LOAD.RAM -/
def PIPE_LUT_LOAD_RAM : Fld := ⟨0x204C8, 0, 1, .wo, 0x0, .none, 0x4000, 0x0⟩
/-- R226 PIPE_n_LUT_LOAD.GO -/
def PIPE_LUT_LOAD_GO : Fld := ⟨0x204C8, 31, 1, .wo, 0x0, .none, 0x4000, 0x0⟩
/-- R226 PIPE_n_LUT_STATUS.RAM0_STATE -/
def PIPE_LUT_STATUS_RAM0_STATE : Fld := ⟨0x204CC, 0, 2, .ro, 0x0, .flr, 0x4000, 0x0⟩
/-- R226 PIPE_n_LUT_STATUS.RAM1_STATE -/
def PIPE_LUT_STATUS_RAM1_STATE : Fld := ⟨0x204CC, 2, 2, .ro, 0x0, .flr, 0x4000, 0x0⟩
/-- R226 PIPE_n_LUT_STATUS.IN_USE -/
def PIPE_LUT_STATUS_IN_USE : Fld := ⟨0x204CC, 8, 1, .w1c, 0x0, .flr, 0x4000, 0x0⟩
/-- R226 PIPE_n_LUT_STATUS.LOAD_BUSY -/
def PIPE_LUT_STATUS_LOAD_BUSY : Fld := ⟨0x204CC, 9, 1, .w1c, 0x0, .flr, 0x4000, 0x0⟩
/-- R226 PIPE_n_LUT_STATUS.BAD_ADDR -/
def PIPE_LUT_STATUS_BAD_ADDR : Fld := ⟨0x204CC, 10, 1, .w1c, 0x0, .flr, 0x4000, 0x0⟩
/-- R226 PIPE_n_LUT_STATUS.PROT -/
def PIPE_LUT_STATUS_PROT : Fld := ⟨0x204CC, 11, 1, .w1c, 0x0, .flr, 0x4000, 0x0⟩
/-- R226 PIPE_n_LUT_STATUS.PARITY -/
def PIPE_LUT_STATUS_PARITY : Fld := ⟨0x204CC, 12, 1, .w1c, 0x0, .flr, 0x4000, 0x0⟩
/-- R226 PIPE_n_LUT_STATUS.MISSING -/
def PIPE_LUT_STATUS_MISSING : Fld := ⟨0x204CC, 13, 1, .w1c, 0x0, .flr, 0x4000, 0x0⟩
/-- R227 PIPE_n_WB_CTRL.MODE -/
def PIPE_WB_CTRL_MODE : Fld := ⟨0x20500, 0, 2, .rws, 0x0, .none, 0x4000, 0x0⟩
/-- R227 PIPE_n_WB_CTRL.TAP -/
def PIPE_WB_CTRL_TAP : Fld := ⟨0x20500, 2, 1, .rws, 0x0, .none, 0x4000, 0x0⟩
/-- R227 PIPE_n_WB_CTRL.FORMAT -/
def PIPE_WB_CTRL_FORMAT : Fld := ⟨0x20500, 8, 5, .rws, 0x14, .none, 0x4000, 0x0⟩
/-- R227 PIPE_n_WB_CTRL.RING_LEN -/
def PIPE_WB_CTRL_RING_LEN : Fld := ⟨0x20500, 16, 2, .rws, 0x0, .none, 0x4000, 0x0⟩
/-- R227 PIPE_n_WB_CTRL.FENCE_EN -/
def PIPE_WB_CTRL_FENCE_EN : Fld := ⟨0x20500, 20, 1, .rws, 0x0, .none, 0x4000, 0x0⟩
/-- R227 PIPE_n_WB_CTRL.PROXY_EN -/
def PIPE_WB_CTRL_PROXY_EN : Fld := ⟨0x20500, 21, 1, .rws, 0x0, .none, 0x4000, 0x0⟩
/-- R227 PIPE_n_WB_CTRL.PROXY_H -/
def PIPE_WB_CTRL_PROXY_H : Fld := ⟨0x20500, 22, 2, .rws, 0x1, .none, 0x4000, 0x0⟩
/-- R227 PIPE_n_WB_CTRL.PROXY_V -/
def PIPE_WB_CTRL_PROXY_V : Fld := ⟨0x20500, 24, 2, .rws, 0x1, .none, 0x4000, 0x0⟩
/-- R227 PIPE_n_WB_SID_01.SID0 -/
def PIPE_WB_SID_01_SID0 : Fld := ⟨0x20504, 0, 14, .rws, 0x0, .none, 0x4000, 0x0⟩
/-- R227 PIPE_n_WB_SID_01.SID1 -/
def PIPE_WB_SID_01_SID1 : Fld := ⟨0x20504, 16, 14, .rws, 0x0, .none, 0x4000, 0x0⟩
/-- R227 PIPE_n_WB_SID_23.SID2 -/
def PIPE_WB_SID_23_SID2 : Fld := ⟨0x20508, 0, 14, .rws, 0x0, .none, 0x4000, 0x0⟩
/-- R227 PIPE_n_WB_SID_23.SID3 -/
def PIPE_WB_SID_23_SID3 : Fld := ⟨0x20508, 16, 14, .rws, 0x0, .none, 0x4000, 0x0⟩
/-- R227 PIPE_n_WB_PROXY_SID.SID -/
def PIPE_WB_PROXY_SID_SID : Fld := ⟨0x2050C, 0, 14, .rws, 0x0, .none, 0x4000, 0x0⟩
/-- R227 PIPE_n_WB_FENCE.FID -/
def PIPE_WB_FENCE_FID : Fld := ⟨0x20510, 0, 12, .rws, 0x0, .none, 0x4000, 0x0⟩
/-- R227 PIPE_n_WB_STATUS.DONE -/
def PIPE_WB_STATUS_DONE : Fld := ⟨0x20520, 0, 1, .w1c, 0x0, .flr, 0x4000, 0x0⟩
/-- R227 PIPE_n_WB_STATUS.DEST_FREE -/
def PIPE_WB_STATUS_DEST_FREE : Fld := ⟨0x20520, 2, 1, .w1c, 0x0, .flr, 0x4000, 0x0⟩
/-- R227 PIPE_n_WB_STATUS.GUARD -/
def PIPE_WB_STATUS_GUARD : Fld := ⟨0x20520, 3, 1, .w1c, 0x0, .flr, 0x4000, 0x0⟩
/-- R227 PIPE_n_WB_STATUS.PROT -/
def PIPE_WB_STATUS_PROT : Fld := ⟨0x20520, 4, 1, .w1c, 0x0, .flr, 0x4000, 0x0⟩
/-- R227 PIPE_n_WB_STATUS.OVERFLOW -/
def PIPE_WB_STATUS_OVERFLOW : Fld := ⟨0x20520, 5, 1, .w1c, 0x0, .flr, 0x4000, 0x0⟩
/-- R227 PIPE_n_WB_STATUS.LAST_RESULT -/
def PIPE_WB_STATUS_LAST_RESULT : Fld := ⟨0x20520, 8, 8, .ro, 0x0, .flr, 0x4000, 0x0⟩
/-- R227 PIPE_n_WB_STATUS.SKIP_COUNT -/
def PIPE_WB_STATUS_SKIP_COUNT : Fld := ⟨0x20520, 16, 16, .ro, 0x0, .flr, 0x4000, 0x0⟩
/-- R227 PIPE_n_WB_FRAMES.COUNT -/
def PIPE_WB_FRAMES_COUNT : Fld := ⟨0x20528, 0, 64, .ro, 0x0, .flr, 0x4000, 0x0⟩
/-- R293 PIPE_n_FETCH_ALLOC.MBPS -/
def PIPE_FETCH_ALLOC_MBPS : Fld := ⟨0x20600, 0, 17, .rws, 0x0, .none, 0x4000, 0x0⟩
/-- R293 PIPE_n_UNDERRUN_MODE.MODE -/
def PIPE_UNDERRUN_MODE_MODE : Fld := ⟨0x20604, 0, 1, .rws, 0x0, .none, 0x4000, 0x0⟩
/-- R293 PIPE_n_UNDERRUN_STATUS.UNDERRUN -/
def PIPE_UNDERRUN_STATUS_UNDERRUN : Fld := ⟨0x20608, 0, 1, .w1c, 0x0, .flr, 0x4000, 0x0⟩
/-- R293 PIPE_n_UNDERRUN_STATUS.MODE_FALLBACK -/
def PIPE_UNDERRUN_STATUS_MODE_FALLBACK : Fld := ⟨0x20608, 1, 1, .w1c, 0x0, .flr, 0x4000, 0x0⟩
/-- R293 PIPE_n_UNDERRUN_STATUS.COUNT -/
def PIPE_UNDERRUN_STATUS_COUNT : Fld := ⟨0x20608, 16, 16, .ro, 0x0, .flr, 0x4000, 0x0⟩
/-- R293 PIPE_n_UNDERRUN_LAST.INDEX -/
def PIPE_UNDERRUN_LAST_INDEX : Fld := ⟨0x2060C, 0, 7, .ro, 0x0, .flr, 0x4000, 0x0⟩
/-- R293 PIPE_n_UNDERRUN_LAST.KIND -/
def PIPE_UNDERRUN_LAST_KIND : Fld := ⟨0x2060C, 12, 4, .ro, 0x0, .flr, 0x4000, 0x0⟩
/-- R293 PIPE_n_UNDERRUN_LAST.LINE -/
def PIPE_UNDERRUN_LAST_LINE : Fld := ⟨0x2060C, 16, 16, .ro, 0x0, .flr, 0x4000, 0x0⟩
/-- R226 PIPE_n_ZORDER_k.INDEX -/
def PIPE_ZORDER_INDEX : Fld := ⟨0x20700, 0, 6, .rws, 0x0, .none, 0x4000, 0x4⟩
/-- R226 PIPE_n_ZORDER_k.KIND -/
def PIPE_ZORDER_KIND : Fld := ⟨0x20700, 7, 1, .rws, 0x0, .none, 0x4000, 0x4⟩
/-- R226 PIPE_n_ZORDER_k.VALID -/
def PIPE_ZORDER_VALID : Fld := ⟨0x20700, 8, 1, .rws, 0x0, .none, 0x4000, 0x4⟩
/-- R189 VL_n_CTRL.EN -/
def VL_CTRL_EN : Fld := ⟨0x40000, 0, 1, .rws, 0x0, .none, 0x400, 0x0⟩
/-- R189 VL_n_CTRL.PIPE -/
def VL_CTRL_PIPE : Fld := ⟨0x40000, 4, 2, .rws, 0x0, .none, 0x400, 0x0⟩
/-- R189 VL_n_CTRL.ALPHA_EN -/
def VL_CTRL_ALPHA_EN : Fld := ⟨0x40000, 6, 1, .rws, 0x0, .none, 0x400, 0x0⟩
/-- R189 VL_n_CTRL.PREMULT -/
def VL_CTRL_PREMULT : Fld := ⟨0x40000, 7, 1, .rws, 0x0, .none, 0x400, 0x0⟩
/-- R189 VL_n_SID.SID -/
def VL_SID_SID : Fld := ⟨0x40004, 0, 14, .rws, 0x0, .none, 0x400, 0x0⟩
/-- R189 VL_n_FORMAT.CSITE_H -/
def VL_FORMAT_CSITE_H : Fld := ⟨0x40008, 0, 1, .rws, 0x0, .none, 0x400, 0x0⟩
/-- R189 VL_n_FORMAT.CSITE_V -/
def VL_FORMAT_CSITE_V : Fld := ⟨0x40008, 1, 1, .rws, 0x0, .none, 0x400, 0x0⟩
/-- R189 VL_n_SRC_RECT.X -/
def VL_SRC_RECT_X : Fld := ⟨0x40010, 0, 14, .rws, 0x0, .none, 0x400, 0x0⟩
/-- R189 VL_n_SRC_RECT.Y -/
def VL_SRC_RECT_Y : Fld := ⟨0x40010, 16, 14, .rws, 0x0, .none, 0x400, 0x0⟩
/-- R189 VL_n_SRC_RECT.W -/
def VL_SRC_RECT_W : Fld := ⟨0x40014, 0, 14, .rws, 0x0, .none, 0x400, 0x0⟩
/-- R189 VL_n_SRC_RECT.H -/
def VL_SRC_RECT_H : Fld := ⟨0x40014, 16, 14, .rws, 0x0, .none, 0x400, 0x0⟩
/-- R189 VL_n_DST_RECT.X -/
def VL_DST_RECT_X : Fld := ⟨0x40018, 0, 14, .rws, 0x0, .none, 0x400, 0x0⟩
/-- R189 VL_n_DST_RECT.Y -/
def VL_DST_RECT_Y : Fld := ⟨0x40018, 16, 14, .rws, 0x0, .none, 0x400, 0x0⟩
/-- R189 VL_n_DST_RECT.W -/
def VL_DST_RECT_W : Fld := ⟨0x4001C, 0, 14, .rws, 0x0, .none, 0x400, 0x0⟩
/-- R189 VL_n_DST_RECT.H -/
def VL_DST_RECT_H : Fld := ⟨0x4001C, 16, 14, .rws, 0x0, .none, 0x400, 0x0⟩
/-- R189 VL_n_SCALE.COEF_H -/
def VL_SCALE_COEF_H : Fld := ⟨0x40020, 0, 5, .rws, 0x0, .none, 0x400, 0x0⟩
/-- R189 VL_n_SCALE.COEF_V -/
def VL_SCALE_COEF_V : Fld := ⟨0x40020, 8, 5, .rws, 0x0, .none, 0x400, 0x0⟩
/-- R189 VL_n_SCALE.DECIM_H -/
def VL_SCALE_DECIM_H : Fld := ⟨0x40020, 16, 2, .rws, 0x0, .none, 0x400, 0x0⟩
/-- R189 VL_n_SCALE.DECIM_H_AUTO -/
def VL_SCALE_DECIM_H_AUTO : Fld := ⟨0x40020, 19, 1, .rws, 0x1, .none, 0x400, 0x0⟩
/-- R189 VL_n_SCALE.DECIM_V -/
def VL_SCALE_DECIM_V : Fld := ⟨0x40020, 20, 2, .rws, 0x0, .none, 0x400, 0x0⟩
/-- R189 VL_n_SCALE.DECIM_V_AUTO -/
def VL_SCALE_DECIM_V_AUTO : Fld := ⟨0x40020, 23, 1, .rws, 0x1, .none, 0x400, 0x0⟩
/-- R189 VL_n_OFFSET.OFFSET_H -/
def VL_OFFSET_OFFSET_H : Fld := ⟨0x40024, 0, 12, .rws, 0x0, .none, 0x400, 0x0⟩
/-- R189 VL_n_OFFSET.OFFSET_V -/
def VL_OFFSET_OFFSET_V : Fld := ⟨0x40024, 16, 12, .rws, 0x0, .none, 0x400, 0x0⟩
/-- R189 VL_n_ALPHA.GLOBAL_ALPHA -/
def VL_ALPHA_GLOBAL_ALPHA : Fld := ⟨0x40028, 0, 8, .rws, 0xFF, .none, 0x400, 0x0⟩
/-- R189 VL_n_LS_CLAIM.BLOCKS -/
def VL_LS_CLAIM_BLOCKS : Fld := ⟨0x4002C, 0, 6, .rws, 0x0, .none, 0x400, 0x0⟩
/-- R190 VL_n_LS_STATUS.ACTIVE_BLOCKS -/
def VL_LS_STATUS_ACTIVE_BLOCKS : Fld := ⟨0x40030, 0, 6, .ro, 0x0, .none, 0x400, 0x0⟩
/-- R190 VL_n_LS_STATUS.ARMED_BLOCKS -/
def VL_LS_STATUS_ARMED_BLOCKS : Fld := ⟨0x40030, 8, 6, .ro, 0x0, .none, 0x400, 0x0⟩
/-- R190 VL_n_LS_STATUS.NEED -/
def VL_LS_STATUS_NEED : Fld := ⟨0x40030, 16, 6, .ro, 0x0, .none, 0x400, 0x0⟩
/-- R190 VL_n_LS_STATUS.DECIM_H_USED -/
def VL_LS_STATUS_DECIM_H_USED : Fld := ⟨0x40030, 24, 2, .ro, 0x0, .none, 0x400, 0x0⟩
/-- R190 VL_n_LS_STATUS.DECIM_V_USED -/
def VL_LS_STATUS_DECIM_V_USED : Fld := ⟨0x40030, 26, 2, .ro, 0x0, .none, 0x400, 0x0⟩
/-- R190 VL_n_FAULT.LAYER_FAULT -/
def VL_FAULT_LAYER_FAULT : Fld := ⟨0x40034, 0, 1, .w1c, 0x0, .flr, 0x400, 0x0⟩
/-- R190 VL_n_FAULT.LS_PARITY -/
def VL_FAULT_LS_PARITY : Fld := ⟨0x40034, 1, 1, .w1c, 0x0, .flr, 0x400, 0x0⟩
/-- R190 VL_n_FAULT.DISABLED -/
def VL_FAULT_DISABLED : Fld := ⟨0x40034, 2, 1, .ro, 0x0, .none, 0x400, 0x0⟩
/-- R190 VL_n_FAULT.PARITY_COUNT -/
def VL_FAULT_PARITY_COUNT : Fld := ⟨0x40034, 8, 8, .ro, 0x0, .flr, 0x400, 0x0⟩
/-- R190 VL_n_FAULT.FAULT_COUNT -/
def VL_FAULT_FAULT_COUNT : Fld := ⟨0x40034, 16, 16, .ro, 0x0, .flr, 0x400, 0x0⟩
/-- R225 VL_n_CSC_CTRL.MATRIX -/
def VL_CSC_CTRL_MATRIX : Fld := ⟨0x40100, 0, 2, .rws, 0x1, .none, 0x400, 0x0⟩
/-- R225 VL_n_CSC_CTRL.RANGE -/
def VL_CSC_CTRL_RANGE : Fld := ⟨0x40100, 4, 1, .rws, 0x0, .none, 0x400, 0x0⟩
/-- R225 VL_n_CSC_CTRL.TF -/
def VL_CSC_CTRL_TF : Fld := ⟨0x40100, 5, 3, .rws, 0x0, .none, 0x400, 0x0⟩
/-- R225 VL_n_CSC_CTRL.PRIM -/
def VL_CSC_CTRL_PRIM : Fld := ⟨0x40100, 10, 2, .rws, 0x0, .none, 0x400, 0x0⟩
/-- R225 VL_n_CSC_CTRL.TM_EN -/
def VL_CSC_CTRL_TM_EN : Fld := ⟨0x40100, 14, 1, .rws, 0x0, .none, 0x400, 0x0⟩
/-- R225 VL_n_CSC_CTRL.TM_RAM -/
def VL_CSC_CTRL_TM_RAM : Fld := ⟨0x40100, 15, 1, .rws, 0x0, .none, 0x400, 0x0⟩
/-- R225 VL_n_LUM.LUM_GAIN -/
def VL_LUM_LUM_GAIN : Fld := ⟨0x40104, 0, 16, .rws, 0x3C00, .none, 0x400, 0x0⟩
/-- R225 VL_n_LUM.HLG_PEAK -/
def VL_LUM_HLG_PEAK : Fld := ⟨0x40104, 16, 16, .rws, 0x3E8, .none, 0x400, 0x0⟩
/-- R225 VL_n_CSC_COEF_k.COEF -/
def VL_CSC_COEF_COEF : Fld := ⟨0x40110, 0, 16, .rws, 0x0, .none, 0x400, 0x4⟩
/-- R225 VL_n_CSC_COEF_k words 0, 4 and 8, whose reset value differs -/
def VL_CSC_COEF_COEF_DIAG : Fld := ⟨0x40110, 0, 16, .rws, 0x1000, .none, 0x400, 0x10⟩
/-- R225 VL_n_CSC_OFFSET_j.OFFSET -/
def VL_CSC_OFFSET_OFFSET : Fld := ⟨0x40140, 0, 13, .rws, 0x0, .none, 0x400, 0x4⟩
/-- R225 VL_n_TM_ADDR.ADDR_LO -/
def VL_TM_ADDR_ADDR_LO : Fld := ⟨0x40180, 6, 26, .rw, 0x0, .flr, 0x400, 0x0⟩
/-- R225 VL_n_TM_ADDR.ADDR_HI -/
def VL_TM_ADDR_ADDR_HI : Fld := ⟨0x40184, 0, 8, .rw, 0x0, .flr, 0x400, 0x0⟩
/-- R225 VL_n_TM_LOAD.RAM -/
def VL_TM_LOAD_RAM : Fld := ⟨0x40188, 0, 1, .wo, 0x0, .none, 0x400, 0x0⟩
/-- R225 VL_n_TM_LOAD.GO -/
def VL_TM_LOAD_GO : Fld := ⟨0x40188, 31, 1, .wo, 0x0, .none, 0x400, 0x0⟩
/-- R225 VL_n_TM_STATUS.RAM0_STATE -/
def VL_TM_STATUS_RAM0_STATE : Fld := ⟨0x4018C, 0, 2, .ro, 0x0, .flr, 0x400, 0x0⟩
/-- R225 VL_n_TM_STATUS.RAM1_STATE -/
def VL_TM_STATUS_RAM1_STATE : Fld := ⟨0x4018C, 2, 2, .ro, 0x0, .flr, 0x400, 0x0⟩
/-- R225 VL_n_TM_STATUS.IN_USE -/
def VL_TM_STATUS_IN_USE : Fld := ⟨0x4018C, 8, 1, .w1c, 0x0, .flr, 0x400, 0x0⟩
/-- R225 VL_n_TM_STATUS.LOAD_BUSY -/
def VL_TM_STATUS_LOAD_BUSY : Fld := ⟨0x4018C, 9, 1, .w1c, 0x0, .flr, 0x400, 0x0⟩
/-- R225 VL_n_TM_STATUS.BAD_ADDR -/
def VL_TM_STATUS_BAD_ADDR : Fld := ⟨0x4018C, 10, 1, .w1c, 0x0, .flr, 0x400, 0x0⟩
/-- R225 VL_n_TM_STATUS.PROT -/
def VL_TM_STATUS_PROT : Fld := ⟨0x4018C, 11, 1, .w1c, 0x0, .flr, 0x400, 0x0⟩
/-- R225 VL_n_TM_STATUS.PARITY -/
def VL_TM_STATUS_PARITY : Fld := ⟨0x4018C, 12, 1, .w1c, 0x0, .flr, 0x400, 0x0⟩
/-- R225 VL_n_TM_STATUS.MISSING -/
def VL_TM_STATUS_MISSING : Fld := ⟨0x4018C, 13, 1, .w1c, 0x0, .flr, 0x400, 0x0⟩
/-- R122 VL_n_FLIP_CTRL.GROUP -/
def VL_FLIP_CTRL_GROUP : Fld := ⟨0x403C0, 0, 4, .rws, 0x0, .none, 0x400, 0x0⟩
/-- R122 VL_n_FLIP_CTRL.GROUP_EN -/
def VL_FLIP_CTRL_GROUP_EN : Fld := ⟨0x403C0, 4, 1, .rws, 0x0, .none, 0x400, 0x0⟩
/-- R122 VL_n_FLIP_CTRL.FENCE_EN -/
def VL_FLIP_CTRL_FENCE_EN : Fld := ⟨0x403C0, 8, 1, .rws, 0x0, .none, 0x400, 0x0⟩
/-- R122 VL_n_FLIP_CTRL.FID -/
def VL_FLIP_CTRL_FID : Fld := ⟨0x403C0, 16, 12, .rws, 0x0, .none, 0x400, 0x0⟩
/-- R122 VL_n_FLIP_WAIT.VALUE -/
def VL_FLIP_WAIT_VALUE : Fld := ⟨0x403C8, 0, 64, .rws, 0x0, .none, 0x400, 0x0⟩
/-- R122 VL_n_FLIP_STATUS.HELD -/
def VL_FLIP_STATUS_HELD : Fld := ⟨0x403D0, 0, 1, .ro, 0x0, .none, 0x400, 0x0⟩
/-- R122 VL_n_FLIP_STATUS.HOLD_FRAMES -/
def VL_FLIP_STATUS_HOLD_FRAMES : Fld := ⟨0x403D0, 8, 8, .ro, 0x0, .none, 0x400, 0x0⟩
/-- R191 GL_n_CTRL.EN -/
def GL_CTRL_EN : Fld := ⟨0x50000, 0, 1, .rws, 0x0, .none, 0x200, 0x0⟩
/-- R191 GL_n_CTRL.PIPE -/
def GL_CTRL_PIPE : Fld := ⟨0x50000, 4, 2, .rws, 0x0, .none, 0x200, 0x0⟩
/-- R191 GL_n_CTRL.ALPHA_EN -/
def GL_CTRL_ALPHA_EN : Fld := ⟨0x50000, 6, 1, .rws, 0x0, .none, 0x200, 0x0⟩
/-- R191 GL_n_CTRL.PREMULT -/
def GL_CTRL_PREMULT : Fld := ⟨0x50000, 7, 1, .rws, 0x0, .none, 0x200, 0x0⟩
/-- R191 GL_n_CTRL.MIRROR_H -/
def GL_CTRL_MIRROR_H : Fld := ⟨0x50000, 8, 1, .rws, 0x0, .none, 0x200, 0x0⟩
/-- R191 GL_n_CTRL.MIRROR_V -/
def GL_CTRL_MIRROR_V : Fld := ⟨0x50000, 9, 1, .rws, 0x0, .none, 0x200, 0x0⟩
/-- R191 GL_n_CTRL.KEY_EN -/
def GL_CTRL_KEY_EN : Fld := ⟨0x50000, 10, 1, .rws, 0x0, .none, 0x200, 0x0⟩
/-- R191 GL_n_SID.SID -/
def GL_SID_SID : Fld := ⟨0x50004, 0, 14, .rws, 0x0, .none, 0x200, 0x0⟩
/-- R191 GL_n_SRC_RECT.X -/
def GL_SRC_RECT_X : Fld := ⟨0x50010, 0, 14, .rws, 0x0, .none, 0x200, 0x0⟩
/-- R191 GL_n_SRC_RECT.Y -/
def GL_SRC_RECT_Y : Fld := ⟨0x50010, 16, 14, .rws, 0x0, .none, 0x200, 0x0⟩
/-- R191 GL_n_SRC_RECT.W -/
def GL_SRC_RECT_W : Fld := ⟨0x50014, 0, 14, .rws, 0x0, .none, 0x200, 0x0⟩
/-- R191 GL_n_SRC_RECT.H -/
def GL_SRC_RECT_H : Fld := ⟨0x50014, 16, 14, .rws, 0x0, .none, 0x200, 0x0⟩
/-- R191 GL_n_DST_POS.X -/
def GL_DST_POS_X : Fld := ⟨0x50018, 0, 14, .rws, 0x0, .none, 0x200, 0x0⟩
/-- R191 GL_n_DST_POS.Y -/
def GL_DST_POS_Y : Fld := ⟨0x50018, 16, 14, .rws, 0x0, .none, 0x200, 0x0⟩
/-- R191 GL_n_ALPHA.GLOBAL_ALPHA -/
def GL_ALPHA_GLOBAL_ALPHA : Fld := ⟨0x50028, 0, 8, .rws, 0xFF, .none, 0x200, 0x0⟩
/-- R191 GL_n_KEY.KEY -/
def GL_KEY_KEY : Fld := ⟨0x50030, 0, 30, .rws, 0x0, .none, 0x200, 0x0⟩
/-- R191 GL_n_KEY_MASK.MASK -/
def GL_KEY_MASK_MASK : Fld := ⟨0x50034, 0, 30, .rws, 0x0, .none, 0x200, 0x0⟩
/-- R258 GL_n_CRUST.ALLOW -/
def GL_CRUST_ALLOW : Fld := ⟨0x50038, 0, 1, .rws, 0x1, .none, 0x200, 0x0⟩
/-- R258 GL_n_CRUST_STATUS.QUIET -/
def GL_CRUST_STATUS_QUIET : Fld := ⟨0x5003C, 0, 8, .ro, 0x0, .none, 0x200, 0x0⟩
/-- R258 GL_n_CRUST_STATUS.MEMBER -/
def GL_CRUST_STATUS_MEMBER : Fld := ⟨0x5003C, 16, 2, .ro, 0x0, .none, 0x200, 0x0⟩
/-- R225 GL_n_CSC_CTRL.TF -/
def GL_CSC_CTRL_TF : Fld := ⟨0x50100, 5, 3, .rws, 0x0, .none, 0x200, 0x0⟩
/-- R225 GL_n_CSC_CTRL.PRIM -/
def GL_CSC_CTRL_PRIM : Fld := ⟨0x50100, 10, 2, .rws, 0x0, .none, 0x200, 0x0⟩
/-- R225 GL_n_CSC_CTRL.TM_EN -/
def GL_CSC_CTRL_TM_EN : Fld := ⟨0x50100, 14, 1, .rws, 0x0, .none, 0x200, 0x0⟩
/-- R225 GL_n_CSC_CTRL.TM_RAM -/
def GL_CSC_CTRL_TM_RAM : Fld := ⟨0x50100, 15, 1, .rws, 0x0, .none, 0x200, 0x0⟩
/-- R225 GL_n_LUM.LUM_GAIN -/
def GL_LUM_LUM_GAIN : Fld := ⟨0x50104, 0, 16, .rws, 0x3C00, .none, 0x200, 0x0⟩
/-- R225 GL_n_LUM.HLG_PEAK -/
def GL_LUM_HLG_PEAK : Fld := ⟨0x50104, 16, 16, .rws, 0x3E8, .none, 0x200, 0x0⟩
/-- R225 GL_n_TM_ADDR.ADDR_LO -/
def GL_TM_ADDR_ADDR_LO : Fld := ⟨0x50180, 6, 26, .rw, 0x0, .flr, 0x200, 0x0⟩
/-- R225 GL_n_TM_ADDR.ADDR_HI -/
def GL_TM_ADDR_ADDR_HI : Fld := ⟨0x50184, 0, 8, .rw, 0x0, .flr, 0x200, 0x0⟩
/-- R225 GL_n_TM_LOAD.RAM -/
def GL_TM_LOAD_RAM : Fld := ⟨0x50188, 0, 1, .wo, 0x0, .none, 0x200, 0x0⟩
/-- R225 GL_n_TM_LOAD.GO -/
def GL_TM_LOAD_GO : Fld := ⟨0x50188, 31, 1, .wo, 0x0, .none, 0x200, 0x0⟩
/-- R225 GL_n_TM_STATUS.RAM0_STATE -/
def GL_TM_STATUS_RAM0_STATE : Fld := ⟨0x5018C, 0, 2, .ro, 0x0, .flr, 0x200, 0x0⟩
/-- R225 GL_n_TM_STATUS.RAM1_STATE -/
def GL_TM_STATUS_RAM1_STATE : Fld := ⟨0x5018C, 2, 2, .ro, 0x0, .flr, 0x200, 0x0⟩
/-- R225 GL_n_TM_STATUS.IN_USE -/
def GL_TM_STATUS_IN_USE : Fld := ⟨0x5018C, 8, 1, .w1c, 0x0, .flr, 0x200, 0x0⟩
/-- R225 GL_n_TM_STATUS.LOAD_BUSY -/
def GL_TM_STATUS_LOAD_BUSY : Fld := ⟨0x5018C, 9, 1, .w1c, 0x0, .flr, 0x200, 0x0⟩
/-- R225 GL_n_TM_STATUS.BAD_ADDR -/
def GL_TM_STATUS_BAD_ADDR : Fld := ⟨0x5018C, 10, 1, .w1c, 0x0, .flr, 0x200, 0x0⟩
/-- R225 GL_n_TM_STATUS.PROT -/
def GL_TM_STATUS_PROT : Fld := ⟨0x5018C, 11, 1, .w1c, 0x0, .flr, 0x200, 0x0⟩
/-- R225 GL_n_TM_STATUS.PARITY -/
def GL_TM_STATUS_PARITY : Fld := ⟨0x5018C, 12, 1, .w1c, 0x0, .flr, 0x200, 0x0⟩
/-- R225 GL_n_TM_STATUS.MISSING -/
def GL_TM_STATUS_MISSING : Fld := ⟨0x5018C, 13, 1, .w1c, 0x0, .flr, 0x200, 0x0⟩
/-- R122 GL_n_FLIP_CTRL.GROUP -/
def GL_FLIP_CTRL_GROUP : Fld := ⟨0x501C0, 0, 4, .rws, 0x0, .none, 0x200, 0x0⟩
/-- R122 GL_n_FLIP_CTRL.GROUP_EN -/
def GL_FLIP_CTRL_GROUP_EN : Fld := ⟨0x501C0, 4, 1, .rws, 0x0, .none, 0x200, 0x0⟩
/-- R122 GL_n_FLIP_CTRL.FENCE_EN -/
def GL_FLIP_CTRL_FENCE_EN : Fld := ⟨0x501C0, 8, 1, .rws, 0x0, .none, 0x200, 0x0⟩
/-- R122 GL_n_FLIP_CTRL.FID -/
def GL_FLIP_CTRL_FID : Fld := ⟨0x501C0, 16, 12, .rws, 0x0, .none, 0x200, 0x0⟩
/-- R122 GL_n_FLIP_WAIT.VALUE -/
def GL_FLIP_WAIT_VALUE : Fld := ⟨0x501C8, 0, 64, .rws, 0x0, .none, 0x200, 0x0⟩
/-- R122 GL_n_FLIP_STATUS.HELD -/
def GL_FLIP_STATUS_HELD : Fld := ⟨0x501D0, 0, 1, .ro, 0x0, .none, 0x200, 0x0⟩
/-- R122 GL_n_FLIP_STATUS.HOLD_FRAMES -/
def GL_FLIP_STATUS_HOLD_FRAMES : Fld := ⟨0x501D0, 8, 8, .ro, 0x0, .none, 0x200, 0x0⟩
/-- R193 LINESTORE_POOL.FREE -/
def LINESTORE_POOL_FREE : Fld := ⟨0x60000, 0, 11, .ro, 0x400, .none, 0x0, 0x0⟩
/-- R193 LINESTORE_POOL.RESERVED -/
def LINESTORE_POOL_RESERVED : Fld := ⟨0x60000, 16, 11, .ro, 0x0, .none, 0x0, 0x0⟩
/-- R193 LINESTORE_STATUS.CLAIM_PARITY -/
def LINESTORE_STATUS_CLAIM_PARITY : Fld := ⟨0x60004, 0, 1, .w1c, 0x0, .flr, 0x0, 0x0⟩
/-- R193 LINESTORE_STATUS.COEF_IN_USE -/
def LINESTORE_STATUS_COEF_IN_USE : Fld := ⟨0x60004, 1, 1, .w1c, 0x0, .flr, 0x0, 0x0⟩
/-- R193 LINESTORE_STATUS.REBUILT -/
def LINESTORE_STATUS_REBUILT : Fld := ⟨0x60004, 2, 1, .w1c, 0x0, .flr, 0x0, 0x0⟩
/-- R193 LINESTORE_STATUS.COEF_RESERVED -/
def LINESTORE_STATUS_COEF_RESERVED : Fld := ⟨0x60004, 3, 1, .w1c, 0x0, .flr, 0x0, 0x0⟩
/-- R193 LINESTORE_STATUS.QUARANTINED -/
def LINESTORE_STATUS_QUARANTINED : Fld := ⟨0x60004, 16, 11, .ro, 0x0, .none, 0x0, 0x0⟩
/-- R194 LINESTORE_OWNER_b.LAYER -/
def LINESTORE_OWNER_LAYER : Fld := ⟨0x61000, 0, 6, .ro, 0x0, .none, 0x4, 0x0⟩
/-- R194 LINESTORE_OWNER_b.SLOT -/
def LINESTORE_OWNER_SLOT : Fld := ⟨0x61000, 16, 2, .ro, 0x0, .none, 0x4, 0x0⟩
/-- R194 LINESTORE_OWNER_b.STARTER -/
def LINESTORE_OWNER_STARTER : Fld := ⟨0x61000, 29, 1, .ro, 0x0, .none, 0x4, 0x0⟩
/-- R194 LINESTORE_OWNER_b.QUARANTINED -/
def LINESTORE_OWNER_QUARANTINED : Fld := ⟨0x61000, 30, 1, .ro, 0x0, .none, 0x4, 0x0⟩
/-- R194 LINESTORE_OWNER_b.GRANTED -/
def LINESTORE_OWNER_GRANTED : Fld := ⟨0x61000, 31, 1, .ro, 0x0, .none, 0x4, 0x0⟩
/-- R195 LINESTORE_COEF_s_p_j.TAP_EVEN -/
def LINESTORE_COEF_TAP_EVEN : Fld := ⟨0x68000, 0, 12, .rw, 0x0, .flr, 0x400, 0x4⟩
/-- R195 LINESTORE_COEF_s_p_j.TAP_ODD -/
def LINESTORE_COEF_TAP_ODD : Fld := ⟨0x68000, 16, 12, .rw, 0x0, .flr, 0x400, 0x4⟩
/-- R254 CRUST_STATUS.STORE_ACCESS -/
def CRUST_STATUS_STORE_ACCESS : Fld := ⟨0x70000, 0, 1, .w1c, 0x0, .flr, 0x0, 0x0⟩
/-- R254 CRUST_STATUS.CFG_REFUSED -/
def CRUST_STATUS_CFG_REFUSED : Fld := ⟨0x70000, 1, 1, .w1c, 0x0, .flr, 0x0, 0x0⟩
/-- R254 CRUST_STATUS.HINT_BAD -/
def CRUST_STATUS_HINT_BAD : Fld := ⟨0x70000, 2, 1, .w1c, 0x0, .flr, 0x0, 0x0⟩
/-- R254 CRUST_STATUS.HINT_FULL -/
def CRUST_STATUS_HINT_FULL : Fld := ⟨0x70000, 3, 1, .w1c, 0x0, .flr, 0x0, 0x0⟩
/-- R254 CRUST_STORE_BASE.BASE_LO -/
def CRUST_STORE_BASE_BASE_LO : Fld := ⟨0x70008, 14, 18, .rw, 0x0, .flr, 0x0, 0x0⟩
/-- R254 CRUST_STORE_BASE.BASE_HI -/
def CRUST_STORE_BASE_BASE_HI : Fld := ⟨0x7000C, 0, 8, .rw, 0x0, .flr, 0x0, 0x0⟩
/-- R254 CRUST_STORE_UNITS.UNITS -/
def CRUST_STORE_UNITS_UNITS : Fld := ⟨0x70010, 0, 20, .rw, 0x0, .flr, 0x0, 0x0⟩
/-- R254 CRUST_STORE_FREE.FREE -/
def CRUST_STORE_FREE_FREE : Fld := ⟨0x70014, 0, 20, .ro, 0x0, .none, 0x0, 0x0⟩
/-- R254 CRUST_HINT_SID.SID -/
def CRUST_HINT_SID_SID : Fld := ⟨0x70020, 0, 14, .rw, 0x0, .none, 0x0, 0x0⟩
/-- R254 CRUST_HINT_SID.FORCE -/
def CRUST_HINT_SID_FORCE : Fld := ⟨0x70020, 16, 1, .rw, 0x0, .none, 0x0, 0x0⟩
/-- R253 CRUST_HINT_RECT.X -/
def CRUST_HINT_RECT_X : Fld := ⟨0x70028, 0, 14, .rw, 0x0, .none, 0x0, 0x0⟩
/-- R253 CRUST_HINT_RECT.Y -/
def CRUST_HINT_RECT_Y : Fld := ⟨0x70028, 16, 14, .rw, 0x0, .none, 0x0, 0x0⟩
/-- R253 CRUST_HINT_RECT.W -/
def CRUST_HINT_RECT_W : Fld := ⟨0x7002C, 0, 14, .rw, 0x0, .none, 0x0, 0x0⟩
/-- R253 CRUST_HINT_RECT.H -/
def CRUST_HINT_RECT_H : Fld := ⟨0x7002C, 16, 14, .rw, 0x0, .none, 0x0, 0x0⟩
/-- R254 CRUST_HINT_FENCE.FID -/
def CRUST_HINT_FENCE_FID : Fld := ⟨0x70030, 0, 12, .rw, 0x0, .none, 0x0, 0x0⟩
/-- R254 CRUST_HINT_FENCE.EN -/
def CRUST_HINT_FENCE_EN : Fld := ⟨0x70030, 31, 1, .rw, 0x0, .none, 0x0, 0x0⟩
/-- R254 CRUST_HINT_WAIT.VALUE -/
def CRUST_HINT_WAIT_VALUE : Fld := ⟨0x70038, 0, 64, .rw, 0x0, .none, 0x0, 0x0⟩
/-- R254 CRUST_HINT_GO.GO -/
def CRUST_HINT_GO_GO : Fld := ⟨0x70040, 0, 1, .wo, 0x0, .none, 0x0, 0x0⟩
/-- R254 CRUST_HINT_GO.PENDING -/
def CRUST_HINT_GO_PENDING : Fld := ⟨0x70040, 16, 5, .ro, 0x0, .none, 0x0, 0x0⟩
/-- R255 CRUST_TILE_SEL.TILE -/
def CRUST_TILE_SEL_TILE : Fld := ⟨0x70050, 0, 13, .rw, 0x0, .none, 0x0, 0x0⟩
/-- R255 CRUST_TILE_SEL.PLANE -/
def CRUST_TILE_SEL_PLANE : Fld := ⟨0x70050, 16, 3, .rw, 0x0, .none, 0x0, 0x0⟩
/-- R255 CRUST_TILE_W0.SIG -/
def CRUST_TILE_W0_SIG : Fld := ⟨0x70054, 0, 16, .ro, 0x0, .none, 0x0, 0x0⟩
/-- R255 CRUST_TILE_W0.STATE0 -/
def CRUST_TILE_W0_STATE0 : Fld := ⟨0x70054, 24, 2, .ro, 0x0, .none, 0x0, 0x0⟩
/-- R255 CRUST_TILE_W0.STATE1 -/
def CRUST_TILE_W0_STATE1 : Fld := ⟨0x70054, 26, 2, .ro, 0x0, .none, 0x0, 0x0⟩
/-- R255 CRUST_TILE_W0.INVALID -/
def CRUST_TILE_W0_INVALID : Fld := ⟨0x70054, 29, 1, .ro, 0x0, .none, 0x0, 0x0⟩
/-- R255 CRUST_TILE_W0.VIS -/
def CRUST_TILE_W0_VIS : Fld := ⟨0x70054, 30, 1, .ro, 0x0, .none, 0x0, 0x0⟩
/-- R255 CRUST_TILE_W0.DAMAGE -/
def CRUST_TILE_W0_DAMAGE : Fld := ⟨0x70054, 31, 1, .ro, 0x0, .none, 0x0, 0x0⟩
/-- R255 CRUST_TILE_W1.PAYLOAD0_LO -/
def CRUST_TILE_W1_PAYLOAD0_LO : Fld := ⟨0x70058, 0, 32, .ro, 0x0, .none, 0x0, 0x0⟩
/-- R255 CRUST_TILE_W2.PAYLOAD0_HI -/
def CRUST_TILE_W2_PAYLOAD0_HI : Fld := ⟨0x7005C, 0, 32, .ro, 0x0, .none, 0x0, 0x0⟩
/-- R255 CRUST_TILE_W3.PAYLOAD1_LO -/
def CRUST_TILE_W3_PAYLOAD1_LO : Fld := ⟨0x70060, 0, 32, .ro, 0x0, .none, 0x0, 0x0⟩
/-- R255 CRUST_TILE_W4.PAYLOAD1_HI -/
def CRUST_TILE_W4_PAYLOAD1_HI : Fld := ⟨0x70064, 0, 32, .ro, 0x0, .none, 0x0, 0x0⟩
/-- R256 CRUST_q_CTRL.ALLOC -/
def CRUST_CTRL_ALLOC : Fld := ⟨0x70100, 0, 16, .rws, 0x0, .none, 0x20, 0x0⟩
/-- R256 CRUST_q_CTRL.EN -/
def CRUST_CTRL_EN : Fld := ⟨0x70100, 16, 1, .rws, 0x0, .none, 0x20, 0x0⟩
/-- R256 CRUST_q_TILES_A.EMPTY -/
def CRUST_TILES_A_EMPTY : Fld := ⟨0x70104, 0, 16, .ro, 0x0, .none, 0x20, 0x0⟩
/-- R256 CRUST_q_TILES_A.UNIFORM -/
def CRUST_TILES_A_UNIFORM : Fld := ⟨0x70104, 16, 16, .ro, 0x0, .none, 0x20, 0x0⟩
/-- R256 CRUST_q_TILES_B.COMPRESSED -/
def CRUST_TILES_B_COMPRESSED : Fld := ⟨0x70108, 0, 16, .ro, 0x0, .none, 0x20, 0x0⟩
/-- R256 CRUST_q_TILES_B.RAW -/
def CRUST_TILES_B_RAW : Fld := ⟨0x70108, 16, 16, .ro, 0x0, .none, 0x20, 0x0⟩
/-- R256 CRUST_q_RUN.MEMBERS -/
def CRUST_RUN_MEMBERS : Fld := ⟨0x7010C, 0, 6, .ro, 0x0, .none, 0x20, 0x0⟩
/-- R256 CRUST_q_RUN.PEAK -/
def CRUST_RUN_PEAK : Fld := ⟨0x7010C, 16, 16, .ro, 0x0, .none, 0x20, 0x0⟩
/-- R257 CRUST_PIPE_n_CFG.ENTRY -/
def CRUST_PIPE_CFG_ENTRY : Fld := ⟨0x70200, 0, 8, .rw, 0x4, .warm, 0x20, 0x0⟩
/-- R257 CRUST_PIPE_n_CFG.SLOW -/
def CRUST_PIPE_CFG_SLOW : Fld := ⟨0x70200, 8, 8, .rw, 0x10, .warm, 0x20, 0x0⟩
/-- R257 CRUST_PIPE_n_CFG.SIG_SKIP -/
def CRUST_PIPE_CFG_SIG_SKIP : Fld := ⟨0x70200, 16, 1, .rw, 0x1, .warm, 0x20, 0x0⟩
/-- R257 CRUST_PIPE_n_STATUS.DISSOLVED -/
def CRUST_PIPE_STATUS_DISSOLVED : Fld := ⟨0x70204, 1, 1, .w1c, 0x0, .flr, 0x20, 0x0⟩
/-- R257 CRUST_PIPE_n_STATUS.ENTRY_PARITY -/
def CRUST_PIPE_STATUS_ENTRY_PARITY : Fld := ⟨0x70204, 2, 1, .w1c, 0x0, .flr, 0x20, 0x0⟩
/-- R257 CRUST_PIPE_n_STATUS.DATA_PARITY -/
def CRUST_PIPE_STATUS_DATA_PARITY : Fld := ⟨0x70204, 3, 1, .w1c, 0x0, .flr, 0x20, 0x0⟩
/-- R257 CRUST_PIPE_n_STATUS.DISCARDED -/
def CRUST_PIPE_STATUS_DISCARDED : Fld := ⟨0x70204, 4, 1, .w1c, 0x0, .flr, 0x20, 0x0⟩
/-- R257 CRUST_PIPE_n_STATUS.STORE_FULL -/
def CRUST_PIPE_STATUS_STORE_FULL : Fld := ⟨0x70204, 5, 1, .w1c, 0x0, .flr, 0x20, 0x0⟩
/-- R257 CRUST_PIPE_n_STATUS.ALLOC_LIMIT -/
def CRUST_PIPE_STATUS_ALLOC_LIMIT : Fld := ⟨0x70204, 6, 1, .w1c, 0x0, .flr, 0x20, 0x0⟩
/-- R257 CRUST_PIPE_n_STATUS.SLOW -/
def CRUST_PIPE_STATUS_SLOW : Fld := ⟨0x70204, 7, 1, .w1c, 0x0, .flr, 0x20, 0x0⟩
/-- R257 CRUST_PIPE_n_STATUS.READY -/
def CRUST_PIPE_STATUS_READY : Fld := ⟨0x70204, 8, 1, .ro, 0x0, .none, 0x20, 0x0⟩
/-- R257 CRUST_PIPE_n_STATUS.HOLD -/
def CRUST_PIPE_STATUS_HOLD : Fld := ⟨0x70204, 9, 1, .ro, 0x0, .none, 0x20, 0x0⟩
/-- R257 CRUST_PIPE_n_STATUS.TOO_LARGE -/
def CRUST_PIPE_STATUS_TOO_LARGE : Fld := ⟨0x70204, 10, 1, .ro, 0x0, .none, 0x20, 0x0⟩
/-- R257 CRUST_PIPE_n_STATUS.CLR_COUNTS -/
def CRUST_PIPE_STATUS_CLR_COUNTS : Fld := ⟨0x70204, 23, 1, .wo, 0x0, .none, 0x20, 0x0⟩
/-- R257 CRUST_PIPE_n_STATUS.HOLD_FRAMES -/
def CRUST_PIPE_STATUS_HOLD_FRAMES : Fld := ⟨0x70204, 24, 8, .ro, 0x0, .none, 0x20, 0x0⟩
/-- R257 CRUST_PIPE_n_COUNTS.TILES_WRITTEN -/
def CRUST_PIPE_COUNTS_TILES_WRITTEN : Fld := ⟨0x70208, 0, 16, .ro, 0x0, .flr, 0x20, 0x0⟩
/-- R257 CRUST_PIPE_n_COUNTS.TILES_SKIPPED -/
def CRUST_PIPE_COUNTS_TILES_SKIPPED : Fld := ⟨0x70208, 16, 16, .ro, 0x0, .flr, 0x20, 0x0⟩
/-- R257 CRUST_PIPE_n_VERSIONS.VERSIONS -/
def CRUST_PIPE_VERSIONS_VERSIONS : Fld := ⟨0x7020C, 0, 32, .ro, 0x0, .none, 0x20, 0x0⟩
/-- R288 FETCH_DRAM.RATE -/
def FETCH_DRAM_RATE : Fld := ⟨0x80000, 0, 2, .ro, 0x2, .none, 0x0, 0x0⟩
/-- R288 FETCH_DRAM.ECC_EN -/
def FETCH_DRAM_ECC_EN : Fld := ⟨0x80000, 2, 1, .ro, 0x0, .none, 0x0, 0x0⟩
/-- R288 FETCH_DRAM.CH_SIZE -/
def FETCH_DRAM_CH_SIZE : Fld := ⟨0x80000, 4, 2, .ro, 0x0, .none, 0x0, 0x0⟩
/-- R288 FETCH_DRAM.PAIRS_OK -/
def FETCH_DRAM_PAIRS_OK : Fld := ⟨0x80000, 24, 8, .ro, 0xFF, .none, 0x0, 0x0⟩
/-- R288 FETCH_USABLE.MIB -/
def FETCH_USABLE_MIB : Fld := ⟨0x80004, 0, 16, .ro, 0x0, .none, 0x0, 0x0⟩
/-- R288 FETCH_EFF.EFF -/
def FETCH_EFF_EFF : Fld := ⟨0x80008, 0, 14, .rwk, 0x1C20, .none, 0x0, 0x0⟩
/-- R288 FETCH_EFF.EFF_CLAMPED -/
def FETCH_EFF_EFF_CLAMPED : Fld := ⟨0x80008, 15, 1, .w1c, 0x0, .none, 0x0, 0x0⟩
/-- R288 FETCH_EFF.CEILING -/
def FETCH_EFF_CEILING : Fld := ⟨0x80008, 16, 14, .ro, 0x1C20, .none, 0x0, 0x0⟩
/-- R288 FETCH_DERATE.REF_PLAN -/
def FETCH_DERATE_REF_PLAN : Fld := ⟨0x8000C, 0, 2, .ro, 0x1, .none, 0x0, 0x0⟩
/-- R288 FETCH_DERATE.REF_NOW -/
def FETCH_DERATE_REF_NOW : Fld := ⟨0x8000C, 4, 2, .ro, 0x0, .none, 0x0, 0x0⟩
/-- R288 FETCH_DERATE.TRAIN_MS -/
def FETCH_DERATE_TRAIN_MS : Fld := ⟨0x8000C, 16, 16, .ro, 0x3E8, .none, 0x0, 0x0⟩
/-- R288 FETCH_BUDGET.MBPS -/
def FETCH_BUDGET_MBPS : Fld := ⟨0x80010, 0, 17, .ro, 0x0, .none, 0x0, 0x0⟩
/-- R288 FETCH_HEADROOM.MBPS -/
def FETCH_HEADROOM_MBPS : Fld := ⟨0x80014, 0, 17, .ro, 0x0, .none, 0x0, 0x0⟩
/-- R289 FETCH_STATUS.OUT_OF_RANGE -/
def FETCH_STATUS_OUT_OF_RANGE : Fld := ⟨0x80018, 2, 1, .w1c, 0x0, .flr, 0x0, 0x0⟩
/-- R289 FETCH_STATUS.STORE_PARITY -/
def FETCH_STATUS_STORE_PARITY : Fld := ⟨0x80018, 3, 1, .w1c, 0x0, .flr, 0x0, 0x0⟩
/-- R289 FETCH_STATUS.ECC_UE -/
def FETCH_STATUS_ECC_UE : Fld := ⟨0x80018, 4, 1, .w1c, 0x0, .flr, 0x0, 0x0⟩
/-- R289 FETCH_STATUS.CE_STORM -/
def FETCH_STATUS_CE_STORM : Fld := ⟨0x80018, 5, 1, .w1c, 0x0, .flr, 0x0, 0x0⟩
/-- R289 FETCH_STATUS.OVER_BUDGET -/
def FETCH_STATUS_OVER_BUDGET : Fld := ⟨0x80018, 6, 1, .ro, 0x0, .none, 0x0, 0x0⟩
/-- R289 FETCH_STATUS.DECL_REFUSED -/
def FETCH_STATUS_DECL_REFUSED : Fld := ⟨0x80018, 7, 1, .w1c, 0x0, .flr, 0x0, 0x0⟩
/-- R289 FETCH_STATUS.DECL_BUSY -/
def FETCH_STATUS_DECL_BUSY : Fld := ⟨0x80018, 8, 1, .w1c, 0x0, .flr, 0x0, 0x0⟩
/-- R289 FETCH_STATUS.DECL_PENDING -/
def FETCH_STATUS_DECL_PENDING : Fld := ⟨0x80018, 9, 1, .ro, 0x0, .none, 0x0, 0x0⟩
/-- R288 FETCH_SLACK_WEIGHTS.PCIE -/
def FETCH_SLACK_WEIGHTS_PCIE : Fld := ⟨0x8001C, 0, 4, .rw, 0x8, .warm, 0x0, 0x0⟩
/-- R288 FETCH_SLACK_WEIGHTS.CRUST -/
def FETCH_SLACK_WEIGHTS_CRUST : Fld := ⟨0x8001C, 4, 4, .rw, 0x4, .warm, 0x0, 0x0⟩
/-- R288 FETCH_SLACK_WEIGHTS.SCRAPER -/
def FETCH_SLACK_WEIGHTS_SCRAPER : Fld := ⟨0x8001C, 8, 4, .rw, 0x2, .warm, 0x0, 0x0⟩
/-- R288 FETCH_SLACK_WEIGHTS.DMA -/
def FETCH_SLACK_WEIGHTS_DMA : Fld := ⟨0x8001C, 12, 4, .rw, 0x2, .warm, 0x0, 0x0⟩
/-- R288 FETCH_SLACK_WEIGHTS.HEARTH -/
def FETCH_SLACK_WEIGHTS_HEARTH : Fld := ⟨0x8001C, 16, 4, .rw, 0x1, .warm, 0x0, 0x0⟩
/-- R288 FETCH_SLACK_GUARD.NS -/
def FETCH_SLACK_GUARD_NS : Fld := ⟨0x80020, 0, 12, .rw, 0x3E8, .warm, 0x0, 0x0⟩
/-- R288 FETCH_ECC_CFG.STORM -/
def FETCH_ECC_CFG_STORM : Fld := ⟨0x80024, 0, 8, .rw, 0x40, .warm, 0x0, 0x0⟩
/-- R290 FETCH_DECL_k_CTRL.MBPS -/
def FETCH_DECL_CTRL_MBPS : Fld := ⟨0x80040, 0, 17, .rw, 0x0, .flr, 0x10, 0x0⟩
/-- R290 FETCH_DECL_k_CTRL.EN -/
def FETCH_DECL_CTRL_EN : Fld := ⟨0x80040, 31, 1, .rw, 0x0, .flr, 0x10, 0x0⟩
/-- R290 FETCH_DECL_k_SIZE.UNITS -/
def FETCH_DECL_SIZE_UNITS : Fld := ⟨0x80044, 0, 20, .rw, 0x0, .flr, 0x10, 0x0⟩
/-- R290 FETCH_DECL_k_BASE.BASE -/
def FETCH_DECL_BASE_BASE : Fld := ⟨0x80048, 16, 24, .rw, 0x0, .flr, 0x10, 0x0⟩
/-- R291 FETCH_PIPE_n_NEED.BYTES -/
def FETCH_PIPE_NEED_BYTES : Fld := ⟨0x80100, 0, 20, .ro, 0x0, .none, 0x10, 0x0⟩
/-- R291 FETCH_PIPE_n_ALLOC_EFF.BYTES -/
def FETCH_PIPE_ALLOC_EFF_BYTES : Fld := ⟨0x80104, 0, 20, .ro, 0x0, .none, 0x10, 0x0⟩
/-- R291 FETCH_PIPE_n_NEED_MBPS.MBPS -/
def FETCH_PIPE_NEED_MBPS_MBPS : Fld := ⟨0x80108, 0, 17, .ro, 0x0, .none, 0x10, 0x0⟩
/-- R291 FETCH_PIPE_n_PEAK.LINE -/
def FETCH_PIPE_PEAK_LINE : Fld := ⟨0x8010C, 0, 13, .ro, 0x0, .none, 0x10, 0x0⟩
/-- R292 CH_n_STATUS.TRAINED -/
def CH_STATUS_TRAINED : Fld := ⟨0x88000, 0, 1, .ro, 0x0, .none, 0x100, 0x0⟩
/-- R292 CH_n_STATUS.FENCED -/
def CH_STATUS_FENCED : Fld := ⟨0x88000, 1, 1, .ro, 0x0, .none, 0x100, 0x0⟩
/-- R292 CH_n_STATUS.REF_MULT -/
def CH_STATUS_REF_MULT : Fld := ⟨0x88000, 4, 2, .ro, 0x0, .none, 0x100, 0x0⟩
/-- R292 CH_n_STATUS.TEMP -/
def CH_STATUS_TEMP : Fld := ⟨0x88000, 24, 8, .ro, 0x0, .none, 0x100, 0x0⟩
/-- R292 CH_n_ERRORS.CE_COUNT -/
def CH_ERRORS_CE_COUNT : Fld := ⟨0x88004, 0, 16, .ro, 0x0, .none, 0x100, 0x0⟩
/-- R292 CH_n_ERRORS.UE_COUNT -/
def CH_ERRORS_UE_COUNT : Fld := ⟨0x88004, 16, 16, .ro, 0x0, .none, 0x100, 0x0⟩
/-- R327 DP_n_CTRL.MODE -/
def DP_CTRL_MODE : Fld := ⟨0x90000, 0, 1, .rws, 0x0, .none, 0x2000, 0x0⟩
/-- R327 DP_n_CTRL.LANES -/
def DP_CTRL_LANES : Fld := ⟨0x90000, 4, 3, .rws, 0x4, .none, 0x2000, 0x0⟩
/-- R327 DP_n_CTRL.RATE -/
def DP_CTRL_RATE : Fld := ⟨0x90000, 8, 4, .rws, 0x3, .none, 0x2000, 0x0⟩
/-- R327 DP_n_CTRL.PSR_EN -/
def DP_CTRL_PSR_EN : Fld := ⟨0x90000, 12, 1, .rws, 0x0, .none, 0x2000, 0x0⟩
/-- R327 DP_n_CTRL.SU_EN -/
def DP_CTRL_SU_EN : Fld := ⟨0x90000, 13, 1, .rws, 0x0, .none, 0x2000, 0x0⟩
/-- R327 DP_n_CTRL.HDCP_EN -/
def DP_CTRL_HDCP_EN : Fld := ⟨0x90000, 16, 1, .rws, 0x0, .none, 0x2000, 0x0⟩
/-- R327 DP_n_CTRL.HDCP_TYPE -/
def DP_CTRL_HDCP_TYPE : Fld := ⟨0x90000, 17, 1, .rws, 0x0, .none, 0x2000, 0x0⟩
/-- R327 DP_n_STATUS.PLUGGED -/
def DP_STATUS_PLUGGED : Fld := ⟨0x90004, 0, 1, .ro, 0x0, .none, 0x2000, 0x0⟩
/-- R327 DP_n_STATUS.TRAINED -/
def DP_STATUS_TRAINED : Fld := ⟨0x90004, 1, 1, .ro, 0x0, .none, 0x2000, 0x0⟩
/-- R327 DP_n_STATUS.HOTPLUG -/
def DP_STATUS_HOTPLUG : Fld := ⟨0x90004, 2, 1, .w1c, 0x0, .flr, 0x2000, 0x0⟩
/-- R327 DP_n_STATUS.IRQ_HPD -/
def DP_STATUS_IRQ_HPD : Fld := ⟨0x90004, 3, 1, .w1c, 0x0, .flr, 0x2000, 0x0⟩
/-- R327 DP_n_STATUS.TRAIN_FAIL -/
def DP_STATUS_TRAIN_FAIL : Fld := ⟨0x90004, 4, 1, .w1c, 0x0, .flr, 0x2000, 0x0⟩
/-- R327 DP_n_STATUS.LINK_LOST -/
def DP_STATUS_LINK_LOST : Fld := ⟨0x90004, 5, 1, .w1c, 0x0, .flr, 0x2000, 0x0⟩
/-- R327 DP_n_STATUS.PSR_ACTIVE -/
def DP_STATUS_PSR_ACTIVE : Fld := ⟨0x90004, 6, 1, .ro, 0x0, .none, 0x2000, 0x0⟩
/-- R327 DP_n_STATUS.RETRAIN_COUNT -/
def DP_STATUS_RETRAIN_COUNT : Fld := ⟨0x90004, 16, 16, .ro, 0x0, .flr, 0x2000, 0x0⟩
/-- R327 DP_n_SINK_A.MAX_RATE -/
def DP_SINK_A_MAX_RATE : Fld := ⟨0x90008, 0, 4, .ro, 0x0, .warm, 0x2000, 0x0⟩
/-- R327 DP_n_SINK_A.MAX_LANES -/
def DP_SINK_A_MAX_LANES : Fld := ⟨0x90008, 4, 3, .ro, 0x0, .warm, 0x2000, 0x0⟩
/-- R327 DP_n_SINK_A.ASYNC -/
def DP_SINK_A_ASYNC : Fld := ⟨0x90008, 7, 1, .ro, 0x0, .warm, 0x2000, 0x0⟩
/-- R327 DP_n_SINK_A.PSR -/
def DP_SINK_A_PSR : Fld := ⟨0x90008, 8, 1, .ro, 0x0, .warm, 0x2000, 0x0⟩
/-- R327 DP_n_SINK_A.SU -/
def DP_SINK_A_SU : Fld := ⟨0x90008, 9, 1, .ro, 0x0, .warm, 0x2000, 0x0⟩
/-- R327 DP_n_SINK_A.DSC -/
def DP_SINK_A_DSC : Fld := ⟨0x90008, 10, 1, .ro, 0x0, .warm, 0x2000, 0x0⟩
/-- R327 DP_n_SINK_A.DSC_422 -/
def DP_SINK_A_DSC_422 : Fld := ⟨0x90008, 11, 1, .ro, 0x0, .warm, 0x2000, 0x0⟩
/-- R327 DP_n_SINK_A.HDCP23 -/
def DP_SINK_A_HDCP23 : Fld := ⟨0x90008, 12, 1, .ro, 0x0, .warm, 0x2000, 0x0⟩
/-- R327 DP_n_SINK_A.ASYNC_MIN_HZ -/
def DP_SINK_A_ASYNC_MIN_HZ : Fld := ⟨0x90008, 16, 8, .ro, 0x0, .warm, 0x2000, 0x0⟩
/-- R327 DP_n_SINK_B.DSC_MAX_SLICES -/
def DP_SINK_B_DSC_MAX_SLICES : Fld := ⟨0x9000C, 0, 8, .ro, 0x0, .warm, 0x2000, 0x0⟩
/-- R327 DP_n_SINK_B.DSC_MAX_BPP -/
def DP_SINK_B_DSC_MAX_BPP : Fld := ⟨0x9000C, 8, 8, .ro, 0x0, .warm, 0x2000, 0x0⟩
/-- R327 DP_n_SINK_B.SU_GRAN -/
def DP_SINK_B_SU_GRAN : Fld := ⟨0x9000C, 16, 8, .ro, 0x0, .warm, 0x2000, 0x0⟩
/-- R327 DP_n_SINK_B.EDP_RATES -/
def DP_SINK_B_EDP_RATES : Fld := ⟨0x9000C, 24, 4, .ro, 0x0, .warm, 0x2000, 0x0⟩
/-- R327 DP_n_HDCP.STATE -/
def DP_HDCP_STATE : Fld := ⟨0x90010, 0, 3, .ro, 0x0, .none, 0x2000, 0x0⟩
/-- R327 DP_n_HDCP.REPEATER -/
def DP_HDCP_REPEATER : Fld := ⟨0x90010, 3, 1, .ro, 0x0, .none, 0x2000, 0x0⟩
/-- R327 DP_n_HDCP.ENCRYPTING -/
def DP_HDCP_ENCRYPTING : Fld := ⟨0x90010, 4, 1, .ro, 0x0, .none, 0x2000, 0x0⟩
/-- R327 DP_n_HDCP.PROT_BLOCKED -/
def DP_HDCP_PROT_BLOCKED : Fld := ⟨0x90010, 5, 1, .w1c, 0x0, .flr, 0x2000, 0x0⟩
/-- R327 DP_n_HDCP.AUTH_COUNT -/
def DP_HDCP_AUTH_COUNT : Fld := ⟨0x90010, 16, 16, .ro, 0x0, .flr, 0x2000, 0x0⟩
/-- R327 DP_n_BACKLIGHT.LEVEL -/
def DP_BACKLIGHT_LEVEL : Fld := ⟨0x90014, 0, 16, .rw, 0xFFFF, .warm, 0x2000, 0x0⟩
/-- R327 DP_n_PHY_LANE_k.PREEMPH -/
def DP_PHY_LANE_PREEMPH : Fld := ⟨0x91000, 0, 2, .ro, 0x0, .none, 0x2000, 0x4⟩
/-- R327 DP_n_PHY_LANE_k.SWING -/
def DP_PHY_LANE_SWING : Fld := ⟨0x91000, 2, 2, .ro, 0x0, .none, 0x2000, 0x4⟩
/-- R328 DSI_n_CTRL.MODE -/
def DSI_CTRL_MODE : Fld := ⟨0x98000, 0, 1, .rws, 0x0, .none, 0x2000, 0x0⟩
/-- R328 DSI_n_CTRL.SYNC -/
def DSI_CTRL_SYNC : Fld := ⟨0x98000, 1, 1, .rws, 0x0, .none, 0x2000, 0x0⟩
/-- R328 DSI_n_CTRL.LANES -/
def DSI_CTRL_LANES : Fld := ⟨0x98000, 4, 3, .rws, 0x4, .none, 0x2000, 0x0⟩
/-- R328 DSI_n_CTRL.RATE_MBPS -/
def DSI_CTRL_RATE_MBPS : Fld := ⟨0x98000, 16, 13, .rws, 0x5DC, .none, 0x2000, 0x0⟩
/-- R328 DSI_n_STATUS.READY -/
def DSI_STATUS_READY : Fld := ⟨0x98004, 0, 1, .ro, 0x0, .none, 0x2000, 0x0⟩
/-- R328 DSI_n_STATUS.ERR_REPORT -/
def DSI_STATUS_ERR_REPORT : Fld := ⟨0x98004, 2, 1, .w1c, 0x0, .flr, 0x2000, 0x0⟩
/-- R328 DSI_n_STATUS.PROT_BLOCKED -/
def DSI_STATUS_PROT_BLOCKED : Fld := ⟨0x98004, 3, 1, .w1c, 0x0, .flr, 0x2000, 0x0⟩
/-- R328 DSI_n_STATUS.ERR_COUNT -/
def DSI_STATUS_ERR_COUNT : Fld := ⟨0x98004, 16, 16, .ro, 0x0, .flr, 0x2000, 0x0⟩
/-- R346 SIG_SNAP_SEL.INDEX -/
def SIG_SNAP_SEL_INDEX : Fld := ⟨0xA0000, 0, 7, .rw, 0x0, .none, 0x0, 0x0⟩
/-- R346 SIG_SNAP_SEL.KIND -/
def SIG_SNAP_SEL_KIND : Fld := ⟨0xA0000, 8, 2, .rw, 0x0, .none, 0x0, 0x0⟩
/-- R346 SIG_SNAP_SEL.VALID -/
def SIG_SNAP_SEL_VALID : Fld := ⟨0xA0000, 31, 1, .ro, 0x0, .none, 0x0, 0x0⟩
/-- R346 SIG_SNAP_k_VALUE.VALUE -/
def SIG_SNAP_VALUE_VALUE : Fld := ⟨0xA0010, 0, 32, .ro, 0x0, .none, 0x10, 0x0⟩
/-- R346 SIG_SNAP_k_COUNT.COUNT -/
def SIG_SNAP_COUNT_COUNT : Fld := ⟨0xA0014, 0, 32, .ro, 0x0, .none, 0x10, 0x0⟩
/-- R346 SIG_SNAP_k_FLAGS.CAUSE -/
def SIG_SNAP_FLAGS_CAUSE : Fld := ⟨0xA0018, 0, 7, .ro, 0x0, .none, 0x10, 0x0⟩
/-- R346 SIG_SNAP_k_FLAGS.NOT_SENT -/
def SIG_SNAP_FLAGS_NOT_SENT : Fld := ⟨0xA0018, 9, 1, .ro, 0x0, .none, 0x10, 0x0⟩
/-- R346 SIG_SNAP_k_FLAGS.EMPTY -/
def SIG_SNAP_FLAGS_EMPTY : Fld := ⟨0xA0018, 10, 1, .ro, 0x0, .none, 0x10, 0x0⟩
/-- R346 SIG_SNAP_k_FLAGS.PROT_BLACK -/
def SIG_SNAP_FLAGS_PROT_BLACK : Fld := ⟨0xA0018, 11, 1, .ro, 0x0, .none, 0x10, 0x0⟩
/-- R346 SIG_SNAP_k_FLAGS.BLANKED -/
def SIG_SNAP_FLAGS_BLANKED : Fld := ⟨0xA0018, 12, 1, .ro, 0x0, .none, 0x10, 0x0⟩
/-- R346 SIG_SNAP_k_FLAGS.REPLAY -/
def SIG_SNAP_FLAGS_REPLAY : Fld := ⟨0xA0018, 13, 1, .ro, 0x0, .none, 0x10, 0x0⟩
/-- R346 SIG_SNAP_k_FLAGS.TORN -/
def SIG_SNAP_FLAGS_TORN : Fld := ⟨0xA0018, 14, 1, .ro, 0x0, .none, 0x10, 0x0⟩
/-- R346 SIG_SNAP_k_FLAGS.INVALID -/
def SIG_SNAP_FLAGS_INVALID : Fld := ⟨0xA0018, 15, 1, .ro, 0x0, .none, 0x10, 0x0⟩
/-- R346 SIG_SNAP_k_FLAGS.PRESENT -/
def SIG_SNAP_FLAGS_PRESENT : Fld := ⟨0xA0018, 31, 1, .ro, 0x0, .none, 0x10, 0x0⟩
/-- R347 SIG_PIPE_n_CFG.OUT_STALE_FRAMES -/
def SIG_PIPE_CFG_OUT_STALE_FRAMES : Fld := ⟨0xA0100, 0, 8, .rw, 0x32, .warm, 0x10, 0x0⟩
/-- R347 SIG_PIPE_n_STATUS.OUTPUT_STALE -/
def SIG_PIPE_STATUS_OUTPUT_STALE : Fld := ⟨0xA0104, 0, 1, .w1c, 0x0, .flr, 0x10, 0x0⟩
/-- R347 SIG_PIPE_n_STATUS.OUTPUT_STALE_ACTIVE -/
def SIG_PIPE_STATUS_OUTPUT_STALE_ACTIVE : Fld := ⟨0xA0104, 2, 1, .ro, 0x0, .none, 0x10, 0x0⟩
/-- R347 SIG_PIPE_n_STATUS.CLR_COUNTS -/
def SIG_PIPE_STATUS_CLR_COUNTS : Fld := ⟨0xA0104, 8, 1, .wo, 0x0, .none, 0x10, 0x0⟩
/-- R347 SIG_PIPE_n_STATUS.OUT_RUN -/
def SIG_PIPE_STATUS_OUT_RUN : Fld := ⟨0xA0104, 16, 16, .ro, 0x0, .none, 0x10, 0x0⟩
/-- R347 SIG_PIPE_n_COUNTS.TORN_FRAMES -/
def SIG_PIPE_COUNTS_TORN_FRAMES : Fld := ⟨0xA0108, 0, 16, .ro, 0x0, .flr, 0x10, 0x0⟩
/-- R347 SIG_PIPE_n_COUNTS.INVALID_FRAMES -/
def SIG_PIPE_COUNTS_INVALID_FRAMES : Fld := ⟨0xA0108, 16, 16, .ro, 0x0, .flr, 0x10, 0x0⟩
/-- R348 SIG_VL_v_CFG.STALE_FRAMES -/
def SIG_VL_CFG_STALE_FRAMES : Fld := ⟨0xA0400, 0, 8, .rw, 0x19, .warm, 0x10, 0x0⟩
/-- R348 SIG_VL_v_CFG.BLACK_LEVEL -/
def SIG_VL_CFG_BLACK_LEVEL : Fld := ⟨0xA0400, 12, 12, .rw, 0x140, .warm, 0x10, 0x0⟩
/-- R348 SIG_VL_v_CFG.BLACK_FRAMES -/
def SIG_VL_CFG_BLACK_FRAMES : Fld := ⟨0xA0400, 24, 8, .rw, 0x1E, .warm, 0x10, 0x0⟩
/-- R348 SIG_VL_v_STATUS.STALE -/
def SIG_VL_STATUS_STALE : Fld := ⟨0xA0404, 0, 1, .w1c, 0x0, .flr, 0x10, 0x0⟩
/-- R348 SIG_VL_v_STATUS.BLACK -/
def SIG_VL_STATUS_BLACK : Fld := ⟨0xA0404, 1, 1, .w1c, 0x0, .flr, 0x10, 0x0⟩
/-- R348 SIG_VL_v_STATUS.STALE_ACTIVE -/
def SIG_VL_STATUS_STALE_ACTIVE : Fld := ⟨0xA0404, 2, 1, .ro, 0x0, .none, 0x10, 0x0⟩
/-- R348 SIG_VL_v_STATUS.BLACK_ACTIVE -/
def SIG_VL_STATUS_BLACK_ACTIVE : Fld := ⟨0xA0404, 3, 1, .ro, 0x0, .none, 0x10, 0x0⟩
/-- R348 SIG_VL_v_STATUS.BLACK_RUN -/
def SIG_VL_STATUS_BLACK_RUN : Fld := ⟨0xA0404, 16, 8, .ro, 0x0, .none, 0x10, 0x0⟩
/-- R348 SIG_VL_v_STATUS.STALE_RUN -/
def SIG_VL_STATUS_STALE_RUN : Fld := ⟨0xA0404, 24, 8, .ro, 0x0, .none, 0x10, 0x0⟩
/-- R348 SIG_VL_v_LUMA.MEAN -/
def SIG_VL_LUMA_MEAN : Fld := ⟨0xA0408, 0, 12, .ro, 0x0, .none, 0x10, 0x0⟩
/-- R376 SCRAPER_CFG.SQ3_SERVICE -/
def SCRAPER_CFG_SQ3_SERVICE : Fld := ⟨0xB0000, 0, 1, .ro, 0x0, .warm, 0x0, 0x0⟩
/-- R376 SCRAPER_STATUS.QUEUE_OWNED -/
def SCRAPER_STATUS_QUEUE_OWNED : Fld := ⟨0xB0004, 0, 1, .w1c, 0x0, .none, 0x0, 0x0⟩
/-- R376 SCRAPER_BEAM_p.COUNT -/
def SCRAPER_BEAM_COUNT : Fld := ⟨0xB0010, 0, 16, .ro, 0x0, .flr, 0x4, 0x0⟩
/-- R376 SCRAPER_BEAM_p.SLOT -/
def SCRAPER_BEAM_SLOT : Fld := ⟨0xB0010, 16, 10, .ro, 0x0, .flr, 0x4, 0x0⟩
/-- R376 SCRAPER_BEAM_p.QUEUE -/
def SCRAPER_BEAM_QUEUE : Fld := ⟨0xB0010, 26, 2, .ro, 0x0, .flr, 0x4, 0x0⟩
/-- R376 SCRAPER_BEAM_p.OVERTAKE -/
def SCRAPER_BEAM_OVERTAKE : Fld := ⟨0xB0010, 31, 1, .w1c, 0x0, .flr, 0x4, 0x0⟩
/-- R377 SQ_q_CTRL.WM_VECTOR -/
def SQ_CTRL_WM_VECTOR : Fld := ⟨0xB0100, 8, 6, .rw, 0x0, .none, 0x40, 0x0⟩
/-- R377 SQ_q_CTRL.DONE_VECTOR -/
def SQ_CTRL_DONE_VECTOR : Fld := ⟨0xB0100, 16, 6, .rw, 0x0, .none, 0x40, 0x0⟩
/-- R377 SQ_q_CTRL.PRIO -/
def SQ_CTRL_PRIO : Fld := ⟨0xB0100, 28, 2, .rw, 0x0, .none, 0x40, 0x0⟩
/-- R377 SQ_q_CTRL.STOP_ON_ERR -/
def SQ_CTRL_STOP_ON_ERR : Fld := ⟨0xB0100, 30, 1, .rw, 0x1, .none, 0x40, 0x0⟩
/-- R377 SQ_q_CTRL.EN -/
def SQ_CTRL_EN : Fld := ⟨0xB0100, 31, 1, .rw, 0x0, .none, 0x40, 0x0⟩
/-- R377 SQ_q_BASE.BASE -/
def SQ_BASE_BASE : Fld := ⟨0xB0108, 16, 24, .rw, 0x0, .none, 0x40, 0x0⟩
/-- R377 SQ_q_CPL_BASE.BASE -/
def SQ_CPL_BASE_BASE : Fld := ⟨0xB0110, 14, 26, .rw, 0x0, .none, 0x40, 0x0⟩
/-- R377 SQ_q_TAIL.TAIL -/
def SQ_TAIL_TAIL : Fld := ⟨0xB0118, 0, 11, .rw, 0x0, .none, 0x40, 0x0⟩
/-- R377 SQ_q_HEAD.HEAD -/
def SQ_HEAD_HEAD : Fld := ⟨0xB011C, 0, 11, .ro, 0x0, .none, 0x40, 0x0⟩
/-- R378 SQ_q_STATUS.RUNNING -/
def SQ_STATUS_RUNNING : Fld := ⟨0xB0120, 0, 1, .ro, 0x0, .none, 0x40, 0x0⟩
/-- R378 SQ_q_STATUS.IDLE -/
def SQ_STATUS_IDLE : Fld := ⟨0xB0120, 1, 1, .ro, 0x1, .none, 0x40, 0x0⟩
/-- R378 SQ_q_STATUS.STOPPED -/
def SQ_STATUS_STOPPED : Fld := ⟨0xB0120, 2, 1, .w1c, 0x0, .none, 0x40, 0x0⟩
/-- R378 SQ_q_STATUS.OVERLAP_ORDER -/
def SQ_STATUS_OVERLAP_ORDER : Fld := ⟨0xB0120, 3, 1, .w1c, 0x0, .none, 0x40, 0x0⟩
/-- R378 SQ_q_STATUS.ERR -/
def SQ_STATUS_ERR : Fld := ⟨0xB0120, 4, 1, .w1c, 0x0, .none, 0x40, 0x0⟩
/-- R378 SQ_q_STATUS.CFG_BAD -/
def SQ_STATUS_CFG_BAD : Fld := ⟨0xB0120, 5, 1, .w1c, 0x0, .none, 0x40, 0x0⟩
/-- R378 SQ_q_STATUS.TAIL_BAD -/
def SQ_STATUS_TAIL_BAD : Fld := ⟨0xB0120, 6, 1, .w1c, 0x0, .none, 0x40, 0x0⟩
/-- R378 SQ_q_STATUS.LAST_RESULT -/
def SQ_STATUS_LAST_RESULT : Fld := ⟨0xB0120, 8, 8, .ro, 0x0, .none, 0x40, 0x0⟩
/-- R378 SQ_q_STATUS.ERR_COUNT -/
def SQ_STATUS_ERR_COUNT : Fld := ⟨0xB0120, 16, 16, .ro, 0x0, .none, 0x40, 0x0⟩
/-- R378 SQ_q_DONE_LINE.DONE_LINE -/
def SQ_DONE_LINE_DONE_LINE : Fld := ⟨0xB0124, 0, 14, .ro, 0x0, .none, 0x40, 0x0⟩
/-- R378 SQ_q_DONE_LINE.SLOT -/
def SQ_DONE_LINE_SLOT : Fld := ⟨0xB0124, 16, 10, .ro, 0x0, .none, 0x40, 0x0⟩
/-- R378 SQ_q_DONE_LINE.ACTIVE -/
def SQ_DONE_LINE_ACTIVE : Fld := ⟨0xB0124, 31, 1, .ro, 0x0, .none, 0x40, 0x0⟩
/-- R378 SQ_q_JOBS.JOBS -/
def SQ_JOBS_JOBS : Fld := ⟨0xB0128, 0, 32, .ro, 0x0, .none, 0x40, 0x0⟩
/-- R392 DMA_ENGINE_CTRL.HALT_VECTOR -/
def DMA_ENGINE_CTRL_HALT_VECTOR : Fld := ⟨0xC0000, 0, 6, .rw, 0x0, .none, 0x0, 0x0⟩
/-- R392 DMA_ENGINE_CTRL.CLEAR_HALT -/
def DMA_ENGINE_CTRL_CLEAR_HALT : Fld := ⟨0xC0000, 31, 1, .wo, 0x0, .none, 0x0, 0x0⟩
/-- R392 DMA_ENGINE_STATUS.HALT_COUNT -/
def DMA_ENGINE_STATUS_HALT_COUNT : Fld := ⟨0xC0004, 0, 16, .ro, 0x0, .none, 0x0, 0x0⟩
/-- R392 DMA_ENGINE_STATUS.CAUSE -/
def DMA_ENGINE_STATUS_CAUSE : Fld := ⟨0xC0004, 16, 8, .ro, 0x0, .none, 0x0, 0x0⟩
/-- R392 DMA_ENGINE_STATUS.CLEAR_EARLY -/
def DMA_ENGINE_STATUS_CLEAR_EARLY : Fld := ⟨0xC0004, 27, 1, .w1c, 0x0, .none, 0x0, 0x0⟩
/-- R392 DMA_ENGINE_STATUS.WRITE -/
def DMA_ENGINE_STATUS_WRITE : Fld := ⟨0xC0004, 28, 1, .ro, 0x0, .none, 0x0, 0x0⟩
/-- R392 DMA_ENGINE_STATUS.SPACE -/
def DMA_ENGINE_STATUS_SPACE : Fld := ⟨0xC0004, 29, 1, .ro, 0x0, .none, 0x0, 0x0⟩
/-- R392 DMA_ENGINE_STATUS.SETTLED -/
def DMA_ENGINE_STATUS_SETTLED : Fld := ⟨0xC0004, 30, 1, .ro, 0x0, .none, 0x0, 0x0⟩
/-- R392 DMA_ENGINE_STATUS.HALT -/
def DMA_ENGINE_STATUS_HALT : Fld := ⟨0xC0004, 31, 1, .ro, 0x0, .none, 0x0, 0x0⟩
/-- R392 DMA_HALT_ADDR.ADDR -/
def DMA_HALT_ADDR_ADDR : Fld := ⟨0xC0008, 0, 64, .ro, 0x0, .none, 0x0, 0x0⟩
/-- R392 DMA_ENGINE_ACTIVE.RUNNING -/
def DMA_ENGINE_ACTIVE_RUNNING : Fld := ⟨0xC0010, 0, 16, .ro, 0x0, .none, 0x0, 0x0⟩
/-- R392 DMA_ENGINE_ACTIVE.HALTED -/
def DMA_ENGINE_ACTIVE_HALTED : Fld := ⟨0xC0010, 16, 16, .ro, 0x0, .none, 0x0, 0x0⟩
/-- R393 DMA_CH_n_CTRL.VECTOR -/
def DMA_CH_CTRL_VECTOR : Fld := ⟨0xC0100, 16, 6, .rw, 0x0, .none, 0x40, 0x0⟩
/-- R393 DMA_CH_n_CTRL.PRIO -/
def DMA_CH_CTRL_PRIO : Fld := ⟨0xC0100, 30, 2, .rw, 0x0, .none, 0x40, 0x0⟩
/-- R393 DMA_CH_n_DESC.ADDR -/
def DMA_CH_DESC_ADDR : Fld := ⟨0xC0108, 6, 34, .rw, 0x0, .none, 0x40, 0x0⟩
/-- R393 DMA_CH_n_GO.RESUME -/
def DMA_CH_GO_RESUME : Fld := ⟨0xC0110, 30, 1, .wo, 0x0, .none, 0x40, 0x0⟩
/-- R393 DMA_CH_n_GO.GO -/
def DMA_CH_GO_GO : Fld := ⟨0xC0110, 31, 1, .wo, 0x0, .none, 0x40, 0x0⟩
/-- R393 DMA_CH_n_STATUS.STATE -/
def DMA_CH_STATUS_STATE : Fld := ⟨0xC0114, 0, 3, .ro, 0x0, .none, 0x40, 0x0⟩
/-- R393 DMA_CH_n_STATUS.ERR -/
def DMA_CH_STATUS_ERR : Fld := ⟨0xC0114, 5, 1, .w1c, 0x0, .none, 0x40, 0x0⟩
/-- R393 DMA_CH_n_STATUS.CFG_BUSY -/
def DMA_CH_STATUS_CFG_BUSY : Fld := ⟨0xC0114, 6, 1, .w1c, 0x0, .none, 0x40, 0x0⟩
/-- R393 DMA_CH_n_STATUS.GO_REFUSED -/
def DMA_CH_STATUS_GO_REFUSED : Fld := ⟨0xC0114, 7, 1, .w1c, 0x0, .none, 0x40, 0x0⟩
/-- R393 DMA_CH_n_STATUS.LAST_RESULT -/
def DMA_CH_STATUS_LAST_RESULT : Fld := ⟨0xC0114, 24, 8, .ro, 0x0, .none, 0x40, 0x0⟩
/-- R393 DMA_CH_n_CUR.ADDR -/
def DMA_CH_CUR_ADDR : Fld := ⟨0xC0118, 6, 34, .ro, 0x0, .none, 0x40, 0x0⟩
/-- R393 DMA_CH_n_BYTES.BYTES -/
def DMA_CH_BYTES_BYTES : Fld := ⟨0xC0120, 0, 32, .ro, 0x0, .none, 0x40, 0x0⟩
/-- R393 DMA_CH_n_COUNT.COUNT -/
def DMA_CH_COUNT_COUNT : Fld := ⟨0xC0124, 0, 32, .ro, 0x0, .none, 0x40, 0x0⟩
/-- R402 CHK_STATUS.UNIT_OWNED -/
def CHK_STATUS_UNIT_OWNED : Fld := ⟨0xD0000, 0, 1, .w1c, 0x0, .none, 0x0, 0x0⟩
/-- R402 CHK_STATUS.BAD_ALG -/
def CHK_STATUS_BAD_ALG : Fld := ⟨0xD0000, 1, 1, .w1c, 0x0, .none, 0x0, 0x0⟩
/-- R402 CHK_n_CTRL.ALG -/
def CHK_CTRL_ALG : Fld := ⟨0xD0100, 0, 3, .rw, 0x2, .none, 0x40, 0x0⟩
/-- R402 CHK_n_CTRL.INIT -/
def CHK_CTRL_INIT : Fld := ⟨0xD0100, 31, 1, .wo, 0x0, .none, 0x40, 0x0⟩
/-- R402 CHK_n_FEED8.DATA -/
def CHK_FEED8_DATA : Fld := ⟨0xD0104, 0, 32, .wo, 0x0, .none, 0x40, 0x0⟩
/-- R402 CHK_n_FEED16.DATA -/
def CHK_FEED16_DATA : Fld := ⟨0xD0108, 0, 32, .wo, 0x0, .none, 0x40, 0x0⟩
/-- R402 CHK_n_FEED32.DATA -/
def CHK_FEED32_DATA : Fld := ⟨0xD010C, 0, 32, .wo, 0x0, .none, 0x40, 0x0⟩
/-- R402 CHK_n_STATE.STATE -/
def CHK_STATE_STATE : Fld := ⟨0xD0110, 0, 32, .rw, 0xFFFFFFFF, .none, 0x40, 0x0⟩
/-- R402 CHK_n_AUX.BYTE -/
def CHK_AUX_BYTE : Fld := ⟨0xD0114, 0, 8, .rw, 0x0, .none, 0x40, 0x0⟩
/-- R402 CHK_n_AUX.PENDING -/
def CHK_AUX_PENDING : Fld := ⟨0xD0114, 8, 1, .rw, 0x0, .none, 0x40, 0x0⟩
/-- R402 CHK_n_RESULT.RESULT -/
def CHK_RESULT_RESULT : Fld := ⟨0xD0118, 0, 32, .ro, 0x0, .none, 0x40, 0x0⟩
/-- R402 CHK_n_COUNT.COUNT -/
def CHK_COUNT_COUNT : Fld := ⟨0xD011C, 0, 32, .rw, 0x0, .none, 0x40, 0x0⟩
/-- R156 SURF_STAGE_0.BASE0_LO -/
def SURF_STAGE_0_BASE0_LO : Fld := ⟨0xE0000, 0, 32, .rw, 0x0, .none, 0x0, 0x0⟩
/-- R156 SURF_STAGE_1.BASE1_LO -/
def SURF_STAGE_1_BASE1_LO : Fld := ⟨0xE0004, 0, 32, .rw, 0x0, .none, 0x0, 0x0⟩
/-- R156 SURF_STAGE_2.BASE2_LO -/
def SURF_STAGE_2_BASE2_LO : Fld := ⟨0xE0008, 0, 32, .rw, 0x0, .none, 0x0, 0x0⟩
/-- R156 SURF_STAGE_3.BASE0_HI -/
def SURF_STAGE_3_BASE0_HI : Fld := ⟨0xE000C, 0, 8, .rw, 0x0, .none, 0x0, 0x0⟩
/-- R156 SURF_STAGE_3.BASE1_HI -/
def SURF_STAGE_3_BASE1_HI : Fld := ⟨0xE000C, 8, 8, .rw, 0x0, .none, 0x0, 0x0⟩
/-- R156 SURF_STAGE_3.BASE2_HI -/
def SURF_STAGE_3_BASE2_HI : Fld := ⟨0xE000C, 16, 8, .rw, 0x0, .none, 0x0, 0x0⟩
/-- R156 SURF_STAGE_3.FORMAT -/
def SURF_STAGE_3_FORMAT : Fld := ⟨0xE000C, 24, 5, .rw, 0x0, .none, 0x0, 0x0⟩
/-- R156 SURF_STAGE_4.WIDTH -/
def SURF_STAGE_4_WIDTH : Fld := ⟨0xE0010, 0, 14, .rw, 0x0, .none, 0x0, 0x0⟩
/-- R156 SURF_STAGE_4.HEIGHT -/
def SURF_STAGE_4_HEIGHT : Fld := ⟨0xE0010, 16, 14, .rw, 0x0, .none, 0x0, 0x0⟩
/-- R156 SURF_STAGE_5.PITCH0 -/
def SURF_STAGE_5_PITCH0 : Fld := ⟨0xE0014, 0, 12, .rw, 0x0, .none, 0x0, 0x0⟩
/-- R156 SURF_STAGE_5.PITCH1 -/
def SURF_STAGE_5_PITCH1 : Fld := ⟨0xE0014, 12, 12, .rw, 0x0, .none, 0x0, 0x0⟩
/-- R156 SURF_STAGE_6.PITCH2 -/
def SURF_STAGE_6_PITCH2 : Fld := ⟨0xE0018, 0, 12, .rw, 0x0, .none, 0x0, 0x0⟩
/-- R156 SURF_STAGE_6.RETIRE_FID -/
def SURF_STAGE_6_RETIRE_FID : Fld := ⟨0xE0018, 16, 12, .rw, 0x0, .none, 0x0, 0x0⟩
/-- R156 SURF_STAGE_6.RETIRE_EN -/
def SURF_STAGE_6_RETIRE_EN : Fld := ⟨0xE0018, 28, 1, .rw, 0x0, .none, 0x0, 0x0⟩
/-- R156 SURF_STAGE_7.STATE -/
def SURF_STAGE_7_STATE : Fld := ⟨0xE001C, 0, 2, .rw, 0x0, .none, 0x0, 0x0⟩
/-- R156 SURF_STAGE_7.GUARD -/
def SURF_STAGE_7_GUARD : Fld := ⟨0xE001C, 2, 1, .rw, 0x0, .none, 0x0, 0x0⟩
/-- R156 SURF_STAGE_7.PROTECTED -/
def SURF_STAGE_7_PROTECTED : Fld := ⟨0xE001C, 3, 1, .rw, 0x0, .none, 0x0, 0x0⟩
/-- R156 SURF_STAGE_7.CHECK_MODE -/
def SURF_STAGE_7_CHECK_MODE : Fld := ⟨0xE001C, 4, 2, .rw, 0x0, .none, 0x0, 0x0⟩
/-- R156 SURF_STAGE_7.SEALING -/
def SURF_STAGE_7_SEALING : Fld := ⟨0xE001C, 6, 1, .rw, 0x0, .none, 0x0, 0x0⟩
/-- R156 SURF_STAGE_7.TORN_COUNT -/
def SURF_STAGE_7_TORN_COUNT : Fld := ⟨0xE001C, 16, 16, .rw, 0x0, .none, 0x0, 0x0⟩
/-- R156 SURF_CMD.SID -/
def SURF_CMD_SID : Fld := ⟨0xE0020, 0, 14, .wo, 0x0, .none, 0x0, 0x0⟩
/-- R156 SURF_CMD.ALLOC -/
def SURF_CMD_ALLOC : Fld := ⟨0xE0020, 16, 1, .wo, 0x0, .none, 0x0, 0x0⟩
/-- R156 SURF_CMD.OP -/
def SURF_CMD_OP : Fld := ⟨0xE0020, 28, 4, .wo, 0x0, .none, 0x0, 0x0⟩
/-- R156 SURF_RESULT.SID -/
def SURF_RESULT_SID : Fld := ⟨0xE0024, 0, 14, .ro, 0x0, .none, 0x0, 0x0⟩
/-- R156 SURF_RESULT.DONE -/
def SURF_RESULT_DONE : Fld := ⟨0xE0024, 16, 1, .ro, 0x0, .none, 0x0, 0x0⟩
/-- R156 SURF_RESULT.CODE -/
def SURF_RESULT_CODE : Fld := ⟨0xE0024, 24, 8, .ro, 0x0, .none, 0x0, 0x0⟩
/-- R156 SURF_OCCUPANCY.COUNT -/
def SURF_OCCUPANCY_COUNT : Fld := ⟨0xE0028, 0, 16, .ro, 0x0, .flr, 0x0, 0x0⟩
/-- R156 SURF_OCCUPANCY.HIGH_WATER -/
def SURF_OCCUPANCY_HIGH_WATER : Fld := ⟨0xE0028, 16, 16, .ro, 0x0, .flr, 0x0, 0x0⟩
/-- R157 SURF_STATUS.TABLE_HIGH -/
def SURF_STATUS_TABLE_HIGH : Fld := ⟨0xE002C, 0, 1, .ro, 0x0, .flr, 0x0, 0x0⟩
/-- R157 SURF_STATUS.FULL_SEEN -/
def SURF_STATUS_FULL_SEEN : Fld := ⟨0xE002C, 2, 1, .w1c, 0x0, .flr, 0x0, 0x0⟩
/-- R157 SURF_STATUS.TORN -/
def SURF_STATUS_TORN : Fld := ⟨0xE002C, 3, 1, .w1c, 0x0, .flr, 0x0, 0x0⟩
/-- R157 SURF_STATUS.PROT_READ -/
def SURF_STATUS_PROT_READ : Fld := ⟨0xE002C, 4, 1, .w1c, 0x0, .flr, 0x0, 0x0⟩
/-- R157 SURF_STATUS.PROT_COPY -/
def SURF_STATUS_PROT_COPY : Fld := ⟨0xE002C, 5, 1, .w1c, 0x0, .flr, 0x0, 0x0⟩
/-- R157 SURF_STATUS.DESC_FIXED -/
def SURF_STATUS_DESC_FIXED : Fld := ⟨0xE002C, 6, 1, .w1c, 0x0, .flr, 0x0, 0x0⟩
/-- R157 SURF_STATUS.DESC_LOST -/
def SURF_STATUS_DESC_LOST : Fld := ⟨0xE002C, 7, 1, .w1c, 0x0, .flr, 0x0, 0x0⟩
/-- R157 SURF_STATUS.SEAL_FAIL -/
def SURF_STATUS_SEAL_FAIL : Fld := ⟨0xE002C, 8, 1, .w1c, 0x0, .flr, 0x0, 0x0⟩
/-- R157 SURF_STATUS.CMD_BUSY -/
def SURF_STATUS_CMD_BUSY : Fld := ⟨0xE002C, 9, 1, .w1c, 0x0, .flr, 0x0, 0x0⟩
/-- R157 SURF_TORN.SID -/
def SURF_TORN_SID : Fld := ⟨0xE0030, 0, 14, .ro, 0x0, .flr, 0x0, 0x0⟩
/-- R157 SURF_TORN.PIPE -/
def SURF_TORN_PIPE : Fld := ⟨0xE0030, 16, 4, .w1c, 0x0, .flr, 0x0, 0x0⟩
/-- R157 SURF_ERR_SID.SID -/
def SURF_ERR_SID_SID : Fld := ⟨0xE0034, 0, 14, .ro, 0x0, .flr, 0x0, 0x0⟩
/-- R157 SURF_ERR_SID.VALID -/
def SURF_ERR_SID_VALID : Fld := ⟨0xE0034, 31, 1, .w1c, 0x0, .flr, 0x0, 0x0⟩
/-- R156 SURF_SEAL.SID -/
def SURF_SEAL_SID : Fld := ⟨0xE0038, 0, 14, .ro, 0x0, .flr, 0x0, 0x0⟩
/-- R156 SURF_SEAL.DONE -/
def SURF_SEAL_DONE : Fld := ⟨0xE0038, 16, 1, .ro, 0x0, .flr, 0x0, 0x0⟩
/-- R156 SURF_SEAL.BUSY -/
def SURF_SEAL_BUSY : Fld := ⟨0xE0038, 17, 1, .ro, 0x0, .flr, 0x0, 0x0⟩
/-- R156 SURF_SEAL.CODE -/
def SURF_SEAL_CODE : Fld := ⟨0xE0038, 24, 8, .ro, 0x0, .flr, 0x0, 0x0⟩
/-- R158 FENCE_CMD.FID -/
def FENCE_CMD_FID : Fld := ⟨0xE0040, 0, 12, .wo, 0x0, .none, 0x0, 0x0⟩
/-- R158 FENCE_CMD.ALLOC_ANY -/
def FENCE_CMD_ALLOC_ANY : Fld := ⟨0xE0040, 16, 1, .wo, 0x0, .none, 0x0, 0x0⟩
/-- R158 FENCE_CMD.OP -/
def FENCE_CMD_OP : Fld := ⟨0xE0040, 28, 4, .wo, 0x0, .none, 0x0, 0x0⟩
/-- R158 FENCE_RESULT.FID -/
def FENCE_RESULT_FID : Fld := ⟨0xE0044, 0, 12, .ro, 0x0, .none, 0x0, 0x0⟩
/-- R158 FENCE_RESULT.DONE -/
def FENCE_RESULT_DONE : Fld := ⟨0xE0044, 16, 1, .ro, 0x0, .none, 0x0, 0x0⟩
/-- R158 FENCE_RESULT.CODE -/
def FENCE_RESULT_CODE : Fld := ⟨0xE0044, 24, 8, .ro, 0x0, .none, 0x0, 0x0⟩
/-- R158 FENCE_INIT.VALUE -/
def FENCE_INIT_VALUE : Fld := ⟨0xE0048, 0, 64, .rw, 0x0, .none, 0x0, 0x0⟩
/-- R158 FENCE_OCCUPANCY.COUNT -/
def FENCE_OCCUPANCY_COUNT : Fld := ⟨0xE0050, 0, 16, .ro, 0x0, .flr, 0x0, 0x0⟩
/-- R158 FENCE_OCCUPANCY.HIGH_WATER -/
def FENCE_OCCUPANCY_HIGH_WATER : Fld := ⟨0xE0050, 16, 16, .ro, 0x0, .flr, 0x0, 0x0⟩
/-- R158 FENCE_STATUS.TABLE_HIGH -/
def FENCE_STATUS_TABLE_HIGH : Fld := ⟨0xE0054, 0, 1, .ro, 0x0, .flr, 0x0, 0x0⟩
/-- R158 FENCE_STATUS.FULL_SEEN -/
def FENCE_STATUS_FULL_SEEN : Fld := ⟨0xE0054, 2, 1, .w1c, 0x0, .flr, 0x0, 0x0⟩
/-- R158 FENCE_STATUS.BACKWARD -/
def FENCE_STATUS_BACKWARD : Fld := ⟨0xE0054, 3, 1, .w1c, 0x0, .flr, 0x0, 0x0⟩
/-- R158 FENCE_STATUS.DOORBELL_FREE -/
def FENCE_STATUS_DOORBELL_FREE : Fld := ⟨0xE0054, 4, 1, .w1c, 0x0, .flr, 0x0, 0x0⟩
/-- R158 FENCE_STATUS.SIGNAL_FREE -/
def FENCE_STATUS_SIGNAL_FREE : Fld := ⟨0xE0054, 5, 1, .w1c, 0x0, .flr, 0x0, 0x0⟩
/-- R158 FENCE_STATUS.ECC_FIXED -/
def FENCE_STATUS_ECC_FIXED : Fld := ⟨0xE0054, 6, 1, .w1c, 0x0, .flr, 0x0, 0x0⟩
/-- R158 FENCE_STATUS.ECC_LOST -/
def FENCE_STATUS_ECC_LOST : Fld := ⟨0xE0054, 7, 1, .w1c, 0x0, .flr, 0x0, 0x0⟩
/-- R158 FENCE_ERR_FID.FID -/
def FENCE_ERR_FID_FID : Fld := ⟨0xE0058, 0, 12, .ro, 0x0, .flr, 0x0, 0x0⟩
/-- R158 FENCE_ERR_FID.VALID -/
def FENCE_ERR_FID_VALID : Fld := ⟨0xE0058, 31, 1, .w1c, 0x0, .flr, 0x0, 0x0⟩
/-- R158 FENCE_WATCH_k_CTRL.FID -/
def FENCE_WATCH_CTRL_FID : Fld := ⟨0xE0100, 0, 12, .rw, 0x0, .none, 0x10, 0x0⟩
/-- R158 FENCE_WATCH_k_CTRL.VECTOR -/
def FENCE_WATCH_CTRL_VECTOR : Fld := ⟨0xE0100, 16, 6, .rw, 0x0, .none, 0x10, 0x0⟩
/-- R158 FENCE_WATCH_k_CTRL.EN -/
def FENCE_WATCH_CTRL_EN : Fld := ⟨0xE0100, 31, 1, .rw, 0x0, .none, 0x10, 0x0⟩
/-- R158 FENCE_WATCH_k_THRESHOLD.VALUE -/
def FENCE_WATCH_THRESHOLD_VALUE : Fld := ⟨0xE0108, 0, 64, .rw, 0x0, .none, 0x10, 0x0⟩
/-- R158 FENCE_WATCH_HIT.HIT -/
def FENCE_WATCH_HIT_HIT : Fld := ⟨0xE0200, 0, 16, .w1c, 0x0, .none, 0x0, 0x0⟩
/-- R158 FENCE_DB_f.VALUE -/
def FENCE_DB_VALUE : Fld := ⟨0xE8000, 0, 64, .rw, 0x0, .flr, 0x8, 0x0⟩
/-- R495 POWER_WAKE.WAKE_N -/
def POWER_WAKE_WAKE_N : Fld := ⟨0xF0000, 0, 1, .rwp, 0x1, .deep, 0x0, 0x0⟩
/-- R495 POWER_WAKE.HPD -/
def POWER_WAKE_HPD : Fld := ⟨0xF0000, 1, 4, .rwp, 0x0, .deep, 0x0, 0x0⟩
/-- R495 POWER_WAKE.PERST -/
def POWER_WAKE_PERST : Fld := ⟨0xF0000, 5, 1, .rwp, 0x1, .deep, 0x0, 0x0⟩
/-- R495 POWER_WAKE.SIDEBAND -/
def POWER_WAKE_SIDEBAND : Fld := ⟨0xF0000, 6, 1, .rwp, 0x0, .deep, 0x0, 0x0⟩
/-- R495 POWER_WAKE.LAST_SRC -/
def POWER_WAKE_LAST_SRC : Fld := ⟨0xF0000, 16, 4, .ro, 0x0, .deep, 0x0, 0x0⟩
/-- R495 POWER_BROWNOUT.BROWNOUT_WARN -/
def POWER_BROWNOUT_BROWNOUT_WARN : Fld := ⟨0xF0004, 0, 7, .w1c, 0x0, .deep, 0x0, 0x0⟩
/-- R495 POWER_BROWNOUT.ACTIVE -/
def POWER_BROWNOUT_ACTIVE : Fld := ⟨0xF0004, 8, 7, .ro, 0x0, .none, 0x0, 0x0⟩
/-- R495 POWER_BROWNOUT.RESET_ISLAND -/
def POWER_BROWNOUT_RESET_ISLAND : Fld := ⟨0xF0004, 20, 4, .ro, 0xF, .deep, 0x0, 0x0⟩
/-- R495 POWER_BROWNOUT.WARN_COUNT -/
def POWER_BROWNOUT_WARN_COUNT : Fld := ⟨0xF0004, 24, 8, .ro, 0x0, .deep, 0x0, 0x0⟩
/-- R542 IO_DRIVE.EN_DRIVE -/
def IO_DRIVE_EN_DRIVE : Fld := ⟨0xF0100, 0, 2, .rwp, 0x1, .warm, 0x0, 0x0⟩
/-- R542 IO_DRIVE.EN_FAST -/
def IO_DRIVE_EN_FAST : Fld := ⟨0xF0100, 2, 1, .rwp, 0x0, .warm, 0x0, 0x0⟩
/-- R542 IO_DRIVE.SPI_DRIVE -/
def IO_DRIVE_SPI_DRIVE : Fld := ⟨0xF0100, 4, 2, .rwp, 0x2, .warm, 0x0, 0x0⟩
/-- R542 IO_DRIVE.SPI_FAST -/
def IO_DRIVE_SPI_FAST : Fld := ⟨0xF0100, 6, 1, .rwp, 0x1, .warm, 0x0, 0x0⟩
/-- R542 IO_DRIVE.DBG_DRIVE -/
def IO_DRIVE_DBG_DRIVE : Fld := ⟨0xF0100, 12, 2, .rwp, 0x1, .warm, 0x0, 0x0⟩
/-- R542 IO_DRIVE.DBG_FAST -/
def IO_DRIVE_DBG_FAST : Fld := ⟨0xF0100, 14, 1, .rwp, 0x0, .warm, 0x0, 0x0⟩
/-- R542 IO_STRAPS.EDP (Sampled) -/
def IO_STRAPS_EDP : Fld := ⟨0xF0104, 0, 1, .ro, 0x0, .none, 0x0, 0x0⟩
/-- R542 IO_STRAPS.STARTER (Sampled) -/
def IO_STRAPS_STARTER : Fld := ⟨0xF0104, 1, 1, .ro, 0x0, .none, 0x0, 0x0⟩
/-- R542 IO_STRAPS.I2C_ADDR (Sampled) -/
def IO_STRAPS_I2C_ADDR : Fld := ⟨0xF0104, 2, 1, .ro, 0x0, .none, 0x0, 0x0⟩
/-- R542 IO_STRAPS.TEST_MODE (Sampled) -/
def IO_STRAPS_TEST_MODE : Fld := ⟨0xF0104, 3, 1, .ro, 0x0, .none, 0x0, 0x0⟩
/-- R542 IO_STATUS.REFCLK_LOST -/
def IO_STATUS_REFCLK_LOST : Fld := ⟨0xF0108, 0, 1, .w1c, 0x0, .deep, 0x0, 0x0⟩
/-- R542 IO_STATUS.HOLDOVER -/
def IO_STATUS_HOLDOVER : Fld := ⟨0xF0108, 1, 1, .ro, 0x0, .none, 0x0, 0x0⟩
/-- R542 IO_STATUS.TEST_STRAP -/
def IO_STATUS_TEST_STRAP : Fld := ⟨0xF0108, 4, 1, .ro, 0x0, .none, 0x0, 0x0⟩
/-- R542 IO_STATUS.STRAP_CHANGED -/
def IO_STATUS_STRAP_CHANGED : Fld := ⟨0xF0108, 8, 1, .w1c, 0x0, .warm, 0x0, 0x0⟩
/-- R460 HEARTH_STATE.STATE -/
def HEARTH_STATE_STATE : Fld := ⟨0xF1000, 0, 3, .ro, 0x0, .none, 0x0, 0x0⟩
/-- R460 HEARTH_STATE.SLOT -/
def HEARTH_STATE_SLOT : Fld := ⟨0xF1000, 4, 1, .ro, 0x0, .none, 0x0, 0x0⟩
/-- R460 HEARTH_STATE.RECOVERY_IMAGE -/
def HEARTH_STATE_RECOVERY_IMAGE : Fld := ⟨0xF1000, 5, 1, .ro, 0x0, .none, 0x0, 0x0⟩
/-- R460 HEARTH_STATE.DEGRADED -/
def HEARTH_STATE_DEGRADED : Fld := ⟨0xF1000, 8, 4, .ro, 0x0, .none, 0x0, 0x0⟩
/-- R460 HEARTH_STATE.STARTER_REASON -/
def HEARTH_STATE_STARTER_REASON : Fld := ⟨0xF1000, 16, 8, .ro, 0x0, .warm, 0x0, 0x0⟩
/-- R460 HEARTH_STATE.OVER_CAP -/
def HEARTH_STATE_OVER_CAP : Fld := ⟨0xF1000, 28, 4, .ro, 0x0, .none, 0x0, 0x0⟩
/-- R460 HEARTH_WDOG.RECENT -/
def HEARTH_WDOG_RECENT : Fld := ⟨0xF1004, 0, 4, .ro, 0x0, .none, 0x0, 0x0⟩
/-- R460 HEARTH_WDOG.RESTARTS -/
def HEARTH_WDOG_RESTARTS : Fld := ⟨0xF1004, 16, 16, .ro, 0x0, .warm, 0x0, 0x0⟩
/-- R460 LEAVEN_STATUS.MIN_TO_RUN -/
def LEAVEN_STATUS_MIN_TO_RUN : Fld := ⟨0xF1010, 0, 16, .ro, 0x168, .none, 0x0, 0x0⟩
/-- R460 LEAVEN_STATUS.REPLANS -/
def LEAVEN_STATUS_REPLANS : Fld := ⟨0xF1010, 16, 16, .ro, 0x0, .cold, 0x0, 0x0⟩
/-- R460 LEAVEN_TRIM.TRIM -/
def LEAVEN_TRIM_TRIM : Fld := ⟨0xF1014, 0, 28, .ro, 0x0, .cold, 0x0, 0x0⟩
/-- R460 LEAVEN_MARGIN_k.MARGIN_LO -/
def LEAVEN_MARGIN_MARGIN_LO : Fld := ⟨0xF1020, 0, 16, .ro, 0x0, .none, 0x4, 0x0⟩
/-- R460 LEAVEN_MARGIN_k.MARGIN_HI -/
def LEAVEN_MARGIN_MARGIN_HI : Fld := ⟨0xF1020, 16, 16, .ro, 0x0, .none, 0x4, 0x0⟩
/-- R461 SENSOR_THERM_k.WORD -/
def SENSOR_THERM_WORD : Fld := ⟨0xF2000, 0, 32, .ro, 0x0, .none, 0x4, 0x0⟩
/-- R461 SENSOR_DROOP_k.WORD -/
def SENSOR_DROOP_WORD : Fld := ⟨0xF2040, 0, 32, .ro, 0x0, .none, 0x4, 0x0⟩
/-- R461 SENSOR_AGE_k.WORD -/
def SENSOR_AGE_WORD : Fld := ⟨0xF2100, 0, 32, .ro, 0x0, .cold, 0x4, 0x0⟩
/-- R461 SENSOR_ISLAND_i.TEMP -/
def SENSOR_ISLAND_TEMP : Fld := ⟨0xF2200, 0, 16, .ro, 0x0, .none, 0x4, 0x0⟩
/-- R461 SENSOR_ISLAND_i.ABOVE -/
def SENSOR_ISLAND_ABOVE : Fld := ⟨0xF2200, 16, 4, .w1c, 0x0, .none, 0x4, 0x0⟩
/-- R461 SENSOR_ISLAND_i.VALID -/
def SENSOR_ISLAND_VALID : Fld := ⟨0xF2200, 31, 1, .ro, 0x0, .none, 0x4, 0x0⟩
/-- R496 POWER_CTRL.TARGET -/
def POWER_CTRL_TARGET : Fld := ⟨0xF3000, 0, 2, .rwp, 0x0, .none, 0x0, 0x0⟩
/-- R496 POWER_STATUS.STATE -/
def POWER_STATUS_STATE : Fld := ⟨0xF3004, 0, 2, .ro, 0x0, .none, 0x0, 0x0⟩
/-- R496 POWER_STATUS.TRANSITION -/
def POWER_STATUS_TRANSITION : Fld := ⟨0xF3004, 2, 1, .ro, 0x0, .none, 0x0, 0x0⟩
/-- R496 POWER_STATUS.SHUTDOWN -/
def POWER_STATUS_SHUTDOWN : Fld := ⟨0xF3004, 3, 1, .ro, 0x0, .none, 0x0, 0x0⟩
/-- R496 POWER_STATUS.HOLD_THERMAL -/
def POWER_STATUS_HOLD_THERMAL : Fld := ⟨0xF3004, 4, 1, .ro, 0x0, .none, 0x0, 0x0⟩
/-- R496 POWER_STATUS.REFUSED -/
def POWER_STATUS_REFUSED : Fld := ⟨0xF3004, 8, 1, .w1c, 0x0, .flr, 0x0, 0x0⟩
/-- R496 POWER_STATUS.DRAM_KEPT -/
def POWER_STATUS_DRAM_KEPT : Fld := ⟨0xF3004, 9, 1, .ro, 0x0, .flr, 0x0, 0x0⟩
/-- R496 POWER_STATUS.HOLD_COUNT -/
def POWER_STATUS_HOLD_COUNT : Fld := ⟨0xF3004, 16, 16, .ro, 0x0, .flr, 0x0, 0x0⟩
/-- R496 POWER_PIPE_RESET.PIPE -/
def POWER_PIPE_RESET_PIPE : Fld := ⟨0xF3008, 0, 4, .rwp, 0x0, .none, 0x0, 0x0⟩
/-- R496 POWER_ISLAND_i.NOMINAL (Nominal) -/
def POWER_ISLAND_NOMINAL : Fld := ⟨0xF3020, 0, 16, .ro, 0x0, .none, 0x4, 0x0⟩
/-- R496 POWER_ISLAND_i.TARGET (Nominal) -/
def POWER_ISLAND_TARGET : Fld := ⟨0xF3020, 16, 16, .ro, 0x0, .none, 0x4, 0x0⟩
/-- R519 SECURE_ST_BUDGET.SERIAL -/
def SECURE_ST_BUDGET_SERIAL : Fld := ⟨0x100000, 0, 4, .rw, 0x3, .warm, 0x0, 0x0⟩
/-- R519 SECURE_ST_BUDGET.PCIE -/
def SECURE_ST_BUDGET_PCIE : Fld := ⟨0x100000, 4, 4, .rw, 0x3, .warm, 0x0, 0x0⟩
/-- R519 SECURE_ST_BUDGET.DDR -/
def SECURE_ST_BUDGET_DDR : Fld := ⟨0x100000, 8, 4, .rw, 0x3, .warm, 0x0, 0x0⟩
/-- R519 SECURE_ST_BUDGET.PLL -/
def SECURE_ST_BUDGET_PLL : Fld := ⟨0x100000, 12, 4, .rw, 0x3, .warm, 0x0, 0x0⟩
/-- R519 SECURE_ST_BUDGET.THERMAL -/
def SECURE_ST_BUDGET_THERMAL : Fld := ⟨0x100000, 16, 4, .rw, 0x3, .warm, 0x0, 0x0⟩
/-- R519 SECURE_ST_BUDGET.SUPPLY -/
def SECURE_ST_BUDGET_SUPPLY : Fld := ⟨0x100000, 20, 4, .rw, 0x3, .warm, 0x0, 0x0⟩
/-- R519 SECURE_ST_BUDGET.AGEING -/
def SECURE_ST_BUDGET_AGEING : Fld := ⟨0x100000, 24, 4, .rw, 0x3, .warm, 0x0, 0x0⟩
/-- R519 SECURE_ST_STATUS.REMAINING -/
def SECURE_ST_STATUS_REMAINING : Fld := ⟨0x100004, 0, 16, .ro, 0x0, .none, 0x0, 0x0⟩
/-- R519 SECURE_ST_STATUS.SLICE -/
def SECURE_ST_STATUS_SLICE : Fld := ⟨0x100004, 16, 8, .ro, 0x0, .none, 0x0, 0x0⟩
/-- R519 SECURE_ST_STATUS.INTERRUPTED -/
def SECURE_ST_STATUS_INTERRUPTED : Fld := ⟨0x100004, 28, 1, .w1c, 0x0, .deep, 0x0, 0x0⟩
/-- R519 SECURE_ST_STATUS.ON_DEMAND -/
def SECURE_ST_STATUS_ON_DEMAND : Fld := ⟨0x100004, 30, 1, .ro, 0x0, .none, 0x0, 0x0⟩
/-- R519 SECURE_ST_STATUS.RUNNING -/
def SECURE_ST_STATUS_RUNNING : Fld := ⟨0x100004, 31, 1, .ro, 0x0, .none, 0x0, 0x0⟩
/-- R519 SECURE_FENCED.DP -/
def SECURE_FENCED_DP : Fld := ⟨0x100008, 0, 4, .ro, 0x0, .none, 0x0, 0x0⟩
/-- R519 SECURE_FENCED.DSI -/
def SECURE_FENCED_DSI : Fld := ⟨0x100008, 4, 2, .ro, 0x0, .none, 0x0, 0x0⟩
/-- R519 SECURE_FENCED.PAIRS -/
def SECURE_FENCED_PAIRS : Fld := ⟨0x100008, 8, 8, .ro, 0x0, .none, 0x0, 0x0⟩
/-- R519 SECURE_FENCED.PIPES -/
def SECURE_FENCED_PIPES : Fld := ⟨0x100008, 16, 4, .ro, 0x0, .none, 0x0, 0x0⟩
/-- R519 SECURE_KEYS.ROLLBACK (fused) -/
def SECURE_KEYS_ROLLBACK : Fld := ⟨0x100010, 0, 6, .ro, 0x0, .cold, 0x0, 0x0⟩
/-- R519 SECURE_KEYS.KEY_A_REVOKED (fused) -/
def SECURE_KEYS_KEY_A_REVOKED : Fld := ⟨0x100010, 8, 1, .ro, 0x0, .cold, 0x0, 0x0⟩
/-- R519 SECURE_KEYS.FUSE_PATH_OFF -/
def SECURE_KEYS_FUSE_PATH_OFF : Fld := ⟨0x100010, 12, 1, .ro, 0x0, .deep, 0x0, 0x0⟩
/-- R519 SECURE_KEYS.HDCP_KEYS -/
def SECURE_KEYS_HDCP_KEYS : Fld := ⟨0x100010, 16, 3, .ro, 0x0, .none, 0x0, 0x0⟩
/-- R519 SECURE_KEYS.WRAP_FAIL -/
def SECURE_KEYS_WRAP_FAIL : Fld := ⟨0x100010, 20, 1, .w1c, 0x0, .warm, 0x0, 0x0⟩
/-- R519 SECURE_DEBUG.DENIED_COUNT -/
def SECURE_DEBUG_DENIED_COUNT : Fld := ⟨0x100040, 0, 4, .ro, 0x0, .none, 0x0, 0x0⟩
/-- R519 SECURE_DEBUG.PORT_OPEN -/
def SECURE_DEBUG_PORT_OPEN : Fld := ⟨0x100040, 8, 1, .ro, 0x0, .none, 0x0, 0x0⟩
/-- R519 SECURE_DEBUG.SCAN_REFUSED -/
def SECURE_DEBUG_SCAN_REFUSED : Fld := ⟨0x100040, 9, 1, .w1c, 0x0, .none, 0x0, 0x0⟩
/-- R519 SECURE_DEBUG.SCAN_REQ -/
def SECURE_DEBUG_SCAN_REQ : Fld := ⟨0x100040, 30, 1, .rwk, 0x0, .none, 0x0, 0x0⟩
/-- R519 SECURE_DEBUG.OPENED -/
def SECURE_DEBUG_OPENED : Fld := ⟨0x100040, 31, 1, .ro, 0x0, .deep, 0x0, 0x0⟩
/-- R418 ICP_CMD_TAIL.TAIL -/
def ICP_CMD_TAIL_TAIL : Fld := ⟨0x2008000, 0, 7, .rw, 0x0, .none, 0x0, 0x0⟩
/-- R418 ICP_CMD_HEAD.HEAD -/
def ICP_CMD_HEAD_HEAD : Fld := ⟨0x2008004, 0, 7, .ro, 0x0, .none, 0x0, 0x0⟩
/-- R418 ICP_RPL_TAIL.TAIL -/
def ICP_RPL_TAIL_TAIL : Fld := ⟨0x2008008, 0, 7, .ro, 0x0, .none, 0x0, 0x0⟩
/-- R418 ICP_RPL_HEAD.HEAD -/
def ICP_RPL_HEAD_HEAD : Fld := ⟨0x200800C, 0, 7, .rw, 0x0, .none, 0x0, 0x0⟩
/-- R418 ICP_RING_CTRL.VECTOR -/
def ICP_RING_CTRL_VECTOR : Fld := ⟨0x2008010, 0, 6, .rw, 0x0, .none, 0x0, 0x0⟩
/-- R418 ICP_RING_CTRL.EN -/
def ICP_RING_CTRL_EN : Fld := ⟨0x2008010, 31, 1, .rw, 0x0, .none, 0x0, 0x0⟩
/-- R418 ICP_RING_STATUS.TAIL_BAD -/
def ICP_RING_STATUS_TAIL_BAD : Fld := ⟨0x2008014, 0, 1, .w1c, 0x0, .none, 0x0, 0x0⟩
/-- R418 ICP_RING_STATUS.HEAD_BAD -/
def ICP_RING_STATUS_HEAD_BAD : Fld := ⟨0x2008014, 1, 1, .w1c, 0x0, .none, 0x0, 0x0⟩
/-- R418 ICP_RING_STATUS.ACCESS -/
def ICP_RING_STATUS_ACCESS : Fld := ⟨0x2008014, 2, 1, .w1c, 0x0, .none, 0x0, 0x0⟩
/-- R418 ICP_RING_STATUS.HOST_LOST -/
def ICP_RING_STATUS_HOST_LOST : Fld := ⟨0x2008014, 3, 1, .ro, 0x0, .warm, 0x0, 0x0⟩
/-- R418 ICP_ATTENTION.ATTENTION -/
def ICP_ATTENTION_ATTENTION : Fld := ⟨0x2008018, 0, 16, .ro, 0x1, .flr, 0x0, 0x0⟩
/-- R418 ICP_ATTENTION.CONTROLLER -/
def ICP_ATTENTION_CONTROLLER : Fld := ⟨0x2008018, 16, 3, .ro, 0x0, .warm, 0x0, 0x0⟩
/-- R418 ICP_ATTENTION.STARTER_REASON -/
def ICP_ATTENTION_STARTER_REASON : Fld := ⟨0x2008018, 24, 8, .ro, 0x0, .warm, 0x0, 0x0⟩

end F

/-- The registers of block SYS. -/
def regsSYS : List Reg :=
  [ ⟨0x0, 1, 0x0, 1, 0x0, false, [F.SYS_ID_GRADE, F.SYS_ID_STEPPING, F.SYS_ID_PART]⟩
  , ⟨0x10, 1, 0x0, 1, 0x0, false, [F.SYS_UNLOCK_TARGET, F.SYS_UNLOCK_KEY, F.SYS_UNLOCK_ARMED]⟩
  , ⟨0x14, 1, 0x0, 1, 0x0, false, [F.SYS_RESET_CTRL_WARM_RESET, F.SYS_RESET_CTRL_RETAIN_DRAM]⟩
  , ⟨0x18, 1, 0x0, 1, 0x0, false, [F.SYS_LOCKDOWN_UNLOCK_DISABLE, F.SYS_LOCKDOWN_DEBUG_REQ_DISABLE]⟩
  , ⟨0x20, 1, 0x0, 1, 0x0, false, [F.SYS_RESET_CAUSE_COLD, F.SYS_RESET_CAUSE_PIN, F.SYS_RESET_CAUSE_WATCHDOG, F.SYS_RESET_CAUSE_BROWNOUT, F.SYS_RESET_CAUSE_SOFTWARE, F.SYS_RESET_CAUSE_DEEP_EXIT]⟩
  , ⟨0x24, 1, 0x0, 1, 0x0, false, [F.SYS_BOOT_COUNT_FAILED_RUN, F.SYS_BOOT_COUNT_STARTS]⟩
  , ⟨0x30, 1, 0x0, 1, 0x0, false, [F.SYS_FAULT_SUMMARY_CFG_PARITY, F.SYS_FAULT_SUMMARY_SAFE_BLACK, F.SYS_FAULT_SUMMARY_UNDERRUN, F.SYS_FAULT_SUMMARY_LAYER_FAULT, F.SYS_FAULT_SUMMARY_ENGINE_HALT, F.SYS_FAULT_SUMMARY_WATCHDOG]⟩
  , ⟨0x40, 1, 0x0, 1, 0x0, false, [F.SYS_ACCESS_ERR_ACCESS_WIDTH, F.SYS_ACCESS_ERR_ACCESS_ALIGN, F.SYS_ACCESS_ERR_ALIAS_IGNORED, F.SYS_ACCESS_ERR_POSTED_DROP, F.SYS_ACCESS_ERR_LOCKED_WRITE, F.SYS_ACCESS_ERR_KEY_BAD, F.SYS_ACCESS_ERR_LOCK_VIOLATION, F.SYS_ACCESS_ERR_UNMAPPED]⟩
  , ⟨0x44, 1, 0x0, 1, 0x0, false, [F.SYS_ACCESS_ADDR_OFFSET, F.SYS_ACCESS_ADDR_CAUSE, F.SYS_ACCESS_ADDR_WRITE, F.SYS_ACCESS_ADDR_VALID]⟩
  , ⟨0x48, 1, 0x0, 1, 0x0, false, [F.SYS_ACCESS_COUNT_ERRORS, F.SYS_ACCESS_COUNT_LOCK_VIOLATIONS]⟩
  , ⟨0x50, 1, 0x0, 1, 0x0, false, [F.SYS_POSTED_BUSY_BUSY, F.SYS_POSTED_BUSY_DROP_AREA, F.SYS_POSTED_BUSY_DROP_OFF]⟩
  , ⟨0x60, 1, 0x0, 1, 0x0, false, [F.SYS_PARITY_STATUS_PROOF, F.SYS_PARITY_STATUS_ARMED, F.SYS_PARITY_STATUS_ACTIVE, F.SYS_PARITY_STATUS_UNBANKED, F.SYS_PARITY_STATUS_SAFE_BLACK, F.SYS_PARITY_STATUS_RELOAD_FAIL]⟩
  , ⟨0x64, 1, 0x0, 1, 0x0, false, [F.SYS_PARITY_ADDR_OFFSET, F.SYS_PARITY_ADDR_BANK, F.SYS_PARITY_ADDR_VALID]⟩
  , ⟨0x68, 1, 0x0, 1, 0x0, false, [F.SYS_SCRUB_COUNT_PASSES]⟩
  , ⟨0x80, 1, 0x0, 1, 0x0, false, [F.SYS_TICK_CTRL_SRC]⟩
  , ⟨0x84, 1, 0x0, 1, 0x0, false, [F.SYS_TICK_STATUS_CUR_SRC, F.SYS_TICK_STATUS_FALLBACK, F.SYS_TICK_STATUS_BAD_SRC, F.SYS_TICK_STATUS_CLR_COUNTS, F.SYS_TICK_STATUS_SKIPPED_COUNT]⟩
  , ⟨0x88, 1, 0x0, 1, 0x0, false, [F.SYS_TICK_CARRY_COUNT]⟩
  , ⟨0x8C, 1, 0x0, 1, 0x0, false, [F.SYS_TICK_COUNT_TICKS]⟩
  , ⟨0x90, 1, 0x0, 1, 0x0, false, [F.SYS_REF_CTRL_POL, F.SYS_REF_CTRL_FILTER]⟩
  , ⟨0x94, 1, 0x0, 1, 0x0, false, [F.SYS_REF_STATUS_PERIOD, F.SYS_REF_STATUS_PRESENT]⟩ ]

/-- The registers of block COMMIT. -/
def regsCOMMIT : List Reg :=
  [ ⟨0x10000, 1, 0x0, 1, 0x0, false, [F.COMMIT_STROBE_PIPE, F.COMMIT_STROBE_WB, F.COMMIT_STROBE_CRUST, F.COMMIT_STROBE_PORT, F.COMMIT_STROBE_LAYER_SEL]⟩
  , ⟨0x10008, 1, 0x0, 1, 0x0, true, [F.COMMIT_LAYER_MASK_VL_MASK]⟩
  , ⟨0x10010, 1, 0x0, 1, 0x0, true, [F.COMMIT_LAYER_MASK_GL_MASK]⟩
  , ⟨0x10018, 1, 0x0, 1, 0x0, false, [F.COMMIT_VIEW_BANK]⟩
  , ⟨0x10020, 1, 0x0, 1, 0x0, false, [F.COMMIT_STATUS_PENDING, F.COMMIT_STATUS_DONE, F.COMMIT_STATUS_ACCEPTED, F.COMMIT_STATUS_SEQ]⟩
  , ⟨0x10024, 1, 0x0, 1, 0x0, false, [F.COMMIT_RESULT_INDEX, F.COMMIT_RESULT_KIND, F.COMMIT_RESULT_CODE]⟩
  , ⟨0x10028, 1, 0x0, 1, 0x0, false, [F.COMMIT_NEEDED_VALUE]⟩
  , ⟨0x1002C, 1, 0x0, 1, 0x0, false, [F.COMMIT_AVAILABLE_VALUE]⟩
  , ⟨0x10030, 1, 0x0, 1, 0x0, false, [F.COMMIT_ERR_BAD_STROBE, F.COMMIT_ERR_STROBE_BUSY, F.COMMIT_ERR_VIEW_WRITE, F.COMMIT_ERR_CLR_COUNTS]⟩
  , ⟨0x10040, 1, 0x0, 1, 0x0, false, [F.COMMIT_COUNTS_ACCEPTED, F.COMMIT_COUNTS_REFUSED]⟩ ]

/-- The registers of block PIPE. -/
def regsPIPE : List Reg :=
  [ ⟨0x20008, 4, 0x4000, 1, 0x0, false, [F.PIPE_OWNER_OWNER, F.PIPE_OWNER_PENDING, F.PIPE_OWNER_OWNERSHIP_VIOLATION, F.PIPE_OWNER_VIOLATION_COUNT]⟩
  , ⟨0x20010, 4, 0x4000, 1, 0x0, false, [F.PIPE_CUTOFF_LINES, F.PIPE_CUTOFF_EFFECTIVE]⟩
  , ⟨0x20014, 4, 0x4000, 1, 0x0, false, [F.PIPE_FLIP_CTRL_TIMEOUT_FRAMES]⟩
  , ⟨0x20018, 4, 0x4000, 1, 0x0, false, [F.PIPE_COMMIT_STATUS_ARMED, F.PIPE_COMMIT_STATUS_LATE_WAITING, F.PIPE_COMMIT_STATUS_CLASS_B, F.PIPE_COMMIT_STATUS_LATE, F.PIPE_COMMIT_STATUS_SUPERSEDED, F.PIPE_COMMIT_STATUS_FLIP_HELD, F.PIPE_COMMIT_STATUS_FENCE_TIMEOUT]⟩
  , ⟨0x2001C, 4, 0x4000, 1, 0x0, false, [F.PIPE_HELD_GROUPS_GROUPS, F.PIPE_HELD_GROUPS_UNGROUPED]⟩
  , ⟨0x20020, 4, 0x4000, 1, 0x0, false, [F.PIPE_COMMIT_SEQ_ARMED_SEQ, F.PIPE_COMMIT_SEQ_ACTIVE_SEQ]⟩
  , ⟨0x20024, 4, 0x4000, 1, 0x0, false, [F.PIPE_COMMIT_COUNTS_LATE_COUNT, F.PIPE_COMMIT_COUNTS_SUPERSEDED_COUNT]⟩
  , ⟨0x20028, 4, 0x4000, 1, 0x0, false, [F.PIPE_HOLD_COUNTS_HELD_COUNT, F.PIPE_HOLD_COUNTS_TIMEOUT_COUNT]⟩
  , ⟨0x2002C, 4, 0x4000, 1, 0x0, false, [F.PIPE_SWAP_COUNT_SWAPS]⟩
  , ⟨0x20100, 4, 0x4000, 1, 0x0, false, [F.PIPE_TG_CTRL_EN, F.PIPE_TG_CTRL_HSYNC_POL, F.PIPE_TG_CTRL_VSYNC_POL, F.PIPE_TG_CTRL_PORT_SEL]⟩
  , ⟨0x20104, 4, 0x4000, 1, 0x0, false, [F.PIPE_HTIMING_A_HACTIVE, F.PIPE_HTIMING_A_HFP]⟩
  , ⟨0x20108, 4, 0x4000, 1, 0x0, false, [F.PIPE_HTIMING_B_HSYNC, F.PIPE_HTIMING_B_HBP]⟩
  , ⟨0x2010C, 4, 0x4000, 1, 0x0, false, [F.PIPE_VTIMING_A_VACTIVE, F.PIPE_VTIMING_A_VFP]⟩
  , ⟨0x20110, 4, 0x4000, 1, 0x0, false, [F.PIPE_VTIMING_B_VSYNC, F.PIPE_VTIMING_B_VBP]⟩
  , ⟨0x20114, 4, 0x4000, 1, 0x0, false, [F.PIPE_PCLK_KHZ, F.PIPE_PCLK_M1001]⟩
  , ⟨0x20118, 4, 0x4000, 1, 0x0, false, [F.PIPE_VRR_VTOTAL_MAX, F.PIPE_VRR_EN]⟩
  , ⟨0x20120, 4, 0x4000, 1, 0x0, false, [F.PIPE_GENLOCK_PHASE, F.PIPE_GENLOCK_GROUP, F.PIPE_GENLOCK_SRC, F.PIPE_GENLOCK_PULL]⟩
  , ⟨0x20124, 4, 0x4000, 1, 0x0, false, [F.PIPE_GENLOCK_STATUS_STATE, F.PIPE_GENLOCK_STATUS_REF_LOST, F.PIPE_GENLOCK_STATUS_LOSS_COUNT, F.PIPE_GENLOCK_STATUS_ERROR]⟩
  , ⟨0x20130, 4, 0x4000, 1, 0x0, false, [F.PIPE_TE_EN, F.PIPE_TE_EDGE, F.PIPE_TE_DELAY, F.PIPE_TE_TIMEOUT]⟩
  , ⟨0x20134, 4, 0x4000, 1, 0x0, false, [F.PIPE_TE_STATUS_TE_LOST, F.PIPE_TE_STATUS_LOST_ACTIVE, F.PIPE_TE_STATUS_LOST_FRAMES]⟩
  , ⟨0x20140, 4, 0x4000, 1, 0x0, false, [F.PIPE_REST_CTRL_EN, F.PIPE_REST_CTRL_REPLAY_EN, F.PIPE_REST_CTRL_ENTRY, F.PIPE_REST_CTRL_MIN_HZ]⟩
  , ⟨0x20148, 4, 0x4000, 1, 0x0, true, [F.PIPE_REPLAY_BASE_BASE]⟩
  , ⟨0x20150, 4, 0x4000, 1, 0x0, false, [F.PIPE_REST_STATUS_STATE, F.PIPE_REST_STATUS_QUIET, F.PIPE_REST_STATUS_REPLAY_ABORT, F.PIPE_REST_STATUS_REPLAY_ACCESS]⟩
  , ⟨0x20160, 4, 0x4000, 1, 0x0, false, [F.PIPE_DSC_EN, F.PIPE_DSC_SLICES, F.PIPE_DSC_BPP_X16]⟩
  , ⟨0x20164, 4, 0x4000, 1, 0x0, false, [F.PIPE_DSC_SLICE_H_SLICE_H]⟩
  , ⟨0x20170, 4, 0x4000, 1, 0x0, false, [F.PIPE_TG_STATUS_RUNNING, F.PIPE_TG_STATUS_STEP, F.PIPE_TG_STATUS_CAP_MPIX, F.PIPE_TG_STATUS_LINE]⟩
  , ⟨0x20400, 4, 0x4000, 1, 0x0, false, [F.PIPE_BLEND_CTRL_ZMODE]⟩
  , ⟨0x20408, 4, 0x4000, 1, 0x0, true, [F.PIPE_BG_R, F.PIPE_BG_G, F.PIPE_BG_B]⟩
  , ⟨0x20480, 4, 0x4000, 1, 0x0, false, [F.PIPE_OUT_CTRL_MATRIX, F.PIPE_OUT_CTRL_LUT_EN, F.PIPE_OUT_CTRL_LUT_RAM, F.PIPE_OUT_CTRL_OETF, F.PIPE_OUT_CTRL_ENCODE, F.PIPE_OUT_CTRL_YC_MATRIX, F.PIPE_OUT_CTRL_RANGE, F.PIPE_OUT_CTRL_BPC, F.PIPE_OUT_CTRL_DITHER]⟩
  , ⟨0x20484, 4, 0x4000, 1, 0x0, false, [F.PIPE_OUT_LEVEL_OUT_GAIN, F.PIPE_OUT_LEVEL_HLG_PEAK]⟩
  , ⟨0x20490, 4, 0x4000, 3, 0x10, false, [F.PIPE_OUT_COEF_COEF_DIAG]⟩
  , ⟨0x20490, 4, 0x4000, 9, 0x4, false, [F.PIPE_OUT_COEF_COEF]⟩
  , ⟨0x204C0, 4, 0x4000, 1, 0x0, true, [F.PIPE_LUT_ADDR_ADDR_LO, F.PIPE_LUT_ADDR_ADDR_HI]⟩
  , ⟨0x204C8, 4, 0x4000, 1, 0x0, false, [F.PIPE_LUT_LOAD_RAM, F.PIPE_LUT_LOAD_GO]⟩
  , ⟨0x204CC, 4, 0x4000, 1, 0x0, false, [F.PIPE_LUT_STATUS_RAM0_STATE, F.PIPE_LUT_STATUS_RAM1_STATE, F.PIPE_LUT_STATUS_IN_USE, F.PIPE_LUT_STATUS_LOAD_BUSY, F.PIPE_LUT_STATUS_BAD_ADDR, F.PIPE_LUT_STATUS_PROT, F.PIPE_LUT_STATUS_PARITY, F.PIPE_LUT_STATUS_MISSING]⟩
  , ⟨0x20500, 4, 0x4000, 1, 0x0, false, [F.PIPE_WB_CTRL_MODE, F.PIPE_WB_CTRL_TAP, F.PIPE_WB_CTRL_FORMAT, F.PIPE_WB_CTRL_RING_LEN, F.PIPE_WB_CTRL_FENCE_EN, F.PIPE_WB_CTRL_PROXY_EN, F.PIPE_WB_CTRL_PROXY_H, F.PIPE_WB_CTRL_PROXY_V]⟩
  , ⟨0x20504, 4, 0x4000, 1, 0x0, false, [F.PIPE_WB_SID_01_SID0, F.PIPE_WB_SID_01_SID1]⟩
  , ⟨0x20508, 4, 0x4000, 1, 0x0, false, [F.PIPE_WB_SID_23_SID2, F.PIPE_WB_SID_23_SID3]⟩
  , ⟨0x2050C, 4, 0x4000, 1, 0x0, false, [F.PIPE_WB_PROXY_SID_SID]⟩
  , ⟨0x20510, 4, 0x4000, 1, 0x0, false, [F.PIPE_WB_FENCE_FID]⟩
  , ⟨0x20520, 4, 0x4000, 1, 0x0, false, [F.PIPE_WB_STATUS_DONE, F.PIPE_WB_STATUS_DEST_FREE, F.PIPE_WB_STATUS_GUARD, F.PIPE_WB_STATUS_PROT, F.PIPE_WB_STATUS_OVERFLOW, F.PIPE_WB_STATUS_LAST_RESULT, F.PIPE_WB_STATUS_SKIP_COUNT]⟩
  , ⟨0x20528, 4, 0x4000, 1, 0x0, true, [F.PIPE_WB_FRAMES_COUNT]⟩
  , ⟨0x20600, 4, 0x4000, 1, 0x0, false, [F.PIPE_FETCH_ALLOC_MBPS]⟩
  , ⟨0x20604, 4, 0x4000, 1, 0x0, false, [F.PIPE_UNDERRUN_MODE_MODE]⟩
  , ⟨0x20608, 4, 0x4000, 1, 0x0, false, [F.PIPE_UNDERRUN_STATUS_UNDERRUN, F.PIPE_UNDERRUN_STATUS_MODE_FALLBACK, F.PIPE_UNDERRUN_STATUS_COUNT]⟩
  , ⟨0x2060C, 4, 0x4000, 1, 0x0, false, [F.PIPE_UNDERRUN_LAST_INDEX, F.PIPE_UNDERRUN_LAST_KIND, F.PIPE_UNDERRUN_LAST_LINE]⟩
  , ⟨0x20700, 4, 0x4000, 32, 0x4, false, [F.PIPE_ZORDER_INDEX, F.PIPE_ZORDER_KIND, F.PIPE_ZORDER_VALID]⟩ ]

/-- The registers of block VL. -/
def regsVL : List Reg :=
  [ ⟨0x40000, 64, 0x400, 1, 0x0, false, [F.VL_CTRL_EN, F.VL_CTRL_PIPE, F.VL_CTRL_ALPHA_EN, F.VL_CTRL_PREMULT]⟩
  , ⟨0x40004, 64, 0x400, 1, 0x0, false, [F.VL_SID_SID]⟩
  , ⟨0x40008, 64, 0x400, 1, 0x0, false, [F.VL_FORMAT_CSITE_H, F.VL_FORMAT_CSITE_V]⟩
  , ⟨0x40010, 64, 0x400, 1, 0x0, true, [F.VL_SRC_RECT_X, F.VL_SRC_RECT_Y, F.VL_SRC_RECT_W, F.VL_SRC_RECT_H]⟩
  , ⟨0x40018, 64, 0x400, 1, 0x0, true, [F.VL_DST_RECT_X, F.VL_DST_RECT_Y, F.VL_DST_RECT_W, F.VL_DST_RECT_H]⟩
  , ⟨0x40020, 64, 0x400, 1, 0x0, false, [F.VL_SCALE_COEF_H, F.VL_SCALE_COEF_V, F.VL_SCALE_DECIM_H, F.VL_SCALE_DECIM_H_AUTO, F.VL_SCALE_DECIM_V, F.VL_SCALE_DECIM_V_AUTO]⟩
  , ⟨0x40024, 64, 0x400, 1, 0x0, false, [F.VL_OFFSET_OFFSET_H, F.VL_OFFSET_OFFSET_V]⟩
  , ⟨0x40028, 64, 0x400, 1, 0x0, false, [F.VL_ALPHA_GLOBAL_ALPHA]⟩
  , ⟨0x4002C, 64, 0x400, 1, 0x0, false, [F.VL_LS_CLAIM_BLOCKS]⟩
  , ⟨0x40030, 64, 0x400, 1, 0x0, false, [F.VL_LS_STATUS_ACTIVE_BLOCKS, F.VL_LS_STATUS_ARMED_BLOCKS, F.VL_LS_STATUS_NEED, F.VL_LS_STATUS_DECIM_H_USED, F.VL_LS_STATUS_DECIM_V_USED]⟩
  , ⟨0x40034, 64, 0x400, 1, 0x0, false, [F.VL_FAULT_LAYER_FAULT, F.VL_FAULT_LS_PARITY, F.VL_FAULT_DISABLED, F.VL_FAULT_PARITY_COUNT, F.VL_FAULT_FAULT_COUNT]⟩
  , ⟨0x40100, 64, 0x400, 1, 0x0, false, [F.VL_CSC_CTRL_MATRIX, F.VL_CSC_CTRL_RANGE, F.VL_CSC_CTRL_TF, F.VL_CSC_CTRL_PRIM, F.VL_CSC_CTRL_TM_EN, F.VL_CSC_CTRL_TM_RAM]⟩
  , ⟨0x40104, 64, 0x400, 1, 0x0, false, [F.VL_LUM_LUM_GAIN, F.VL_LUM_HLG_PEAK]⟩
  , ⟨0x40110, 64, 0x400, 3, 0x10, false, [F.VL_CSC_COEF_COEF_DIAG]⟩
  , ⟨0x40110, 64, 0x400, 9, 0x4, false, [F.VL_CSC_COEF_COEF]⟩
  , ⟨0x40140, 64, 0x400, 3, 0x4, false, [F.VL_CSC_OFFSET_OFFSET]⟩
  , ⟨0x40180, 64, 0x400, 1, 0x0, true, [F.VL_TM_ADDR_ADDR_LO, F.VL_TM_ADDR_ADDR_HI]⟩
  , ⟨0x40188, 64, 0x400, 1, 0x0, false, [F.VL_TM_LOAD_RAM, F.VL_TM_LOAD_GO]⟩
  , ⟨0x4018C, 64, 0x400, 1, 0x0, false, [F.VL_TM_STATUS_RAM0_STATE, F.VL_TM_STATUS_RAM1_STATE, F.VL_TM_STATUS_IN_USE, F.VL_TM_STATUS_LOAD_BUSY, F.VL_TM_STATUS_BAD_ADDR, F.VL_TM_STATUS_PROT, F.VL_TM_STATUS_PARITY, F.VL_TM_STATUS_MISSING]⟩
  , ⟨0x403C0, 64, 0x400, 1, 0x0, false, [F.VL_FLIP_CTRL_GROUP, F.VL_FLIP_CTRL_GROUP_EN, F.VL_FLIP_CTRL_FENCE_EN, F.VL_FLIP_CTRL_FID]⟩
  , ⟨0x403C8, 64, 0x400, 1, 0x0, true, [F.VL_FLIP_WAIT_VALUE]⟩
  , ⟨0x403D0, 64, 0x400, 1, 0x0, false, [F.VL_FLIP_STATUS_HELD, F.VL_FLIP_STATUS_HOLD_FRAMES]⟩ ]

/-- The registers of block GL. -/
def regsGL : List Reg :=
  [ ⟨0x50000, 64, 0x200, 1, 0x0, false, [F.GL_CTRL_EN, F.GL_CTRL_PIPE, F.GL_CTRL_ALPHA_EN, F.GL_CTRL_PREMULT, F.GL_CTRL_MIRROR_H, F.GL_CTRL_MIRROR_V, F.GL_CTRL_KEY_EN]⟩
  , ⟨0x50004, 64, 0x200, 1, 0x0, false, [F.GL_SID_SID]⟩
  , ⟨0x50010, 64, 0x200, 1, 0x0, true, [F.GL_SRC_RECT_X, F.GL_SRC_RECT_Y, F.GL_SRC_RECT_W, F.GL_SRC_RECT_H]⟩
  , ⟨0x50018, 64, 0x200, 1, 0x0, false, [F.GL_DST_POS_X, F.GL_DST_POS_Y]⟩
  , ⟨0x50028, 64, 0x200, 1, 0x0, false, [F.GL_ALPHA_GLOBAL_ALPHA]⟩
  , ⟨0x50030, 64, 0x200, 1, 0x0, false, [F.GL_KEY_KEY]⟩
  , ⟨0x50034, 64, 0x200, 1, 0x0, false, [F.GL_KEY_MASK_MASK]⟩
  , ⟨0x50038, 64, 0x200, 1, 0x0, false, [F.GL_CRUST_ALLOW]⟩
  , ⟨0x5003C, 64, 0x200, 1, 0x0, false, [F.GL_CRUST_STATUS_QUIET, F.GL_CRUST_STATUS_MEMBER]⟩
  , ⟨0x50100, 64, 0x200, 1, 0x0, false, [F.GL_CSC_CTRL_TF, F.GL_CSC_CTRL_PRIM, F.GL_CSC_CTRL_TM_EN, F.GL_CSC_CTRL_TM_RAM]⟩
  , ⟨0x50104, 64, 0x200, 1, 0x0, false, [F.GL_LUM_LUM_GAIN, F.GL_LUM_HLG_PEAK]⟩
  , ⟨0x50180, 64, 0x200, 1, 0x0, true, [F.GL_TM_ADDR_ADDR_LO, F.GL_TM_ADDR_ADDR_HI]⟩
  , ⟨0x50188, 64, 0x200, 1, 0x0, false, [F.GL_TM_LOAD_RAM, F.GL_TM_LOAD_GO]⟩
  , ⟨0x5018C, 64, 0x200, 1, 0x0, false, [F.GL_TM_STATUS_RAM0_STATE, F.GL_TM_STATUS_RAM1_STATE, F.GL_TM_STATUS_IN_USE, F.GL_TM_STATUS_LOAD_BUSY, F.GL_TM_STATUS_BAD_ADDR, F.GL_TM_STATUS_PROT, F.GL_TM_STATUS_PARITY, F.GL_TM_STATUS_MISSING]⟩
  , ⟨0x501C0, 64, 0x200, 1, 0x0, false, [F.GL_FLIP_CTRL_GROUP, F.GL_FLIP_CTRL_GROUP_EN, F.GL_FLIP_CTRL_FENCE_EN, F.GL_FLIP_CTRL_FID]⟩
  , ⟨0x501C8, 64, 0x200, 1, 0x0, true, [F.GL_FLIP_WAIT_VALUE]⟩
  , ⟨0x501D0, 64, 0x200, 1, 0x0, false, [F.GL_FLIP_STATUS_HELD, F.GL_FLIP_STATUS_HOLD_FRAMES]⟩ ]

/-- The registers of block LINESTORE. -/
def regsLINESTORE : List Reg :=
  [ ⟨0x60000, 1, 0x0, 1, 0x0, false, [F.LINESTORE_POOL_FREE, F.LINESTORE_POOL_RESERVED]⟩
  , ⟨0x60004, 1, 0x0, 1, 0x0, false, [F.LINESTORE_STATUS_CLAIM_PARITY, F.LINESTORE_STATUS_COEF_IN_USE, F.LINESTORE_STATUS_REBUILT, F.LINESTORE_STATUS_COEF_RESERVED, F.LINESTORE_STATUS_QUARANTINED]⟩
  , ⟨0x61000, 1024, 0x4, 1, 0x0, false, [F.LINESTORE_OWNER_LAYER, F.LINESTORE_OWNER_SLOT, F.LINESTORE_OWNER_STARTER, F.LINESTORE_OWNER_QUARANTINED, F.LINESTORE_OWNER_GRANTED]⟩
  , ⟨0x68000, 32, 0x400, 256, 0x4, false, [F.LINESTORE_COEF_TAP_EVEN, F.LINESTORE_COEF_TAP_ODD]⟩ ]

/-- The registers of block CRUST. -/
def regsCRUST : List Reg :=
  [ ⟨0x70000, 1, 0x0, 1, 0x0, false, [F.CRUST_STATUS_STORE_ACCESS, F.CRUST_STATUS_CFG_REFUSED, F.CRUST_STATUS_HINT_BAD, F.CRUST_STATUS_HINT_FULL]⟩
  , ⟨0x70008, 1, 0x0, 1, 0x0, true, [F.CRUST_STORE_BASE_BASE_LO, F.CRUST_STORE_BASE_BASE_HI]⟩
  , ⟨0x70010, 1, 0x0, 1, 0x0, false, [F.CRUST_STORE_UNITS_UNITS]⟩
  , ⟨0x70014, 1, 0x0, 1, 0x0, false, [F.CRUST_STORE_FREE_FREE]⟩
  , ⟨0x70020, 1, 0x0, 1, 0x0, false, [F.CRUST_HINT_SID_SID, F.CRUST_HINT_SID_FORCE]⟩
  , ⟨0x70028, 1, 0x0, 1, 0x0, true, [F.CRUST_HINT_RECT_X, F.CRUST_HINT_RECT_Y, F.CRUST_HINT_RECT_W, F.CRUST_HINT_RECT_H]⟩
  , ⟨0x70030, 1, 0x0, 1, 0x0, false, [F.CRUST_HINT_FENCE_FID, F.CRUST_HINT_FENCE_EN]⟩
  , ⟨0x70038, 1, 0x0, 1, 0x0, true, [F.CRUST_HINT_WAIT_VALUE]⟩
  , ⟨0x70040, 1, 0x0, 1, 0x0, false, [F.CRUST_HINT_GO_GO, F.CRUST_HINT_GO_PENDING]⟩
  , ⟨0x70050, 1, 0x0, 1, 0x0, false, [F.CRUST_TILE_SEL_TILE, F.CRUST_TILE_SEL_PLANE]⟩
  , ⟨0x70054, 1, 0x0, 1, 0x0, false, [F.CRUST_TILE_W0_SIG, F.CRUST_TILE_W0_STATE0, F.CRUST_TILE_W0_STATE1, F.CRUST_TILE_W0_INVALID, F.CRUST_TILE_W0_VIS, F.CRUST_TILE_W0_DAMAGE]⟩
  , ⟨0x70058, 1, 0x0, 1, 0x0, false, [F.CRUST_TILE_W1_PAYLOAD0_LO]⟩
  , ⟨0x7005C, 1, 0x0, 1, 0x0, false, [F.CRUST_TILE_W2_PAYLOAD0_HI]⟩
  , ⟨0x70060, 1, 0x0, 1, 0x0, false, [F.CRUST_TILE_W3_PAYLOAD1_LO]⟩
  , ⟨0x70064, 1, 0x0, 1, 0x0, false, [F.CRUST_TILE_W4_PAYLOAD1_HI]⟩
  , ⟨0x70100, 8, 0x20, 1, 0x0, false, [F.CRUST_CTRL_ALLOC, F.CRUST_CTRL_EN]⟩
  , ⟨0x70104, 8, 0x20, 1, 0x0, false, [F.CRUST_TILES_A_EMPTY, F.CRUST_TILES_A_UNIFORM]⟩
  , ⟨0x70108, 8, 0x20, 1, 0x0, false, [F.CRUST_TILES_B_COMPRESSED, F.CRUST_TILES_B_RAW]⟩
  , ⟨0x7010C, 8, 0x20, 1, 0x0, false, [F.CRUST_RUN_MEMBERS, F.CRUST_RUN_PEAK]⟩
  , ⟨0x70200, 4, 0x20, 1, 0x0, false, [F.CRUST_PIPE_CFG_ENTRY, F.CRUST_PIPE_CFG_SLOW, F.CRUST_PIPE_CFG_SIG_SKIP]⟩
  , ⟨0x70204, 4, 0x20, 1, 0x0, false, [F.CRUST_PIPE_STATUS_DISSOLVED, F.CRUST_PIPE_STATUS_ENTRY_PARITY, F.CRUST_PIPE_STATUS_DATA_PARITY, F.CRUST_PIPE_STATUS_DISCARDED, F.CRUST_PIPE_STATUS_STORE_FULL, F.CRUST_PIPE_STATUS_ALLOC_LIMIT, F.CRUST_PIPE_STATUS_SLOW, F.CRUST_PIPE_STATUS_READY, F.CRUST_PIPE_STATUS_HOLD, F.CRUST_PIPE_STATUS_TOO_LARGE, F.CRUST_PIPE_STATUS_CLR_COUNTS, F.CRUST_PIPE_STATUS_HOLD_FRAMES]⟩
  , ⟨0x70208, 4, 0x20, 1, 0x0, false, [F.CRUST_PIPE_COUNTS_TILES_WRITTEN, F.CRUST_PIPE_COUNTS_TILES_SKIPPED]⟩
  , ⟨0x7020C, 4, 0x20, 1, 0x0, false, [F.CRUST_PIPE_VERSIONS_VERSIONS]⟩ ]

/-- The registers of block FETCH. -/
def regsFETCH : List Reg :=
  [ ⟨0x80000, 1, 0x0, 1, 0x0, false, [F.FETCH_DRAM_RATE, F.FETCH_DRAM_ECC_EN, F.FETCH_DRAM_CH_SIZE, F.FETCH_DRAM_PAIRS_OK]⟩
  , ⟨0x80004, 1, 0x0, 1, 0x0, false, [F.FETCH_USABLE_MIB]⟩
  , ⟨0x80008, 1, 0x0, 1, 0x0, false, [F.FETCH_EFF_EFF, F.FETCH_EFF_EFF_CLAMPED, F.FETCH_EFF_CEILING]⟩
  , ⟨0x8000C, 1, 0x0, 1, 0x0, false, [F.FETCH_DERATE_REF_PLAN, F.FETCH_DERATE_REF_NOW, F.FETCH_DERATE_TRAIN_MS]⟩
  , ⟨0x80010, 1, 0x0, 1, 0x0, false, [F.FETCH_BUDGET_MBPS]⟩
  , ⟨0x80014, 1, 0x0, 1, 0x0, false, [F.FETCH_HEADROOM_MBPS]⟩
  , ⟨0x80018, 1, 0x0, 1, 0x0, false, [F.FETCH_STATUS_OUT_OF_RANGE, F.FETCH_STATUS_STORE_PARITY, F.FETCH_STATUS_ECC_UE, F.FETCH_STATUS_CE_STORM, F.FETCH_STATUS_OVER_BUDGET, F.FETCH_STATUS_DECL_REFUSED, F.FETCH_STATUS_DECL_BUSY, F.FETCH_STATUS_DECL_PENDING]⟩
  , ⟨0x8001C, 1, 0x0, 1, 0x0, false, [F.FETCH_SLACK_WEIGHTS_PCIE, F.FETCH_SLACK_WEIGHTS_CRUST, F.FETCH_SLACK_WEIGHTS_SCRAPER, F.FETCH_SLACK_WEIGHTS_DMA, F.FETCH_SLACK_WEIGHTS_HEARTH]⟩
  , ⟨0x80020, 1, 0x0, 1, 0x0, false, [F.FETCH_SLACK_GUARD_NS]⟩
  , ⟨0x80024, 1, 0x0, 1, 0x0, false, [F.FETCH_ECC_CFG_STORM]⟩
  , ⟨0x80040, 8, 0x10, 1, 0x0, false, [F.FETCH_DECL_CTRL_MBPS, F.FETCH_DECL_CTRL_EN]⟩
  , ⟨0x80044, 8, 0x10, 1, 0x0, false, [F.FETCH_DECL_SIZE_UNITS]⟩
  , ⟨0x80048, 8, 0x10, 1, 0x0, true, [F.FETCH_DECL_BASE_BASE]⟩
  , ⟨0x80100, 4, 0x10, 1, 0x0, false, [F.FETCH_PIPE_NEED_BYTES]⟩
  , ⟨0x80104, 4, 0x10, 1, 0x0, false, [F.FETCH_PIPE_ALLOC_EFF_BYTES]⟩
  , ⟨0x80108, 4, 0x10, 1, 0x0, false, [F.FETCH_PIPE_NEED_MBPS_MBPS]⟩
  , ⟨0x8010C, 4, 0x10, 1, 0x0, false, [F.FETCH_PIPE_PEAK_LINE]⟩
  , ⟨0x88000, 16, 0x100, 1, 0x0, false, [F.CH_STATUS_TRAINED, F.CH_STATUS_FENCED, F.CH_STATUS_REF_MULT, F.CH_STATUS_TEMP]⟩
  , ⟨0x88004, 16, 0x100, 1, 0x0, false, [F.CH_ERRORS_CE_COUNT, F.CH_ERRORS_UE_COUNT]⟩ ]

/-- The registers of block PORT. -/
def regsPORT : List Reg :=
  [ ⟨0x90000, 4, 0x2000, 1, 0x0, false, [F.DP_CTRL_MODE, F.DP_CTRL_LANES, F.DP_CTRL_RATE, F.DP_CTRL_PSR_EN, F.DP_CTRL_SU_EN, F.DP_CTRL_HDCP_EN, F.DP_CTRL_HDCP_TYPE]⟩
  , ⟨0x90004, 4, 0x2000, 1, 0x0, false, [F.DP_STATUS_PLUGGED, F.DP_STATUS_TRAINED, F.DP_STATUS_HOTPLUG, F.DP_STATUS_IRQ_HPD, F.DP_STATUS_TRAIN_FAIL, F.DP_STATUS_LINK_LOST, F.DP_STATUS_PSR_ACTIVE, F.DP_STATUS_RETRAIN_COUNT]⟩
  , ⟨0x90008, 4, 0x2000, 1, 0x0, false, [F.DP_SINK_A_MAX_RATE, F.DP_SINK_A_MAX_LANES, F.DP_SINK_A_ASYNC, F.DP_SINK_A_PSR, F.DP_SINK_A_SU, F.DP_SINK_A_DSC, F.DP_SINK_A_DSC_422, F.DP_SINK_A_HDCP23, F.DP_SINK_A_ASYNC_MIN_HZ]⟩
  , ⟨0x9000C, 4, 0x2000, 1, 0x0, false, [F.DP_SINK_B_DSC_MAX_SLICES, F.DP_SINK_B_DSC_MAX_BPP, F.DP_SINK_B_SU_GRAN, F.DP_SINK_B_EDP_RATES]⟩
  , ⟨0x90010, 4, 0x2000, 1, 0x0, false, [F.DP_HDCP_STATE, F.DP_HDCP_REPEATER, F.DP_HDCP_ENCRYPTING, F.DP_HDCP_PROT_BLOCKED, F.DP_HDCP_AUTH_COUNT]⟩
  , ⟨0x90014, 4, 0x2000, 1, 0x0, false, [F.DP_BACKLIGHT_LEVEL]⟩
  , ⟨0x91000, 4, 0x2000, 4, 0x4, false, [F.DP_PHY_LANE_PREEMPH, F.DP_PHY_LANE_SWING]⟩
  , ⟨0x98000, 2, 0x2000, 1, 0x0, false, [F.DSI_CTRL_MODE, F.DSI_CTRL_SYNC, F.DSI_CTRL_LANES, F.DSI_CTRL_RATE_MBPS]⟩
  , ⟨0x98004, 2, 0x2000, 1, 0x0, false, [F.DSI_STATUS_READY, F.DSI_STATUS_ERR_REPORT, F.DSI_STATUS_PROT_BLOCKED, F.DSI_STATUS_ERR_COUNT]⟩ ]

/-- The registers of block SIG. -/
def regsSIG : List Reg :=
  [ ⟨0xA0000, 1, 0x0, 1, 0x0, false, [F.SIG_SNAP_SEL_INDEX, F.SIG_SNAP_SEL_KIND, F.SIG_SNAP_SEL_VALID]⟩
  , ⟨0xA0010, 3, 0x10, 1, 0x0, false, [F.SIG_SNAP_VALUE_VALUE]⟩
  , ⟨0xA0014, 3, 0x10, 1, 0x0, false, [F.SIG_SNAP_COUNT_COUNT]⟩
  , ⟨0xA0018, 3, 0x10, 1, 0x0, false, [F.SIG_SNAP_FLAGS_CAUSE, F.SIG_SNAP_FLAGS_NOT_SENT, F.SIG_SNAP_FLAGS_EMPTY, F.SIG_SNAP_FLAGS_PROT_BLACK, F.SIG_SNAP_FLAGS_BLANKED, F.SIG_SNAP_FLAGS_REPLAY, F.SIG_SNAP_FLAGS_TORN, F.SIG_SNAP_FLAGS_INVALID, F.SIG_SNAP_FLAGS_PRESENT]⟩
  , ⟨0xA0100, 4, 0x10, 1, 0x0, false, [F.SIG_PIPE_CFG_OUT_STALE_FRAMES]⟩
  , ⟨0xA0104, 4, 0x10, 1, 0x0, false, [F.SIG_PIPE_STATUS_OUTPUT_STALE, F.SIG_PIPE_STATUS_OUTPUT_STALE_ACTIVE, F.SIG_PIPE_STATUS_CLR_COUNTS, F.SIG_PIPE_STATUS_OUT_RUN]⟩
  , ⟨0xA0108, 4, 0x10, 1, 0x0, false, [F.SIG_PIPE_COUNTS_TORN_FRAMES, F.SIG_PIPE_COUNTS_INVALID_FRAMES]⟩
  , ⟨0xA0400, 64, 0x10, 1, 0x0, false, [F.SIG_VL_CFG_STALE_FRAMES, F.SIG_VL_CFG_BLACK_LEVEL, F.SIG_VL_CFG_BLACK_FRAMES]⟩
  , ⟨0xA0404, 64, 0x10, 1, 0x0, false, [F.SIG_VL_STATUS_STALE, F.SIG_VL_STATUS_BLACK, F.SIG_VL_STATUS_STALE_ACTIVE, F.SIG_VL_STATUS_BLACK_ACTIVE, F.SIG_VL_STATUS_BLACK_RUN, F.SIG_VL_STATUS_STALE_RUN]⟩
  , ⟨0xA0408, 64, 0x10, 1, 0x0, false, [F.SIG_VL_LUMA_MEAN]⟩ ]

/-- The registers of block SCRAPER. -/
def regsSCRAPER : List Reg :=
  [ ⟨0xB0000, 1, 0x0, 1, 0x0, false, [F.SCRAPER_CFG_SQ3_SERVICE]⟩
  , ⟨0xB0004, 1, 0x0, 1, 0x0, false, [F.SCRAPER_STATUS_QUEUE_OWNED]⟩
  , ⟨0xB0010, 4, 0x4, 1, 0x0, false, [F.SCRAPER_BEAM_COUNT, F.SCRAPER_BEAM_SLOT, F.SCRAPER_BEAM_QUEUE, F.SCRAPER_BEAM_OVERTAKE]⟩
  , ⟨0xB0100, 4, 0x40, 1, 0x0, false, [F.SQ_CTRL_WM_VECTOR, F.SQ_CTRL_DONE_VECTOR, F.SQ_CTRL_PRIO, F.SQ_CTRL_STOP_ON_ERR, F.SQ_CTRL_EN]⟩
  , ⟨0xB0108, 4, 0x40, 1, 0x0, true, [F.SQ_BASE_BASE]⟩
  , ⟨0xB0110, 4, 0x40, 1, 0x0, true, [F.SQ_CPL_BASE_BASE]⟩
  , ⟨0xB0118, 4, 0x40, 1, 0x0, false, [F.SQ_TAIL_TAIL]⟩
  , ⟨0xB011C, 4, 0x40, 1, 0x0, false, [F.SQ_HEAD_HEAD]⟩
  , ⟨0xB0120, 4, 0x40, 1, 0x0, false, [F.SQ_STATUS_RUNNING, F.SQ_STATUS_IDLE, F.SQ_STATUS_STOPPED, F.SQ_STATUS_OVERLAP_ORDER, F.SQ_STATUS_ERR, F.SQ_STATUS_CFG_BAD, F.SQ_STATUS_TAIL_BAD, F.SQ_STATUS_LAST_RESULT, F.SQ_STATUS_ERR_COUNT]⟩
  , ⟨0xB0124, 4, 0x40, 1, 0x0, false, [F.SQ_DONE_LINE_DONE_LINE, F.SQ_DONE_LINE_SLOT, F.SQ_DONE_LINE_ACTIVE]⟩
  , ⟨0xB0128, 4, 0x40, 1, 0x0, false, [F.SQ_JOBS_JOBS]⟩ ]

/-- The registers of block DMA. -/
def regsDMA : List Reg :=
  [ ⟨0xC0000, 1, 0x0, 1, 0x0, false, [F.DMA_ENGINE_CTRL_HALT_VECTOR, F.DMA_ENGINE_CTRL_CLEAR_HALT]⟩
  , ⟨0xC0004, 1, 0x0, 1, 0x0, false, [F.DMA_ENGINE_STATUS_HALT_COUNT, F.DMA_ENGINE_STATUS_CAUSE, F.DMA_ENGINE_STATUS_CLEAR_EARLY, F.DMA_ENGINE_STATUS_WRITE, F.DMA_ENGINE_STATUS_SPACE, F.DMA_ENGINE_STATUS_SETTLED, F.DMA_ENGINE_STATUS_HALT]⟩
  , ⟨0xC0008, 1, 0x0, 1, 0x0, true, [F.DMA_HALT_ADDR_ADDR]⟩
  , ⟨0xC0010, 1, 0x0, 1, 0x0, false, [F.DMA_ENGINE_ACTIVE_RUNNING, F.DMA_ENGINE_ACTIVE_HALTED]⟩
  , ⟨0xC0100, 16, 0x40, 1, 0x0, false, [F.DMA_CH_CTRL_VECTOR, F.DMA_CH_CTRL_PRIO]⟩
  , ⟨0xC0108, 16, 0x40, 1, 0x0, true, [F.DMA_CH_DESC_ADDR]⟩
  , ⟨0xC0110, 16, 0x40, 1, 0x0, false, [F.DMA_CH_GO_RESUME, F.DMA_CH_GO_GO]⟩
  , ⟨0xC0114, 16, 0x40, 1, 0x0, false, [F.DMA_CH_STATUS_STATE, F.DMA_CH_STATUS_ERR, F.DMA_CH_STATUS_CFG_BUSY, F.DMA_CH_STATUS_GO_REFUSED, F.DMA_CH_STATUS_LAST_RESULT]⟩
  , ⟨0xC0118, 16, 0x40, 1, 0x0, true, [F.DMA_CH_CUR_ADDR]⟩
  , ⟨0xC0120, 16, 0x40, 1, 0x0, false, [F.DMA_CH_BYTES_BYTES]⟩
  , ⟨0xC0124, 16, 0x40, 1, 0x0, false, [F.DMA_CH_COUNT_COUNT]⟩ ]

/-- The registers of block CHK. -/
def regsCHK : List Reg :=
  [ ⟨0xD0000, 1, 0x0, 1, 0x0, false, [F.CHK_STATUS_UNIT_OWNED, F.CHK_STATUS_BAD_ALG]⟩
  , ⟨0xD0100, 8, 0x40, 1, 0x0, false, [F.CHK_CTRL_ALG, F.CHK_CTRL_INIT]⟩
  , ⟨0xD0104, 8, 0x40, 1, 0x0, false, [F.CHK_FEED8_DATA]⟩
  , ⟨0xD0108, 8, 0x40, 1, 0x0, false, [F.CHK_FEED16_DATA]⟩
  , ⟨0xD010C, 8, 0x40, 1, 0x0, false, [F.CHK_FEED32_DATA]⟩
  , ⟨0xD0110, 8, 0x40, 1, 0x0, false, [F.CHK_STATE_STATE]⟩
  , ⟨0xD0114, 8, 0x40, 1, 0x0, false, [F.CHK_AUX_BYTE, F.CHK_AUX_PENDING]⟩
  , ⟨0xD0118, 8, 0x40, 1, 0x0, false, [F.CHK_RESULT_RESULT]⟩
  , ⟨0xD011C, 8, 0x40, 1, 0x0, false, [F.CHK_COUNT_COUNT]⟩ ]

/-- The registers of block FENCE. -/
def regsFENCE : List Reg :=
  [ ⟨0xE0000, 1, 0x0, 1, 0x0, false, [F.SURF_STAGE_0_BASE0_LO]⟩
  , ⟨0xE0004, 1, 0x0, 1, 0x0, false, [F.SURF_STAGE_1_BASE1_LO]⟩
  , ⟨0xE0008, 1, 0x0, 1, 0x0, false, [F.SURF_STAGE_2_BASE2_LO]⟩
  , ⟨0xE000C, 1, 0x0, 1, 0x0, false, [F.SURF_STAGE_3_BASE0_HI, F.SURF_STAGE_3_BASE1_HI, F.SURF_STAGE_3_BASE2_HI, F.SURF_STAGE_3_FORMAT]⟩
  , ⟨0xE0010, 1, 0x0, 1, 0x0, false, [F.SURF_STAGE_4_WIDTH, F.SURF_STAGE_4_HEIGHT]⟩
  , ⟨0xE0014, 1, 0x0, 1, 0x0, false, [F.SURF_STAGE_5_PITCH0, F.SURF_STAGE_5_PITCH1]⟩
  , ⟨0xE0018, 1, 0x0, 1, 0x0, false, [F.SURF_STAGE_6_PITCH2, F.SURF_STAGE_6_RETIRE_FID, F.SURF_STAGE_6_RETIRE_EN]⟩
  , ⟨0xE001C, 1, 0x0, 1, 0x0, false, [F.SURF_STAGE_7_STATE, F.SURF_STAGE_7_GUARD, F.SURF_STAGE_7_PROTECTED, F.SURF_STAGE_7_CHECK_MODE, F.SURF_STAGE_7_SEALING, F.SURF_STAGE_7_TORN_COUNT]⟩
  , ⟨0xE0020, 1, 0x0, 1, 0x0, false, [F.SURF_CMD_SID, F.SURF_CMD_ALLOC, F.SURF_CMD_OP]⟩
  , ⟨0xE0024, 1, 0x0, 1, 0x0, false, [F.SURF_RESULT_SID, F.SURF_RESULT_DONE, F.SURF_RESULT_CODE]⟩
  , ⟨0xE0028, 1, 0x0, 1, 0x0, false, [F.SURF_OCCUPANCY_COUNT, F.SURF_OCCUPANCY_HIGH_WATER]⟩
  , ⟨0xE002C, 1, 0x0, 1, 0x0, false, [F.SURF_STATUS_TABLE_HIGH, F.SURF_STATUS_FULL_SEEN, F.SURF_STATUS_TORN, F.SURF_STATUS_PROT_READ, F.SURF_STATUS_PROT_COPY, F.SURF_STATUS_DESC_FIXED, F.SURF_STATUS_DESC_LOST, F.SURF_STATUS_SEAL_FAIL, F.SURF_STATUS_CMD_BUSY]⟩
  , ⟨0xE0030, 1, 0x0, 1, 0x0, false, [F.SURF_TORN_SID, F.SURF_TORN_PIPE]⟩
  , ⟨0xE0034, 1, 0x0, 1, 0x0, false, [F.SURF_ERR_SID_SID, F.SURF_ERR_SID_VALID]⟩
  , ⟨0xE0038, 1, 0x0, 1, 0x0, false, [F.SURF_SEAL_SID, F.SURF_SEAL_DONE, F.SURF_SEAL_BUSY, F.SURF_SEAL_CODE]⟩
  , ⟨0xE0040, 1, 0x0, 1, 0x0, false, [F.FENCE_CMD_FID, F.FENCE_CMD_ALLOC_ANY, F.FENCE_CMD_OP]⟩
  , ⟨0xE0044, 1, 0x0, 1, 0x0, false, [F.FENCE_RESULT_FID, F.FENCE_RESULT_DONE, F.FENCE_RESULT_CODE]⟩
  , ⟨0xE0048, 1, 0x0, 1, 0x0, true, [F.FENCE_INIT_VALUE]⟩
  , ⟨0xE0050, 1, 0x0, 1, 0x0, false, [F.FENCE_OCCUPANCY_COUNT, F.FENCE_OCCUPANCY_HIGH_WATER]⟩
  , ⟨0xE0054, 1, 0x0, 1, 0x0, false, [F.FENCE_STATUS_TABLE_HIGH, F.FENCE_STATUS_FULL_SEEN, F.FENCE_STATUS_BACKWARD, F.FENCE_STATUS_DOORBELL_FREE, F.FENCE_STATUS_SIGNAL_FREE, F.FENCE_STATUS_ECC_FIXED, F.FENCE_STATUS_ECC_LOST]⟩
  , ⟨0xE0058, 1, 0x0, 1, 0x0, false, [F.FENCE_ERR_FID_FID, F.FENCE_ERR_FID_VALID]⟩
  , ⟨0xE0100, 16, 0x10, 1, 0x0, false, [F.FENCE_WATCH_CTRL_FID, F.FENCE_WATCH_CTRL_VECTOR, F.FENCE_WATCH_CTRL_EN]⟩
  , ⟨0xE0108, 16, 0x10, 1, 0x0, true, [F.FENCE_WATCH_THRESHOLD_VALUE]⟩
  , ⟨0xE0200, 1, 0x0, 1, 0x0, false, [F.FENCE_WATCH_HIT_HIT]⟩
  , ⟨0xE8000, 4096, 0x8, 1, 0x0, true, [F.FENCE_DB_VALUE]⟩ ]

/-- The registers of block HEARTH. -/
def regsHEARTH : List Reg :=
  [ ⟨0xF0000, 1, 0x0, 1, 0x0, false, [F.POWER_WAKE_WAKE_N, F.POWER_WAKE_HPD, F.POWER_WAKE_PERST, F.POWER_WAKE_SIDEBAND, F.POWER_WAKE_LAST_SRC]⟩
  , ⟨0xF0004, 1, 0x0, 1, 0x0, false, [F.POWER_BROWNOUT_BROWNOUT_WARN, F.POWER_BROWNOUT_ACTIVE, F.POWER_BROWNOUT_RESET_ISLAND, F.POWER_BROWNOUT_WARN_COUNT]⟩
  , ⟨0xF0100, 1, 0x0, 1, 0x0, false, [F.IO_DRIVE_EN_DRIVE, F.IO_DRIVE_EN_FAST, F.IO_DRIVE_SPI_DRIVE, F.IO_DRIVE_SPI_FAST, F.IO_DRIVE_DBG_DRIVE, F.IO_DRIVE_DBG_FAST]⟩
  , ⟨0xF0104, 1, 0x0, 1, 0x0, false, [F.IO_STRAPS_EDP, F.IO_STRAPS_STARTER, F.IO_STRAPS_I2C_ADDR, F.IO_STRAPS_TEST_MODE]⟩
  , ⟨0xF0108, 1, 0x0, 1, 0x0, false, [F.IO_STATUS_REFCLK_LOST, F.IO_STATUS_HOLDOVER, F.IO_STATUS_TEST_STRAP, F.IO_STATUS_STRAP_CHANGED]⟩
  , ⟨0xF1000, 1, 0x0, 1, 0x0, false, [F.HEARTH_STATE_STATE, F.HEARTH_STATE_SLOT, F.HEARTH_STATE_RECOVERY_IMAGE, F.HEARTH_STATE_DEGRADED, F.HEARTH_STATE_STARTER_REASON, F.HEARTH_STATE_OVER_CAP]⟩
  , ⟨0xF1004, 1, 0x0, 1, 0x0, false, [F.HEARTH_WDOG_RECENT, F.HEARTH_WDOG_RESTARTS]⟩
  , ⟨0xF1010, 1, 0x0, 1, 0x0, false, [F.LEAVEN_STATUS_MIN_TO_RUN, F.LEAVEN_STATUS_REPLANS]⟩
  , ⟨0xF1014, 1, 0x0, 1, 0x0, false, [F.LEAVEN_TRIM_TRIM]⟩
  , ⟨0xF1020, 4, 0x4, 1, 0x0, false, [F.LEAVEN_MARGIN_MARGIN_LO, F.LEAVEN_MARGIN_MARGIN_HI]⟩
  , ⟨0xF2000, 16, 0x4, 1, 0x0, false, [F.SENSOR_THERM_WORD]⟩
  , ⟨0xF2040, 24, 0x4, 1, 0x0, false, [F.SENSOR_DROOP_WORD]⟩
  , ⟨0xF2100, 48, 0x4, 1, 0x0, false, [F.SENSOR_AGE_WORD]⟩
  , ⟨0xF2200, 7, 0x4, 1, 0x0, false, [F.SENSOR_ISLAND_TEMP, F.SENSOR_ISLAND_ABOVE, F.SENSOR_ISLAND_VALID]⟩
  , ⟨0xF3000, 1, 0x0, 1, 0x0, false, [F.POWER_CTRL_TARGET]⟩
  , ⟨0xF3004, 1, 0x0, 1, 0x0, false, [F.POWER_STATUS_STATE, F.POWER_STATUS_TRANSITION, F.POWER_STATUS_SHUTDOWN, F.POWER_STATUS_HOLD_THERMAL, F.POWER_STATUS_REFUSED, F.POWER_STATUS_DRAM_KEPT, F.POWER_STATUS_HOLD_COUNT]⟩
  , ⟨0xF3008, 1, 0x0, 1, 0x0, false, [F.POWER_PIPE_RESET_PIPE]⟩
  , ⟨0xF3020, 7, 0x4, 1, 0x0, false, [F.POWER_ISLAND_NOMINAL, F.POWER_ISLAND_TARGET]⟩ ]

/-- The registers of block SECURE. -/
def regsSECURE : List Reg :=
  [ ⟨0x100000, 1, 0x0, 1, 0x0, false, [F.SECURE_ST_BUDGET_SERIAL, F.SECURE_ST_BUDGET_PCIE, F.SECURE_ST_BUDGET_DDR, F.SECURE_ST_BUDGET_PLL, F.SECURE_ST_BUDGET_THERMAL, F.SECURE_ST_BUDGET_SUPPLY, F.SECURE_ST_BUDGET_AGEING]⟩
  , ⟨0x100004, 1, 0x0, 1, 0x0, false, [F.SECURE_ST_STATUS_REMAINING, F.SECURE_ST_STATUS_SLICE, F.SECURE_ST_STATUS_INTERRUPTED, F.SECURE_ST_STATUS_ON_DEMAND, F.SECURE_ST_STATUS_RUNNING]⟩
  , ⟨0x100008, 1, 0x0, 1, 0x0, false, [F.SECURE_FENCED_DP, F.SECURE_FENCED_DSI, F.SECURE_FENCED_PAIRS, F.SECURE_FENCED_PIPES]⟩
  , ⟨0x100010, 1, 0x0, 1, 0x0, false, [F.SECURE_KEYS_ROLLBACK, F.SECURE_KEYS_KEY_A_REVOKED, F.SECURE_KEYS_FUSE_PATH_OFF, F.SECURE_KEYS_HDCP_KEYS, F.SECURE_KEYS_WRAP_FAIL]⟩
  , ⟨0x100040, 1, 0x0, 1, 0x0, false, [F.SECURE_DEBUG_DENIED_COUNT, F.SECURE_DEBUG_PORT_OPEN, F.SECURE_DEBUG_SCAN_REFUSED, F.SECURE_DEBUG_SCAN_REQ, F.SECURE_DEBUG_OPENED]⟩ ]

/-- The registers of block ICP. -/
def regsICP : List Reg :=
  [ ⟨0x2008000, 1, 0x0, 1, 0x0, false, [F.ICP_CMD_TAIL_TAIL]⟩
  , ⟨0x2008004, 1, 0x0, 1, 0x0, false, [F.ICP_CMD_HEAD_HEAD]⟩
  , ⟨0x2008008, 1, 0x0, 1, 0x0, false, [F.ICP_RPL_TAIL_TAIL]⟩
  , ⟨0x200800C, 1, 0x0, 1, 0x0, false, [F.ICP_RPL_HEAD_HEAD]⟩
  , ⟨0x2008010, 1, 0x0, 1, 0x0, false, [F.ICP_RING_CTRL_VECTOR, F.ICP_RING_CTRL_EN]⟩
  , ⟨0x2008014, 1, 0x0, 1, 0x0, false, [F.ICP_RING_STATUS_TAIL_BAD, F.ICP_RING_STATUS_HEAD_BAD, F.ICP_RING_STATUS_ACCESS, F.ICP_RING_STATUS_HOST_LOST]⟩
  , ⟨0x2008018, 1, 0x0, 1, 0x0, false, [F.ICP_ATTENTION_ATTENTION, F.ICP_ATTENTION_CONTROLLER, F.ICP_ATTENTION_STARTER_REASON]⟩ ]

end Sys2Proof.Machine
end

