-- ==== Sys2Proof/Machine/Tab.lean ====
section
/-! DEFINITION.  Sparse tables: a list of (key, value) pairs with strictly rising keys and no entry equal to
    what an unlisted key reads as, so that equal tables are equal data.  Registers, memory, surfaces, fences,
    tiles and every other indexed state of the device are held in this one form. -/

namespace Sys2Proof.Machine

/-- A sparse table from numbers to `α`. -/
abbrev Tab (α : Type) := List (Nat × α)

/-- What key `k` reads as; `d` gives the value of an unlisted key. -/
def Tab.get {α : Type} (d : Nat → α) : Tab α → Nat → α
  | [], k => d k
  | (a, v) :: t, k => if k < a then d k else if k = a then v else Tab.get d t k

/-- The table with key `k` reading as `v`; a value equal to the default is not listed. -/
def Tab.put {α : Type} [DecidableEq α] (d : Nat → α) : Tab α → Nat → α → Tab α
  | [], k, v => if v = d k then [] else [(k, v)]
  | (a, w) :: t, k, v =>
    if k < a then (if v = d k then (a, w) :: t else (k, v) :: (a, w) :: t)
    else if k = a then (if v = d k then t else (a, v) :: t)
    else (a, w) :: Tab.put d t k v

/-- Every listed key lies at or above `lo`, keys rise strictly, and no entry equals the default. -/
def Tab.wfFrom {α : Type} [DecidableEq α] (d : Nat → α) : Nat → Tab α → Bool
  | _, [] => true
  | lo, (a, v) :: t => decide (lo ≤ a) && decide (v ≠ d a) && Tab.wfFrom d (a + 1) t

/-- The canonical form of a table. -/
def Tab.wf {α : Type} [DecidableEq α] (d : Nat → α) (t : Tab α) : Bool := Tab.wfFrom d 0 t

/-- The entry `f` of every listed key, defaults dropped again. -/
def Tab.mapEntries {α : Type} [DecidableEq α] (d : Nat → α) (f : Nat → α → α) : Tab α → Tab α
  | [] => []
  | (a, v) :: t =>
    if f a v = d a then Tab.mapEntries d f t else (a, f a v) :: Tab.mapEntries d f t

/-- Only the entries whose key satisfies `p`. -/
def Tab.keep {α : Type} (p : Nat → Bool) : Tab α → Tab α
  | [] => []
  | (a, v) :: t => if p a then (a, v) :: Tab.keep p t else Tab.keep p t

/-- `t` overwritten with every entry of the second table. -/
def Tab.merge {α : Type} [DecidableEq α] (d : Nat → α) (t : Tab α) : Tab α → Tab α
  | [] => t
  | (a, v) :: u => Tab.merge d (Tab.put d t a v) u

/-- The key-`i` entries for the listed values, from `k` upward. -/
def Tab.putList {α : Type} [DecidableEq α] (d : Nat → α) : Tab α → Nat → List α → Tab α
  | t, _, [] => t
  | t, k, v :: vs => Tab.putList d (Tab.put d t k v) (k + 1) vs

/-- The values of keys `k .. k+n-1`. -/
def Tab.getList {α : Type} (d : Nat → α) (t : Tab α) : Nat → Nat → List α
  | _, 0 => []
  | k, n + 1 => Tab.get d t k :: Tab.getList d t (k + 1) n

end Sys2Proof.Machine
end

