-- ==== Sys2Proof/Machine/Regs.lean ====
section
/-! DEFINITION.  Finding a register by its offset, the masks of a word by field type, reset words, and reading and
    writing fields of a register table. -/

namespace Sys2Proof.Machine

/-- The index of the word of `r` that offset `off` names (0, or 1 for the upper word of a pair), if any. -/
def Reg.wordAt (r : Reg) (off : Nat) : Option Nat :=
  if off < r.off then none
  else
    let d := off - r.off
    let i := if r.s1 = 0 then 0 else min (d / r.s1) (r.n1 - 1)
    let e := d - i * r.s1
    let j := if r.s2 = 0 then 0 else min (e / r.s2) (r.n2 - 1)
    let x := e - j * r.s2
    if x = 0 then some 0 else if x = 4 && r.pair then some 1 else none

/-- The registers of the 64 KiB page an offset lies in. -/
def regsOfPage : Nat → List Reg
  | 0 => regsSYS | 1 => regsCOMMIT | 2 => regsPIPE | 3 => regsPIPE | 4 => regsVL | 5 => regsGL
  | 6 => regsLINESTORE | 7 => regsCRUST | 8 => regsFETCH | 9 => regsPORT | 10 => regsSIG
  | 11 => regsSCRAPER | 12 => regsDMA | 13 => regsCHK | 14 => regsFENCE | 15 => regsHEARTH
  | 16 => regsSECURE | 512 => regsICP | _ => []

/-- The register and the word of it that a primary-map offset names. -/
def findReg (off : Nat) : Option (Reg × Nat) :=
  go (regsOfPage (off / 65536))
where
  /-- The first register of a list with a word at the offset. -/
  go : List Reg → Option (Reg × Nat)
    | [] => none
    | r :: t => match r.wordAt off with
      | some k => some (r, k)
      | none => go t

/-- A field's part in word `k` of its register: lowest bit, width and reset value of the part. -/
def Fld.part (r : Reg) (k : Nat) (f : Fld) : Option (Nat × Nat × Nat) :=
  if f.off = r.off + 4 * k then some (f.lo, min f.len (32 - f.lo), f.rst % 2 ^ (32 - f.lo))
  else if k = 1 && f.off = r.off && 32 < f.lo + f.len then some (0, f.lo + f.len - 32, f.rst / 2 ^ (32 - f.lo))
  else none

/-- The bits of word `k` of `r` that belong to fields satisfying `p`. -/
def maskOf (r : Reg) (k : Nat) (p : Fld → Bool) : Word :=
  BitVec.ofNat 32 (sumOf (fun f => match f.part r k with
    | some (lo, len, _) => if p f then (2 ^ len - 1) * 2 ^ lo else 0
    | none => 0) r.flds)

/-- The reset value of the fields of word `k` of `r` that satisfy `p`. -/
def resetOf (r : Reg) (k : Nat) (p : Fld → Bool) : Word :=
  BitVec.ofNat 32 (sumOf (fun f => match f.part r k with
    | some (lo, _, v) => if p f then v * 2 ^ lo else 0
    | none => 0) r.flds)

/-- Is the field frame-banked? -/
def Fld.banked (f : Fld) : Bool := f.acc = .rws

/-- R466: the nominal voltage of an island in mV. -/
def nominalMv (island : Nat) : Nat := if island = 4 || island = 6 then 800 else 750

/-- Key distance between the host's copy of a per-requester register and Hearth firmware's own copy.
    Log 58 (DESIGN CHOICE, unsafe). -/
def fwCopy : Nat := 0x4000000

/-- The reset word of the unbanked fields at a key of the register table.  An island's supply holds its nominal voltage
    (R466), and SYS_ID its fused grade (R70).
    Log 10 (DESIGN CHOICE, unsafe). -/
def dfltU (key : Nat) : Word :=
  let off := key % fwCopy
  if off = 0 then BitVec.ofNat 32 (0x9764B000 + b2n Config.gradeE)
  else if 0xF3020 ≤ off && off < 0xF303C then BitVec.ofNat 32 (nominalMv ((off - 0xF3020) / 4) * 65537)
  else match findReg off with
    | some (r, k) => resetOf r k (fun f => !f.banked)
    | none => 0

/-- The reset word of the frame-banked fields at an offset.
    Log 10 (DESIGN CHOICE, unsafe). -/
def dfltB (off : Nat) : Word :=
  match findReg off with
  | some (r, k) => resetOf r k Fld.banked
  | none => 0

/-- The value of a field under a reading of words. -/
def Fld.get (rdw : Nat → Word) (f : Fld) : Nat :=
  bits ((rdw f.off).toNat + (if 32 < f.lo + f.len then (rdw (f.off + 4)).toNat * 2 ^ 32 else 0)) f.lo f.len

/-- A table of words with a field set to `v`. -/
def Fld.set (d : Nat → Word) (t : Tab Word) (f : Fld) (v : Nat) : Tab Word :=
  let lo := (Tab.get d t f.off).toNat
  if 32 < f.lo + f.len then
    let w := setBits (lo + (Tab.get d t (f.off + 4)).toNat * 2 ^ 32) f.lo f.len v
    Tab.put d (Tab.put d t f.off (BitVec.ofNat 32 w)) (f.off + 4) (BitVec.ofNat 32 (w / 2 ^ 32))
  else Tab.put d t f.off (BitVec.ofNat 32 (setBits lo f.lo f.len v))

/-- R13: a word after a reset of rank `e`: the fields that do not survive it return to their reset values.
    Log 11 (DEDUCED, unsafe). -/
def resetWord (banked : Bool) (e : Nat) (key : Nat) (w : Word) : Word :=
  match findReg (key % fwCopy) with
  | some (r, k) =>
    let p := fun (f : Fld) => f.banked == banked && decide (f.surv.rank < e)
    let m := maskOf r k p
    (w &&& ~~~m) ||| ((if banked then dfltB (key % fwCopy) else dfltU key) &&& m)
  | none => 0

end Sys2Proof.Machine
end

