-- ==== Sys2Proof/Machine/State.lean ====
section
/-! DEFINITION.  The state of the block as plain data: registers, banks, tables, buffers, queues of commands and
    the outputs sent so far; faults and refusals; the state after reset. -/

namespace Sys2Proof.Machine

/-- No command of the block stops it: the spec gives every row an effect. -/
inductive Fault where
  deriving DecidableEq, Repr

/-- Refusals. -/
inductive Refusal where
  /-- The command has no meaning yet.  Raised by the dispatch alone; safe. -/
  | notModelled (mnemonic : String)
  deriving DecidableEq, Repr

/-- R85: a block a commit can target. -/
inductive BlkId where
  | pipe (n : Nat) | wb (n : Nat) | layer (l : Nat) | crust (q : Nat) | port (p : Nat)
  deriving DecidableEq, Repr

/-- R138: surface states. -/
inductive SurfSt where
  | free | registered | inScan | retiring
  deriving DecidableEq, Repr

/-- R124: a surface descriptor.  `lost` (R125): both copies of a word failed. -/
structure Surf where
  st : SurfSt := .free
  base : List Nat := []
  pitch : List Nat := []
  fmt : Nat := 0
  w : Nat := 0
  h : Nat := 0
  retEn : Bool := false
  retFid : Nat := 0
  torn : Nat := 0
  sealing : Bool := false
  check : Nat := 0
  prot : Bool := false
  guarded : Bool := false
  lost : Bool := false
  deriving DecidableEq, Repr

/-- R147: a fence: allocated or not, and its 64-bit value. -/
structure Fence where
  alloc : Bool := false
  val : Word64 := 0
  deriving DecidableEq, Repr

/-- R58: a posted write in flight: its area, requester, map (R47: 0 primary, 1 to 3 the aliases), primary-map offset and
    data; `shown` while the area's BUSY bit stands for it, which a function-level reset clears (R69). -/
structure PostedWr where
  area : Nat
  rq : Rq
  map : Nat
  off : Nat
  data : Word
  shown : Bool := true
  deriving DecidableEq, Repr

/-- R58: a read held until its posted area's write has landed: area, requester, window offset and byte enables. -/
structure HeldRead where
  area : Nat
  rq : Rq
  off : Nat
  be : Nat
  deriving DecidableEq, Repr

/-- R66: a parity mismatch that stays in place. -/
structure Mismatch where
  bank : Bank
  off : Nat
  deriving DecidableEq, Repr

/-- What the device has sent to the outside. -/
inductive Out where
  /-- A read completion; `poisoned` carries the EP bit (R262). -/
  | read (rq : Rq) (bytes : List Byte) (poisoned : Bool := false)
  /-- An MSI-X message. -/
  | msix (vector : Nat)
  /-- The completion of a side-band read transaction. -/
  | sideband (tr : Tr) (bytes : List Byte)
  /-- A side-band transaction that was not answered (R487). -/
  | nack (tr : Tr)
  deriving DecidableEq, Repr

/-- R81, R95: one block's accepted snapshot, in the armed bank or the late store: the frame-banked words, the
    sequence number and plane of the commit, the decimation factors (log2) chosen at acceptance (R168), the pipes the
    block belonged to by the armed values it replaced (R88), and, in the late store, the pipes it is late for, first the
    one whose late store shows it (R99). -/
structure Snap where
  id : BlkId
  seq : Nat
  fw : Bool
  vals : Tab Word
  decH : Nat := 0
  decV : Nat := 0
  via : List Nat := []
  lateFor : List Nat := []
  deriving DecidableEq, Repr

/-- R89, R94: a strobe under validation: who strobed, its number, the snapshots, the pipes named in PIPE, the pipes
    for which it is late (R98), the pipes' swap counts at the strobe, a parity mismatch found in a target, and
    whether a function-level reset has taken its result away (R117). -/
structure Strobe where
  rq : Rq
  seq : Nat
  pipes : List Nat
  snaps : List Snap
  late : List Nat
  swapsAt : List Nat
  parity : Option BlkId
  lost : Bool := false
  deriving DecidableEq, Repr

/-- R178, R181: a claim-table entry; a block below RESERVED belongs to the Starter frame store. -/
inductive Claim where
  | none
  | grant (layer slot : Nat)
  | quarantined
  deriving DecidableEq, Repr

/-- R204, R212: a RAM load in progress: the RAM and the address it reads from. -/
structure RamLoad where
  ram : Nat
  addr : Nat
  deriving DecidableEq, Repr

/-- R219 to R223: a frame opened for writeback: its frame number, its ring slot, the surfaces written as they were
    registered when it opened (none when the write is skipped or not asked for), the tap's settings when it opened, and
    the line it was cut at by a writeback line that missed its deadline. -/
structure WbFrame where
  k : Nat
  slot : Nat
  main : Option Surf
  proxy : Option Surf
  tap : Nat
  fmt : Nat
  fenceEn : Bool
  fid : Nat
  fh : Nat := 2
  fv : Nat := 2
  cut : Option Nat := none
  deriving DecidableEq, Repr

/-- R222: a frame that has ended and whose last bytes are on their way: what it writes, address by address, and the
    signal it sends when they have arrived. -/
structure WbEnd where
  writes : List (Nat × List Byte)
  k : Nat
  fenceEn : Bool
  fid : Nat
  deriving DecidableEq, Repr

/-- R241: a damage hint that waits for its fence. -/
structure Hint where
  rq : Rq
  sid : Nat
  x : Nat
  y : Nat
  w : Nat
  h : Nat
  force : Bool
  fid : Nat
  wait : Nat
  deriving DecidableEq, Repr

/-- R230: the states of a tile version. -/
inductive TileSt where
  | empty | uniform | compressed | raw
  deriving DecidableEq, Repr

/-- R229, R230: one version of a tile: its state, its payload, and the 4,096 pixels its store units hold. -/
structure TileVer where
  st : TileSt := .empty
  payload : Nat := 0
  pix : List Nat := []
  deriving DecidableEq, Repr

/-- R229: a tile-table entry; `force` is the mark of a forced hint (R241). -/
structure Tile where
  damage : Bool := false
  force : Bool := false
  invalid : Bool := false
  vis : Bool := false
  v0 : TileVer := {}
  v1 : TileVer := {}
  sig : Nat := 0
  deriving DecidableEq, Repr

/-- R233, R240, R245: a flatten item of a pipe: the banked words it composes from, the snapshots of a crust hold it
    was built from, the runs of the two planes, the tiles whose damage it took with their force marks, the tiles
    that were INVALID when it started and that no error has hit since (R249), and whether it has become obsolete (R247). -/
structure CrustItem where
  cfg : Tab Word
  held : List Snap
  under : List Nat
  top : List Nat
  damage : List Nat
  force : List Nat
  inv : List Nat := []
  obsolete : Bool := false
  deriving DecidableEq, Repr

/-- R245: a ready version: the tiles it rewrote with their new content and signature, the members of the two planes,
    the INVALID tiles of its item (R249), and whether the last cutoff marked it. -/
structure CrustVersion where
  cfg : Tab Word
  held : List Snap
  under : List Nat
  top : List Nat
  tiles : List (Nat × TileVer × Nat)
  inv : List Nat := []
  obsolete : Bool := false
  marked : Bool := false
  deriving DecidableEq, Repr

/-- R334: a history entry: value, flags of SIG_SNAP_k_FLAGS without PRESENT, frame counter. -/
structure SigEntry where
  value : Nat
  flags : Nat
  count : Nat
  deriving DecidableEq, Repr

/-- R342: a rise of STALE (0), BLACK (1) or OUTPUT_STALE (2) since the last tick, of a layer or pipe, with its SID
    and frame counter. -/
structure Rise where
  kind : Nat
  index : Nat
  sid : Nat
  count : Nat
  deriving DecidableEq, Repr

/-- R354 to R371: the Scraper job that runs: queue, slot, descriptor words, the surfaces it copied at its start, the
    complete rows, the watermark interrupt sent, an overtaken beam, a beam test ended by a reset (R373), and the result it ends with when a test or a read
    has failed. -/
structure ScJob where
  q : Nat
  slot : Nat
  words : List Nat
  src : Surf
  dst : Surf
  rows : Nat := 0
  wmSent : Bool := false
  overtaken : Bool := false
  raceOff : Bool := false
  bad : Option Nat := none
  deriving DecidableEq, Repr

/-- The frame a pipe is sending: open or not, a black frame of a sequence (BLANKED) or in safe black throughout, sent
    from the replay region, not sent at all, its frame counter, the cause bits of the frame and of layers (R333),
    the lines that show a picture no rule gives (R205, R212, R250), the line from which it is sent black (R67, R283, R313), what is
    transparent on one line (R183, R266: layer, or 128 + plane, and line), tiles EMPTY from a line on (R249: table index
    and line), eight bytes that a layer read as 0 (R262: layer and address), protected content shown as black (R321),
    SIDs torn (R145), layers without their curve and the LUT bypassed, each from a line on (R204, R205, R212), the layers
    that flipped at its opening swap point (R337), the line at which it was cut short (R284), and whether a fetch of it
    has overtaken a raced job (R368). -/
structure Frame where
  live : Bool := false
  blanked : Bool := false
  black : Bool := false
  replay : Bool := false
  notSent : Bool := false
  count : Nat := 0
  cause : Nat := 0
  layerCause : Tab Nat := []
  openLines : List Nat := []
  blackFrom : Option Nat := none
  clear : List (Nat × Nat) := []
  empty : List (Nat × Nat) := []
  zeros : List (Nat × Nat) := []
  prot : Bool := false
  torn : List Nat := []
  noTm : List (Nat × Nat) := []
  noLut : Option Nat := none
  flips : List Nat := []
  cut : Option Nat := none
  overtook : Bool := false
  deriving DecidableEq, Repr

/-- A pipe's state beside its registers: frozen since its cutoff, the fence table sampled there (R102), the hold
    counts of its flip groups (R106), the swap points passed in step 1 of a class B sequence (R306), the frame it is
    sending, the run-flip bit and the newest unmarked signature (R341), the signature of the frame held in the replay
    region and its port codes, line by line (R313; none where no rule gives them), the frame open for writeback and the ended one whose bytes are on their way, whether a single-shot tap has
    yet to write (R218), the time of its last swap point, the lock loop's measurements (R300): the last reference event,
    the target instant, consecutive periods within and outside ±100 ppm, and consecutive frames on the target instant;
    whether a safe-black reload has been written or has failed (R67), whether the sequence trains its port (R306), whether
    line 0 of the frame has started, whether a TE edge has ended its hold (R308), and whether the pipe waits in HOLD to
    start at the exit (R484, R485), and the layers, with their commits, that waited at its last swap point to leave another
    pipe for it (R90). -/
structure PipeSt where
  frozen : Bool := false
  sample : Tab Fence := []
  groupHold : Tab Nat := []
  steps : Nat := 0
  frame : Frame := {}
  runFlip : Bool := false
  outRef : Option Nat := none
  replayVal : Nat := 0
  replayCodes : Option (List (List Nat)) := none
  wb : Option WbFrame := none
  wbEnd : Option WbEnd := none
  wbOnce : Bool := false
  lastSwap : Nat := 0
  gRef : Option Nat := none
  gTarget : Nat := 0
  gGood : Nat := 0
  gBad : Nat := 0
  gIn : Nat := 0
  reloaded : Bool := false
  reloadFail : Bool := false
  retrain : Bool := false
  line0 : Bool := false
  teGo : Bool := false
  held : Bool := false
  waiting : List (Nat × Nat) := []
  deriving DecidableEq, Repr

/-- The crust of one pipe: the running item, the ready version, the banked words its visible version was built from
    (R236), the units waiting for their drain (R248), and the planes of the pipe for which its own part began a crust
    hold (R237). -/
structure CrustPipe where
  holdFor : List Nat := []
  item : Option CrustItem := none
  ready : Option CrustVersion := none
  built : Tab Word := []
  draining : List Nat := []
  deriving DecidableEq, Repr

/-- R438: a log entry, without its index; `more` is what R282 and R342 have it hold or name beyond R438's layout.
    Log 67 (DESIGN CHOICE, unsafe). -/
structure LogEntry where
  time : Nat
  severity : Nat
  source : Nat
  event : Nat
  detail : Word
  more : List Nat := []
  deriving DecidableEq, Repr

/-- R425 to R428: the layout service of one service-owned pipe: its overlay region (bytes), its seven kept timing words,
    its four overlay SIDs (label 0 and 1, meter 0 and 1), the staged and the active layout (64 window entries of 30
    words, an empty entry disabled), the layer each window shows (window k at k, meter overlay at 64, label overlay at
    65; the layer's number plus 1), which buffer of each overlay is shown, and the windows whose meter bars have changed
    and are shown from the next swap point (R429). -/
structure Service where
  base : Nat := 0
  size : Nat := 0
  timing : List Word := []
  overlays : List Nat := []
  staged : Option (List (List Word)) := none
  layout : List (List Word) := []
  layers : Tab Nat := []
  front : Bool := false
  bars : List (List Word) := []
  deriving DecidableEq, Repr

/-- R423: a glyph atlas that is set: its surface, cell size, columns and mask bits code. -/
structure Atlas where
  sid : Nat
  cellW : Nat
  cellH : Nat
  cols : Nat
  bpp : Nat
  deriving DecidableEq, Repr

/-- R423, R429: the meter table: address, entries, low, mid and high colours, thresholds, and the entries last drawn. -/
structure Meters where
  addr : Nat := 0
  entries : Nat := 0
  colours : List Word := []
  mid : Nat := 0
  high : Nat := 0
  drawn : List Word := []
  deriving DecidableEq, Repr

/-- R453: one action of a Leaven plan: island, action code, new value. -/
structure PlanAct where
  island : Nat
  action : Nat
  value : Nat
  deriving DecidableEq, Repr

/-- R442, R445: an open firmware transfer: slot, size, expected offset, and the bytes of a configuration record. -/
structure Transfer where
  slot : Nat
  size : Nat
  next : Nat
  data : List Byte := []
  deriving DecidableEq, Repr

/-- Hearth: the MRAM but for the log ring (R434), the writes to it that wait in order (R468), the health-record copy in use (R507),
    firmware slot states, selected slot, open transfer and configuration-record state (R441, R442, R445), the watchdog's
    expiries (R435), the open attempt of the start (R448: 0 none, 1 open, 2 failed), minutes in ACTIVE or REST (R507),
    a Leaven run in progress, its plan and margins waiting for the tick (R452, R453), whether the pipe cap is lowered by
    action 2, the bumps of the nine watched differences (difference × 8 + island, in 5 mV
    steps) and since when each difference is within its bounds (R455), when each
    refresh multiplier was last reported (R454), the layout service (R425 to R429), the spread of the PLLs (R445, R538),
    whether its firmware is stopped, and the HPD events that wait for it (R323, R435). -/
structure Hearth where
  mram : Tab Byte := []
  mramWait : List (Nat × List Byte) := []
  healthCopy : Option Nat := none
  slotState : Tab Nat := [(0, 2)]
  selected : Nat := 0
  transfer : Option Transfer := none
  cfgState : Nat := 0
  expiries : List Nat := []
  attempt : Nat := 0
  minutes : Nat := 0
  measuring : Bool := false
  plan : Option (List PlanAct) := none
  capLow : Bool := false
  bumps : Tab Nat := []
  calmSince : Tab (Option Nat) := []
  refSeen : Tab (Option Nat) := []
  service : Tab Service := []
  atlases : Tab (Option Atlas) := []
  meters : Meters := {}
  spread : Nat := 3
  stopped : Bool := false
  queued : List Instr := []
  deriving DecidableEq, Repr

/-- R464: how far a power-up or a reset has come: the AON power-on reset runs; EN_MAIN is high and the rails come up;
    EN_MAIN is low after a failed rail; held in reset; reset released. -/
inductive Boot where
  | aonReset | rails | railWait | inReset | released
  deriving DecidableEq, Repr

/-- R483 to R490: what the device is entering or leaving. -/
inductive Moving where
  | none | toHold | fromHold | toDeep | toShut
  deriving DecidableEq, Repr

/-- The power state beside POWER_STATUS: the start (R464), a move between states, a wake event that waits for the end of
    an entry (R493), SHUTDOWN's P0 while it runs (R490), since when every island has been below Tj max − 5 °C (R485), and
    what retained DRAM was trained with: FETCH_DRAM before the reset (R476), structural scan (R515), PERST_N asserted and the
    PCIe link trained or in training (R447, R478, R486, R501), and whether the attempt that a reset ended was open (R448). -/
structure Power where
  boot : Boot := .aonReset
  moving : Moving := .none
  wake : Option Nat := none
  shut : Option Nat := none
  coolSince : Option Nat := none
  kept : Option Word := none
  scan : Bool := false
  perst : Bool := false
  pcie : Bool := false
  wasOpen : Bool := false
  deriving DecidableEq, Repr

/-- R501, R505: self-test: the slices still to run after the running one, the time elapsed in µs, when the running slice
    began, the command that asked for an on-demand slice (transport, opcode, SEQ), and HPD events that wait for the slice
    of their port (R506). -/
structure SelfTest where
  queue : List Nat := []
  elapsed : Nat := 0
  began : Nat := 0
  asker : Option (Tr × Nat × Nat) := none
  hpd : List Instr := []
  deriving DecidableEq, Repr

/-- R406, R416: how far a packet that waits has come: taken from its slot or buffer, received whole, or past its tests. -/
inductive Stage where
  | taken
  | received
  | passed
  deriving DecidableEq, Repr

/-- R25, R406: an ICP command that waits: its transport, its words, how far it has come, whether a tick has listed it, and
    whether a function-level reset has taken its reply (R417). -/
structure SvcStep where
  tr : Tr
  words : List Word
  stage : Stage := .taken
  listed : Bool := false
  lost : Bool := false
  deriving DecidableEq, Repr

/-- R419 to R422: a side-band transport: a command waiting, the reply not yet read, OVERRUN and FRAMING. -/
structure SideBand where
  busy : Bool := false
  reply : List Byte := []
  overrun : Bool := false
  framing : Bool := false
  deriving DecidableEq, Repr

/-- The command protocol: ring slots (command slots at 0, reply slots at 0x4000), side-band buffers by transport, stored
    replies (R407: header word, opcode, reply packet), steps waiting, HOST_LOST_MS, the
    host-lost count, WAS_LOST and the time of the controller's last HEARTBEAT (R414, R432). -/
structure Icp where
  slots : Tab Byte := []
  sb : Tab SideBand := []
  stored : Tab (List Word) := []
  svc : List SvcStep := []
  lostMs : Nat := 500
  lostCount : Nat := 0
  wasLost : Bool := false
  beatAt : Option Nat := none
  deriving DecidableEq, Repr

/-- R267: a declaration test that runs: its declaration, the CTRL word written, and whether a firmware strobe taken
    before it is still under validation (R40). -/
structure DeclTest where
  k : Nat
  word : Word
  behind : Bool
  deriving DecidableEq, Repr

/-- The device: everything but the queue of waiting commands. -/
structure Dev where
  /-- Model time in ns: the sum of the `dt` operands so far. -/
  now : Nat := 0
  /-- The model's own counter of free values: the next free value is `Config.freeNat free`. -/
  free : Nat := 0
  /-- What has been sent outside, newest first. -/
  out : List Out := []
  /-- Unbanked register fields, by primary offset. -/
  regs : Tab Word := []
  /-- R81: the proof and the active bank of every frame-banked field. -/
  proof : Tab Word := []
  active : Tab Word := []
  /-- R81, R99: the armed bank and the late store, block by block. -/
  armed : List Snap := []
  late : List Snap := []
  /-- R89: strobes under validation, oldest first. -/
  strobes : List Strobe := []
  /-- R87: the commit sequence number. -/
  seq : Nat := 0
  /-- What each pipe holds beside its registers. -/
  pipeSt : Tab PipeSt := []
  /-- R58: posted writes in flight and the reads held for them. -/
  posted : List PostedWr := []
  heldReads : List HeldRead := []
  /-- R53: latched upper words and held lower words (with the map they were written through), by offset, firmware's at
      `fwCopy`. -/
  latch : Tab (Option Word) := []
  heldLo : Tab (Option (Nat × Word)) := []
  /-- R63: SYS_LOCKDOWN has taken its write. -/
  locked : Bool := false
  /-- R65, R66: parity mismatches that stay in place. -/
  mismatches : List Mismatch := []
  /-- R65: parity mismatches that have arisen and that no check has found yet. -/
  latent : List Mismatch := []
  /-- R100: the commits already counted as superseded, with the pipe, while parts of them still wait. -/
  superseded : List (Nat × Nat) := []
  /-- R288: a commit has been accepted since the start. -/
  accepted : Bool := false
  /-- R438: the log ring, the next index, entries written since the last tick, entries dropped, entries deferred
      by a brownout warning, and the overwritten count. -/
  log : Tab (Option LogEntry) := []
  logNext : Nat := 0
  logUsed : Nat := 0
  logDropped : Nat := 0
  logDeferred : List LogEntry := []
  logOverwritten : Nat := 0
  /-- R438: when the reset of the current start was released. -/
  startAt : Nat := 0
  /-- DRAM by byte address, and host memory as the copy engine reads and writes it. -/
  mem : Tab Byte := []
  hostMem : Tab Byte := []
  /-- R124: the surface table. -/
  surf : Tab Surf := []
  /-- R147: the fence table. -/
  fence : Tab Fence := []
  /-- R152: the watchers that are armed, by bit. -/
  watchArmed : Nat := 0xFFFF
  /-- R131, R151: the command under way arrived in the cycle of the last doorbell, or before its requester's last surface or
      fence command had completed. -/
  soon : Bool := false
  /-- R151: the last doorbell's fence, and its value before that doorbell's cycle. -/
  bell : Option (Nat × Nat) := none
  /-- R131: when each requester (0 host, 1 firmware) last wrote a surface or fence command. -/
  cmdAt : Tab (Option Nat) := []
  /-- R241: pending damage hints, oldest first. -/
  hints : List Hint := []
  /-- R232: graphic layers that show a surface hinted since their pipe's last swap point. -/
  hinted : List Nat := []
  /-- R310: pipes with a change event since their last swap point. -/
  changed : List Nat := []
  /-- Layers whose surface was written since their pipe's last swap point: their pixels are a free value. -/
  dirty : List Nat := []
  /-- R229: the tile table, entry q × 8,192 + t. -/
  tiles : Tab Tile := []
  /-- The crusts of the four pipes. -/
  crust : Tab CrustPipe := []
  /-- R178: the claim table of the line store, by block. -/
  claims : Tab Claim := []
  /-- R280: the budget is planned again at the next tick. -/
  replan : Bool := false
  /-- R204, R212: the curve RAMs (layer × 2 + RAM), the LUT RAMs (pipe × 2 + RAM), and the loads in progress (layer,
      or 128 + pipe). -/
  tmRam : Tab (List Nat) := []
  lutRam : Tab (List Nat) := []
  loads : Tab (Option RamLoad) := []
  /-- R334: the histories, newest entry first: pipes at 0, video layers at 128, graphic layers at 192. -/
  hist : Tab (List SigEntry) := []
  /-- R337, R338: the references of the Stale detectors, and layers whose flip is carried. -/
  refs : Tab (Option Nat) := []
  flipCarry : List Nat := []
  /-- R342: rises since the last tick, oldest first. -/
  rises : List Rise := []
  /-- R262: the times of each channel's corrected errors of the last 1.0 ms; R267: the declaration test. -/
  ceTimes : Tab (List Nat) := []
  declTest : Option DeclTest := none
  /-- R262: the DRAM words in which the DRAM window's read under way has found an uncorrectable error. -/
  poison : List Nat := []
  /-- R352, R356: the Scraper's running job and the queue it served last. -/
  scJob : Option ScJob := none
  scLast : Nat := 3
  /-- R380: the descriptor words each copy-engine channel has read. -/
  dmaWords : Tab (List Nat) := []
  /-- R384: the channel served last at each priority; R387: descriptor words that a channel reads next and that are in
      error. -/
  dmaServed : Tab Nat := []
  descBad : List (Nat × Nat) := []
  /-- R306, R318: the ports in link training. -/
  training : List Nat := []
  /-- R23: the time of the last tick; R303: of the last active REF_IN edge. -/
  lastTick : Option Nat := none
  /-- R29: the source of ticks in effect, which follows SYS_TICK_CTRL.SRC at an event of the new source. -/
  tickSrc : Nat := 0
  refEdge : Option Nat := none
  /-- Hearth and the command protocol. -/
  hearth : Hearth := {}
  icp : Icp := {}
  /-- R464, R481: power-up and power states; R498: self-test; R513: the live debug challenge. -/
  power : Power := {}
  test : SelfTest := {}
  challenge : Option (List Word) := none
  deriving DecidableEq, Repr

/-- The block: the device and the queue of waiting commands, first in, first out. -/
structure State where
  pending : List Instr := []
  dev : Dev := {}
  deriving DecidableEq, Repr

/-- The device right after cold power-on: every register at its Reset value, every table empty.
    Log 2 (DESIGN CHOICE, safe), 10 (DESIGN CHOICE, unsafe). -/
def State.reset : State := {}

end Sys2Proof.Machine
end

