-- ==== Sys2Proof/Machine/Ops.lean ====
section
/-! DEFINITION.  The named operations over the device's registers, banks, memory and outputs, which every meaning
    is built from. -/

namespace Sys2Proof.Machine

/-- A reading of register words, by primary-map offset. -/
abbrev View := Nat → Word

/-- The value of a field in a view. -/
def View.g (v : View) (f : Fld) : Nat := f.get v

/-- Is a one-bit field set in a view? -/
def View.on (v : View) (f : Fld) : Bool := v.g f ≠ 0

/-- R53, R117, R131: the key of a requester's own copy.
    Log 58 (DESIGN CHOICE, unsafe). -/
def rqKey : Rq → Nat → Nat
  | .host, k => k
  | .fw, k => k + fwCopy

/-- A field in a requester's own copy. -/
def Fld.rq (f : Fld) (q : Rq) : Fld := { f with off := rqKey q f.off }

/-- The unbanked registers as a view. -/
def Dev.unV (d : Dev) : View := Tab.get dfltU d.regs

/-- The proof bank as a view (R81). -/
def Dev.pfV (d : Dev) : View := Tab.get dfltB d.proof

/-- The active bank as a view (R81). -/
def Dev.acV (d : Dev) : View := Tab.get dfltB d.active

/-- An unbanked field. -/
def Dev.rg (d : Dev) (f : Fld) : Nat := d.unV.g f

/-- Is an unbanked flag set? -/
def Dev.fl (d : Dev) (f : Fld) : Bool := d.rg f ≠ 0

/-- A field of the active bank. -/
def Dev.ac (d : Dev) (f : Fld) : Nat := d.acV.g f

/-- Is a flag of the active bank set? -/
def Dev.acOn (d : Dev) (f : Fld) : Bool := d.ac f ≠ 0

/-- R481: the device is in DEEP. -/
def Dev.deep (d : Dev) : Bool := d.rg F.POWER_STATUS_STATE == 3

/-- R481: the device is in HOLD. -/
def Dev.inHold (d : Dev) : Bool := d.rg F.POWER_STATUS_STATE == 2

/-- R486, R515: the device is in DEEP or in structural scan.
    Log 9 (DESIGN CHOICE, unsafe). -/
def Dev.dark (d : Dev) : Bool := d.deep || d.power.scan

/-- A command's effect on the device; the queue of waiting commands stays as it is, and no command stops.  In DEEP only
    wake sources and the always-on supplies act (R486, R487), in structural scan only a cold power-on (R515).
    Log 7 (DESIGN CHOICE, unsafe), 9 (DESIGN CHOICE, unsafe). -/
def State.run (s : State) (f : Dev → Dev) : Host.Outcome State Fault Refusal :=
  .next { s with dev := if s.dev.dark then s.dev else f s.dev }

/-- The effect of an event that acts in DEEP too.
    Log 9 (DESIGN CHOICE, unsafe). -/
def State.runAon (s : State) (f : Dev → Dev) : Host.Outcome State Fault Refusal :=
  .next { s with dev := if s.dev.power.scan then s.dev else f s.dev }

/-- The effect of a cold power-on, which acts always.
    Log 9 (DESIGN CHOICE, unsafe). -/
def State.runCold (s : State) (f : Dev → Dev) : Host.Outcome State Fault Refusal := .next { s with dev := f s.dev }

/-- Set an unbanked field. -/
def Dev.sg (d : Dev) (f : Fld) (v : Nat) : Dev := { d with regs := f.set dfltU d.regs v }

/-- Set an unbanked word. -/
def Dev.sgWord (d : Dev) (k : Nat) (v : Word) : Dev := { d with regs := Tab.put dfltU d.regs k v }

/-- Set a word of the proof bank. -/
def Dev.spWord (d : Dev) (k : Nat) (v : Word) : Dev := { d with proof := Tab.put dfltB d.proof k v }

/-- Set a flag. -/
def Dev.up (d : Dev) (f : Fld) : Dev := d.sg f 1

/-- Clear a field. -/
def Dev.dn (d : Dev) (f : Fld) : Dev := d.sg f 0

/-- Advance a counter that wraps. -/
def Dev.inc (d : Dev) (f : Fld) : Dev := d.sg f ((d.rg f + 1) % 2 ^ f.len)

/-- Advance a counter that saturates. -/
def Dev.incSat (d : Dev) (f : Fld) : Dev := d.sg f (satAdd f.len (d.rg f) 1)

/-- Set bits of a field. -/
def Dev.orBits (d : Dev) (f : Fld) (m : Nat) : Dev := d.sg f (d.rg f ||| m)

/-- Clear bits of a field. -/
def Dev.clrBits (d : Dev) (f : Fld) (m : Nat) : Dev := d.sg f (d.rg f - (d.rg f &&& m))

/-- `f` when `c`, otherwise nothing.
    Log 7 (DESIGN CHOICE, unsafe). -/
def Dev.onlyIf (d : Dev) (c : Bool) (f : Dev → Dev) : Dev := if c then f d else d

/-- R483, R484: the effect of an engine, which pauses in HOLD. -/
def Dev.engine (f : Dev → Dev) (d : Dev) : Dev := if d.inHold then d else f d

/-- Apply a step for each element, left to right. -/
def Dev.each {α : Type} (f : α → Dev → Dev) : List α → Dev → Dev
  | [], d => d
  | a :: t, d => Dev.each f t (f a d)

/-- Draw a free value.
    Log 4 (DESIGN CHOICE, safe). -/
def Dev.draw (d : Dev) : Nat × Dev := (Config.freeNat d.free, { d with free := d.free + 1 })

/-- Something sent outside.
    Log 3 (DESIGN CHOICE, unsafe). -/
def Dev.send (d : Dev) (o : Out) : Dev := { d with out := o :: d.out }

/-- A DRAM or host byte that nothing has written (log 3: DESIGN CHOICE).
    Log 3 (DESIGN CHOICE, unsafe). -/
def dfltMem : Nat → Byte := fun _ => 0

/-- One byte of DRAM.
    Log 3 (DESIGN CHOICE, unsafe). -/
def Dev.byteAt (d : Dev) (a : Nat) : Byte := Tab.get dfltMem d.mem a

/-- `n` bytes of DRAM from `a` upward. -/
def Dev.bytesAt (d : Dev) (a n : Nat) : List Byte := Tab.getList dfltMem d.mem a n

/-- A little-endian number of `n` bytes in DRAM. -/
def Dev.leAt (d : Dev) (a n : Nat) : Nat := ofLe (d.bytesAt a n)

/-- Store bytes into DRAM from `a` upward. -/
def Dev.store (d : Dev) (a : Nat) (bs : List Byte) : Dev := { d with mem := Tab.putList dfltMem d.mem a bs }

/-- Host memory, as the copy engine and the ring reach it.
    Log 3 (DESIGN CHOICE, unsafe). -/
def Dev.hostBytes (d : Dev) (a n : Nat) : List Byte := Tab.getList dfltMem d.hostMem a n

/-- Store bytes into host memory. -/
def Dev.hostStore (d : Dev) (a : Nat) (bs : List Byte) : Dev :=
  { d with hostMem := Tab.putList dfltMem d.hostMem a bs }

/-- A surface that was never registered. -/
def dfltSurf : Nat → Surf := fun _ => {}

/-- The descriptor of a SID. -/
def Dev.surfAt (d : Dev) (s : Nat) : Surf := Tab.get dfltSurf d.surf s

/-- Replace the descriptor of a SID. -/
def Dev.putSurf (d : Dev) (s : Nat) (x : Surf) : Dev := { d with surf := Tab.put dfltSurf d.surf s x }

/-- A fence that was never allocated. -/
def dfltFence : Nat → Fence := fun _ => {}

/-- The fence of a FID. -/
def Dev.fenceAt (d : Dev) (f : Nat) : Fence := Tab.get dfltFence d.fence f

/-- Replace a fence. -/
def Dev.putFence (d : Dev) (f : Nat) (x : Fence) : Dev := { d with fence := Tab.put dfltFence d.fence f x }

/-- R81: the block a frame-banked offset belongs to. -/
def blkOf (off : Nat) : Option BlkId :=
  if within 0x20000 0x2FFFF off then
    let n := (off - 0x20000) / 0x4000
    if within 0x500 0x513 ((off - 0x20000) % 0x4000) then some (.wb n) else some (.pipe n)
  else if within 0x40000 0x4FFFF off then some (.layer ((off - 0x40000) / 0x400))
  else if within 0x50000 0x57FFF off then some (.layer (64 + (off - 0x50000) / 0x200))
  else if within 0x70100 0x701FF off then some (.crust ((off - 0x70100) / 0x20))
  else if within 0x90000 0x97FFF off then some (.port ((off - 0x90000) / 0x2000))
  else if within 0x98000 0x9BFFF off then some (.port (4 + (off - 0x98000) / 0x2000))
  else none

/-- The banked words of one block in a bank's table. -/
def blkWords (b : BlkId) (t : Tab Word) : Tab Word := Tab.keep (fun k => blkOf k == some b) t

/-- A bank's table with the words of one block replaced. -/
def blkReplace (b : BlkId) (vals t : Tab Word) : Tab Word :=
  Tab.merge dfltB (Tab.keep (fun k => blkOf k != some b) t) vals

/-- The snapshot of a block in a list of snapshots. -/
def snapOf (b : BlkId) (l : List Snap) : Option Snap := firstWith (fun s => s.id == b) l

/-- A snapshot's values as a view. -/
def Snap.view (s : Snap) : View := Tab.get dfltB s.vals

/-- A list of snapshots over a base view: a block in the list reads as its snapshot. -/
def overV (l : List Snap) (base : View) : View := fun k =>
  match blkOf k with
  | some b => match snapOf b l with
    | some s => s.view k
    | none => base k
  | none => base k

/-- R84: the armed bank as a view; a block with nothing armed reads as its active bank. -/
def Dev.arV (d : Dev) : View := overV d.armed d.acV

end Sys2Proof.Machine
end

