-- ==== Sys2Proof/Machine/Flags.lean ====
section
/-! DEFINITION.  Flags that the whole device shares: attention bits (R409), the fault summary (R76), the Hearth log
    (R438), access errors with their capture and count (R77, R78), and the capture registers (R544). -/

namespace Sys2Proof.Machine

/-- R409: the attention bits. -/
inductive Att where
  | resetSeen | table | security | fw | margin | log | selftest | link | hotplug | late | underrun | stale
  | power | thermal | starter | fault
  deriving DecidableEq, Repr

/-- R409: the bit number of an attention bit. -/
def Att.bit : Att → Nat
  | .resetSeen => 0 | .table => 1 | .security => 2 | .fw => 3 | .margin => 4 | .log => 5 | .selftest => 6
  | .link => 7 | .hotplug => 8 | .late => 9 | .underrun => 10 | .stale => 11 | .power => 12 | .thermal => 13
  | .starter => 14 | .fault => 15

/-- R409: an attention bit rises. -/
def Dev.attn (d : Dev) (a : Att) : Dev := d.orBits F.ICP_ATTENTION_ATTENTION (2 ^ a.bit)

/-- R76: an event sets its bit of SYS_FAULT_SUMMARY; a rising bit raises FAULT (R409). -/
def Dev.faultSum (d : Dev) (f : Fld) : Dev := if d.fl f then d else (d.up f).attn .fault

/-- R438: one entry written into the ring at the next index. -/
def Dev.logWrite (d : Dev) (e : LogEntry) : Dev :=
  { d with
    log := Tab.put (fun _ => none) d.log (d.logNext % 65536) (some e)
    logNext := (d.logNext + 1) % 2 ^ 32
    logUsed := d.logUsed + 1
    logOverwritten := d.logOverwritten + b2n (Tab.get (fun _ => none) d.log (d.logNext % 65536)).isSome }

/-- R468: a brownout warning of any island stops writes to the MRAM. -/
def Dev.mramHeld (d : Dev) : Bool := d.rg F.POWER_BROWNOUT_ACTIVE ≠ 0

/-- R438, R468: an entry goes into the ring, at most 64 a tick; while MRAM writes are deferred, or while deferred
    entries still wait, up to 256 entries wait in order.  An entry that finds no room is dropped and counted.
    Severity ERROR or above raises LOG.
    Log 67 (DESIGN CHOICE, unsafe). -/
def Dev.logMore (d : Dev) (sev src ev : Nat) (detail : Nat) (more : List Nat) : Dev :=
  let e : LogEntry := ⟨(d.now - d.startAt) / 1000000, sev, src, ev, BitVec.ofNat 32 detail, more⟩
  if d.mramHeld || !d.logDeferred.isEmpty then
    if d.logDeferred.length < 256 then
      ({ d with logDeferred := d.logDeferred ++ [e] }).onlyIf (4 ≤ sev) (·.attn .log)
    else { d with logDropped := d.logDropped + 1 }
  else if d.logUsed < 64 then (d.logWrite e).onlyIf (4 ≤ sev) (·.attn .log)
  else { d with logDropped := d.logDropped + 1 }

/-- R438, R439: an entry that holds what its DETAIL says. -/
def Dev.logE (d : Dev) (sev src ev : Nat) (detail : Nat) : Dev := d.logMore sev src ev detail []

/-- R125, R153: a log entry whose source, event, severity and DETAIL the spec does not give.
    Log 4 (DESIGN CHOICE, safe). -/
def Dev.logOpen (d : Dev) : Dev :=
  let a := d.draw
  let b := a.2.draw
  let c := b.2.draw
  let e := c.2.draw
  e.2.logE (a.1 % 6) (b.1 % 256) (c.1 % 65536) e.1

/-- R509, R512, R514: a log entry of a given severity whose source, event and DETAIL the spec does not give.
    Log 4 (DESIGN CHOICE, safe). -/
def Dev.logSev (d : Dev) (sev : Nat) : Dev :=
  let a := d.draw
  let b := a.2.draw
  let c := b.2.draw
  c.2.logE sev (a.1 % 256) (b.1 % 65536) c.1

/-- R438, R469: deferred entries are written in order as far as this tick's 64 entries go.
    Log 49 (DESIGN CHOICE, unsafe). -/
def Dev.logFlush (d : Dev) : Dev :=
  if d.mramHeld then d
  else
    let n := 64 - d.logUsed
    let rest := d.logDeferred.drop n
    { Dev.each (fun e d => d.logWrite e) (d.logDeferred.take n) d with logDeferred := rest }

/-- R438: a tick opens a new count of 64 entries, and entries dropped before it are reported first. -/
def Dev.logTick (d : Dev) : Dev :=
  let n := d.logDropped
  let d1 : Dev := { d with logUsed := 0, logDropped := 0 }
  (if n = 0 then d1 else d1.logE 3 0 2 n).logFlush

/-- R544: a capture register takes the first event after it was re-armed. -/
def Dev.capture (d : Dev) (valid : Fld) (vals : List (Fld × Nat)) : Dev :=
  if d.fl valid then d else (Dev.each (fun p d => d.sg p.1 p.2) vals d).up valid

/-- R77: the flags of SYS_ACCESS_ERR, by bit number. -/
inductive AccErr where
  | width | align | aliasIgnored | postedDrop | lockedWrite | keyBad | lockViolation | unmapped
  deriving DecidableEq, Repr

/-- R77: the bit number of an access-error flag, which is also its CAUSE. -/
def AccErr.bit : AccErr → Nat
  | .width => 0 | .align => 1 | .aliasIgnored => 2 | .postedDrop => 3 | .lockedWrite => 4 | .keyBad => 5
  | .lockViolation => 6 | .unmapped => 7

/-- SYS_ACCESS_ERR as one field. -/
def sysAccessErr : Fld := ⟨0x40, 0, 8, .w1c, 0, .none, 0, 0⟩

/-- R77, R78: an access by the host sets a flag, is captured when capture is armed, and is counted.  Accesses by
    Hearth firmware set no flag. -/
def Dev.accErr (d : Dev) (q : Rq) (e : AccErr) (write : Bool) (winOff : Nat) : Dev :=
  match q with
  | .fw => d
  | .host =>
    ((d.orBits sysAccessErr (2 ^ e.bit)).capture F.SYS_ACCESS_ADDR_VALID
        [(F.SYS_ACCESS_ADDR_OFFSET, winOff), (F.SYS_ACCESS_ADDR_CAUSE, e.bit),
         (F.SYS_ACCESS_ADDR_WRITE, b2n write)]).incSat F.SYS_ACCESS_COUNT_ERRORS

/-- R125, R142, R157: SURF_ERR_SID captures the first of its events. -/
def Dev.surfErr (d : Dev) (sid : Nat) : Dev :=
  d.capture F.SURF_ERR_SID_VALID [(F.SURF_ERR_SID_SID, sid)]

/-- An MSI-X message. -/
def Dev.msix (d : Dev) (vector : Nat) : Dev := d.send (.msix vector)

end Sys2Proof.Machine
end

