-- ==== Sys2Proof/Machine/Operands.lean ====
section
/-! DEFINITION.  How the operands of the commands and the register fields name layers, pipes, ports, rectangles,
    formats and byte ranges. -/

namespace Sys2Proof.Machine

/-- The four pipes, in order. -/
def pipes : List Nat := [0, 1, 2, 3]

/-- The layers in fixed order, VL_0 to VL_63 as 0 to 63, then GL_0 to GL_63 as 64 to 127 (R206). -/
def allLayers : List Nat := List.range 128

/-- The graphic layers. -/
def glLayers : List Nat := (List.range 64).map (· + 64)

/-- A layer's field, from the field of video layers and the field of graphic layers. -/
def lf (fv fg : Fld) (l : Nat) : Fld := if l < 64 then fv.i l else fg.i (l - 64)

/-- R159: EN of a layer in a view. -/
def lyEn (v : View) (l : Nat) : Bool := v.on (lf F.VL_CTRL_EN F.GL_CTRL_EN l)

/-- The PIPE field of a layer. -/
def lyPipe (v : View) (l : Nat) : Nat := v.g (lf F.VL_CTRL_PIPE F.GL_CTRL_PIPE l)

/-- R159: the layer is assigned to pipe `p` in the view. -/
def assigned (v : View) (p l : Nat) : Bool := lyEn v l && lyPipe v l == p

/-- R159: the pipe a view assigns the layer to. -/
def pipeOf (v : View) (l : Nat) : Option Nat := if lyEn v l then some (lyPipe v l) else none

/-- The SID a layer names. -/
def lySid (v : View) (l : Nat) : Nat := v.g (lf F.VL_SID_SID F.GL_SID_SID l)

/-- R159: the layers a view assigns to pipe `p`, in fixed order. -/
def layersOf (v : View) (p : Nat) : List Nat := allLayers.filter (assigned v p)

/-- A rectangle: signed corner, size. -/
structure Rect where
  x : Int
  y : Int
  w : Nat
  h : Nat
  deriving DecidableEq, Repr

/-- R162: the source rectangle of a layer, before format rounding. -/
def srcRect (v : View) (l : Nat) : Rect :=
  ⟨(v.g (lf F.VL_SRC_RECT_X F.GL_SRC_RECT_X l) : Int), (v.g (lf F.VL_SRC_RECT_Y F.GL_SRC_RECT_Y l) : Int),
   v.g (lf F.VL_SRC_RECT_W F.GL_SRC_RECT_W l), v.g (lf F.VL_SRC_RECT_H F.GL_SRC_RECT_H l)⟩

/-- R163, R164: the destination rectangle of a layer, before clipping. -/
def dstRect (v : View) (l : Nat) : Rect :=
  if l < 64 then
    ⟨toInt 14 (v.g (F.VL_DST_RECT_X.i l)), toInt 14 (v.g (F.VL_DST_RECT_Y.i l)),
     v.g (F.VL_DST_RECT_W.i l), v.g (F.VL_DST_RECT_H.i l)⟩
  else
    ⟨toInt 14 (v.g (F.GL_DST_POS_X.i (l - 64))), toInt 14 (v.g (F.GL_DST_POS_Y.i (l - 64))),
     (srcRect v l).w, (srcRect v l).h⟩

/-- Two rectangles' common part. -/
def Rect.meet (a b : Rect) : Rect :=
  let x0 := max a.x b.x
  let y0 := max a.y b.y
  ⟨x0, y0, (min (a.x + a.w) (b.x + b.w) - x0).toNat, (min (a.y + a.h) (b.y + b.h) - y0).toNat⟩

/-- A rectangle without a pixel. -/
def Rect.isEmpty (r : Rect) : Bool := r.w == 0 || r.h == 0

/-- R116, R294: the raster of a pipe. -/
structure Raster where
  hact : Nat
  vact : Nat
  htot : Nat
  vtot : Nat
  hblank : Nat
  vblank : Nat
  khz : Nat
  m1001 : Bool
  deriving DecidableEq, Repr

/-- The raster of pipe `p` in a view. -/
def rasterOf (v : View) (p : Nat) : Raster :=
  let ha := v.g (F.PIPE_HTIMING_A_HACTIVE.i p)
  let va := v.g (F.PIPE_VTIMING_A_VACTIVE.i p)
  let hb := v.g (F.PIPE_HTIMING_A_HFP.i p) + v.g (F.PIPE_HTIMING_B_HSYNC.i p) + v.g (F.PIPE_HTIMING_B_HBP.i p)
  let vb := v.g (F.PIPE_VTIMING_A_VFP.i p) + v.g (F.PIPE_VTIMING_B_VSYNC.i p) + v.g (F.PIPE_VTIMING_B_VBP.i p)
  ⟨ha, va, ha + hb, va + vb, hb, vb, v.g (F.PIPE_PCLK_KHZ.i p), v.on (F.PIPE_PCLK_M1001.i p)⟩

/-- R295: the pixel rate F in MHz is `khz / fDen`. -/
def Raster.fDen (r : Raster) : Nat := if r.m1001 then 1001 else 1000

/-- The active area of a pipe. -/
def activeArea (v : View) (p : Nat) : Rect :=
  ⟨0, 0, v.g (F.PIPE_HTIMING_A_HACTIVE.i p), v.g (F.PIPE_VTIMING_A_VACTIVE.i p)⟩

/-- R163, R164: the clipped destination of a layer on pipe `p`. -/
def clipDst (v : View) (p l : Nat) : Rect := (dstRect v l).meet (activeArea v p)

/-- R206: the layers named by Z-order entries, bottom first, each once. -/
def zListed (v : View) (p : Nat) : List Nat :=
  go (List.range 32) []
where
  /-- Collect from entry to entry. -/
  go : List Nat → List Nat → List Nat
    | [], acc => acc.reverse
    | k :: t, acc =>
      let l := (if v.on (F.PIPE_ZORDER_KIND.ij p k) then 64 else 0) + v.g (F.PIPE_ZORDER_INDEX.ij p k)
      if v.on (F.PIPE_ZORDER_VALID.ij p k) && assigned v p l && !acc.contains l then go t (l :: acc) else go t acc

/-- R206: the blend order of pipe `p`, bottom first. -/
def blendOrder (v : View) (p : Nat) : List Nat :=
  if v.on (F.PIPE_BLEND_CTRL_ZMODE.i p) then
    let z := zListed v p
    z ++ (layersOf v p).filter (fun l => !z.contains l)
  else layersOf v p

/-- R118, R228: the pipe of crust plane `q`. -/
def planePipe (q : Nat) : Nat := q / 2

/-- R228: tile columns and rows of pipe `p`. -/
def tileCols (v : View) (p : Nat) : Nat := ceilDiv (v.g (F.PIPE_HTIMING_A_HACTIVE.i p)) 64

/-- R228: tile rows of pipe `p`. -/
def tileRows (v : View) (p : Nat) : Nat := ceilDiv (v.g (F.PIPE_VTIMING_A_VACTIVE.i p)) 64

/-- R228: the tiles of pipe `p` that a rectangle of the active area touches. -/
def tilesUnder (v : View) (p : Nat) (r : Rect) : List Nat :=
  let c := r.meet (activeArea v p)
  if c.isEmpty then []
  else
    let c0 := c.x.toNat / 64
    let c1 := (c.x.toNat + c.w - 1) / 64
    let r0 := c.y.toNat / 64
    let r1 := (c.y.toNat + c.h - 1) / 64
    (List.range (r1 + 1 - r0)).flatMap (fun i =>
      (List.range (c1 + 1 - c0)).map (fun j => (r0 + i) * tileCols v p + c0 + j))

/-- R228: the tiles of a pipe's grid. -/
def tileCount (v : View) (p : Nat) : Nat := tileCols v p * tileRows v p

/-- R229: the raster has more tiles than a plane has entries. -/
def tooLarge (v : View) (p : Nat) : Bool := decide (8192 < tileCount v p)

/-- R296: the port a pipe selects: DP_0 to DP_3 are 0 to 3, DSI_0 and DSI_1 are 4 and 5; others are none. -/
def portSel (v : View) (p : Nat) : Nat := v.g (F.PIPE_TG_CTRL_PORT_SEL.i p)

/-! ### Pixel formats (R126, R130) -/

/-- R126: format codes with their planes. -/
def fmtPlanes (f : Nat) : Nat :=
  if f ≤ 4 then 2 else if f ≤ 7 then 3 else if within 0x10 0x14 f then 1 else 0

/-- R126: the code names a format. -/
def fmtValid (f : Nat) : Bool := fmtPlanes f ≠ 0

/-- 4:2:0 formats. -/
def fmt420 (f : Nat) : Bool := f ≤ 1

/-- 4:2:0 and 4:2:2 formats. -/
def fmtSub (f : Nat) : Bool := f ≤ 4

/-- Packed formats. -/
def fmtPacked (f : Nat) : Bool := within 0x10 0x14 f

/-- R126: line bytes of a plane. -/
def lineBytes (f w : Nat) : Nat :=
  if f = 0 ∨ f = 2 ∨ f = 5 then w
  else if f = 1 ∨ f = 3 ∨ f = 6 ∨ f = 7 then 2 * w
  else if f = 4 then 4 * ceilDiv w 3
  else if f = 0x10 then 2 * w else if f = 0x11 then 3 * w else if f = 0x14 then 8 * w else 4 * w

/-- R126: lines of plane `k`. -/
def planeLines (f h k : Nat) : Nat := if k = 0 then h else if fmt420 f then h / 2 else h

/-- One plane as a byte range: address, lines, pitch in bytes, line bytes. -/
structure Plane where
  base : Nat
  lines : Nat
  pitch : Nat
  bytes : Nat
  deriving DecidableEq, Repr

/-- The planes of a surface. -/
def Surf.planes (s : Surf) : List Plane :=
  (List.range (fmtPlanes s.fmt)).map (fun k =>
    ⟨s.base.getD k 0, planeLines s.fmt s.h k, s.pitch.getD k 0 * 64, lineBytes s.fmt s.w⟩)

/-- R130: bytes from the first to the last byte of a plane. -/
def Plane.span (p : Plane) : Nat := if p.lines = 0 then 0 else p.pitch * (p.lines - 1) + p.bytes

/-- R142, R143: the lowest plane byte of a surface. -/
def Surf.lo (s : Surf) : Nat :=
  match s.planes with
  | [] => 0
  | p :: t => t.foldl (fun m q => min m q.base) p.base

/-- R135, R142: the first byte above the plane that ends highest. -/
def Surf.hi (s : Surf) : Nat := maxOf (fun p => p.base + p.span) s.planes

/-- R142 to R145: does `[a, a+n)` share a byte with the surface's range? -/
def Surf.inRange (s : Surf) (a n : Nat) : Bool := overlaps a n s.lo (s.hi - s.lo)

/-- R140: does `[a, a+n)` share a byte with one of the surface's planes? -/
def Surf.inPlanes (s : Surf) (a n : Nat) : Bool := s.planes.any (fun p => overlaps a n p.base p.span)

/-- R261: bytes of DRAM that surfaces, the store and the windows may use. -/
def Dev.usableBytes (d : Dev) : Nat := d.rg F.FETCH_USABLE_MIB * 1048576

/-- R231: the crust store's bytes. -/
def Dev.storeBase (d : Dev) : Nat :=
  d.rg F.CRUST_STORE_BASE_BASE_LO * 16384 + d.rg F.CRUST_STORE_BASE_BASE_HI * 2 ^ 32

/-- R231: the crust store's length. -/
def Dev.storeLen (d : Dev) : Nat := d.rg F.CRUST_STORE_UNITS_UNITS * 16384

/-- R231: does `[a, a+n)` touch the crust store? -/
def Dev.inStore (d : Dev) (a n : Nat) : Bool := overlaps a n d.storeBase d.storeLen

/-- R235: a graphic layer's membership: 0 live, 1 under-crust, 2 top crust. -/
def Dev.member (d : Dev) (l : Nat) : Nat := if l < 64 then 0 else d.rg (F.GL_CRUST_STATUS_MEMBER.i (l - 64))

/-- R16, R235: a layer of pipe `p` that is fetched and blended live. -/
def Dev.live (d : Dev) (p l : Nat) : Bool := assigned d.acV p l && d.member l == 0

/-- R138: a layer whose active bank shows the SID, and its pipe. -/
def Dev.shownOn (d : Dev) (sid l : Nat) : Option Nat :=
  if lyEn d.acV l && lySid d.acV l == sid then some (lyPipe d.acV l) else none

/-- R138: some layer shows the SID. -/
def Dev.shown (d : Dev) (sid : Nat) : Bool := allLayers.any (fun l => (d.shownOn sid l).isSome)

/-- R145: pipe `p` shows the SID. -/
def Dev.shownByPipe (d : Dev) (sid p : Nat) : Bool :=
  allLayers.any (fun l => d.shownOn sid l == some p)

/-- R46: PIPE_n_OWNER.OWNER or PENDING: the pipe counts as service-owned for the host's writes (R39). -/
def Dev.svcOwned (d : Dev) (p : Nat) : Bool := d.fl (F.PIPE_OWNER_OWNER.i p) || d.fl (F.PIPE_OWNER_PENDING.i p)

/-- An unbanked field takes a free value. -/
def Dev.freeFld (d : Dev) (f : Fld) : Dev := d.draw.2.sg f (d.draw.1 % 2 ^ f.len)

/-- R353: Hearth firmware takes SQ_3, when it is empty: it enables it, and where its rings lie and how it sets the rest of
    SQ_3_CTRL is open. -/
def Dev.sq3Take (d : Dev) : Dev :=
  (Dev.each (fun (f : Fld) d => d.freeFld (f.i 3)) [F.SQ_BASE_BASE, F.SQ_CPL_BASE_BASE, F.SQ_CTRL_WM_VECTOR,
    F.SQ_CTRL_DONE_VECTOR, F.SQ_CTRL_PRIO, F.SQ_CTRL_STOP_ON_ERR] d).up (F.SQ_CTRL_EN.i 3)

/-- R353: Hearth firmware draws with SQ_3: at least one job, how many is open, ends with nothing left pending. -/
def Dev.sq3Jobs (d : Dev) : Dev :=
  if !d.fl (F.SQ_STATUS_IDLE.i 3) then d
  else
    let n := d.draw.1 + 1
    let h := (d.rg (F.SQ_HEAD_HEAD.i 3) + n) % 2048
    let d1 := ((d.draw.2.sg (F.SQ_TAIL_TAIL.i 3) h).sg (F.SQ_HEAD_HEAD.i 3) h).sg (F.SQ_JOBS_JOBS.i 3)
      ((d.rg (F.SQ_JOBS_JOBS.i 3) + n) % 2 ^ 32)
    (d1.sg (F.SQ_DONE_LINE_SLOT.i 3) ((h + 1023) % 1024)).freeFld (F.SQ_DONE_LINE_DONE_LINE.i 3)

/-- R353: SQ3_SERVICE follows the service-owned pipes; it clears once SQ_3 is empty. -/
def Dev.sq3Show (d : Dev) : Dev :=
  if pipes.any (fun p => d.fl (F.PIPE_OWNER_OWNER.i p)) then
    (d.onlyIf (!d.fl F.SCRAPER_CFG_SQ3_SERVICE && d.fl (F.SQ_STATUS_IDLE.i 3)) Dev.sq3Take).up F.SCRAPER_CFG_SQ3_SERVICE
  else if d.fl (F.SQ_STATUS_IDLE.i 3) then d.dn F.SCRAPER_CFG_SQ3_SERVICE else d

/-- R482: REST while every pipe with EN = 1 is in Rest, at least one is, no Scraper job runs and no copy-engine channel
    is RUNNING; ACTIVE otherwise, outside HOLD and DEEP. -/
def Dev.restShow (d : Dev) : Dev :=
  if 2 ≤ d.rg F.POWER_STATUS_STATE then d
  else
    let on := pipes.filter (fun p => d.acOn (F.PIPE_TG_CTRL_EN.i p))
    d.sg F.POWER_STATUS_STATE (b2n (!on.isEmpty && on.all (fun p => d.fl (F.PIPE_REST_STATUS_STATE.i p))
      && d.scJob.isNone && d.rg F.DMA_ENGINE_ACTIVE_RUNNING == 0))

/-- R24: PIPE_n's raster is being sent and makes swap points. -/
def Dev.running (d : Dev) (p : Nat) : Bool := d.fl (F.PIPE_TG_STATUS_RUNNING.i p)

/-- R312: the lines of a frame of pipe `p`: VTOTAL, or VTOTAL_REST in Rest-VRR. -/
def Dev.frameLines (d : Dev) (p : Nat) : Nat :=
  let v := d.acV
  let r := rasterOf v p
  if d.rg (F.PIPE_REST_STATUS_STATE.i p) = 1 then
    let n := max r.vtot (ceilDiv (r.khz * 1000000) (r.fDen * r.htot * max 1 (v.g (F.PIPE_REST_CTRL_MIN_HZ.i p))))
    let top := v.g (F.PIPE_VRR_VTOTAL_MAX.i p)
    if portSel v p < 4 ∧ v.on (F.PIPE_VRR_EN.i p) then min n (if top = 0 then r.vtot else top) else n
  else r.vtot

/-- R326: the line a raster is at, when PIPE_n_TG_STATUS is read: a line of its frame while the raster runs, and open there;
    0 while it is stopped. -/
def Dev.lineShow (d : Dev) (p : Nat) : Dev :=
  if d.running p then d.draw.2.sg (F.PIPE_TG_STATUS_LINE.i p) (d.draw.1 % max 1 (d.frameLines p))
  else d.dn (F.PIPE_TG_STATUS_LINE.i p)

/-- R108: the genlock group of a pipe in a view (0 = none). -/
def genGroup (v : View) (p : Nat) : Nat := v.g (F.PIPE_GENLOCK_GROUP.i p)

end Sys2Proof.Machine
end

