-- ==== Sys2Proof/Machine/Damage.lean ====
section
/-! DEFINITION.  What a write or a damage hint marks: crust tiles, quiet counts, change events (R232, R240, R241,
    R310). -/

namespace Sys2Proof.Machine

/-- A tile that nothing has composed. -/
def dfltTile : Nat → Tile := fun _ => {}

/-- R229: the tile-table entry with the given index. -/
def Dev.tileAt (d : Dev) (k : Nat) : Tile := Tab.get dfltTile d.tiles k

/-- Replace a tile-table entry. -/
def Dev.putTile (d : Dev) (k : Nat) (t : Tile) : Dev := { d with tiles := Tab.put dfltTile d.tiles k t }

/-- A pipe whose crust is empty. -/
def dfltCrust : Nat → CrustPipe := fun _ => {}

/-- The crust of pipe `p`. -/
def Dev.crustAt (d : Dev) (p : Nat) : CrustPipe := Tab.get dfltCrust d.crust p

/-- Replace the crust of pipe `p`. -/
def Dev.putCrust (d : Dev) (p : Nat) (c : CrustPipe) : Dev := { d with crust := Tab.put dfltCrust d.crust p c }

/-- R310: a change event of pipe `p`. -/
def Dev.change (d : Dev) (p : Nat) : Dev := if d.changed.contains p then d else { d with changed := p :: d.changed }

/-- R229: the table index of tile `t` of plane `q`. -/
def tileKey (q t : Nat) : Nat := q * 8192 + t

/-- R240, R241: damage one tile, forced or not. -/
def Dev.damageTile (d : Dev) (force : Bool) (q t : Nat) : Dev :=
  let e := d.tileAt (tileKey q t)
  d.putTile (tileKey q t) { e with damage := true, force := e.force || force }

/-- R184: part of a graphic layer's source rectangle as it lies on the pipe, mirroring included. -/
def glMap (v : View) (l : Nat) (part : Rect) : Rect :=
  let s := srcRect v l
  let t := dstRect v l
  let dx := part.x - s.x
  let dy := part.y - s.y
  let mh := v.on (F.GL_CTRL_MIRROR_H.i (l - 64))
  let mv := v.on (F.GL_CTRL_MIRROR_V.i (l - 64))
  ⟨t.x + (if mh then (s.w : Int) - dx - part.w else dx), t.y + (if mv then (s.h : Int) - dy - part.h else dy),
   part.w, part.h⟩

/-- R241: the rectangle of a hint, the whole surface when a side is 0. -/
def Hint.rect (d : Dev) (h : Hint) : Rect :=
  if h.w = 0 ∨ h.h = 0 then ⟨0, 0, (d.surfAt h.sid).w, (d.surfAt h.sid).h⟩ else ⟨h.x, h.y, h.w, h.h⟩

/-- R241: damage the tiles of one member under a view that names the hinted surface. -/
def Dev.hintMember (d : Dev) (h : Hint) (v : View) (p l : Nat) : Dev :=
  if lyEn v l && lySid v l == h.sid then
    let part := (Hint.rect d h).meet (srcRect v l)
    if part.isEmpty then d
    else
      let q := 2 * p + (d.member l - 1)
      Dev.each (fun t d => d.damageTile h.force q t) (tilesUnder d.acV p (glMap v l part)) d
  else d

/-- R241: apply a hint: damage the tiles it touches on every member, return the quiet counts of the layers that
    show the surface to 0 at their next swap point, and count as a change event of their pipes (R310). -/
def Dev.hintApply (d : Dev) (h : Hint) : Dev :=
  let d1 := Dev.each (fun l d =>
      if d.member l = 0 then d
      else
        let p := lyPipe d.acV l
        let d := d.hintMember h d.acV p l
        match snapOf (.layer l) d.armed with
        | some s => if d.fl (F.CRUST_PIPE_STATUS_HOLD.i p) then d.hintMember h s.view p l else d
        | none => d) glLayers d
  Dev.each (fun l d =>
      match d.shownOn h.sid l with
      | some p =>
        let d := d.change p
        if l < 64 then d else { d with hinted := if d.hinted.contains l then d.hinted else l :: d.hinted }
      | none => d) allLayers d1

/-- The number of hints a requester has pending, shown in its CRUST_HINT_GO.PENDING (R241). -/
def Dev.hintCount (d : Dev) : Dev :=
  Dev.each (fun q d => d.sg (F.CRUST_HINT_GO_PENDING.rq q) (countP (fun h => h.rq == q) d.hints)) [.host, .fw] d

/-- R241: apply every pending hint whose fence has reached its wait value. -/
def Dev.hintsDue (d : Dev) : Dev :=
  let due := fun (h : Hint) => h.wait ≤ (d.fenceAt h.fid).val.toNat && (d.fenceAt h.fid).alloc
  let d1 : Dev := { d with hints := d.hints.filter (fun h => !due h) }
  (Dev.each (fun h d => d.hintApply h) (d.hints.filter due) d1).hintCount

/-- Bytes of DRAM were written: the live layers that read them show a free value for this frame, and a write by an
    engine of the device is a change event of their pipes (R310). -/
def Dev.noteWrite (d : Dev) (engine : Bool) (a n : Nat) : Dev :=
  Dev.each (fun l d =>
      match pipeOf d.acV l with
      | some p =>
        if d.member l = 0 && (d.surfAt (lySid d.acV l)).inPlanes a n then
          let d := if d.dirty.contains l then d else { d with dirty := l :: d.dirty }
          if engine then d.change p else d
        else d
      | none => d) allLayers d

end Sys2Proof.Machine
end

