-- ==== Sys2Proof/Machine/Chk.lean ====
section
/-! DEFINITION.  The check-value algorithms and the check-value units CHK_0 to CHK_7 (R394 to R402). -/

namespace Sys2Proof.Machine

/-- R395: the algorithms. -/
inductive Alg where
  | crc8 | crc16 | crc32 | crc32c | fletcher32
  deriving DecidableEq, Repr

/-- R395: the ALG field; codes 5 to 7 are refused at the write and never held. -/
def Alg.code : Nat → Alg
  | 0 => .crc8 | 1 => .crc16 | 2 => .crc32 | 3 => .crc32c | _ => .fletcher32

/-- R395: the ALG code. -/
def Alg.num : Alg → Nat
  | .crc8 => 0 | .crc16 => 1 | .crc32 => 2 | .crc32c => 3 | .fletcher32 => 4

/-- R395: the STATE width. -/
def Alg.width : Alg → Nat
  | .crc8 => 8 | .crc16 => 16 | _ => 32

/-- R395: the value INIT loads. -/
def Alg.init : Alg → Nat
  | .crc8 => 0 | .crc16 => 0xFFFF | .crc32 => 0xFFFFFFFF | .crc32c => 0xFFFFFFFF | .fletcher32 => 0

/-- R395: the final XOR. -/
def Alg.fin : Alg → Nat
  | .crc32 => 0xFFFFFFFF | .crc32c => 0xFFFFFFFF | _ => 0

/-- Eight steps of a most-significant-bit-first CRC of width `w`. -/
def crcMsb (w poly : Nat) : Nat → Nat → Nat
  | 0, c => c
  | n + 1, c => crcMsb w poly n (if bit c (w - 1) then (c * 2 % 2 ^ w) ^^^ poly else c * 2 % 2 ^ w)

/-- Eight steps of a reflected CRC; `poly` is the reflected polynomial. -/
def crcLsb (poly : Nat) : Nat → Nat → Nat
  | 0, c => c
  | n + 1, c => crcLsb poly n (if bit c 0 then (c / 2) ^^^ poly else c / 2)

/-- R395: STATE of a CRC after one byte. -/
def Alg.byte (a : Alg) (c b : Nat) : Nat :=
  match a with
  | .crc8 => crcMsb 8 0x07 8 (c ^^^ b)
  | .crc16 => crcMsb 16 0x1021 8 (c ^^^ (b * 256))
  | .crc32 => crcLsb 0xEDB88320 8 (c ^^^ b)
  | .crc32c => crcLsb 0x82F63B78 8 (c ^^^ b)
  | .fletcher32 => c

/-- R395: the Fletcher-32 sums after one 16-bit word. -/
def fletcher (c w : Nat) : Nat :=
  let s1 := (c % 65536 + w) % 65535
  let s2 := (c / 65536 + s1) % 65535
  s2 * 65536 + s1

/-- The CRC of a byte string from INIT, final XOR included. -/
def Alg.crc (a : Alg) (bs : List Byte) : Nat := (bs.foldl (fun c b => a.byte c b.toNat) a.init) ^^^ a.fin

/-- A unit's running context (R397). -/
structure ChkCtx where
  alg : Alg
  state : Nat
  byte : Nat
  pend : Bool
  count : Nat
  deriving DecidableEq, Repr

/-- R396: a unit after one byte. -/
def ChkCtx.feed (c : ChkCtx) (b : Nat) : ChkCtx :=
  let n := (c.count + 1) % 2 ^ 32
  match c.alg with
  | .fletcher32 =>
    if c.pend then { c with state := fletcher c.state (c.byte + 256 * b), byte := 0, pend := false, count := n }
    else { c with byte := b, pend := true, count := n }
  | a => { c with state := a.byte (c.state % 2 ^ a.width) b, count := n }

/-- R397: RESULT. -/
def ChkCtx.result (c : ChkCtx) : Nat :=
  match c.alg with
  | .fletcher32 => if c.pend then fletcher c.state c.byte else c.state
  | a => (c.state % 2 ^ a.width) ^^^ a.fin

/-- The context of unit `n`. -/
def Dev.chk (d : Dev) (n : Nat) : ChkCtx :=
  ⟨Alg.code (d.rg (F.CHK_CTRL_ALG.i n)), d.rg (F.CHK_STATE_STATE.i n), d.rg (F.CHK_AUX_BYTE.i n),
   d.fl (F.CHK_AUX_PENDING.i n), d.rg (F.CHK_COUNT_COUNT.i n)⟩

/-- Put a context into unit `n`. -/
def Dev.putChk (d : Dev) (n : Nat) (c : ChkCtx) : Dev :=
  ((((d.sg (F.CHK_CTRL_ALG.i n) c.alg.num).sg (F.CHK_STATE_STATE.i n) c.state).sg (F.CHK_AUX_BYTE.i n) c.byte).sg
    (F.CHK_AUX_PENDING.i n) (b2n c.pend)).sg (F.CHK_COUNT_COUNT.i n) c.count

/-- R397: a unit after INIT under an algorithm. -/
def ChkCtx.start (a : Alg) : ChkCtx := ⟨a, a.init, 0, false, 0⟩

/-- R398: the unit of an internal path runs an algorithm over bytes; its registers show the run.
    Log 36 (DESIGN CHOICE, unsafe). -/
def Dev.chkRun (d : Dev) (n : Nat) (a : Alg) (bs : List Byte) : Nat × Dev :=
  let c := bs.foldl (fun c b => c.feed b.toNat) (ChkCtx.start a)
  (c.result, d.putChk n c)

/-- R394: a host write to CHK_0 to CHK_3 is discarded and flagged. -/
def chkOwned (q : Rq) (n : Nat) (d : Dev) (f : Dev → Dev) : Dev :=
  match q with
  | .host => if n < 4 then d.up F.CHK_STATUS_UNIT_OWNED else f d
  | .fw => f d

/-- R395: the ALG field of a CTRL write, refused for 5 to 7. -/
def chkAlg (n : Nat) (w : Word) (d : Dev) : Dev :=
  let a := View.g (fun _ => w) F.CHK_CTRL_ALG
  if 5 ≤ a then d.up F.CHK_STATUS_BAD_ALG else d.sg (F.CHK_CTRL_ALG.i n) a

/-- R395, R397: a CTRL write: the ALG field, then INIT. -/
def chkCtrl (q : Rq) (n : Nat) (w : Word) (d : Dev) : Dev :=
  chkOwned q n d (fun d =>
    let d1 := chkAlg n w d
    if View.on (fun _ => w) F.CHK_CTRL_INIT then d1.putChk n (ChkCtx.start (d1.chk n).alg) else d1)

/-- R396: a feed of the low `bytes` bytes of a word. -/
def chkFeed (bytes : Nat) (q : Rq) (n : Nat) (w : Word) (d : Dev) : Dev :=
  chkOwned q n d (fun d =>
    d.putChk n ((leBytes bytes w.toNat).foldl (fun c b => c.feed b.toNat) (d.chk n)))

/-- R397, R402: a write of STATE.  All of it is kept, so that a context is restored in any order; bits above the width of
    the algorithm in force read 0 and take no part in it.
    Log 66 (DEDUCED, unsafe). -/
def chkStateWrite (q : Rq) (n : Nat) (w : Word) (d : Dev) : Dev :=
  chkOwned q n d (fun d => d.sg (F.CHK_STATE_STATE.i n) w.toNat)

end Sys2Proof.Machine
end

