-- ==== Sys2Proof/Machine/Fence.lean ====
section
/-! DEFINITION.  Fences, their doorbells, signals and watchers (R147 to R153). -/

namespace Sys2Proof.Machine

/-- R152: does the condition of watcher `k` hold? -/
def Dev.watchCond (d : Dev) (k : Nat) : Bool :=
  let f := d.fenceAt (d.rg (F.FENCE_WATCH_CTRL_FID.i k))
  d.fl (F.FENCE_WATCH_CTRL_EN.i k) && f.alloc && d.rg (F.FENCE_WATCH_THRESHOLD_VALUE.i k) ≤ f.val.toNat

/-- R152: watcher `k` is evaluated: a condition that does not hold arms it, one that holds fires it when it is armed
    and its HIT bit is 0. -/
def Dev.watchOne (d : Dev) (k : Nat) : Dev :=
  if !d.watchCond k then { d with watchArmed := setBits d.watchArmed k 1 1 }
  else if bit d.watchArmed k && !bit (d.rg F.FENCE_WATCH_HIT_HIT) k then
    (({ d with watchArmed := setBits d.watchArmed k 1 0 }).orBits F.FENCE_WATCH_HIT_HIT (2 ^ k)).msix
      (d.rg (F.FENCE_WATCH_CTRL_VECTOR.i k))
  else d

/-- R152: every watcher is evaluated.
    Log 37 (DESIGN CHOICE, unsafe). -/
def Dev.watch (d : Dev) : Dev := Dev.each (fun k d => d.watchOne k) (List.range 16) d

/-- R152: a write to the CTRL or THRESHOLD register of watcher `k` arms it. -/
def Dev.watchWritten (d : Dev) (k : Nat) : Dev := ({ d with watchArmed := setBits d.watchArmed k 1 1 }).watch

/-- A fence takes a value or a state; watchers and pending hints see it at once (R152, R241).
    Log 37 (DESIGN CHOICE, unsafe). -/
def Dev.fenceNow (d : Dev) (f : Nat) (x : Fence) : Dev := ((d.putFence f x).watch).hintsDue

/-- R150: a set signal. -/
def Dev.signalSet (d : Dev) (f v : Nat) : Dev :=
  let x := d.fenceAt f
  if !x.alloc then d.up F.FENCE_STATUS_SIGNAL_FREE
  else if x.val.toNat < v then d.fenceNow f { x with val := BitVec.ofNat 64 v } else d

/-- R150: an add signal, saturating. -/
def Dev.signalAdd (d : Dev) (f n : Nat) : Dev :=
  let x := d.fenceAt f
  if !x.alloc then d.up F.FENCE_STATUS_SIGNAL_FREE
  else d.fenceNow f { x with val := BitVec.ofNat 64 (satAdd 64 x.val.toNat n) }

/-- R151: the value that a doorbell of fence `f` is tested against: the fence's, but for the second doorbell of a cycle the
    value before the first.
    Log 65 (DESIGN CHOICE, unsafe). -/
def Dev.bellBase (d : Dev) (f : Nat) : Nat :=
  match d.soon, d.bell with
  | true, some (g, v) => if g = f then v else (d.fenceAt f).val.toNat
  | _, _ => (d.fenceAt f).val.toNat

/-- R149, R151: a doorbell write of a whole 64-bit value. -/
def Dev.doorbell (d : Dev) (f v : Nat) : Dev :=
  let x := d.fenceAt f
  if !x.alloc then d.up F.FENCE_STATUS_DOORBELL_FREE
  else if v < d.bellBase f then d.up F.FENCE_STATUS_BACKWARD
  else { d with bell := some (f, d.bellBase f) }.fenceNow f { x with val := BitVec.ofNat 64 (max v x.val.toNat) }

/-- R133, R147: an occupancy moves to `n`: the count, the high water, TABLE_HIGH and the TABLE attention bit. -/
def Dev.occupancy (d : Dev) (cnt hw tab : Fld) (hi lo n : Nat) : Dev :=
  let d1 := (d.sg cnt n).sg hw (max (d.rg hw) n)
  if hi ≤ n && !d.fl tab then (d1.up tab).attn .table
  else if n ≤ lo then d1.dn tab
  else d1

/-- R147: the fence table's occupancy moves to `n`. -/
def Dev.fenceOcc (d : Dev) (n : Nat) : Dev :=
  d.occupancy F.FENCE_OCCUPANCY_COUNT F.FENCE_OCCUPANCY_HIGH_WATER F.FENCE_STATUS_TABLE_HIGH 3892 3686 n

/-- R147: the lowest-numbered FREE fence. -/
def Dev.freeFid (d : Dev) : Option Nat := firstWith (fun f => !(d.fenceAt f).alloc) (List.range 4096)

/-- R132, R147, R148: result codes of the surface and fence commands. -/
inductive TabCode where
  | ok | tableFull | idInUse | notRegistered | inUse | badFormat | badGeometry | badRange | sealStarted | sealBusy
  | checkMismatch | protFull | badOp | badFence
  deriving DecidableEq, Repr

/-- R132: the numbers of the result codes. -/
def TabCode.num : TabCode → Nat
  | .ok => 0x00 | .tableFull => 0x01 | .idInUse => 0x02 | .notRegistered => 0x03 | .inUse => 0x04
  | .badFormat => 0x05 | .badGeometry => 0x06 | .badRange => 0x07 | .sealStarted => 0x08 | .sealBusy => 0x09
  | .checkMismatch => 0x0A | .protFull => 0x0B | .badOp => 0x0C | .badFence => 0x0D

/-- R147: ALLOC: the result code, the fence acted on and the device. -/
def Dev.fenceAllocate (d : Dev) (any : Bool) (fid init : Nat) : TabCode × Nat × Dev :=
  match d.freeFid with
  | none => (.tableFull, fid, d.up F.FENCE_STATUS_FULL_SEEN)
  | some low =>
    if !any && (d.fenceAt fid).alloc then (.idInUse, fid, d)
    else
      let f := if any then low else fid
      (.ok, f, (d.fenceOcc (d.rg F.FENCE_OCCUPANCY_COUNT + 1)).fenceNow f ⟨true, BitVec.ofNat 64 init⟩)

/-- R148: a layer's values wait on fence `f`. -/
def waitsOn (v : View) (f l : Nat) : Bool :=
  v.on (lf F.VL_FLIP_CTRL_FENCE_EN F.GL_FLIP_CTRL_FENCE_EN l)
    && v.g (lf F.VL_FLIP_CTRL_FID F.GL_FLIP_CTRL_FID l) == f

/-- R148: a layer's armed, late-store or held values wait on fence `f`. -/
def Dev.fenceWaited (d : Dev) (f : Nat) : Bool :=
  (d.armed ++ d.late).any (fun s => match s.id with
    | .layer l => waitsOn s.view f l
    | _ => false)

/-- R148: a non-FREE or SEALING surface binds fence `f` as its retire fence. -/
def Dev.fenceBound (d : Dev) (f : Nat) : Bool :=
  d.surf.any (fun e => (e.2.st != .free || e.2.sealing) && e.2.retEn && e.2.retFid == f)

/-- R148: FREE: the result code and the device.
    Log 37 (DESIGN CHOICE, unsafe). -/
def Dev.fenceRelease (d : Dev) (f : Nat) : TabCode × Dev :=
  if !(d.fenceAt f).alloc then (.notRegistered, d)
  else if d.fenceBound f || d.fenceWaited f then (.inUse, d)
  else (.ok, (d.fenceOcc (d.rg F.FENCE_OCCUPANCY_COUNT - 1)).fenceNow f {})

/-- The number of a requester. -/
def rqNum : Rq → Nat
  | .host => 0 | .fw => 1

/-- No command yet. -/
def dfltCmd : Nat → Option Nat := fun _ => none

/-- R131: a command of the requester is taken.
    Log 60 (DEDUCED, unsafe). -/
def Dev.cmdTaken (d : Dev) (q : Rq) : Dev := { d with cmdAt := Tab.put dfltCmd d.cmdAt (rqNum q) (some d.now) }

/-- R131: the requester's last surface or fence command has not completed: the command under way arrived early, within
    1 µs of it.
    Log 60 (DEDUCED, unsafe). -/
def Dev.cmdBusy (d : Dev) (q : Rq) : Bool :=
  d.soon && (Tab.get dfltCmd d.cmdAt (rqNum q)).any (fun t => decide (d.now < t + 1000))

/-- R131: a command that arrives while the requester's last one runs is discarded. -/
def Dev.ifIdle (d : Dev) (q : Rq) (f : Dev → Dev) : Dev := if d.cmdBusy q then d.up F.SURF_STATUS_CMD_BUSY else f (d.cmdTaken q)

/-- R131: a fence command's result in the requester's FENCE_RESULT. -/
def Dev.fenceResult (d : Dev) (q : Rq) (c : TabCode) (f : Nat) : Dev :=
  ((d.sg (F.FENCE_RESULT_CODE.rq q) c.num).sg (F.FENCE_RESULT_FID.rq q) f).up (F.FENCE_RESULT_DONE.rq q)

/-- R147: a FENCE_CMD write with OP = ALLOC.
    Log 60 (DEDUCED, unsafe). -/
def fenceCmdAlloc (q : Rq) (w : Word) (d : Dev) : Dev :=
  let v : View := fun _ => w
  let r := d.fenceAllocate (v.on F.FENCE_CMD_ALLOC_ANY) (v.g F.FENCE_CMD_FID) (d.rg (F.FENCE_INIT_VALUE.rq q))
  r.2.2.fenceResult q r.1 r.2.1

/-- R148: a FENCE_CMD write with OP = FREE. -/
def fenceCmdFree (q : Rq) (w : Word) (d : Dev) : Dev :=
  let f := View.g (fun _ => w) F.FENCE_CMD_FID
  let r := d.fenceRelease f
  r.2.fenceResult q r.1 f

/-- R148: a FENCE_CMD write with another OP. -/
def fenceCmdBadOp (q : Rq) (w : Word) (d : Dev) : Dev :=
  d.fenceResult q .badOp (View.g (fun _ => w) F.FENCE_CMD_FID)

/-- R153: an upset in a fence value: a single bit is corrected, a double sets every bit. -/
def fenceUpset (u : Upset) (d : Dev) : Dev :=
  let f := u.index.toNat % 4096
  if u.double then
    let x := d.fenceAt f
    (((d.up F.FENCE_STATUS_ECC_LOST).capture F.FENCE_ERR_FID_VALID [(F.FENCE_ERR_FID_FID, f)]).logOpen
).fenceNow f { x with val := BitVec.allOnes 64 }
  else d.up F.FENCE_STATUS_ECC_FIXED

end Sys2Proof.Machine
end

