-- ==== Sys2Proof/Machine/Surface.lean ====
section
/-! DEFINITION.  The surface table: registration, sealed checks, states, retire fences, protected ranges
    (R123 to R142). -/

namespace Sys2Proof.Machine

/-- R124, R132: the descriptor spelt by words W0 to W6, with GUARD, PROTECTED and CHECK_MODE of W7. -/
def surfOfWords (w : Nat → Nat) : Surf :=
  { st := .free
    base := [w 0 + bits (w 3) 0 8 * 2 ^ 32, w 1 + bits (w 3) 8 8 * 2 ^ 32, w 2 + bits (w 3) 16 8 * 2 ^ 32]
    pitch := [bits (w 5) 0 12, bits (w 5) 12 12, bits (w 6) 0 12]
    fmt := bits (w 3) 24 5
    w := bits (w 4) 0 14
    h := bits (w 4) 16 14
    retEn := bit (w 6) 28
    retFid := bits (w 6) 16 12
    guarded := bit (w 7) 2
    prot := bit (w 7) 3
    check := bits (w 7) 4 2 }

/-- R124: the STATE code. -/
def SurfSt.num : SurfSt → Nat
  | .free => 0 | .registered => 1 | .inScan => 2 | .retiring => 3

/-- R124: word `k` of a descriptor as the table shows it. -/
def Surf.word (s : Surf) : Nat → Nat
  | 0 => s.base.getD 0 0 % 2 ^ 32
  | 1 => s.base.getD 1 0 % 2 ^ 32
  | 2 => s.base.getD 2 0 % 2 ^ 32
  | 3 => s.base.getD 0 0 / 2 ^ 32 + s.base.getD 1 0 / 2 ^ 32 * 256 + s.base.getD 2 0 / 2 ^ 32 * 65536
          + s.fmt * 2 ^ 24
  | 4 => s.w + s.h * 65536
  | 5 => s.pitch.getD 0 0 + s.pitch.getD 1 0 * 4096
  | 6 => s.pitch.getD 2 0 + s.retFid * 65536 + b2n s.retEn * 2 ^ 28
  | _ => s.st.num + b2n s.guarded * 4 + b2n s.prot * 8 + s.check * 16 + b2n s.sealing * 64 + s.torn * 65536

/-- R130: the geometry rules. -/
def Surf.geometryOk (s : Surf) : Bool :=
  within 1 8192 s.w && within 1 8192 s.h && (!fmtSub s.fmt || s.w % 2 == 0) && (!fmt420 s.fmt || s.h % 2 == 0)
    && s.planes.all (fun p => p.base % 64 == 0 && within 64 (4095 * 64) p.pitch && p.bytes ≤ p.pitch)
    && (List.range 3).all (fun k => decide (k < fmtPlanes s.fmt) || (s.base.getD k 0 == 0 && s.pitch.getD k 0 == 0))
    && apart s.planes
where
  /-- No two planes share a byte. -/
  apart : List Plane → Bool
    | [] => true
    | p :: t => t.all (fun q => !overlaps p.base p.span q.base q.span) && apart t

/-- R135: the address of the trailer.
    Log 36 (DESIGN CHOICE, unsafe). -/
def Surf.trailer (s : Surf) : Nat := ceilDiv s.hi 16 * 16

/-- R135: the covered bytes.
    Log 36 (DESIGN CHOICE, unsafe). -/
def Surf.covered (d : Dev) (s : Surf) : List Byte :=
  s.planes.flatMap (fun p => (List.range p.lines).flatMap (fun i => d.bytesAt (p.base + i * p.pitch) p.bytes))

/-- R130, R135: every byte of every plane, and the trailer of a sealed surface, below the usable DRAM size. -/
def Surf.rangeOk (d : Dev) (s : Surf) : Bool :=
  decide (s.hi ≤ d.usableBytes) && (s.check == 0 || decide (s.trailer + 16 ≤ d.usableBytes))

/-- R133: the surface table's occupancy moves to `n`. -/
def Dev.surfOcc (d : Dev) (n : Nat) : Dev :=
  d.occupancy F.SURF_OCCUPANCY_COUNT F.SURF_OCCUPANCY_HIGH_WATER F.SURF_STATUS_TABLE_HIGH 15565 14745 n

/-- R132: a SID that is FREE and not SEALING. -/
def Dev.sidFree (d : Dev) (s : Nat) : Bool := (d.surfAt s).st == .free && !(d.surfAt s).sealing

/-- R132: the lowest-numbered SID an ALLOC can take. -/
def Dev.lowSid (d : Dev) : Nat := (firstWith d.sidFree (List.range 16384)).getD 0

/-- R132, R142: protected surfaces registered or SEALING. -/
def Dev.protCount (d : Dev) : Nat := countP (fun e => (e.2.st != .free || e.2.sealing) && e.2.prot) d.surf

/-- R132: the first check a registration fails, `ok` or `sealStarted` when none does. -/
def Dev.registerCheck (d : Dev) (x : Surf) (alloc : Bool) (sid : Nat) : TabCode :=
  if 16384 ≤ d.rg F.SURF_OCCUPANCY_COUNT then .tableFull
  else if !alloc && !d.sidFree sid then .idInUse
  else if !fmtValid x.fmt || x.check == 3 then .badFormat
  else if !x.geometryOk then .badGeometry
  else if !x.rangeOk d then .badRange
  else if x.retEn && !(d.fenceAt x.retFid).alloc then .badFence
  else if x.prot && 256 ≤ d.protCount then .protFull
  else if x.check = 0 then .ok
  else if d.fl F.SURF_SEAL_BUSY then .sealBusy
  else .sealStarted

/-- R132: REGISTER: the result code, the SID acted on and the device. -/
def Dev.register (d : Dev) (x : Surf) (alloc : Bool) (sid : Nat) : TabCode × Nat × Dev :=
  let c := d.registerCheck x alloc sid
  let s := if alloc then d.lowSid else sid
  match c with
  | .ok => (c, s, (d.putSurf s { x with st := .registered }).surfOcc (d.rg F.SURF_OCCUPANCY_COUNT + 1))
  | .sealStarted =>
    (c, s, ((((d.putSurf s { x with sealing := true }).surfOcc (d.rg F.SURF_OCCUPANCY_COUNT + 1)).sg
      F.SURF_SEAL_SID s).dn F.SURF_SEAL_DONE).up F.SURF_SEAL_BUSY)
  | .tableFull => (c, sid, d.up F.SURF_STATUS_FULL_SEEN)
  | _ => (c, s, d)

/-- R134: the SIDs the values of a block name. -/
def namedSids (id : BlkId) (v : View) : List Nat :=
  match id with
  | .layer l => if lyEn v l then [lySid v l] else []
  | .wb n =>
    if within 1 2 (v.g (F.PIPE_WB_CTRL_MODE.i n)) then
      ([v.g (F.PIPE_WB_SID_01_SID0.i n), v.g (F.PIPE_WB_SID_01_SID1.i n), v.g (F.PIPE_WB_SID_23_SID2.i n),
        v.g (F.PIPE_WB_SID_23_SID3.i n)].take (v.g (F.PIPE_WB_CTRL_RING_LEN.i n) + 1))
        ++ (if v.on (F.PIPE_WB_CTRL_PROXY_EN.i n) then [v.g (F.PIPE_WB_PROXY_SID_SID.i n)] else [])
    else []
  | _ => []

/-- R134: some snapshot of a list names the SID. -/
def namedIn (l : List Snap) (sid : Nat) : Bool := l.any (fun s => (namedSids s.id s.view).contains sid)

/-- R134: the active banks that can name a SID. -/
def namingBlocks : List BlkId := allLayers.map .layer ++ pipes.map .wb

/-- R134, R139: an active bank names the SID. -/
def Dev.activeNames (d : Dev) (sid : Nat) : Bool := namingBlocks.any (fun b => (namedSids b d.acV).contains sid)

/-- R134: an armed bank, late store, held layer or snapshot under validation names the SID. -/
def Dev.waitingNames (d : Dev) (sid : Nat) : Bool :=
  namedIn d.armed sid || namedIn d.late sid || d.strobes.any (fun s => namedIn s.snaps sid)

/-- R134: UNREGISTER.
    Log 35 (DESIGN CHOICE, unsafe). -/
def Dev.unregister (d : Dev) (sid : Nat) : TabCode × Dev :=
  let x := d.surfAt sid
  if x.st = .free then (.notRegistered, d)
  else if x.st = .inScan ∨ x.st = .retiring ∨ d.waitingNames sid then (.inUse, d)
  else (.ok, (d.putSurf sid {}).surfOcc (d.rg F.SURF_OCCUPANCY_COUNT - 1))

/-- R134: CLEAR_TORN. -/
def Dev.clearTorn (d : Dev) (sid : Nat) : TabCode × Dev :=
  if (d.surfAt sid).st = .free then (.notRegistered, d)
  else (.ok, d.putSurf sid { d.surfAt sid with torn := 0 })

/-- R125: a descriptor that is lost and that no bank names any more. -/
def Dev.lostFree (d : Dev) (sid : Nat) : Bool := (d.surfAt sid).lost && !(d.activeNames sid || d.waitingNames sid)

/-- R125, R139: a surface signals its retire fence, when one is bound; a lost one that no bank names signals it once, when it
    becomes FREE. -/
def Dev.retire (d : Dev) (sid : Nat) : Dev :=
  let x := d.surfAt sid
  if x.retEn && !d.lostFree sid then d.signalAdd x.retFid 1 else d

/-- R125: a lost descriptor that no bank names any more becomes FREE and signals its retire fence.
    Log 35 (DESIGN CHOICE, unsafe). -/
def Dev.lostOne (sid : Nat) (d : Dev) : Dev :=
  if d.lostFree sid then
    let r := d.surfAt sid
    let d1 := (d.putSurf sid {}).surfOcc (d.rg F.SURF_OCCUPANCY_COUNT - 1)
    if r.retEn then d1.signalAdd r.retFid 1 else d1
  else d

/-- R125: every lost descriptor is tested.
    Log 35 (DESIGN CHOICE, unsafe). -/
def Dev.lostSweep (d : Dev) : Dev := Dev.each Dev.lostOne (d.surf.map (·.1)) d

/-- R125, R139: snapshots were discarded: each surface only they named signals its retire fence, and a lost one becomes
    FREE. -/
def Dev.discarded (d : Dev) (l : List Snap) : Dev :=
  (Dev.each (fun sid d =>
      if d.activeNames sid || namedIn d.armed sid || namedIn d.late sid then d else d.retire sid)
    (l.flatMap (fun s => namedSids s.id s.view)).eraseDups d).lostSweep

/-- R138: at a swap point, shown surfaces become IN_SCAN and surfaces no longer shown become RETIRING. -/
def Dev.surfSwap (d : Dev) : Dev :=
  (Dev.each (fun sid d =>
      let x := d.surfAt sid
      match x.st with
      | .registered => if d.shown sid then d.putSurf sid { x with st := .inScan } else d
      | .retiring => if d.shown sid then d.putSurf sid { x with st := .inScan } else d
      | .inScan => if d.shown sid then d else d.putSurf sid { x with st := .retiring }
      | .free => d) (d.surf.map (·.1)) d).lostSweep

/-- R138: when a raster stops, surfaces no longer shown become RETIRING. -/
def Dev.surfStop (d : Dev) : Dev :=
  (Dev.each (fun sid d =>
      let x := d.surfAt sid
      if x.st == .inScan && !d.shown sid then d.putSurf sid { x with st := .retiring } else d)
    (d.surf.map (·.1)) d).lostSweep

/-- R113, R138: after a per-pipe reset, surfaces IN_SCAN or RETIRING that no layer shows any more return to
    REGISTERED and signal their retire fences at once. -/
def Dev.surfReset (d : Dev) : Dev :=
  (Dev.each (fun sid d =>
      let x := d.surfAt sid
      if (x.st == .inScan || x.st == .retiring) && !d.shown sid then
        (d.putSurf sid { x with st := .registered }).retire sid else d)
    (d.surf.map (·.1)) d).lostSweep

/-- R140: the first guarded surface IN_SCAN or RETIRING with a plane byte in `[a, a+n)`. -/
def Dev.guardHit (d : Dev) (a n : Nat) : Bool :=
  d.surf.any (fun e => (e.2.st == .inScan || e.2.st == .retiring) && e.2.guarded && e.2.inPlanes a n)

/-- R142: the protected surfaces, from registration to unregistration. -/
def Dev.protSids (d : Dev) : List Nat := (d.surf.filter (fun e => e.2.st != .free && e.2.prot)).map (·.1)

/-- R142: the first protected surface whose range shares a byte with `[a, a+n)`. -/
def Dev.protHit (d : Dev) (a n : Nat) : Option Nat := firstWith (fun s => (d.surfAt s).inRange a n) d.protSids

/-- R142: `[a, a+n)`, which is not empty, lies wholly inside a protected range. -/
def Dev.protInside (d : Dev) (a n : Nat) : Bool :=
  decide (0 < n) && d.protSids.any (fun s => decide ((d.surfAt s).lo ≤ a) && decide (a + n ≤ (d.surfAt s).hi))

/-- R131: the result of a surface command in the requester's SURF_RESULT.
    Log 30 (DESIGN CHOICE, unsafe), 60 (DEDUCED, unsafe). -/
def Dev.surfResult (d : Dev) (q : Rq) (c : TabCode) (sid : Nat) : Dev :=
  ((d.sg (F.SURF_RESULT_CODE.rq q) c.num).sg (F.SURF_RESULT_SID.rq q) sid).up (F.SURF_RESULT_DONE.rq q)

/-- R132: a SURF_CMD write with OP = REGISTER.
    Log 60 (DEDUCED, unsafe). -/
def surfCmdRegister (q : Rq) (w : Word) (d : Dev) : Dev :=
  let v : View := fun _ => w
  let x := surfOfWords (fun k => (d.unV (rqKey q (0xE0000 + 4 * k))).toNat)
  let r := d.register x (v.on F.SURF_CMD_ALLOC) (v.g F.SURF_CMD_SID)
  r.2.2.surfResult q r.1 r.2.1

/-- R134: a SURF_CMD write with OP = UNREGISTER.
    Log 60 (DEDUCED, unsafe). -/
def surfCmdUnregister (q : Rq) (w : Word) (d : Dev) : Dev :=
  let sid := View.g (fun _ => w) F.SURF_CMD_SID
  let r := d.unregister sid
  r.2.surfResult q r.1 sid

/-- R134: a SURF_CMD write with OP = CLEAR_TORN. -/
def surfCmdClearTorn (q : Rq) (w : Word) (d : Dev) : Dev :=
  let sid := View.g (fun _ => w) F.SURF_CMD_SID
  let r := d.clearTorn sid
  r.2.surfResult q r.1 sid

/-- R134: a SURF_CMD write with any other OP. -/
def surfCmdBadOp (q : Rq) (w : Word) (d : Dev) : Dev :=
  d.surfResult q .badOp (View.g (fun _ => w) F.SURF_CMD_SID)

/-- R136: the running sealed check ends: all four trailer words match, or not.  Where its SID is SEALING no longer
    (R125), it ends without touching the surface table, and its code is open.
    Log 36 (DESIGN CHOICE, unsafe). -/
def sealCheckEnd (d : Dev) : Dev :=
  if !d.fl F.SURF_SEAL_BUSY then d
  else
    let sid := d.rg F.SURF_SEAL_SID
    let x := d.surfAt sid
    let bs := x.covered d
    let r := d.chkRun 2 (if x.check = 1 then .crc32c else .crc32) bs
    let want := leBytes 4 r.1 ++ leBytes 4 bs.length ++ leBytes 4 (x.fmt * 2 ^ 24 + x.w) ++ leBytes 4 x.h
    let pass := d.bytesAt x.trailer 16 == want
    if !x.sealing || x.lost then
      ((r.2.draw.2.sg F.SURF_SEAL_CODE (r.2.draw.1 % 256)).up F.SURF_SEAL_DONE).dn F.SURF_SEAL_BUSY
    else
    let d1 := if pass then
        ((r.2.putSurf sid { x with st := .registered, sealing := false }).store x.trailer (leBytes 16 0)).noteWrite
          false x.trailer 16
      else ((r.2.putSurf sid {}).surfOcc (d.rg F.SURF_OCCUPANCY_COUNT - 1)).up F.SURF_STATUS_SEAL_FAIL
    ((d1.sg F.SURF_SEAL_CODE (if pass then TabCode.ok.num else TabCode.checkMismatch.num)).up
      F.SURF_SEAL_DONE).dn F.SURF_SEAL_BUSY

/-- R125: an upset in a descriptor word.
    Log 36 (DESIGN CHOICE, unsafe). -/
def descUpset (u : Upset) (d : Dev) : Dev :=
  let sid := u.index.toNat % 16384
  if u.double then
    let x := d.surfAt sid
    Dev.lostOne sid ((((d.up F.SURF_STATUS_DESC_LOST).surfErr sid).logOpen).putSurf sid
      (if x.st = .free ∧ !x.sealing then x else { x with lost := true }))
  else (d.up F.SURF_STATUS_DESC_FIXED).surfErr sid

/-- R138: the fetches of a RETIRING surface have drained: it is REGISTERED and signals its retire fence.
    Log 35 (DESIGN CHOICE, unsafe). -/
def surfaceRetireDrain (sid : Nat) (d : Dev) : Dev :=
  let x := d.surfAt sid
  if x.st = .retiring then ((d.putSurf sid { x with st := .registered }).retire sid) else d

end Sys2Proof.Machine
end

