-- ==== Sys2Proof/Machine/Pixel.lean ====
section
/-! DEFINITION.  Stages 2 and 3 of the data path: unpacking a surface, chroma up-sampling, pre-decimation, the
    polyphase scaler, mirroring and the colour key (R162 to R172, R184, R187). -/

namespace Sys2Proof.Machine

/-- Three components and alpha. -/
structure Px where
  c0 : Int
  c1 : Int
  c2 : Int
  a : Int
  deriving DecidableEq, Repr

/-- Apply a function to every component. -/
def Px.map (f : Int → Int) (p : Px) : Px := ⟨f p.c0, f p.c1, f p.c2, f p.a⟩

/-- Combine two pixels component by component. -/
def Px.zip (f : Int → Int → Int) (p q : Px) : Px := ⟨f p.c0 q.c0, f p.c1 q.c1, f p.c2 q.c2, f p.a q.a⟩

/-- A pixel of zeros. -/
def Px.zero : Px := ⟨0, 0, 0, 0⟩

/-- A number of `n` bytes of DRAM as the reader sees it. -/
def Dev.num (d : Dev) (a n : Nat) : Nat := d.leAt a n

/-- R127: sample `i` of line `y` of plane `k` of a planar format, at its own precision. -/
def planeSample (d : Dev) (s : Surf) (k i y : Nat) : Nat :=
  let row := s.base.getD k 0 + y * (s.pitch.getD k 0 * 64)
  if s.fmt = 0 ∨ s.fmt = 2 ∨ s.fmt = 5 then d.num (row + i) 1
  else if s.fmt = 4 then bits (d.num (row + 4 * (i / 3)) 4) (10 * (i % 3)) 10
  else if s.fmt = 7 then d.num (row + 2 * i) 2 / 16
  else d.num (row + 2 * i) 2 / 64

/-- R165: a sample of `n` bits expanded to 12 bits. -/
def expand12 (n v : Nat) : Nat :=
  match n with
  | 5 => v * 128 + v * 4 + v / 8
  | 6 => v * 64 + v
  | 8 => v * 16 + v / 16
  | 10 => v * 4 + v / 256
  | _ => v

/-- R126, R165: the bits of a planar format's samples. -/
def sampleBits (f : Nat) : Nat :=
  if f = 0 ∨ f = 2 ∨ f = 5 then 8 else if f = 7 then 12 else 10

/-- R127: a raw packed pixel. -/
def rawPixel (d : Dev) (s : Surf) (x y : Nat) : Nat :=
  let n := lineBytes s.fmt 1
  d.num (s.base.getD 0 0 + y * (s.pitch.getD 0 0 * 64) + n * x) n

/-- R127: R, G, B and alpha of a raw packed pixel at their own precision; formats without alpha give 0xFFFF. -/
def unpack (f raw : Nat) : Px :=
  match f with
  | 0x10 => ⟨(bits raw 11 5 : Nat), (bits raw 5 6 : Nat), (bits raw 0 5 : Nat), 0xFFFF⟩
  | 0x11 => ⟨(bits raw 0 8 : Nat), (bits raw 8 8 : Nat), (bits raw 16 8 : Nat), 0xFFFF⟩
  | 0x12 => ⟨(bits raw 0 8 : Nat), (bits raw 8 8 : Nat), (bits raw 16 8 : Nat), (bits raw 24 8 : Nat)⟩
  | 0x13 => ⟨(bits raw 0 10 : Nat), (bits raw 10 10 : Nat), (bits raw 20 10 : Nat), (bits raw 30 2 : Nat)⟩
  | _ => ⟨(bits raw 0 16 : Nat), (bits raw 16 16 : Nat), (bits raw 32 16 : Nat), (bits raw 48 16 : Nat)⟩

/-- R165: a packed pixel expanded to 12 bits, for a video layer. -/
def packed12 (f raw : Nat) : Px :=
  let p := unpack f raw
  let e := fun n (v : Int) => (expand12 n v.toNat : Int)
  match f with
  | 0x10 => ⟨e 5 p.c0, e 6 p.c1, e 5 p.c2, 4095⟩
  | 0x11 => ⟨e 8 p.c0, e 8 p.c1, e 8 p.c2, 4095⟩
  | _ => ⟨e 8 p.c0, e 8 p.c1, e 8 p.c2, e 8 p.a⟩

/-- An index confined to `0 .. n-1`. -/
def clampIx (n : Nat) (i : Int) : Nat := (clampInt 0 ((n : Int) - 1) i).toNat

/-- R166: chroma component `c` (0 = Cb, 1 = Cr) of chroma line `j` at luma position `x`, up-sampled along the line.
    Log 38 (DESIGN CHOICE, unsafe). -/
def chromaH (d : Dev) (s : Surf) (inter : Bool) (c : Nat) (j x : Nat) : Nat :=
  let at_ := fun (k : Int) => expand12 (sampleBits s.fmt) (planeSample d s 1 (2 * clampIx (s.w / 2) k + c) j)
  let k : Int := (x / 2 : Nat)
  if !inter then (if x % 2 = 0 then at_ k else (at_ k + at_ (k + 1) + 1) / 2)
  else if x % 2 = 0 then (3 * at_ k + at_ (k - 1) + 2) / 4
  else (3 * at_ k + at_ (k + 1) + 2) / 4

/-- R166: chroma at luma position (x, y).
    Log 38 (DESIGN CHOICE, unsafe). -/
def chroma (d : Dev) (s : Surf) (interH interV : Bool) (c x y : Nat) : Nat :=
  if !fmt420 s.fmt then chromaH d s interH c y x
  else
    let line := fun (j : Int) => chromaH d s interH c (clampIx (s.h / 2) j) x
    let j : Int := (y / 2 : Nat)
    if !interV then (if y % 2 = 0 then line j else (line j + line (j + 1) + 1) / 2)
    else if y % 2 = 0 then (3 * line j + line (j - 1) + 2) / 4
    else (3 * line j + line (j + 1) + 2) / 4

/-- R162, R165, R166: the 12-bit 4:4:4 pixel a video layer reads at surface position (x, y), the nearest surface
    pixel when outside. -/
def video12 (d : Dev) (s : Surf) (interH interV : Bool) (x y : Int) : Px :=
  let xx := clampIx s.w x
  let yy := clampIx s.h y
  let e := fun v => (expand12 (sampleBits s.fmt) v : Int)
  if fmtPacked s.fmt then packed12 s.fmt (rawPixel d s xx yy)
  else if fmtSub s.fmt then
    ⟨e (planeSample d s 0 xx yy), (chroma d s interH interV 0 xx yy : Int), (chroma d s interH interV 1 xx yy : Int),
     4095⟩
  else ⟨e (planeSample d s 0 xx yy), e (planeSample d s 1 xx yy), e (planeSample d s 2 xx yy), 4095⟩

/-- R162: the source rectangle a layer uses for a format. -/
def fmtRect (f : Nat) (r : Rect) : Rect :=
  let r := if fmtSub f then { r with x := r.x / 2 * 2, w := r.w / 2 * 2 } else r
  if fmt420 f then { r with y := r.y / 2 * 2, h := r.h / 2 * 2 } else r

/-- The sum of `n` pixels. -/
def sumPx (f : Nat → Px) : Nat → Px
  | 0 => Px.zero
  | n + 1 => (sumPx f n).zip (· + ·) (f n)

/-- R167: the average of samples `k × dd` to `k × dd + dd - 1` inside `0 .. n-1`, rounded half up.
    Log 38 (DESIGN CHOICE, unsafe). -/
def boxAvg (dd n k : Nat) (f : Nat → Px) : Px :=
  let m := min dd (n - k * dd)
  (sumPx (fun i => f (k * dd + i)) m).map (fun s => (2 * s + m) / (2 * (m : Int)))

/-- R171: the source index and the phase of destination pixel `x` of an axis. -/
def scalePos (src dst : Nat) (offset : Int) (x : Nat) : Int × Nat :=
  let step : Int := (src * 2 ^ 20 / dst : Nat)
  let p : Int := (step - 2 ^ 20) / 2 + offset * 4096 + x * step
  (p / 2 ^ 20, ((p / 2 ^ 14) % 64).toNat)

/-- R195: coefficient of tap `k` of phase `ph` of a set. -/
def Dev.coef (d : Dev) (set ph k : Nat) : Int :=
  let f := if k % 2 = 0 then F.LINESTORE_COEF_TAP_EVEN else F.LINESTORE_COEF_TAP_ODD
  toInt 12 (d.rg (f.ij set (ph * 4 + k / 2)))

/-- R171, R172: taps `k0 .. k0+n-1` of one axis, summed and rounded. -/
def filterTaps (co : Nat → Int) (smp : Nat → Px) (k0 n : Nat) : Px :=
  (sumPx (fun i => (smp (k0 + i)).map (· * co (k0 + i))) n).map (fun s => (s + 512) / 1024)

/-- What a video layer's filters need: the decimated size, the unclipped destination size and the registers. -/
structure Scale where
  wd : Nat
  hd : Nat
  dw : Nat
  dh : Nat
  coefH : Nat
  coefV : Nat
  offH : Int
  offV : Int
  deriving DecidableEq, Repr

/-- R171, R172: destination pixel (x, y) of the unclipped rectangle, from the decimated pixels. -/
def scaled (d : Dev) (s : Scale) (pix : Nat → Nat → Px) (x y : Nat) : Px :=
  let vert := fun (sx : Nat) =>
    if s.hd = s.dh then pix sx y
    else
      let pos := scalePos s.hd s.dh s.offV y
      filterTaps (d.coef s.coefV pos.2) (fun k => pix sx (clampIx s.hd (pos.1 - 3 + k))) 1 6
  if s.wd = s.dw then vert x
  else
    let pos := scalePos s.wd s.dw s.offH x
    (filterTaps (d.coef s.coefH pos.2) (fun k => vert (clampIx s.wd (pos.1 - 3 + k))) 0 8).map (clampInt 0 4095)

/-- R167 to R172: the pixel of video layer `l` at (x, y) of its unclipped destination, as it leaves stage 3; `dh` and
    `dv` are the decimation factors.
    Log 38 (DESIGN CHOICE, unsafe). -/
def videoPixel (d : Dev) (v : View) (l dh dv x y : Nat) : Px :=
  let s := d.surfAt (lySid v l)
  let r := fmtRect s.fmt (srcRect v l)
  let t := dstRect v l
  let src := fun (i j : Nat) =>
    video12 d s (v.on (F.VL_FORMAT_CSITE_H.i l)) (v.on (F.VL_FORMAT_CSITE_V.i l)) (r.x + i) (r.y + j)
  let decH := fun (i j : Nat) => if dh = 1 then src i j else boxAvg dh r.w i (fun k => src k j)
  let dec := fun (i j : Nat) => if dv = 1 then decH i j else boxAvg dv r.h j (fun k => decH i k)
  scaled d
    ⟨ceilDiv r.w dh, ceilDiv r.h dv, t.w, t.h, v.g (F.VL_SCALE_COEF_H.i l), v.g (F.VL_SCALE_COEF_V.i l),
     toInt 12 (v.g (F.VL_OFFSET_OFFSET_H.i l)), toInt 12 (v.g (F.VL_OFFSET_OFFSET_V.i l))⟩ dec x y

/-- R187 step 1: a packed component at 10 bits.
    Log 38 (DESIGN CHOICE, unsafe). -/
def key10 (f i : Nat) (v : Int) : Nat :=
  let n := v.toNat
  match f with
  | 0x10 => if i = 1 then n * 16 + n / 4 else n * 32 + n
  | 0x13 => n
  | 0x14 =>
    let x := clampHalf n
    (fFloorHalf x)
  | _ => n * 4 + n / 64
where
  /-- A binary16 value clamped to 0.0 to 1.0, as an exact fraction of 2 ^ 24. -/
  clampHalf (n : Nat) : Nat :=
    if n % 65536 / 1024 % 32 = 31 ∧ n % 1024 ≠ 0 then 0
    else if 32768 ≤ n then 0
    else
      let e := n / 1024
      let m := n % 1024
      min (2 ^ 24) (if e = 0 then m else (1024 + m) * 2 ^ (e - 1))
  /-- Multiplied by 1,023 and rounded half up. -/
  fFloorHalf (x : Nat) : Nat := (x * 1023 * 2 + 2 ^ 24) / 2 ^ 25

/-- R187: does a packed pixel match the key under the mask? -/
def keyMatch (f : Nat) (p : Px) (key mask : Nat) : Bool :=
  let k := key10 f 0 p.c0 + key10 f 1 p.c1 * 1024 + key10 f 2 p.c2 * 1048576
  ((k ^^^ key) &&& mask) % 2 ^ 30 == 0

/-- R164, R184, R187: the pixel of graphic layer `l` at (x, y) of its unclipped destination as it leaves stage 2, and
    whether it is keyed. -/
def graphicPixel (d : Dev) (v : View) (l x y : Nat) : Px × Bool :=
  let g := l - 64
  let s := d.surfAt (lySid v l)
  let r := srcRect v l
  let sx := if v.on (F.GL_CTRL_MIRROR_H.i g) then r.w - 1 - x else x
  let sy := if v.on (F.GL_CTRL_MIRROR_V.i g) then r.h - 1 - y else y
  let p := unpack s.fmt (rawPixel d s (clampIx s.w (r.x + sx)) (clampIx s.h (r.y + sy)))
  let keyed := v.on (F.GL_CTRL_KEY_EN.i g)
    && keyMatch s.fmt p (v.g (F.GL_KEY_KEY.i g)) (v.g (F.GL_KEY_MASK_MASK.i g))
  (if keyed then Px.zero else p, keyed)

end Sys2Proof.Machine
end

