-- ==== Sys2Proof/Machine/LineStore.lean ====
section
/-! DEFINITION.  Scaler factors and limits (R168 to R170) and the line-store pool: need, claim, grants and the claim
    table (R176 to R182). -/

namespace Sys2Proof.Machine

/-- R170: CORE_CLK cycles in one line-time. -/
def Raster.wmax (r : Raster) : Nat := r.htot * 1200 * r.fDen / r.khz

/-- R162, R169: the source and destination sizes of a video layer. -/
structure Sizes where
  w : Nat
  h : Nat
  dw : Nat
  dh : Nat
  deriving DecidableEq, Repr

/-- The sizes of video layer `l` in a view. -/
def Dev.sizes (d : Dev) (v : View) (l : Nat) : Sizes :=
  let r := fmtRect (d.surfAt (lySid v l)).fmt (srcRect v l)
  ⟨r.w, r.h, (dstRect v l).w, (dstRect v l).h⟩

/-- R169: a dimension of 0 leaves the layer without a ratio. -/
def Sizes.noRatio (s : Sizes) : Bool := s.w == 0 || s.h == 0 || s.dw == 0 || s.dh == 0

/-- R168: log₂ of the decimation factors of video layer `l` under raster `r`, set or chosen.
    Log 38 (DESIGN CHOICE, unsafe). -/
def Dev.decim (d : Dev) (v : View) (r : Raster) (l : Nat) : Nat × Nat :=
  let s := d.sizes v l
  let eh :=
    if !v.on (F.VL_SCALE_DECIM_H_AUTO.i l) then v.g (F.VL_SCALE_DECIM_H.i l)
    else if s.noRatio then 0
    else (firstWith (fun e => ceilDiv s.w (2 ^ e) ≤ 8 * s.dw) [0, 1, 2, 3]).getD 3
  let w' := ceilDiv s.w (2 ^ eh)
  let ev :=
    if !v.on (F.VL_SCALE_DECIM_V_AUTO.i l) then v.g (F.VL_SCALE_DECIM_V.i l)
    else if s.noRatio then 0
    else (firstWith (fun e => decide (ceilDiv s.h (2 ^ e) ≤ 8 * s.dh)
      && decide (w' * ceilDiv s.h (2 ^ e) ≤ 2 * r.wmax * s.dh)) [0, 1, 2, 3]).getD 3
  (eh, ev)

/-- R170: the first limit that fails, as COMMIT_NEEDED and COMMIT_AVAILABLE. -/
def Dev.ratioCheck (d : Dev) (v : View) (r : Raster) (p l : Nat) (e : Nat × Nat) : Option (Nat × Nat) :=
  let s := d.sizes v l
  let w' := ceilDiv s.w (2 ^ e.1)
  let h' := ceilDiv s.h (2 ^ e.2)
  let cw := (clipDst v p l).w
  if s.noRatio then none
  else if 8 * s.dw < w' then some (ceilDiv (w' * 256) s.dw, 2048)
  else if 8 * s.dh < h' then some (ceilDiv (h' * 256) s.dh, 2048)
  else if w' * 16 < s.dw then some (w' * 256 / s.dw, 16)
  else if h' * 16 < s.dh then some (h' * 256 / s.dh, 16)
  else if r.wmax < cw then some (cw, r.wmax)
  else if 2 * r.wmax * s.dh < w' * h' then some (ceilDiv (h' * 256) s.dh, 2 * r.wmax * 256 / w')
  else none

/-- R169: the vertical axis is bypassed, under the vertical factor `2 ^ ev`. -/
def Sizes.bypassV (s : Sizes) (ev : Nat) : Bool := s.noRatio || ceilDiv s.h (2 ^ ev) == s.dh

/-- R176: the blocks video layer `l` needs under factors `2 ^ e`. -/
def Dev.lsNeed (d : Dev) (v : View) (l : Nat) (e : Nat × Nat) : Nat :=
  if !lyEn v l then 0
  else
    let s := d.sizes v l
    (if s.bypassV e.2 then 2 else 6) * ceilDiv (ceilDiv s.w (2 ^ e.1)) 1024

/-- R177: the claim of video layer `l`. -/
def Dev.lsClaim (d : Dev) (v : View) (l : Nat) (e : Nat × Nat) : Nat :=
  if !lyEn v l then 0
  else if v.g (F.VL_LS_CLAIM_BLOCKS.i l) = 0 then d.lsNeed v l e
  else v.g (F.VL_LS_CLAIM_BLOCKS.i l)

/-- A block that belongs to nobody. -/
def dfltClaim : Nat → Claim := fun _ => .none

/-- R194: the claim-table entry of a block. -/
def Dev.claimAt (d : Dev) (b : Nat) : Claim := Tab.get dfltClaim d.claims b

/-- R178: a block is free. -/
def Dev.blockFree (d : Dev) (b : Nat) : Bool :=
  decide (d.rg F.LINESTORE_POOL_RESERVED ≤ b) && d.claimAt b == .none

/-- R178: the free blocks, lowest first. -/
def Dev.freeBlocks (d : Dev) : List Nat := (List.range 1024).filter d.blockFree

/-- R178: blocks in the grant of a layer's slot (0 = ACTIVE, 1 = ARMED, 2 = LATE). -/
def Dev.granted (d : Dev) (l slot : Nat) : Nat := countP (fun e => e.2 == .grant l slot) d.claims

/-- R190, R193: the registers that show the pool. -/
def Dev.poolShow (d : Dev) : Dev :=
  let d1 := (d.sg F.LINESTORE_POOL_FREE d.freeBlocks.length).sg F.LINESTORE_STATUS_QUARANTINED
    (countP (fun e => e.2 == .quarantined) d.claims)
  Dev.each (fun l d => (d.sg (F.VL_LS_STATUS_ACTIVE_BLOCKS.i l) (d.granted l 0)).sg
    (F.VL_LS_STATUS_ARMED_BLOCKS.i l) (d.granted l 1)) (List.range 64) d1

/-- R180: a slot's grant is released. -/
def Dev.release (d : Dev) (l slot : Nat) : Dev :=
  { d with claims := Tab.mapEntries dfltClaim (fun _ c => if c = .grant l slot then .none else c) d.claims }

/-- R178: a slot is granted the `n` lowest-numbered free blocks. -/
def Dev.grant (d : Dev) (l slot n : Nat) : Dev :=
  { d with claims := (d.freeBlocks.take n).foldl (fun t b => Tab.put dfltClaim t b (.grant l slot)) d.claims }

/-- R180: one slot's grant becomes another's, replacing what that one held. -/
def Dev.moveGrant (d : Dev) (l src dst : Nat) : Dev :=
  let d1 := d.release l dst
  { d1 with claims :=
      Tab.mapEntries dfltClaim (fun _ c => if c = .grant l src then .grant l dst else c) d1.claims }

/-- R180: every grant of a layer is released. -/
def Dev.releaseAll (d : Dev) (l : Nat) : Dev := ((d.release l 0).release l 1).release l 2

/-- R190: what the active bank of video layer `l` needs, and its factors. -/
def Dev.needShow (d : Dev) (l : Nat) (e : Nat × Nat) : Dev :=
  ((d.sg (F.VL_LS_STATUS_DECIM_H_USED.i l) e.1).sg (F.VL_LS_STATUS_DECIM_V_USED.i l) e.2).sg
    (F.VL_LS_STATUS_NEED.i l) (d.lsNeed d.acV l e)

/-- The factors of the active bank of video layer `l`, as log₂. -/
def Dev.usedDecim (d : Dev) (l : Nat) : Nat × Nat :=
  (d.rg (F.VL_LS_STATUS_DECIM_H_USED.i l), d.rg (F.VL_LS_STATUS_DECIM_V_USED.i l))

/-- R181: Hearth firmware rebuilds the claim table from the banks: every claim in full, lowest blocks first, quarantined
    blocks returned. -/
def Dev.rebuildClaims (d : Dev) : Dev :=
  if d.claims.any (fun e => e.2 == .quarantined) then
    let d1 : Dev := { d with claims := [] }
    let grantSnaps := fun (slot : Nat) (l : List Snap) (d : Dev) =>
      Dev.each (fun (s : Snap) d => match s.id with
        | .layer l => if l < 64 then d.grant l slot (d.lsClaim s.view l (s.decH, s.decV)) else d
        | _ => d) l d
    let d2 := Dev.each (fun l d => d.grant l 0 (d.lsClaim d.acV l (d.usedDecim l))) (List.range 64) d1
    ((grantSnaps 2 d.late (grantSnaps 1 d.armed d2)).up F.LINESTORE_STATUS_REBUILT).poolShow
  else d

/-- R181: the claim-table scrub finds the entries of the listed blocks in error. -/
def claimScrub (blocks : List (Fin 1024)) (d : Dev) : Dev :=
  (Dev.each (fun (b : Fin 1024) d =>
    ({ d with claims := Tab.put dfltClaim d.claims b.val .quarantined }.up
      F.LINESTORE_STATUS_CLAIM_PARITY).logE 3 2 2 b.val) blocks d).poolShow

/-- CLAIM_SCRUB (R181). -/
def execClaimScrub (blocks : List (Fin 1024)) (s : State) : Host.Outcome State Fault Refusal :=
  s.run (claimScrub blocks)

/-- R174: a video layer's values, enabled, name coefficient set `k` on an axis that is not bypassed.
    Log 38 (DESIGN CHOICE, unsafe). -/
def Dev.usesCoef (d : Dev) (v : View) (l : Nat) (e : Nat × Nat) (k : Nat) : Bool :=
  let s := d.sizes v l
  lyEn v l && !s.noRatio
    && ((v.g (F.VL_SCALE_COEF_H.i l) == k && ceilDiv s.w (2 ^ e.1) != s.dw)
      || (v.g (F.VL_SCALE_COEF_V.i l) == k && ceilDiv s.h (2 ^ e.2) != s.dh))

/-- R174: coefficient set `k` is in use.
    Log 38 (DESIGN CHOICE, unsafe). -/
def Dev.coefInUse (d : Dev) (k : Nat) : Bool :=
  (List.range 64).any (fun l => d.usesCoef d.acV l (d.usedDecim l) k)
    || (d.armed ++ d.late).any (fun s => match s.id with
      | .layer l => l < 64 && d.usesCoef s.view l (s.decH, s.decV) k
      | _ => false)

/-- R173 to R175, R195: a host or Hearth write to a coefficient word; the two upper nibbles of each half read 0. -/
def coefWrite (q : Rq) (off : Nat) (w : Word) (d : Dev) : Dev :=
  if !(within 0x68000 0x6FFFF off && off % 4 == 0) then d
  else
    let k := (off - 0x68000) / 0x400
    match q with
    | .fw => d.sgWord off (w &&& 0x0FFF0FFF)
    | .host =>
      if k < 4 then d.up F.LINESTORE_STATUS_COEF_RESERVED
      else if d.coefInUse k then d.up F.LINESTORE_STATUS_COEF_IN_USE
      else d.sgWord off (w &&& 0x0FFF0FFF)

end Sys2Proof.Machine
end

