-- ==== Sys2Proof/Machine/CrustRun.lean ====
section
/-! DEFINITION.  Which layers the crust holds: eligibility and runs (R232, R233), tile and plane costs (R230), and
    whether a configuration is crust-affecting (R236). -/

namespace Sys2Proof.Machine

/-- R232: a graphic layer's ALLOW. -/
def glAllow (v : View) (l : Nat) : Bool := v.on (F.GL_CRUST_ALLOW.i (l - 64))

/-- R232: graphic layer `l` of pipe `p` is static under a view. -/
def Dev.static (d : Dev) (v : View) (p l : Nat) : Bool :=
  let e := d.rg (F.CRUST_PIPE_CFG_ENTRY.i p)
  glAllow v l && e != 0 && decide (e ≤ d.rg (F.GL_CRUST_STATUS_QUIET.i (l - 64)))

/-- R233: layer `l` of pipe `p` is eligible under a view. -/
def Dev.eligible (d : Dev) (v : View) (p l : Nat) : Bool :=
  decide (64 ≤ l) && glAllow v l && (d.static v p l || d.member l != 0)

/-- R233: the longest run at the front of a list. -/
def frontRun (f : Nat → Bool) : List Nat → List Nat
  | [] => []
  | a :: t => if f a then a :: frontRun f t else []

/-- EN of crust plane `q`. -/
def planeEn (v : View) (q : Nat) : Bool := v.on (F.CRUST_CTRL_EN.i q)

/-- R233: the under-crust run and the top crust run of pipe `p`, both bottom first. -/
def Dev.runs (d : Dev) (v : View) (p : Nat) : List Nat × List Nat :=
  let o := blendOrder v p
  if tooLarge v p then ([], [])
  else
    let u := if planeEn v (2 * p) then frontRun (d.eligible v p) o else []
    let rest := o.drop u.length
    (u, if planeEn v (2 * p + 1) then (frontRun (d.eligible v p) rest.reverse).reverse else [])

/-- R233: the run of plane `q`. -/
def Dev.runOf (d : Dev) (v : View) (q : Nat) : List Nat :=
  let r := d.runs v (planePipe q)
  if q % 2 = 0 then r.1 else r.2

/-- R230: the allocation of plane `q` in bytes per line-time. -/
def planeAlloc (v : View) (q : Nat) : Nat :=
  if v.g (F.CRUST_CTRL_ALLOC.i q) = 0 then tileCols v (planePipe q) * 512 else v.g (F.CRUST_CTRL_ALLOC.i q)

/-- R238: plane `q` is charged its allocation.
    Log 41 (DESIGN CHOICE, unsafe). -/
def planeCharged (v : View) (q : Nat) : Bool := planeEn v q && !tooLarge v (planePipe q)

/-- R230: bytes fetched per tile per output line. -/
def TileSt.cost : TileSt → Nat
  | .empty => 0 | .uniform => 0 | .compressed => 256 | .raw => 512

/-- R230: units of the crust store a tile version holds. -/
def TileSt.units : TileSt → Nat
  | .empty => 0 | .uniform => 0 | .compressed => 1 | .raw => 2

/-- R230, R255: the units of the crust store that hold a version, the first by its payload. -/
def TileVer.unitList (x : TileVer) : List Nat := (List.range x.st.units).map (x.payload + ·)

/-- R229: a tile's visible version. -/
def Tile.shown (t : Tile) : TileVer := if t.vis then t.v1 else t.v0

/-- R235: the members of plane `q` under the visible version. -/
def Dev.members (d : Dev) (q : Nat) : List Nat :=
  glLayers.filter (fun l => assigned d.acV (planePipe q) l && d.member l == q % 2 + 1)

/-- R236: the configuration the visible version of pipe `p` was built from. -/
def Dev.builtV (d : Dev) (p : Nat) : View := Tab.get dfltB (d.crustAt p).built

/-- R232, R236: a layer's banked fields but FLIP_CTRL and FLIP_WAIT agree in two views. -/
def sameLayer (v w : View) (l : Nat) : Bool :=
  let base := if l < 64 then 0x40000 + l * 0x400 else 0x50000 + (l - 64) * 0x200
  (List.range 0x60).all (fun k => v (base + 4 * k) == w (base + 4 * k))

/-- R236: two layers stand in the same order in two lists that hold both. -/
def sameOrder (o n : List Nat) (a b : Nat) : Bool :=
  !(o.contains a && o.contains b && n.contains a && n.contains b)
    || (decide (o.idxOf a < o.idxOf b) == decide (n.idxOf a < n.idxOf b))

/-- R236: layer `l` of pipe `p` differs in assignment, enable or ALLOW between two views. -/
def allowChange (v w : View) (p l : Nat) : Bool :=
  assigned v p l != assigned w p l || (decide (64 ≤ l) && glAllow v l != glAllow w l)

/-- R236: member `m` of plane `q` lies outside its run under a view that changes an assignment, an enable or an ALLOW. -/
def Dev.outsideRun (d : Dev) (v : View) (q m : Nat) : Bool :=
  allLayers.any (allowChange v (d.builtV (planePipe q)) (planePipe q)) && !(d.runOf v q).contains m

/-- R236: a configuration is crust-affecting for plane `q`. -/
def Dev.crustAffecting (d : Dev) (v : View) (q : Nat) : Bool :=
  let p := planePipe q
  let b := d.builtV p
  let ms := d.members q
  let ob := blendOrder b p
  let on := blendOrder v p
  v (F.CRUST_CTRL_EN.i q).off != b (F.CRUST_CTRL_EN.i q).off
    || ms.any (fun m => !sameLayer v b m || d.outsideRun v q m || on.any (fun x => !sameOrder ob on m x))

/-- R247: a running item and a ready version of pipe `p` become obsolete when a value they were built from is gone. -/
def Dev.crustObsolete (d : Dev) (p : Nat) (gone : List Snap) : Dev :=
  let hit := fun (held : List Snap) => held.any (fun s => gone.any (fun x => x.id == s.id && x.seq == s.seq))
  let c := d.crustAt p
  d.putCrust p { c with
    item := c.item.map (fun i => { i with obsolete := i.obsolete || hit i.held })
    ready := c.ready.map (fun r => { r with obsolete := r.obsolete || hit r.held }) }

end Sys2Proof.Machine
end

