-- ==== Sys2Proof/Machine/Admission.lean ====
section
/-! DEFINITION.  The admission model: the budget (R270, R271), the cost of layers, crust, writeback and replay (R273 to
    R276), the need and the allocation of a pipe (R277, R278), the tests (R279), and a plan of the budget (R280). -/

namespace Sys2Proof.Machine

/-- A configuration under test: the view of R91, the snapshots and armed values it is made of, the active bank, and the
    crust planes that it holds a crust hold for (R238). -/
structure Cfg where
  v : View
  waiting : List Snap
  act : View
  held : List Nat := []

/-- R91: the configuration with a list of snapshots, then armed banks, then active banks. -/
def Dev.cfg91 (d : Dev) (snaps : List Snap) : Cfg :=
  ⟨overV (snaps ++ d.armed) d.acV, snaps ++ d.armed, d.acV, pipes.flatMap (fun p => (d.crustAt p).holdFor)⟩

/-- The active configuration. -/
def Dev.cfgAct (d : Dev) : Cfg := ⟨d.acV, [], d.acV, []⟩

/-- R168: the decimation factors (log₂) of layer `l` in a configuration. -/
def Dev.cfgDecim (d : Dev) (c : Cfg) (l : Nat) : Nat × Nat :=
  match snapOf (.layer l) c.waiting with
  | some s => (s.decH, s.decV)
  | none => d.usedDecim l

/-- R103: the flip group of a layer's values: its pipe, by those values or else by the active bank, and the group. -/
def Cfg.group (c : Cfg) (l : Nat) : Option (Nat × Nat) :=
  if c.v.on (lf F.VL_FLIP_CTRL_GROUP_EN F.GL_FLIP_CTRL_GROUP_EN l) then
    match (pipeOf c.v l).or (pipeOf c.act l) with
    | some p => some (p, c.v.g (lf F.VL_FLIP_CTRL_GROUP F.GL_FLIP_CTRL_GROUP l))
    | none => none
  else none

/-- FENCE_EN of a layer. -/
def fenceEn (v : View) (l : Nat) : Bool := v.on (lf F.VL_FLIP_CTRL_FENCE_EN F.GL_FLIP_CTRL_FENCE_EN l)

/-- R93: a layer that may be held at a swap: its waiting values have a fence, or a layer of its flip group has. -/
def Cfg.mayHold (c : Cfg) (l : Nat) : Bool :=
  (snapOf (.layer l) c.waiting).isSome
    && (fenceEn c.v l
      || ((c.group l).isSome && allLayers.any (fun k =>
            (snapOf (.layer k) c.waiting).isSome && fenceEn c.v k && c.group k == c.group l)))

/-- R273, R274: bytes per output line of a layer whose clipped destination is not empty. -/
def Dev.lineCost (d : Dev) (v : View) (l : Nat) : Nat :=
  let f := (d.surfAt (lySid v l)).fmt
  let r := fmtRect f (srcRect v l)
  let fp := 64 * ceilDiv (lineBytes f r.w) 64 + 64
  let n := if 64 ≤ l ∨ r.h ≤ (dstRect v l).h then 1 else ceilDiv r.h (dstRect v l).h
  if fmt420 f then (n + ceilDiv n 2) * fp else fmtPlanes f * n * fp

/-- R275: bytes on each of the four start-up lines. -/
def Dev.startCost (d : Dev) (v : View) (l : Nat) (e : Nat × Nat) : Nat :=
  if 64 ≤ l then 0
  else
    let f := (d.surfAt (lySid v l)).fmt
    let s := d.sizes v l
    let fp := 64 * ceilDiv (lineBytes f s.w) 64 + 64
    let n := if s.h ≤ s.dh then 1 else ceilDiv s.h s.dh
    let t0 := if s.bypassV e.2 then 2 ^ e.2 else 4 * 2 ^ e.2
    ceilDiv (t0 - n) 4 * (fmtPlanes f * fp)

/-- R161, R162: a layer produces no pixel: a side of its source rectangle, as its format uses it, or of its destination
    is 0, or its destination lies outside the active area. -/
def Dev.layerEmpty (d : Dev) (v : View) (p l : Nat) : Bool :=
  (fmtRect (d.surfAt (lySid v l)).fmt (srcRect v l)).isEmpty || (dstRect v l).isEmpty || (clipDst v p l).isEmpty

/-- R273, R275: the charge of layer `l` on line `y` of pipe `p` under view `v`; `vt` lines a frame. -/
def Dev.layerCharge (d : Dev) (v : View) (e : Nat × Nat) (vt p l y : Nat) : Nat :=
  if !assigned v p l || d.layerEmpty v p l then 0
  else
    let c := clipDst v p l
    let y0 := c.y.toNat
    (if y0 ≤ y ∧ y < y0 + c.h then d.lineCost v l else 0)
      + (if within 1 4 ((y0 + vt - y) % vt) then d.startCost v l e else 0)

/-- R238: a graphic layer is charged as a crust member, nothing; not so when its plane is crust-affected or under crust
    hold, or the change is class B. -/
def Dev.freeMember (d : Dev) (liveAll : Bool) (affected : List Nat) (p l : Nat) : Bool :=
  d.member l != 0 && !liveAll && !affected.contains (2 * p + (d.member l - 1))

/-- R276: bytes per active line of a writeback tap. -/
def wbCost (v : View) (p : Nat) : Nat :=
  if within 1 2 (v.g (F.PIPE_WB_CTRL_MODE.i p)) then
    let f := v.g (F.PIPE_WB_CTRL_FORMAT.i p)
    let w := v.g (F.PIPE_HTIMING_A_HACTIVE.i p)
    let one := fun w => fmtPlanes f * (64 * ceilDiv (lineBytes f w) 64)
    let fh := 2 ^ max 1 (v.g (F.PIPE_WB_CTRL_PROXY_H.i p))
    let fv := 2 ^ max 1 (v.g (F.PIPE_WB_CTRL_PROXY_V.i p))
    one w + (if v.on (F.PIPE_WB_CTRL_PROXY_EN.i p) then ceilDiv (one (ceilDiv w fh)) fv else 0)
  else 0

/-- R276, R313: bytes of one line of a replay region. -/
def replayLine (v : View) (p : Nat) : Nat :=
  let w := v.g (F.PIPE_HTIMING_A_HACTIVE.i p)
  64 * ceilDiv (if v.g (F.PIPE_OUT_CTRL_BPC.i p) = 3 then 8 * w else 4 * w) 64

/-- R311: the port of pipe `p` is one on which Rest-VRR is entered. -/
def vrrPort (v : View) (p : Nat) : Bool :=
  let s := portSel v p
  if s < 4 then
    v.on (F.PIPE_VRR_EN.i p) || (v.on (F.DP_CTRL_MODE.i s) && v.on (F.DP_CTRL_PSR_EN.i s))
  else if s < 6 then v.on (F.DSI_CTRL_MODE.i (s - 4))
  else false

/-- R276, R311: pipe `p` can enter Rest-replay under a view. -/
def canReplay (v : View) (p : Nat) : Bool :=
  v.on (F.PIPE_REST_CTRL_EN.i p) && v.g (F.PIPE_REST_CTRL_ENTRY.i p) != 0 && v.on (F.PIPE_REST_CTRL_REPLAY_EN.i p)
    && v.g (F.PIPE_WB_CTRL_MODE.i p) != 1 && v.g (F.PIPE_OUT_CTRL_DITHER.i p) != 2
    && !(genGroup v p == 0 && vrrPort v p)

/-- R277: the charge of pipe `p` on line `y`. -/
def Dev.lineCharge (d : Dev) (c : Cfg) (liveAll : Bool) (affected : List Nat) (p y : Nat) : Nat :=
  let r := rasterOf c.v p
  let layers := sumOf (fun l =>
    if d.freeMember liveAll affected p l then 0
    else
      let a := d.layerCharge c.v (d.cfgDecim c l) r.vtot p l y
      if c.mayHold l then max a (d.layerCharge c.act (d.usedDecim l) (rasterOf c.act p).vtot p l y) else a) allLayers
  if y < r.vact then
    let crust := sumOf (fun q => if planeCharged c.v q then planeAlloc c.v q else 0) [2 * p, 2 * p + 1]
    let need := layers + crust + wbCost c.v p
    if canReplay c.v p then max (need + replayLine c.v p) (replayLine c.v p) else need
  else layers

/-- The lines at which the charge of a pipe can rise: line 0 and each layer's start, first start-up line and end.
    Log 42 (DESIGN CHOICE, unsafe). -/
def Dev.riseLines (c : Cfg) (p : Nat) : List Nat :=
  let r := rasterOf c.v p
  let of := fun (v : View) (l : Nat) =>
    if assigned v p l then
      let b := clipDst v p l
      [b.y.toNat, b.y.toNat + b.h, (b.y.toNat + r.vtot - 4) % r.vtot]
    else []
  (0 :: r.vact :: allLayers.flatMap (fun l => of c.v l ++ (if c.mayHold l then of c.act l else []))).filter
    (fun y => decide (y < r.vtot))

/-- R277: the need of pipe `p` in bytes per line-time and the first line at which it occurs.
    Log 42 (DESIGN CHOICE, unsafe). -/
def Dev.need (d : Dev) (c : Cfg) (liveAll : Bool) (p : Nat) : Nat × Nat :=
  let affected := [2 * p, 2 * p + 1].filter (fun q => c.held.contains q || d.crustAffecting c.v q)
  (Dev.riseLines c p).foldl (fun b y =>
      let n := d.lineCharge c liveAll affected p y
      if b.1 < n ∨ (b.1 = n ∧ y < b.2) then (n, y) else b)
    (d.lineCharge c liveAll affected p 0, 0)

/-- R278: MB/s as bytes per line-time. -/
def Raster.perLine (r : Raster) (mbps : Nat) : Nat := mbps * r.htot * r.fDen / r.khz

/-- R277: bytes per line-time as MB/s. -/
def Raster.needMbps (r : Raster) (need : Nat) : Nat := ceilDiv (need * r.khz) (r.fDen * r.htot)

/-- R278: a pipe runs in the active bank or in the configuration. -/
def Cfg.runs (c : Cfg) (p : Nat) : Bool := c.v.on (F.PIPE_TG_CTRL_EN.i p) || c.act.on (F.PIPE_TG_CTRL_EN.i p)

/-- The raster admission uses: the configuration's where it runs there, else the active one. -/
def Cfg.raster (c : Cfg) (p : Nat) : Raster :=
  if c.v.on (F.PIPE_TG_CTRL_EN.i p) then rasterOf c.v p else rasterOf c.act p

/-- R278: the explicit allocation of a pipe, 0 when it is shared in both banks.
    Log 42 (DESIGN CHOICE, unsafe). -/
def Cfg.explicit (c : Cfg) (p : Nat) : Nat :=
  max (c.v.g (F.PIPE_FETCH_ALLOC_MBPS.i p)) (c.act.g (F.PIPE_FETCH_ALLOC_MBPS.i p))

/-- R278: the sum of the enabled declarations. -/
def Dev.declared (d : Dev) : Nat :=
  sumOf (fun k => if d.fl (F.FETCH_DECL_CTRL_EN.i k) then d.rg (F.FETCH_DECL_CTRL_MBPS.i k) else 0) (List.range 8)

/-- R278: the share of a pipe with MBPS = 0. -/
def Dev.share (d : Dev) (c : Cfg) (decl : Nat) : Nat :=
  let run := pipes.filter c.runs
  let auto := countP (fun p => c.explicit p == 0) run
  if auto = 0 then 0 else (d.rg F.FETCH_BUDGET_MBPS - decl - sumOf c.explicit run) / auto

/-- R278: the effective allocation of a running pipe. -/
def Dev.allocEff (d : Dev) (c : Cfg) (decl p : Nat) : Nat :=
  min ((c.raster p).perLine (if c.explicit p = 0 then d.share c decl else c.explicit p)) 524288

/-- R279: the sum test: the lowest-numbered explicit pipe whose running sum exceeds what the declarations leave; where
    the declarations alone exceed B and no pipe is explicit, the spec states no pipe and no figures. -/
def Dev.sumTest (d : Dev) (c : Cfg) (decl : Nat) : Option (Nat × Nat × Nat) :=
  let b := d.rg F.FETCH_BUDGET_MBPS
  let ex := (pipes.filter c.runs).filter (fun p => c.explicit p != 0)
  if sumOf c.explicit ex + decl ≤ b then none
  else go (b - decl) 0 ex
where
  /-- Walk the explicit pipes. -/
  go (room acc : Nat) : List Nat → Option (Nat × Nat × Nat)
    | [] => some (Config.unstated 4 % 128, Config.unstated 5 % 2 ^ 32, Config.unstated 6 % 2 ^ 32)
    | p :: t =>
      if room < acc + c.explicit p then
        some (p, (c.raster p).perLine (c.explicit p), (c.raster p).perLine (room - acc))
      else go room (acc + c.explicit p) t

/-- R279: both tests: the failing pipe, COMMIT_NEEDED and COMMIT_AVAILABLE. -/
def Dev.admits (d : Dev) (c : Cfg) (classB : List Nat) (decl : Nat) : Option (Nat × Nat × Nat) :=
  match d.sumTest c decl with
  | some r => some r
  | none =>
    match firstWith (fun p => decide (d.allocEff c decl p < (d.need c (classB.contains p) p).1)) (pipes.filter c.runs) with
    | some p => some (p, (d.need c (classB.contains p) p).1, d.allocEff c decl p)
    | none => none

/-- R270, R271: the budget B in MB/s: exact integer arithmetic over P in MB/s and parts of 10,000. -/
def Dev.budget (d : Dev) : Nat :=
  let np := countP (fun k => bit (d.rg F.FETCH_DRAM_PAIRS_OK) k) (List.range 8)
  let p := match d.rg F.FETCH_DRAM_RATE with
    | 0 => 102400 | 1 => 119456 | _ => 136512
  let ecc := if d.fl F.FETCH_DRAM_ECC_EN then 875 else 1000
  let dref := if d.rg F.FETCH_DERATE_REF_PLAN = 2 then 940 else 1000
  let ms := d.rg F.FETCH_DERATE_TRAIN_MS
  let dtr := if 1000 ≤ ms then 1000 else if 100 ≤ ms then 995 else 970
  p * np * d.rg F.FETCH_EFF_EFF * ecc * dref * dtr / (8 * 10000 * 1000000000)

/-- R239, R279: the NEED_MBPS of a running pipe in a configuration; `liveAll` when its timing change is class B. -/
def Dev.needMbps (d : Dev) (c : Cfg) (liveAll : Bool) (p : Nat) : Nat :=
  if c.v.on (F.PIPE_TG_CTRL_EN.i p) then (rasterOf c.v p).needMbps (d.need c liveAll p).1 else 0

/-- R277, R291: the per-pipe registers of the active configuration. -/
def Dev.needShowPipe (d : Dev) (p : Nat) : Dev :=
  let c := d.cfgAct
  let run := c.act.on (F.PIPE_TG_CTRL_EN.i p)
  let n := if run then d.need c false p else (0, 0)
  (((d.sg (F.FETCH_PIPE_NEED_BYTES.i p) n.1).sg (F.FETCH_PIPE_PEAK_LINE.i p) n.2).sg
    (F.FETCH_PIPE_ALLOC_EFF_BYTES.i p) (if run then d.allocEff c d.declared p else 0)).sg
    (F.FETCH_PIPE_NEED_MBPS_MBPS.i p) (d.needMbps c false p)

/-- R456, R460: OVER_CAP: the pipes that run above the cap. -/
def Dev.overShow (d : Dev) : Dev :=
  let above := fun p => d.acOn (F.PIPE_TG_CTRL_EN.i p) && (let r := rasterOf d.acV p
    decide (d.rg (F.PIPE_TG_STATUS_CAP_MPIX.i p) * r.fDen * r.htot * r.vtot < r.khz * r.hact * r.vact))
  d.sg F.HEARTH_STATE_OVER_CAP (sumOf (fun p => if above p then 2 ^ p else 0) pipes)

/-- R280: OVER_BUDGET clears when every running pipe is within R279. -/
def Dev.overClear (d : Dev) : Dev :=
  if d.fl F.FETCH_STATUS_OVER_BUDGET && (d.admits d.cfgAct [] d.declared).isNone then d.dn F.FETCH_STATUS_OVER_BUDGET
  else d

end Sys2Proof.Machine
end

