-- ==== Sys2Proof/Machine/Timing.lean ====
section
/-! DEFINITION.  Rasters, ports and timing changes as the commit checker tests them (R284, R294 to R299, R304, R308,
    R313, R316, R319), and the writeback test (R217). -/

namespace Sys2Proof.Machine

/-- EN of a pipe's timing generator in a view. -/
def tgEn (v : View) (p : Nat) : Bool := v.on (F.PIPE_TG_CTRL_EN.i p)

/-- R294: the rules of the raster table but the cap. -/
def rasterOk (v : View) (p : Nat) : Bool :=
  let r := rasterOf v p
  let g := fun (f : Fld) => v.g (f.i p)
  let even := fun n => n % 2 == 0
  let hfp := g F.PIPE_HTIMING_A_HFP
  let hs := g F.PIPE_HTIMING_B_HSYNC
  let hbp := g F.PIPE_HTIMING_B_HBP
  let vmax := g F.PIPE_VRR_VTOTAL_MAX
  within 320 8192 r.hact && even r.hact && within 2 8190 hfp && even hfp && within 2 8190 hbp && even hbp
    && within 2 1022 hs && even hs && decide (r.htot ≤ 16384)
    && within 200 8187 r.vact && within 1 4095 (g F.PIPE_VTIMING_A_VFP) && within 1 4095 (g F.PIPE_VTIMING_B_VBP)
    && within 1 255 (g F.PIPE_VTIMING_B_VSYNC) && decide (r.vtot ≤ 8192) && decide (r.vact + 5 ≤ r.vtot)
    && decide (25000 * r.fDen ≤ r.khz * 1000) && decide (r.khz * 1000 ≤ 2400000 * r.fDen)
    && decide (r.khz ≤ r.htot * r.fDen) && (vmax == 0 || decide (r.vtot ≤ vmax))

/-- R294: the active pixel rate is at most `cap` Mpixel/s. -/
def rateWithin (v : View) (p cap : Nat) : Bool :=
  let r := rasterOf v p
  decide (r.khz * r.hact * r.vact ≤ cap * r.fDen * r.htot * r.vtot)

/-- R110, R304: how a commit changes a pipe's timing. -/
inductive TChange where
  | none | classA | classB
  deriving DecidableEq, Repr

/-- R304: the class B fields of a pipe. -/
def timingB : List Fld :=
  [F.PIPE_TG_CTRL_EN, F.PIPE_TG_CTRL_HSYNC_POL, F.PIPE_TG_CTRL_VSYNC_POL, F.PIPE_TG_CTRL_PORT_SEL,
   F.PIPE_HTIMING_A_HACTIVE, F.PIPE_HTIMING_B_HSYNC, F.PIPE_HTIMING_B_HBP, F.PIPE_VTIMING_A_VACTIVE,
   F.PIPE_VTIMING_B_VSYNC, F.PIPE_VTIMING_B_VBP, F.PIPE_PCLK_KHZ, F.PIPE_PCLK_M1001, F.PIPE_VRR_EN, F.PIPE_TE_EN,
   F.PIPE_TE_EDGE, F.PIPE_DSC_EN, F.PIPE_DSC_SLICES, F.PIPE_DSC_BPP_X16, F.PIPE_DSC_SLICE_H_SLICE_H,
   F.PIPE_OUT_CTRL_BPC, F.PIPE_OUT_CTRL_ENCODE]

/-- R304: the class A fields of a pipe. -/
def timingA : List Fld :=
  [F.PIPE_HTIMING_A_HFP, F.PIPE_VTIMING_A_VFP, F.PIPE_VRR_VTOTAL_MAX, F.PIPE_TE_DELAY, F.PIPE_TE_TIMEOUT]

/-- R304: the class B fields of a port. -/
def portTiming (s : Nat) : List Fld :=
  if s < 4 then [F.DP_CTRL_MODE.i s, F.DP_CTRL_LANES.i s, F.DP_CTRL_RATE.i s]
  else if s < 6 then
    [F.DSI_CTRL_MODE.i (s - 4), F.DSI_CTRL_SYNC.i (s - 4), F.DSI_CTRL_LANES.i (s - 4),
     F.DSI_CTRL_RATE_MBPS.i (s - 4)]
  else []

/-- R304: the timing change of pipe `p` from one view to another by the fields that differ; a pipe that is stopped in both
    has none. -/
def tChange (old new : View) (p : Nat) : TChange :=
  if !tgEn old p && !tgEn new p then .none
  else if timingB.any (fun f => old.g (f.i p) != new.g (f.i p))
      || (portTiming (portSel new p)).any (fun f => old.g f != new.g f) then .classB
  else if timingA.any (fun f => old.g (f.i p) != new.g (f.i p)) then .classA
  else .none

/-- R279, R291: HEADROOM after an acceptance, a swap point or a plan. -/
def Dev.headroom (d : Dev) : Dev :=
  let c := d.cfg91 []
  let one := fun p =>
    let a := d.needMbps d.cfgAct false p
    if d.fl (F.PIPE_COMMIT_STATUS_ARMED.i p) then max a (d.needMbps c (tChange c.act c.v p == .classB) p) else a
  d.sg F.FETCH_HEADROOM_MBPS (d.rg F.FETCH_BUDGET_MBPS - d.declared - sumOf one pipes)

/-- R288: until the first acceptance of a start, HEADROOM follows the declarations. -/
def Dev.declShow (d : Dev) : Dev := if d.accepted then d else d.headroom

/-- R280: a plan of the budget: B, the shares and allocations, HEADROOM and OVER_BUDGET. -/
def Dev.planBudget (d : Dev) : Dev :=
  let d1 := d.sg F.FETCH_BUDGET_MBPS d.budget
  let d2 := (Dev.each (fun p d => d.needShowPipe p) pipes { d1 with replan := false }).headroom
  if (d2.admits d2.cfgAct [] d2.declared).isSome then
    if d2.fl F.FETCH_STATUS_OVER_BUDGET then d2
    else ((d2.up F.FETCH_STATUS_OVER_BUDGET).attn .margin).logOpen
  else d2.dn F.FETCH_STATUS_OVER_BUDGET

/-- R316: the link rate of a RATE code in units of 10 Mbit/s, 0 for a code that names none. -/
def linkRate (code : Nat) : Nat :=
  match code with
  | 0 => 162 | 1 => 270 | 2 => 540 | 3 => 810 | 4 => 1000 | 5 => 1350 | 8 => 216 | 9 => 243 | 10 => 324 | 11 => 432
  | _ => 0

/-- R316: the RATE code is within the sink's capability and of the port's mode. -/
def Dev.rateOk (d : Dev) (v : View) (s : Nat) : Bool :=
  let c := v.g (F.DP_CTRL_RATE.i s)
  let edp := v.on (F.DP_CTRL_MODE.i s)
  if 8 ≤ c then edp && c ≤ 11 && bit (d.rg (F.DP_SINK_B_EDP_RATES.i s)) (c - 8)
  else decide (c ≤ (if edp then 3 else 5)) && decide (linkRate c ≤ linkRate (d.rg (F.DP_SINK_A_MAX_RATE.i s)))

/-- R316: a DisplayPort port's settings are within the capabilities of its sink. -/
def Dev.sinkOk (d : Dev) (v : View) (s : Nat) : Bool :=
  let n := v.g (F.DP_CTRL_LANES.i s)
  let has := fun (f g : Fld) => !v.on (f.i s) || d.fl (g.i s)
  (n == 1 || n == 2 || n == 4) && decide (n ≤ d.rg (F.DP_SINK_A_MAX_LANES.i s)) && d.rateOk v s
    && has F.DP_CTRL_PSR_EN F.DP_SINK_A_PSR && has F.DP_CTRL_SU_EN F.DP_SINK_A_SU
    && has F.DP_CTRL_HDCP_EN F.DP_SINK_A_HDCP23

/-- R214: ENCODE, where 3 acts as 0. -/
def encodeOf (v : View) (p : Nat) : Nat :=
  let e := v.g (F.PIPE_OUT_CTRL_ENCODE.i p)
  if e = 3 then 0 else e

/-- R297: the output format of pipe `p` is one of its port's. -/
def portFormatOk (v : View) (p : Nat) : Bool :=
  let s := portSel v p
  let b := 6 + 2 * v.g (F.PIPE_OUT_CTRL_BPC.i p)
  let e := encodeOf v p
  if 6 ≤ s then true
  else if v.on (F.PIPE_DSC_EN.i p) then (b == 8 || b == 10) && (decide (s < 4) || e != 2)
  else if s < 4 && !v.on (F.DP_CTRL_MODE.i s) then b != 6 || e == 0
  else b != 12 && e == 0

/-- R319: the DSC settings of pipe `p`. -/
def Dev.dscOk (d : Dev) (v : View) (p : Nat) : Bool :=
  let s := portSel v p
  let n := v.g (F.PIPE_DSC_SLICES.i p)
  let h := v.g (F.PIPE_DSC_SLICE_H_SLICE_H.i p)
  let bpp := v.g (F.PIPE_DSC_BPP_X16.i p)
  let r := rasterOf v p
  if !v.on (F.PIPE_DSC_EN.i p) then true
  else [2, 4, 6, 8, 10, 12, 16].contains n && r.hact % (2 * n) == 0 && h != 0 && r.vact % h == 0
    && within 128 256 bpp
    && (decide (4 ≤ s) || (d.fl (F.DP_SINK_A_DSC.i s) && (encodeOf v p != 2 || d.fl (F.DP_SINK_A_DSC_422.i s))
      && decide (n ≤ d.rg (F.DP_SINK_B_DSC_MAX_SLICES.i s))
      && decide (bpp ≤ 16 * d.rg (F.DP_SINK_B_DSC_MAX_BPP.i s))))

/-- R297: the stream need of pipe `p` in Mbit/s.
    Log 32 (DESIGN CHOICE, unsafe). -/
def streamNeed (v : View) (p : Nat) : Nat :=
  let r := rasterOf v p
  let b := 6 + 2 * v.g (F.PIPE_OUT_CTRL_BPC.i p)
  let x16 := if v.on (F.PIPE_DSC_EN.i p) then v.g (F.PIPE_DSC_BPP_X16.i p)
    else (if encodeOf v p = 2 then 2 else 3) * b * 16
  ceilDiv (r.khz * x16) (r.fDen * 16)

/-- R297: the capacity of a port in Mbit/s.
    Log 32 (DESIGN CHOICE, unsafe). -/
def linkCapacity (v : View) (s : Nat) : Nat :=
  if s < 4 then
    let c := v.g (F.DP_CTRL_RATE.i s)
    let raw := v.g (F.DP_CTRL_LANES.i s) * linkRate c * 10
    if c = 4 ∨ c = 5 then raw * 128 * 97 / 13200 else raw * 792 / 1000
  else v.g (F.DSI_CTRL_LANES.i (s - 4)) * v.g (F.DSI_CTRL_RATE_MBPS.i (s - 4)) * 9 / 10

/-- R284: RESTART_NOW is permitted on the port of pipe `p`. -/
def Dev.restartOk (d : Dev) (v : View) (p : Nat) : Bool :=
  let s := portSel v p
  if s < 4 then v.on (F.PIPE_VRR_EN.i p) && d.fl (F.DP_SINK_A_ASYNC.i s)
  else decide (s < 6) && v.on (F.DSI_CTRL_MODE.i (s - 4))

/-- R284: RESTART_NOW is selected. -/
def restartNow (v : View) (p : Nat) : Bool := v.on (F.PIPE_UNDERRUN_MODE_MODE.i p)

/-- R308: TE pacing needs a DSI port in command mode. -/
def teOk (v : View) (p : Nat) : Bool :=
  !v.on (F.PIPE_TE_EN.i p) || (within 4 5 (portSel v p) && v.on (F.DSI_CTRL_MODE.i (portSel v p - 4)))

/-- R298: the members of a genlock group with EN = 1. -/
def genMembers (v : View) (g : Nat) : List Nat := pipes.filter (fun p => tgEn v p && genGroup v p == g)

/-- R299: two members' frame periods are exactly equal. -/
def samePeriod (a b : Raster) : Bool := a.htot * a.vtot * a.fDen * b.khz == b.htot * b.vtot * b.fDen * a.khz

/-- R299, R284: the genlock rules for pipe `p`. -/
def genlockOk (v : View) (p : Nat) : Bool :=
  genGroup v p == 0
    || ((genMembers v (genGroup v p)).all (fun q => samePeriod (rasterOf v p) (rasterOf v q))
      && !v.on (F.PIPE_TE_EN.i p) && !restartNow v p)

/-- R322, R328: a DSI port's settings. -/
def dsiOk (v : View) (s : Nat) : Bool :=
  within 1 4 (v.g (F.DSI_CTRL_LANES.i (s - 4))) && within 80 4500 (v.g (F.DSI_CTRL_RATE_MBPS.i (s - 4)))

/-- R297, R316: the port setting has a link capacity: a RATE code that stands for no rate gives none, and only the
    port's own test refuses it (log 32). -/
def hasCapacity (v : View) (s : Nat) : Bool := decide (4 ≤ s) || linkRate (v.g (F.DP_CTRL_RATE.i s)) != 0

/-- The timing test of a pipe on the pipe's own account; `cap` when the cap test is made (R456). -/
def Dev.pipeTimingOk (d : Dev) (v : View) (cap : Option Nat) (p : Nat) : Bool :=
  let s := portSel v p
  rasterOk v p && (match cap with
    | some c => rateWithin v p c
    | none => true)
    && (decide (6 ≤ s) || !hasCapacity v s || decide (streamNeed v p ≤ linkCapacity v s))
    && (!restartNow v p || d.restartOk v p)
    && teOk v p && genlockOk v p

/-- R294, R297, R304: a change of class A fields alone is class B when the new raster breaks R294 or R297; no such change
    is accepted, so at a swap point the fields alone decide. -/
def Dev.tClass (d : Dev) (old new : View) (p : Nat) : TChange :=
  match tChange old new p with
  | .classA =>
    if rasterOk new p && rateWithin new p (d.rg (F.PIPE_TG_STATUS_CAP_MPIX.i p)) && portFormatOk new p
        && (decide (6 ≤ portSel new p) || decide (streamNeed new p ≤ linkCapacity new (portSel new p))) then .classA
    else .classB
  | c => c

/-- The timing test of a port's settings. -/
def Dev.portTimingOk (d : Dev) (v : View) (s : Nat) : Bool :=
  if s < 4 then d.sinkOk v s else if s < 6 then dsiOk v s else true

/-- R313: the replay region of pipe `p`: base and length. -/
def replayRegion (v : View) (p : Nat) : Nat × Nat :=
  (v.g (F.PIPE_REPLAY_BASE_BASE.i p) * 4096, v.g (F.PIPE_VTIMING_A_VACTIVE.i p) * replayLine v p)

/-- REPLAY_EN of a pipe. -/
def replayEn (v : View) (p : Nat) : Bool := v.on (F.PIPE_REST_CTRL_REPLAY_EN.i p)

/-- R313: the replay region lies below the usable size and apart from the store and the other regions. -/
def Dev.replayOk (d : Dev) (v : View) (p : Nat) : Bool :=
  let r := replayRegion v p
  !replayEn v p
    || (decide (r.1 + r.2 ≤ d.usableBytes) && !d.inStore r.1 r.2
      && pipes.all (fun q => q == p || !replayEn v q
        || !overlaps r.1 r.2 (replayRegion v q).1 (replayRegion v q).2))

/-- R314: does `[a, a+n)` touch the replay region of pipe `p`?
    Log 42 (DESIGN CHOICE, unsafe). -/
def Dev.inReplay (d : Dev) (p a n : Nat) : Bool :=
  replayEn d.acV p && overlaps a n (replayRegion d.acV p).1 (replayRegion d.acV p).2

/-- R217: a writeback tap is enabled. -/
def wbEnabled (v : View) (p : Nat) : Bool := within 1 2 (v.g (F.PIPE_WB_CTRL_MODE.i p))

/-- R216: TAP and FORMAT are a permitted pair. -/
def wbPairOk (v : View) (p : Nat) : Bool :=
  let f := v.g (F.PIPE_WB_CTRL_FORMAT.i p)
  f == 0x14 || (v.on (F.PIPE_WB_CTRL_TAP.i p) && (f == 0x13 || f == 0x04))

/-- R217, R219: the SID of ring slot `k`. -/
def wbSlot (v : View) (p k : Nat) : Nat :=
  match k with
  | 0 => v.g (F.PIPE_WB_SID_01_SID0.i p)
  | 1 => v.g (F.PIPE_WB_SID_01_SID1.i p)
  | 2 => v.g (F.PIPE_WB_SID_23_SID2.i p)
  | _ => v.g (F.PIPE_WB_SID_23_SID3.i p)

/-- R217: a surface a tap can write at a size.
    Log 40 (DESIGN CHOICE, unsafe). -/
def Dev.wbDest (d : Dev) (f w h sid : Nat) : Bool :=
  let s := d.surfAt sid
  s.st != .free && s.fmt == f && decide (w ≤ s.w) && decide (h ≤ s.h)

/-- R220: the proxy factors. -/
def proxyF (v : View) (p : Nat) : Nat × Nat :=
  (2 ^ max 1 (v.g (F.PIPE_WB_CTRL_PROXY_H.i p)), 2 ^ max 1 (v.g (F.PIPE_WB_CTRL_PROXY_V.i p)))

/-- PROXY_EN of an enabled tap. -/
def proxyEn (v : View) (p : Nat) : Bool := wbEnabled v p && v.on (F.PIPE_WB_CTRL_PROXY_EN.i p)

/-- R217: the writeback test of pipe `p`. -/
def Dev.wbOk (d : Dev) (v : View) (p : Nat) : Bool :=
  let r := rasterOf v p
  let f := v.g (F.PIPE_WB_CTRL_FORMAT.i p)
  let x := proxyF v p
  !wbEnabled v p
    || (wbPairOk v p
      && (List.range (v.g (F.PIPE_WB_CTRL_RING_LEN.i p) + 1)).all (fun k => d.wbDest f r.hact r.vact (wbSlot v p k))
      && (!proxyEn v p
        || (d.wbDest f (ceilDiv r.hact x.1) (ceilDiv r.vact x.2) (v.g (F.PIPE_WB_PROXY_SID_SID.i p))
          && pipes.all (fun q => q == p || !proxyEn v q))))

/-- R129: a format is permitted for a layer's kind in the current service state. -/
def Dev.formatOk (d : Dev) (l f : Nat) : Bool :=
  if d.rg F.HEARTH_STATE_STATE = 1 then (if l < 64 then decide (f ≤ 7) else fmtPacked f)
  else within 0x10 0x12 f

/-- R498: the ID of PCIE_PHY. -/
def pcieSlice : Nat := 8

/-- R498, R500: the budget field of a slice's group. -/
def budgetFld (s : Nat) : Fld :=
  if s ≤ 5 then F.SECURE_ST_BUDGET_SERIAL else if s = pcieSlice then F.SECURE_ST_BUDGET_PCIE
  else if s < 0x20 then F.SECURE_ST_BUDGET_DDR else if s < 0x30 then F.SECURE_ST_BUDGET_PLL
  else if s = 0x30 then F.SECURE_ST_BUDGET_THERMAL else if s = 0x31 then F.SECURE_ST_BUDGET_SUPPLY
  else F.SECURE_ST_BUDGET_AGEING

/-- R500: the budget of a slice in µs. -/
def Dev.budgetUs (d : Dev) (s : Nat) : Nat := (d.rg (budgetFld s) + 1) * 1000

/-- R500, R506: the budget left to the running slice, in µs. -/
def Dev.sliceLeft (d : Dev) : Nat :=
  d.budgetUs (d.rg F.SECURE_ST_STATUS_SLICE) - (d.now - d.test.began) / 1000

/-- R498, R506: a self-test slice runs on demand. -/
def Dev.onDemand (d : Dev) (slice : Nat) : Bool :=
  d.fl F.SECURE_ST_STATUS_RUNNING && d.fl F.SECURE_ST_STATUS_ON_DEMAND && d.rg F.SECURE_ST_STATUS_SLICE == slice

/-- R296, R506, R509: a port no commit may select: fenced off, or under test. -/
def Dev.portBarred (d : Dev) (s : Nat) : Bool :=
  if s < 4 then bit (d.rg F.SECURE_FENCED_DP) s || d.onDemand s
  else if s < 6 then bit (d.rg F.SECURE_FENCED_DSI) (s - 4) || d.onDemand s
  else false

/-- R506, R509: a pipe no commit may run: fenced off, or, for a start, with its pixel PLL under test. -/
def Dev.pipeBarred (d : Dev) (act : View) (p : Nat) : Bool :=
  bit (d.rg F.SECURE_FENCED_PIPES) p || (!tgEn act p && d.onDemand (0x24 + p))

end Sys2Proof.Machine
end

