-- ==== Sys2Proof/Machine/Banks.lean ====
section
/-! DEFINITION.  The banks: which pipe a block belongs to (R35, R88), the pipes' own state, ownership violations (R36,
    R38), the armed bank's indicators (R121), and a block's values becoming active (R82). -/

namespace Sys2Proof.Machine

/-- A pipe after reset. -/
def dfltPipe : Nat → PipeSt := fun _ => {}

/-- What pipe `p` holds beside its registers. -/
def Dev.pst (d : Dev) (p : Nat) : PipeSt := Tab.get dfltPipe d.pipeSt p

/-- Replace it. -/
def Dev.putPst (d : Dev) (p : Nat) (x : PipeSt) : Dev := { d with pipeSt := Tab.put dfltPipe d.pipeSt p x }

/-- R296: the pipe that selects port `s` in a view: the enabled one, or the lowest-numbered stopped one.
    Log 18 (DESIGN CHOICE, unsafe). -/
def portPipe (v : View) (s : Nat) : Option Nat :=
  (firstWith (fun p => tgEn v p && portSel v p == s) pipes).or (firstWith (fun p => portSel v p == s) pipes)

/-- R88: the pipe a block belongs to by a view.
    Log 18 (DESIGN CHOICE, unsafe). -/
def blkPipe (v : View) : BlkId → Option Nat
  | .pipe n => some n
  | .wb n => some n
  | .crust q => some (planePipe q)
  | .port s => portPipe v s
  | .layer l => pipeOf v l

/-- A pipe as a list. -/
def asList : Option Nat → List Nat
  | some p => [p]
  | none => []

/-- The pipe a block's waiting values would give it: its snapshot, with ports read from the configuration. -/
def Dev.snapPipe (d : Dev) (s : Snap) : Option Nat :=
  match s.id with
  | .port k => portPipe (overV (s :: d.armed) d.acV) k
  | b => blkPipe s.view b

/-- R35: the pipes whose active or armed banks hold a block.
    Log 18 (DESIGN CHOICE, unsafe). -/
def Dev.ownerPipes (d : Dev) (b : BlkId) : List Nat :=
  asList (blkPipe d.acV b) ++ (match snapOf b d.armed with
    | some s => asList (d.snapPipe s)
    | none => asList (blkPipe d.arV b))

/-- R35: a layer whose active and armed banks assign it to pipes of different planes. -/
def Dev.mixed (d : Dev) (b : BlkId) : Bool :=
  let o := d.ownerPipes b
  o.any d.svcOwned && o.any (fun p => !d.svcOwned p)

/-- R36, R38: a discarded host write is counted on a pipe.
    Log 18 (DESIGN CHOICE, unsafe). -/
def Dev.ownViolation (d : Dev) (p : Nat) : Dev :=
  (d.up (F.PIPE_OWNER_OWNERSHIP_VIOLATION.i p)).incSat (F.PIPE_OWNER_VIOLATION_COUNT.i p)

/-- R112, R484: the pipe has no swap point: its raster is stopped, no sequence is under way and no exit from HOLD will
    start it. -/
def Dev.stopped (d : Dev) (p : Nat) : Bool :=
  !d.running p && !d.fl (F.PIPE_COMMIT_STATUS_CLASS_B.i p) && !(d.pst p).held

/-- The pipes a waiting snapshot's block has to do with: its own, for a layer or port the one it leaves, and the one it
    belonged to by the armed values it replaced (R88). -/
def Dev.snapPipes (d : Dev) (s : Snap) : List Nat :=
  (asList (d.snapPipe s) ++ asList (blkPipe d.acV s.id) ++ s.via).eraseDups

/-- R88: the pipes a block belongs to in its snapshot, its armed bank or its active bank; a port belongs to the pipe that
    selects it, by waiting values in the late store too. -/
def Dev.reachPipes (d : Dev) (s : Snap) : List Nat :=
  (d.snapPipes s ++ asList (blkPipe d.arV s.id)
    ++ (match snapOf s.id d.armed with
      | some x => asList (d.snapPipe x) ++ x.via
      | none => [])
    ++ (match s.id with
      | .port k => asList (portPipe (overV (s :: (d.late ++ d.armed)) d.acV) k)
      | _ => [])).eraseDups

/-- R88, R90: the pipe at whose swap point an armed snapshot is taken next: a layer first leaves the running pipe it is
    active on; one that belongs to a pipe only by the armed values it replaced is taken there. -/
def Dev.swapsAt (d : Dev) (s : Snap) (p : Nat) : Bool :=
  let here := d.snapPipe s == some p || ((d.snapPipe s).isNone && s.via.contains p)
  match s.id with
  | .layer l => match pipeOf d.acV l with
    | some a => if d.stopped a then here else a == p
    | none => here
  | _ => (d.snapPipes s).contains p

/-- R99, R121, R456, R482: ARMED and LATE_WAITING of every pipe, and what follows from the pipes: OVER_CAP and the power
    state. -/
def Dev.armShow (d : Dev) : Dev :=
  Dev.restShow <| Dev.overShow <| Dev.each (fun p d =>
      (d.sg (F.PIPE_COMMIT_STATUS_ARMED.i p) (b2n (d.armed.any (fun s => (d.snapPipes s).contains p)))).sg
        (F.PIPE_COMMIT_STATUS_LATE_WAITING.i p) (b2n (d.late.any (fun s => s.lateFor.head? == some p)))) pipes d

/-- R87, R121: the later of two sequence numbers; the counter wraps, and the last number taken is the latest.
    Log 31 (DESIGN CHOICE, unsafe). -/
def Dev.laterSeq (d : Dev) (a b : Nat) : Nat :=
  if (d.seq % 65536 + 65536 - a) % 65536 ≤ (d.seq % 65536 + 65536 - b) % 65536 then a else b

/-- R121: the sequence number of the latest commit any part of which became active on a pipe.
    Log 31 (DESIGN CHOICE, unsafe). -/
def Dev.activeSeq (d : Dev) (p seq : Nat) : Dev :=
  d.sg (F.PIPE_COMMIT_SEQ_ACTIVE_SEQ.i p) (d.laterSeq seq (d.rg (F.PIPE_COMMIT_SEQ_ACTIVE_SEQ.i p)))

/-- R121: the sequence number of the latest commit armed for a pipe.
    Log 31 (DESIGN CHOICE, unsafe). -/
def Dev.armedSeq (d : Dev) (p seq : Nat) : Dev :=
  d.sg (F.PIPE_COMMIT_SEQ_ARMED_SEQ.i p) (d.laterSeq seq (d.rg (F.PIPE_COMMIT_SEQ_ARMED_SEQ.i p)))

/-- R232, R310: layers assigned to a pipe that they were not assigned to return their quiet counts to 0. -/
def Dev.quietReset (d : Dev) (l : Nat) : Dev := if l < 64 then d else d.dn (F.GL_CRUST_STATUS_QUIET.i (l - 64))

/-- R343: the runs, references and ACTIVE bits of a video layer clear, a carried flip with them. -/
def Dev.clearRuns (d : Dev) (l : Nat) : Dev :=
  if l < 64 then
    { Dev.each (fun (f : Fld) d => d.dn (f.i l)) [F.SIG_VL_STATUS_STALE_RUN, F.SIG_VL_STATUS_BLACK_RUN,
        F.SIG_VL_STATUS_STALE_ACTIVE, F.SIG_VL_STATUS_BLACK_ACTIVE] d with
      refs := Tab.put (fun _ => none) d.refs l none
      flipCarry := d.flipCarry.filter (· != l) }
  else d

/-- R310: a change at port `s` is a change event of the pipe that selects it. -/
def Dev.portChange (d : Dev) (s : Nat) : Dev :=
  match portPipe d.acV s with
  | some p => d.change p
  | none => d

/-- R320: DP_n takes an HDCP state; encryption lasts only in AUTHENTICATED. -/
def Dev.hdcpTo (d : Dev) (s st : Nat) : Dev :=
  if d.rg (F.DP_HDCP_STATE.i s) = st ∨ d.rg (F.DP_HDCP_STATE.i s) = 4 then d
  else
    let d1 := (d.sg (F.DP_HDCP_STATE.i s) st).portChange s
    let d2 := if st = 2 then d1 else d1.dn (F.DP_HDCP_ENCRYPTING.i s)
    if st = 3 then d2.attn .security else d2

/-- R320: HDCP of DP_n follows HDCP_EN of its active bank. -/
def Dev.hdcpEnable (d : Dev) (s : Nat) : Dev :=
  if !d.acOn (F.DP_CTRL_HDCP_EN.i s) then d.hdcpTo s 0
  else if d.rg (F.DP_HDCP_STATE.i s) = 0 ∧ d.fl (F.DP_STATUS_TRAINED.i s) then d.hdcpTo s 1
  else d

/-- R320: a trained link, a loss or a request of the sink starts authentication again. -/
def Dev.hdcpAgain (d : Dev) (s : Nat) : Dev := if d.rg (F.DP_HDCP_STATE.i s) = 2 then d.hdcpTo s 1 else d

/-- R229, R257: TOO_LARGE follows the active raster of pipe `p`. -/
def Dev.largeShow (d : Dev) (p : Nat) : Dev := d.sg (F.CRUST_PIPE_STATUS_TOO_LARGE.i p) (b2n (tooLarge d.acV p))

/-- R82: a block's snapshot becomes active and its parity mismatches go with the old values (R66); the grant in
    `slot` becomes ACTIVE (R180); a layer that is enabled, disabled or moved starts its counts afresh (R232, R343). -/
def Dev.activate (d : Dev) (s : Snap) (slot : Nat) : Dev :=
  let old := d.acV
  let d1 := Dev.each (fun p d => d.activeSeq p s.seq) (d.snapPipes s)
    { d with
      active := blkReplace s.id s.vals d.active
      mismatches := d.mismatches.filter (fun m => !(m.bank == .active && blkOf m.off == some s.id))
      latent := d.latent.filter (fun m => !(m.bank == .active && blkOf m.off == some s.id)) }
  match s.id with
  | .wb n => d1.putPst n { d1.pst n with wbOnce := true }
  | .pipe n => d1.largeShow n
  | .layer l =>
    let d2 := if pipeOf old l == pipeOf d1.acV l then d1 else (d1.quietReset l).clearRuns l
    if l < 64 then
      ((if slot = 0 then d2 else d2.moveGrant l slot 0)).needShow l (s.decH, s.decV)
    else d2
  | .port s => if s < 4 then d1.hdcpEnable s else d1
  | _ => d1

/-- The armed bank without the snapshots that satisfy `f`; upsets of their words go with them. -/
def Dev.dropArmed (d : Dev) (f : Snap → Bool) : Dev :=
  { d with
    armed := d.armed.filter (fun s => !f s)
    latent := d.latent.filter (fun m => !(m.bank == .armed && d.armed.any (fun s => f s && blkOf m.off == some s.id))) }

/-- R122: HELD and HOLD_FRAMES of a layer clear. -/
def Dev.unhold (d : Dev) (l : Nat) : Dev :=
  (d.dn (lf F.VL_FLIP_STATUS_HELD F.GL_FLIP_STATUS_HELD l)).dn
    (lf F.VL_FLIP_STATUS_HOLD_FRAMES F.GL_FLIP_STATUS_HOLD_FRAMES l)

/-- R108, R300: two pipes swap together: one genlock group, each its leader or LOCKED.
    Log 31 (DESIGN CHOICE, unsafe). -/
def Dev.together (d : Dev) (p q : Nat) : Bool :=
  let g := genGroup d.acV p
  let m := fun x => (genMembers d.acV g).head? == some x || d.rg (F.PIPE_GENLOCK_STATUS_STATE.i x) == 3
  p == q || (g != 0 && genGroup d.acV q == g && m p && m q)

end Sys2Proof.Machine
end

