-- ==== Sys2Proof/Machine/Commit.lean ====
section
/-! DEFINITION.  Commits: the strobe and its targets (R85 to R89), the commit checker (R91 to R94), acceptance,
    supersession and the late store (R95 to R100), stopped pipes and starts (R112). -/

namespace Sys2Proof.Machine

/-! ### The strobe -/

/-- R85: the layers a strobe selects. -/
def Dev.strobeLayers (d : Dev) (q : Rq) (sel : Nat) (ps : List Nat) : List Nat :=
  match sel with
  | 1 => allLayers.filter (fun l =>
      if l < 64 then bit (d.rg (F.COMMIT_LAYER_MASK_VL_MASK.rq q)) l
      else bit (d.rg (F.COMMIT_LAYER_MASK_GL_MASK.rq q)) (l - 64))
  | 2 => allLayers.filter (fun l => ps.any (fun p =>
      assigned d.pfV p l || assigned d.arV p l || assigned d.acV p l))
  | _ => []

/-- R85: the bits of a field, as indices. -/
def bitsOf (n v : Nat) : List Nat := (List.range n).filter (bit v)

/-- R38: a target a host strobe leaves out, and the service-owned pipes it belongs to.  A layer of both planes stays in,
    and R35 refuses the commit.
    Log 18 (DESIGN CHOICE, unsafe). -/
def Dev.barredFor (d : Dev) (q : Rq) (b : BlkId) : List Nat :=
  match q, b with
  | .fw, _ => []
  | .host, .layer l => if d.mixed (.layer l) then [] else (d.ownerPipes (.layer l)).filter d.svcOwned
  | .host, b => (d.ownerPipes b).filter d.svcOwned

/-- R85: the blocks a strobe names, in the checker's order. -/
def Dev.strobeTargets (d : Dev) (q : Rq) (w : Word) : List BlkId :=
  let v : View := fun _ => w
  let ps := bitsOf 4 (v.g F.COMMIT_STROBE_PIPE)
  ps.map .pipe ++ (d.strobeLayers q (v.g F.COMMIT_STROBE_LAYER_SEL) ps).map .layer
    ++ (bitsOf 6 (v.g F.COMMIT_STROBE_PORT)).map .port ++ (bitsOf 4 (v.g F.COMMIT_STROBE_WB)).map .wb
    ++ (bitsOf 8 (v.g F.COMMIT_STROBE_CRUST)).map .crust

/-- R89: the snapshot of a block. -/
def Dev.snapshot (d : Dev) (q : Rq) (seq : Nat) (b : BlkId) : Snap :=
  { id := b, seq := seq, fw := (q == .fw), vals := blkWords b d.proof }

/-- R88: the pipe set of a list of snapshots. -/
def Dev.pipeSet (d : Dev) (snaps : List Snap) : List Nat :=
  pipes.filter (fun p => snaps.any (fun s =>
    (blkPipe d.acV s.id == some p) || (blkPipe d.arV s.id == some p)
      || (blkPipe (overV snaps d.arV) s.id == some p)))

/-- R98, R108: the pipes of a set for which a strobe now is late. -/
def Dev.latePipes (d : Dev) (ps : List Nat) : List Nat :=
  ps.filter (fun p => ps.any (fun r => (d.pst r).frozen && d.together p r))

/-- R98: a late strobe is counted. -/
def Dev.lateCount (d : Dev) (p : Nat) : Dev :=
  (d.up (F.PIPE_COMMIT_STATUS_LATE.i p)).incSat (F.PIPE_COMMIT_COUNTS_LATE_COUNT.i p)

/-- R80: the code of a bank. -/
def bankCode : Bank → Nat
  | .proof => 0 | .armed => 1 | .active => 2 | .unbanked => 3

/-- R66: the flag of a bank. -/
def bankFlag : Bank → Fld
  | .proof => F.SYS_PARITY_STATUS_PROOF | .armed => F.SYS_PARITY_STATUS_ARMED
  | .active => F.SYS_PARITY_STATUS_ACTIVE | .unbanked => F.SYS_PARITY_STATUS_UNBANKED

/-- R65, R66: a new mismatch is reported: captured, flagged and logged. -/
def Dev.parityReport (d : Dev) (m : Mismatch) : Dev :=
  let d1 := (({ d with latent := d.latent.filter (· != m) }.capture F.SYS_PARITY_ADDR_VALID
    [(F.SYS_PARITY_ADDR_BANK, bankCode m.bank), (F.SYS_PARITY_ADDR_OFFSET, m.off)]).up (bankFlag m.bank)).faultSum
    F.SYS_FAULT_SUMMARY_CFG_PARITY
  d1.logE 4 1 1 (d1.unV F.SYS_PARITY_ADDR_VALID.off).toNat

/-- R65: upsets that no check has found yet, in bank `b` of a block that `f` admits. -/
def Dev.latentIn (d : Dev) (b : Bank) (f : BlkId → Bool) : List Mismatch :=
  d.latent.filter (fun m => m.bank == b && (blkOf m.off).any f)

/-- R65, R89: the snapshot's parity check finds the upsets of the proof bank of its targets. -/
def Dev.snapParity (d : Dev) (bs : List BlkId) : Dev :=
  Dev.each (fun m d => let d := d.parityReport m; { d with mismatches := m :: d.mismatches })
    (d.latentIn .proof bs.contains) d

/-- R66, R89: a proof-bank mismatch in one of the targets, the first in the checker's order. -/
def Dev.parityIn (d : Dev) (bs : List BlkId) : Option BlkId :=
  firstWith (fun b => d.mismatches.any (fun m => m.bank == .proof && blkOf m.off == some b)) bs

/-- R94: the requester's place in the checker is taken. -/
def Dev.strobeBusy (d : Dev) (q : Rq) : Bool :=
  d.fl (F.COMMIT_STATUS_PENDING.rq q) || (q == .host && d.fl F.FETCH_STATUS_DECL_PENDING)

/-- COMMIT_STROBE of a requester (R65, R86 to R89, R94, R98).
    Log 64 (DESIGN CHOICE, unsafe). -/
def commitStrobe (q : Rq) (w : Word) (d : Dev) : Dev :=
  let v : View := fun _ => w
  let bs := d.strobeTargets q w
  let bad := decide (v.g F.COMMIT_STROBE_LAYER_SEL = 3) || bs.isEmpty
  if bad || d.strobeBusy q then
    (d.onlyIf bad (·.up (F.COMMIT_ERR_BAD_STROBE.rq q))).onlyIf (d.strobeBusy q) (·.up (F.COMMIT_ERR_STROBE_BUSY.rq q))
  else
    let named := pipes.filter (fun p => bs.any (fun b => (d.barredFor q b).contains p))
    let d := Dev.each (fun p d => d.ownViolation p) named d
    let kept := bs.filter (fun b => (d.barredFor q b).isEmpty)
    if kept = [] then d.up (F.COMMIT_ERR_BAD_STROBE.rq q)
    else
      let d := d.snapParity kept
      let seq := (d.seq + 1) % 65536
      let snaps := kept.map (d.snapshot q seq)
      let ps := d.pipeSet snaps
      let late := d.latePipes ps
      let d1 := (Dev.each (fun p d => d.lateCount p) late d).onlyIf (!late.isEmpty) (·.attn .late)
      let st : Strobe :=
        { rq := q, seq := seq, pipes := ps, snaps := snaps, late := late,
          swapsAt := pipes.map (fun p => d.rg (F.PIPE_SWAP_COUNT_SWAPS.i p)), parity := d.parityIn kept }
      ((({ d1 with seq := seq, strobes := d1.strobes ++ [st] }.sg (F.COMMIT_STATUS_SEQ.rq q) seq).up
        (F.COMMIT_STATUS_PENDING.rq q)).dn (F.COMMIT_STATUS_DONE.rq q)).dn (F.COMMIT_STATUS_ACCEPTED.rq q)

/-! ### The checker -/

/-- R92, R120: a result: code, kind, index, needed, available. -/
structure Result where
  code : Nat
  kind : Nat
  index : Nat
  needed : Nat := 0
  avail : Nat := 0
  deriving DecidableEq, Repr

/-- R120: KIND and INDEX of a block. -/
def BlkId.kind : BlkId → Nat × Nat
  | .pipe n => (0, n)
  | .layer l => if l < 64 then (1, l) else (2, l - 64)
  | .port s => (3, s)
  | .wb n => (4, n)
  | .crust q => (5, q)

/-- A refusal at a block. -/
def refuse (code : Nat) (b : BlkId) (needed avail : Nat) : Result := ⟨code, b.kind.1, b.kind.2, needed, avail⟩

/-- What the checker looks at: the configuration, the snapshots, the pipe set and the requester. -/
structure Check where
  c : Cfg
  snaps : List Snap
  ps : List Nat
  rq : Rq

/-- R91, R159: the enabled layers of the pipe set. -/
def Check.mine (k : Check) : List Nat :=
  allLayers.filter (fun l => match pipeOf k.c.v l with
    | some p => k.ps.contains p
    | none => false)

/-- The enabled pipes of the pipe set. -/
def Check.on (k : Check) : List Nat := k.ps.filter (tgEn k.c.v)

/-- R39: pipe `p` belongs to the other control plane than the requester. -/
def Dev.otherPlane (d : Dev) (q : Rq) (p : Nat) : Bool :=
  match q with
  | .host => d.svcOwned p
  | .fw => !d.svcOwned p

/-- R92 0x02: targets that no commit may have.
    Log 32 (DESIGN CHOICE, unsafe). -/
def Dev.chkTarget (d : Dev) (k : Check) : Option Result :=
  match firstWith (fun p => (decide (portSel k.c.v p < 6)
        && pipes.any (fun r => r != p && tgEn k.c.v r && portSel k.c.v r == portSel k.c.v p))
      || d.portBarred (portSel k.c.v p) || d.pipeBarred k.c.act p) k.on with
  | some p => some (refuse 2 (.pipe p) 0 0)
  | none =>
    match firstWith (fun s => k.snaps.any (fun x => x.id == .port s) && pipes.any (fun r => !k.ps.contains r
        && (portSel k.c.v r == s || portSel k.c.act r == s))) (List.range 6) with
    | some s => some (refuse 2 (.port s) 0 0)
    | none => none

/-- R92 0x03: assignments across control planes (R35, R39).
    Log 32 (DESIGN CHOICE, unsafe). -/
def Dev.chkAssign (d : Dev) (k : Check) : Option Result :=
  match firstWith (fun l => match snapOf (.layer l) k.snaps with
      | some s => d.mixed (.layer l) || (d.ownerPipes (.layer l)).any (d.otherPlane k.rq)
          || (match d.snapPipe s with
            | some p => d.otherPlane k.rq p
            | none => false)
      | none => false) allLayers with
  | some l => some (refuse 3 (.layer l) 0 0)
  | none => none

/-- R92 0x04: surfaces.
    Log 32 (DESIGN CHOICE, unsafe). -/
def Dev.chkSurface (d : Dev) (k : Check) : Option Result :=
  match firstWith (fun l => let s := d.surfAt (lySid k.c.v l); s.st == .free || s.lost) k.mine with
  | some l => some (refuse 4 (.layer l) (lySid k.c.v l) 0)
  | none => none

/-- R92 0x05: formats (R129, R217, R297, R313, R319).
    Log 32 (DESIGN CHOICE, unsafe). -/
def Dev.chkFormat (d : Dev) (k : Check) : Option Result :=
  match firstWith (fun p => !d.replayOk k.c.v p) k.ps with
  | some p => some (refuse 5 (.pipe p) 0 0)
  | none =>
    match firstWith (fun l => !d.formatOk l (d.surfAt (lySid k.c.v l)).fmt) k.mine with
    | some l => some (refuse 5 (.layer l) 0 0)
    | none =>
      let bad := fun p => !(portFormatOk k.c.v p && d.dscOk k.c.v p)
      match firstWith (fun s => k.ps.any (fun p => portSel k.c.v p == s && bad p)) (List.range 6) with
      | some s => some (refuse 5 (.port s) 0 0)
      | none =>
        match firstWith bad k.ps with
        | some p => some ⟨5, 3, Config.unstated p % 128, 0, 0⟩
        | none =>
          match firstWith (fun p => !d.wbOk k.c.v p) k.ps with
          | some p => some (refuse 5 (.wb p) 0 0)
          | none => none

/-- R92 0x06: timing (R284, R294, R297, R299, R308, R316, R328, R456); the settings of a targeted port are tested whether
    a pipe selects it or not.
    Log 32 (DESIGN CHOICE, unsafe). -/
def Dev.chkTiming (d : Dev) (k : Check) : Option Result :=
  let cap := fun p => if !tgEn k.c.act p || d.tClass k.c.act k.c.v p == .classB then
      some (d.rg (F.PIPE_TG_STATUS_CAP_MPIX.i p)) else none
  match firstWith (fun p => !d.pipeTimingOk k.c.v (cap p) p) k.on with
  | some p => some (refuse 6 (.pipe p) 0 0)
  | none =>
    let tested := fun (s : Nat) => k.on.any (fun p => portSel k.c.v p == s) || k.snaps.any (fun x => x.id == .port s)
    match firstWith (fun s => tested s && !d.portTimingOk k.c.v s) (List.range 6) with
    | some s => some (refuse 6 (.port s) 0 0)
    | none => none

/-- R92 0x07, R111: a timing change inside a class B sequence. -/
def Dev.chkBusy (d : Dev) (k : Check) : Option Result :=
  match firstWith (fun p => d.fl (F.PIPE_COMMIT_STATUS_CLASS_B.i p)
      && tChange (d.cfg91 []).v k.c.v p != .none) k.ps with
  | some p => some (refuse 7 (.pipe p) 0 0)
  | none => none

/-- R92 0x08, R170: scaler ratios. -/
def Dev.chkRatio (d : Dev) (k : Check) : Option Result :=
  go (k.mine.filter (· < 64))
where
  /-- The first video layer whose ratio fails. -/
  go : List Nat → Option Result
    | [] => none
    | l :: t =>
      let p := lyPipe k.c.v l
      match d.ratioCheck k.c.v (rasterOf k.c.v p) p l (d.cfgDecim k.c l) with
      | some r => some (refuse 8 (.layer l) r.1 r.2)
      | none => go t

/-- R93, R160: layers counted for pipe `p`. -/
def Cfg.depth (c : Cfg) (p : Nat) : Nat :=
  countP (fun l => assigned c.v p l || (c.mayHold l && assigned c.act p l)) allLayers

/-- R92 0x09: blend depth. -/
def chkDepth (k : Check) : Option Result :=
  match firstWith (fun p => decide (32 < k.c.depth p)) k.ps with
  | some p => some (refuse 9 (.pipe p) (k.c.depth p) 32)
  | none => none

/-- R99: the strobe is still late for a pipe: the swap point it missed has not come.
    Log 31 (DESIGN CHOICE, unsafe). -/
def Dev.stillLate (d : Dev) (st : Strobe) (p : Nat) : Bool :=
  st.late.contains p && d.rg (F.PIPE_SWAP_COUNT_SWAPS.i p) == st.swapsAt.getD p 0

/-- R98, R99: the pipes for which a snapshot goes to the late store.
    Log 31 (DESIGN CHOICE, unsafe). -/
def Dev.lateFor (d : Dev) (st : Strobe) (s : Snap) : List Nat := (d.reachPipes s).filter (d.stillLate st)

/-- R99: of the pipes a snapshot is late for, the one whose swap point comes first shows it: which one that is depends on
    the rasters. -/
def Dev.lateFirst (d : Dev) (ps : List Nat) : List Nat × Dev :=
  match ps with
  | [] => ([], d)
  | [p] => ([p], d)
  | _ =>
    let r := d.draw
    (ps.drop (r.1 % ps.length) ++ ps.take (r.1 % ps.length), r.2)

/-- R88, R112: a snapshot takes effect at acceptance: every pipe it belongs to is stopped and stays so. -/
def Dev.immediate (d : Dev) (v : View) (s : Snap) : Bool :=
  (d.reachPipes s).all (fun p => d.stopped p && !tgEn v p)

/-- R101, R112: a layer's values wait on a fence. -/
def Snap.fenced (s : Snap) : Bool :=
  match s.id with
  | .layer l => fenceEn s.view l
  | _ => false

/-- R112, R179: the slot a snapshot enters: 0 active, 1 armed, 2 late. -/
def Dev.slotOf (d : Dev) (st : Strobe) (v : View) (s : Snap) : Nat :=
  if !(d.lateFor st s).isEmpty then 2
  else if d.immediate v s && (!s.fenced || (d.reachPipes s).isEmpty) then 0 else 1

/-- R92 0x0A, R179: the line store, over the targeted video layers in index order. -/
def Dev.chkLines (d : Dev) (st : Strobe) (k : Check) : Option Result :=
  let vls := (List.range 64).filterMap (fun l => (snapOf (.layer l) k.snaps).map (fun s => (l, s)))
  let room := d.freeBlocks.length + sumOf (fun x => d.granted x.1 (d.slotOf st k.c.v x.2)) vls
  go room 0 vls
where
  /-- The three tests of each layer. -/
  go (room total : Nat) : List (Nat × Snap) → Option Result
    | [] => none
    | (l, s) :: t =>
      let n := d.lsNeed k.c.v l (s.decH, s.decV)
      let c := d.lsClaim k.c.v l (s.decH, s.decV)
      if 48 < c then some (refuse 10 (.layer l) c 48)
      else if c < n then some (refuse 10 (.layer l) n c)
      else if room < total + c then some (refuse 10 (.layer l) (total + c) room)
      else go room (total + c) t

/-- R239: the pipes of the set whose timing change is class B. -/
def Dev.classBOf (d : Dev) (k : Check) : List Nat := k.ps.filter (fun p => d.tClass k.c.act k.c.v p == .classB)

/-- R92 0x0B, R279: bandwidth.
    Log 32 (DESIGN CHOICE, unsafe). -/
def Dev.chkBandwidth (d : Dev) (k : Check) : Option Result :=
  match d.admits k.c (d.classBOf k) d.declared with
  | some (p, n, a) => some (refuse 11 (.pipe p) n a)
  | none => none

/-- R457: the active pixel rate of a pipe rises. -/
def rateRises (old new : View) (p : Nat) : Bool :=
  let a := rasterOf old p
  let b := rasterOf new p
  tgEn new p && (!tgEn old p
    || decide (a.khz * a.hact * a.vact * (b.fDen * b.htot * b.vtot) < b.khz * b.hact * b.vact * (a.fDen * a.htot * a.vtot)))

/-- R92 0x0C, R457: while degraded, no commit raises the load of a pipe.
    Log 32 (DESIGN CHOICE, unsafe). -/
def Dev.chkDegraded (d : Dev) (k : Check) : Option Result :=
  if d.rg F.HEARTH_STATE_DEGRADED = 0 then none
  else
    let new := fun p => if tgEn k.c.v p then (d.need k.c ((d.classBOf k).contains p) p).1 else 0
    let old := fun p => if tgEn k.c.act p then (d.need d.cfgAct false p).1 else 0
    match firstWith (fun p => decide (old p < new p) || rateRises k.c.act k.c.v p) k.ps with
    | some p => some (refuse 12 (.pipe p) (new p) (old p))
    | none => none

/-- R92: the first failure, in the order of the table.
    Log 32 (DESIGN CHOICE, unsafe). -/
def Dev.check (d : Dev) (st : Strobe) (k : Check) : Option Result :=
  (st.parity.map (fun b => refuse 1 b 0 0)).orElse fun _ =>
  (d.chkTarget k).orElse fun _ => (d.chkAssign k).orElse fun _ => (d.chkSurface k).orElse fun _ =>
  (d.chkFormat k).orElse fun _ => (d.chkTiming k).orElse fun _ => (d.chkBusy k).orElse fun _ =>
  (d.chkRatio k).orElse fun _ => (chkDepth k).orElse fun _ => (d.chkLines st k).orElse fun _ =>
  (d.chkBandwidth k).orElse fun _ => d.chkDegraded k

/-! ### Acceptance -/

/-- R168: a snapshot of a video layer with its decimation factors chosen. -/
def Dev.withDecim (d : Dev) (v : View) (s : Snap) : Snap :=
  match s.id with
  | .layer l =>
    if l < 64 then
      let e := d.decim s.view (rasterOf v (lyPipe s.view l)) l
      { s with decH := e.1, decV := e.2 }
    else s
  | _ => s

/-- R100, R107: a snapshot enters the armed bank or the late store, replacing what stood there. -/
def Dev.enter (d : Dev) (slot : Nat) (s : Snap) : Dev × List Snap :=
  let old := (if slot = 2 then d.late else d.armed).filter (fun x => x.id == s.id)
  let d1 : Dev := if slot = 2 then { d with late := d.late.filter (fun x => x.id != s.id) ++ [s] }
    else let d := d.dropArmed (fun x => x.id == s.id); { d with armed := d.armed ++ [s] }
  let d2 := match s.id with
    | .layer l => if slot = 1 then d1.unhold l else d1
    | _ => d1
  (Dev.each (fun p d => if slot = 1 then d.armedSeq p s.seq else d) (d.reachPipes s) d2, old)

/-- R88, R112: a snapshot becomes active at acceptance. -/
def Dev.enterActive (d : Dev) (s : Snap) : Dev × List Snap :=
  let old := d.armed.filter (fun x => x.id == s.id)
  let d1 := d.dropArmed (fun x => x.id == s.id)
  let d2 := match s.id with
    | .layer l => d1.unhold l
    | _ => d1
  ((Dev.each (fun p d => d.armedSeq p s.seq) (d.reachPipes s) d2).activate s 0, old)

/-- R180: the grants that the accepted video layers' snapshots replace are released, and with a snapshot that becomes
    active at acceptance the armed values' too. -/
def Dev.releaseFor (d : Dev) (l slot : Nat) : Dev := (if slot = 0 then d.release l 1 else d).release l slot

/-- R178 to R180: with every replaced grant released, each accepted video layer takes its claim, lowest layer first. -/
def Dev.regrant (d : Dev) (xs : List (Nat × Nat × Snap)) : Dev :=
  Dev.each (fun (x : Nat × Nat × Snap) d => d.grant x.1 x.2.1 (d.lsClaim x.2.2.view x.1 (x.2.2.decH, x.2.2.decV))) xs
    (Dev.each (fun (x : Nat × Nat × Snap) d => d.releaseFor x.1 x.2.1) xs d)

/-- R179: the video layers of a list of snapshots, in index order, with the slots their grants are for. -/
def Dev.grantsOf (d : Dev) (st : Strobe) (v : View) (snaps : List Snap) : List (Nat × Nat × Snap) :=
  (List.range 64).filterMap (fun l => (snapOf (.layer l) snaps).map (fun s => (l, d.slotOf st v s, s)))

/-- R95, R99, R112: every snapshot goes where it belongs; the replaced snapshots are collected. -/
def Dev.enterAll (st : Strobe) (v : View) : List Snap → Dev × List Snap → Dev × List Snap
  | [], r => r
  | s :: t, (d, old) =>
    let slot := d.slotOf st v s
    let ps := d.lateFirst (if slot = 2 then d.lateFor st s else [])
    let s1 := { s with lateFor := ps.1, via := (d.reachPipes s).filter (fun p => !(d.snapPipes s).contains p) }
    let r := if slot = 0 then ps.2.enterActive s1 else ps.2.enter slot s1
    Dev.enterAll st v t (r.1, old ++ r.2)

/-- R100: superseded commits are counted, once per commit and pipe, however many of their parts are replaced later. -/
def Dev.supersede (d : Dev) (old : List Snap) : Dev :=
  let new := pipes.flatMap (fun p => ((old.filter (fun s => (d.snapPipes s).contains p)).map (fun s => (p, s.seq))).filter
    (fun x => !d.superseded.contains x)) |>.eraseDups
  let d1 := Dev.each (fun (x : Nat × Nat) d => (d.up (F.PIPE_COMMIT_STATUS_SUPERSEDED.i x.1)).incSat
    (F.PIPE_COMMIT_COUNTS_SUPERSEDED_COUNT.i x.1)) new d
  { d1 with superseded := (new ++ d1.superseded).filter (fun x => (d1.armed ++ d1.late).any (fun s => s.seq == x.2)) }

/-- R112, R121, R307: the timing fields of pipe `p` and of its port become active, the other fields not yet.
    Log 33 (DESIGN CHOICE, unsafe). -/
def Dev.timingActive (d : Dev) (p : Nat) : Dev :=
  let v := d.arV
  let put := fun (f : Fld) (d : Dev) => { d with active := f.set dfltB d.active (v.g f) }
  let from_ := d.armed.filter (fun s => s.id == .pipe p || s.id == .port (portSel v p))
  Dev.each (fun (s : Snap) d => d.activeSeq p s.seq) from_
    ((Dev.each put (portTiming (portSel v p)) (Dev.each put ((timingB ++ timingA).map (·.i p)) d)).largeShow p)

/-- R306, R307: the steps of a sequence, as TG_STATUS.STEP. -/
def Dev.setStep (d : Dev) (p n : Nat) : Dev := d.sg (F.PIPE_TG_STATUS_STEP.i p) n

/-- R112, R307, R484: an accepted commit starts a stopped pipe, its port trains in step 3; in HOLD, or while HOLD is being
    entered, the pipe starts at the exit.
    Log 34 (DESIGN CHOICE, unsafe). -/
def Dev.startPipe (d : Dev) (p : Nat) : Dev :=
  if d.inHold || d.power.moving != .none then d.putPst p { d.pst p with held := true }
  else (((d.putPst p { d.pst p with retrain := true }).up (F.PIPE_COMMIT_STATUS_CLASS_B.i p)).timingActive p).setStep p 2

/-- R236, R237: after a change of a pipe's armed bank, a part that is crust-affecting and not class B comes under
    crust hold; in a genlock group the other pipes' parts of those commits are held with it. -/
def Dev.crustHold (d : Dev) (p : Nat) : Dev :=
  let v := d.arV
  let qs := [2 * p, 2 * p + 1].filter (fun q => !(d.crustAt p).holdFor.contains q && d.crustAffecting v q)
  if d.running p && !d.fl (F.PIPE_COMMIT_STATUS_CLASS_B.i p) && tChange d.acV v p != .classB && !qs.isEmpty then
    let hold := fun (r : Nat) (d : Dev) =>
      if d.fl (F.CRUST_PIPE_STATUS_HOLD.i r) then d
      else (d.up (F.CRUST_PIPE_STATUS_HOLD.i r)).dn (F.CRUST_PIPE_STATUS_HOLD_FRAMES.i r)
    let seqs := (d.armed.filter (fun s => (d.snapPipes s).contains p)).map (·.seq)
    let mates := pipes.filter (fun r => r != p && d.together p r
      && d.armed.any (fun s => (d.snapPipes s).contains r && seqs.contains s.seq))
    Dev.each hold (p :: mates) (d.putCrust p { d.crustAt p with holdFor := (d.crustAt p).holdFor ++ qs })
  else d

/-- R95: a validated strobe is accepted. -/
def Dev.accept (d : Dev) (st : Strobe) (k : Check) : Dev :=
  let g := d.grantsOf st k.c.v k.snaps
  let r := Dev.enterAll st k.c.v k.snaps (d.regrant g, [])
  let starts := k.ps.filter (fun p => d.stopped p && tgEn k.c.v p)
  let d1 := Dev.each (fun p d => d.startPipe p) starts (r.1.supersede r.2)
  let d2 := Dev.each (fun p d => (d.crustObsolete p r.2).crustHold p) pipes (d1.discarded r.2)
  let d3 := Dev.each (fun p d => d.change p) k.ps { d2 with accepted := true }
  (Dev.each (fun p d => if starts.contains p || d.stopped p then d.needShowPipe p else d) pipes
    d3.armShow.poolShow).headroom.lostSweep

/-- R95, R117, R120: the result of a validation; after a function-level reset it is lost. -/
def Dev.report (d : Dev) (st : Strobe) (r : Result) : Dev :=
  if st.lost then d
  else
    let ok := r.code == 0
    let f := fun (x : Fld) => x.rq st.rq
    let d1 := ((d.sg (f F.COMMIT_RESULT_CODE) r.code).sg (f F.COMMIT_RESULT_KIND) r.kind).sg
      (f F.COMMIT_RESULT_INDEX) r.index
    let d2 := (d1.sg (f F.COMMIT_NEEDED_VALUE) r.needed).sg (f F.COMMIT_AVAILABLE_VALUE) r.avail
    let d3 := d2.incSat (if ok then f F.COMMIT_COUNTS_ACCEPTED else f F.COMMIT_COUNTS_REFUSED)
    ((d3.dn (f F.COMMIT_STATUS_PENDING)).up (f F.COMMIT_STATUS_DONE)).sg (f F.COMMIT_STATUS_ACCEPTED) (b2n ok)

/-- The check of a strobe: the configuration with its snapshots, decimation chosen. -/
def Dev.checkOf (d : Dev) (st : Strobe) : Check :=
  let snaps := st.snaps.map (d.withDecim (d.cfg91 st.snaps).v)
  ⟨d.cfg91 snaps, snaps, st.pipes, st.rq⟩

/-- COMMIT_VALIDATION_END: the checker ends the strobe it has taken, the oldest, if it is this requester's and no
    declaration test was taken before it (R40). -/
def commitValidationEnd (q : Rq) (d : Dev) : Dev :=
  match d.strobes with
  | [] => d
  | st :: rest =>
    if st.rq != q || d.declTest.any (fun t => !t.behind) then d
    else
      let d := { d with strobes := rest, declTest := d.declTest.map (fun (t : DeclTest) => { t with behind := false }) }
      let k := d.checkOf st
      match d.check st k with
      | some r => (d.report st r).lostSweep
      | none => (d.accept st k).report st ⟨0, 0, 0, 0, 0⟩

/-- DECL_TEST_END (R267): R279 is tested with the new declaration on the configuration of R91 and on the active one.
    Log 42 (DESIGN CHOICE, unsafe). -/
def declTestEnd (d : Dev) : Dev :=
  match d.declTest with
  | none => d
  | some t =>
    if t.behind then d
    else
      let v : View := fun _ => t.word
      let d1 := { d with declTest := none }.dn F.FETCH_STATUS_DECL_PENDING
      let d2 := (d1.sg (F.FETCH_DECL_CTRL_EN.i t.k) (b2n (v.on F.FETCH_DECL_CTRL_EN))).sg (F.FETCH_DECL_CTRL_MBPS.i t.k)
        (v.g F.FETCH_DECL_CTRL_MBPS)
      let c := d1.cfg91 []
      let cb := pipes.filter (fun p => d1.tClass c.act c.v p == .classB)
      if (d1.admits c cb d2.declared).isNone && (d1.admits d1.cfgAct [] d2.declared).isNone then d2.declShow
      else d1.up F.FETCH_STATUS_DECL_REFUSED

/-- R40: what arrived at the checker before a strobe of Hearth firmware is ended first, in the order of its arrival. -/
def Dev.drain (d : Dev) : Dev :=
  let d1 := declTestEnd d
  declTestEnd (Dev.each (fun (st : Strobe) d => commitValidationEnd st.rq d) d1.strobes d1)

/-- DECL_TEST_END. -/
def execDeclTestEnd (s : State) : Host.Outcome State Fault Refusal := s.run declTestEnd

/-- COMMIT_CLR_COUNTS (R120). -/
def commitClrCounts (q : Rq) (w : Word) (d : Dev) : Dev :=
  if View.on (fun _ => w) F.COMMIT_ERR_CLR_COUNTS then
    (d.dn (F.COMMIT_COUNTS_ACCEPTED.rq q)).dn (F.COMMIT_COUNTS_REFUSED.rq q)
  else d

/-- COMMIT_VALIDATION_END. -/
def execCommitValidationEnd (rq : Rq) (s : State) : Host.Outcome State Fault Refusal :=
  s.run (commitValidationEnd rq)

end Sys2Proof.Machine
end

