-- ==== Sys2Proof/Machine/Float.lean ====
section
/-! DEFINITION.  IEEE 754 binary16 and binary32 by their codes: every operation is computed exactly and rounded once,
    to nearest even (R197). -/

namespace Sys2Proof.Machine

/-- A floating-point format: exponent and fraction widths. -/
structure Fmt where
  eb : Nat
  mb : Nat
  deriving DecidableEq, Repr

/-- binary16. -/
def f16 : Fmt := ⟨5, 10⟩

/-- binary32. -/
def f32 : Fmt := ⟨8, 23⟩

/-- The value of a code: not a number, an infinity, or plus or minus `mant × 2 ^ exp`. -/
inductive FVal where
  | nan
  | inf (neg : Bool)
  | fin (neg : Bool) (mant : Nat) (exp : Int)
  deriving DecidableEq, Repr

/-- The exponent of the least significant fraction bit of the smallest numbers. -/
def Fmt.low (f : Fmt) : Int := 2 - (2 ^ (f.eb - 1) : Nat) - (f.mb : Int)

/-- Decode a code. -/
def Fmt.val (f : Fmt) (c : Nat) : FVal :=
  let neg := bit c (f.eb + f.mb)
  let e := bits c f.mb f.eb
  let m := bits c 0 f.mb
  if e = 2 ^ f.eb - 1 then (if m = 0 then .inf neg else .nan)
  else if e = 0 then .fin neg m f.low
  else .fin neg (2 ^ f.mb + m) (f.low + ((e - 1 : Nat) : Int))

/-- The quiet NaN. -/
def Fmt.nan (f : Fmt) : Nat := (2 ^ f.eb - 1) * 2 ^ f.mb + 2 ^ (f.mb - 1)

/-- The code of a sign and a magnitude code. -/
def Fmt.signed (f : Fmt) (neg : Bool) (c : Nat) : Nat := c + (if neg then 2 ^ (f.eb + f.mb) else 0)

/-- Infinity. -/
def Fmt.inf (f : Fmt) (neg : Bool) : Nat := f.signed neg ((2 ^ f.eb - 1) * 2 ^ f.mb)

/-- `n / d` rounded to the nearest integer, halves to even. -/
def divEven (n d : Nat) : Nat :=
  let q := n / d
  let r := n % d
  if 2 * r < d then q else if d < 2 * r then q + 1 else q + q % 2

/-- The largest `e` with `2 ^ e ≤ n / d`, for `n` and `d` not 0. -/
def ratLog2 (n d : Nat) : Int :=
  let k : Int := (Nat.log2 n : Int) - (Nat.log2 d : Int)
  if 0 ≤ k then (if n < d * 2 ^ k.toNat then k - 1 else k)
  else if n * 2 ^ (-k).toNat < d then k - 1 else k

/-- The code nearest to `± n / d`. -/
def Fmt.round (f : Fmt) (neg : Bool) (n d : Nat) : Nat :=
  if n = 0 then f.signed neg 0
  else
    let q := max (ratLog2 n d - (f.mb : Int)) f.low
    let m := if 0 ≤ q then divEven n (d * 2 ^ q.toNat) else divEven (n * 2 ^ (-q).toNat) d
    let c := if m < 2 ^ f.mb then m else ((q - f.low).toNat) * 2 ^ f.mb + m
    if (2 ^ f.eb - 1) * 2 ^ f.mb ≤ c then f.inf neg else f.signed neg c

/-- The code nearest to `± mant × 2 ^ exp`. -/
def Fmt.roundExp (f : Fmt) (neg : Bool) (mant : Nat) (exp : Int) : Nat :=
  if 0 ≤ exp then f.round neg (mant * 2 ^ exp.toNat) 1 else f.round neg mant (2 ^ (-exp).toNat)

/-- A signed magnitude as an integer. -/
def sInt (neg : Bool) (m : Nat) : Int := if neg then -(m : Int) else (m : Int)

/-- Sum.
    Log 38 (DESIGN CHOICE, unsafe). -/
def fAdd (f : Fmt) (a b : Nat) : Nat :=
  match f.val a, f.val b with
  | .nan, _ => f.nan
  | _, .nan => f.nan
  | .inf s, .inf t => if s = t then f.inf s else f.nan
  | .inf s, .fin _ _ _ => f.inf s
  | .fin _ _ _, .inf t => f.inf t
  | .fin s m e, .fin t n g =>
    let low := min e g
    let x := sInt s m * (2 ^ (e - low).toNat : Nat) + sInt t n * (2 ^ (g - low).toNat : Nat)
    if x = 0 then f.signed (s && t) 0 else f.roundExp (decide (x < 0)) x.natAbs low

/-- Negation. -/
def fNeg (f : Fmt) (a : Nat) : Nat :=
  if bit a (f.eb + f.mb) then a - 2 ^ (f.eb + f.mb) else a + 2 ^ (f.eb + f.mb)

/-- Difference. -/
def fSub (f : Fmt) (a b : Nat) : Nat := fAdd f a (fNeg f b)

/-- Product.
    Log 38 (DESIGN CHOICE, unsafe). -/
def fMul (f : Fmt) (a b : Nat) : Nat :=
  match f.val a, f.val b with
  | .nan, _ => f.nan
  | _, .nan => f.nan
  | .inf s, .inf t => f.inf (s != t)
  | .inf s, .fin t n _ => if n = 0 then f.nan else f.inf (s != t)
  | .fin s m _, .inf t => if m = 0 then f.nan else f.inf (s != t)
  | .fin s m e, .fin t n g => f.roundExp (s != t) (m * n) (e + g)

/-- Quotient. -/
def fDiv (f : Fmt) (a b : Nat) : Nat :=
  match f.val a, f.val b with
  | .nan, _ => f.nan
  | _, .nan => f.nan
  | .inf _, .inf _ => f.nan
  | .inf s, .fin t _ _ => f.inf (s != t)
  | .fin s _ _, .inf t => f.signed (s != t) 0
  | .fin s m e, .fin t n g =>
    if n = 0 then (if m = 0 then f.nan else f.inf (s != t))
    else
      let k := e - g
      if 0 ≤ k then f.round (s != t) (m * 2 ^ k.toNat) n else f.round (s != t) m (n * 2 ^ (-k).toNat)

/-- Strictly less; false when either side is not a number. -/
def fLt (f : Fmt) (a b : Nat) : Bool :=
  match f.val a, f.val b with
  | .nan, _ => false
  | _, .nan => false
  | .inf s, .inf t => s && !t
  | .inf s, .fin _ _ _ => s
  | .fin _ _ _, .inf t => !t
  | .fin s m e, .fin t n g =>
    let low := min e g
    decide (sInt s m * (2 ^ (e - low).toNat : Nat) < sInt t n * (2 ^ (g - low).toNat : Nat))

/-- Less or equal; false when either side is not a number. -/
def fLe (f : Fmt) (a b : Nat) : Bool :=
  match f.val a, f.val b with
  | .nan, _ => false
  | _, .nan => false
  | _, _ => !fLt f b a

/-- `floor` as an integer, 0 for what is not a number and for infinities. -/
def fFloor (f : Fmt) (a : Nat) : Int :=
  match f.val a with
  | .fin s m e =>
    if 0 ≤ e then sInt s m * (2 ^ e.toNat : Nat) else (sInt s m) / ((2 ^ (-e).toNat : Nat) : Int)
  | _ => 0

/-- Is the code not a number? -/
def fIsNan (f : Fmt) (a : Nat) : Bool := f.val a == .nan

/-- A code of one format in another. -/
def fConv (f g : Fmt) (a : Nat) : Nat :=
  match f.val a with
  | .nan => g.nan
  | .inf s => g.inf s
  | .fin s m e => g.roundExp s m e

/-- A quotient of natural numbers in binary32. -/
def q32 (n d : Nat) : Nat := f32.round false n d

/-- A quotient of an integer and a natural number in binary32. -/
def i32 (n : Int) (d : Nat) : Nat := f32.round (decide (n < 0)) n.natAbs d

/-- A decimal constant `n / 10,000` in binary32. -/
def c32 (n : Int) : Nat := i32 n 10000

/-- binary32 sum. -/
def add32 (a b : Nat) : Nat := fAdd f32 a b

/-- binary32 difference. -/
def sub32 (a b : Nat) : Nat := fSub f32 a b

/-- binary32 product. -/
def mul32 (a b : Nat) : Nat := fMul f32 a b

/-- binary32 quotient. -/
def div32 (a b : Nat) : Nat := fDiv f32 a b

/-- 1.0 in binary32. -/
def one32 : Nat := q32 1 1

/-- R197, R209: clamp to `0 .. hi`, with what is not a number taken as 0. -/
def clamp32 (hi a : Nat) : Nat :=
  if fIsNan f32 a then 0 else if fLe f32 a 0 then 0 else if fLt f32 hi a then hi else a

/-- The smaller of two numbers. -/
def min32 (a b : Nat) : Nat := if fLt f32 b a then b else a

/-- R197: a colour component rounded into the working space. -/
def toWork (a : Nat) : Nat := fConv f32 f16 (clamp32 (q32 65504 1) a)

/-- R197: an alpha rounded into the working space. -/
def toWorkAlpha (a : Nat) : Nat := fConv f32 f16 (clamp32 one32 a)

/-- A working-space component in binary32. -/
def ofWork (a : Nat) : Nat := fConv f16 f32 a

end Sys2Proof.Machine
end

