-- ==== Sys2Proof/Machine/Elementary.lean ====
section
/-! DEFINITION.  Powers, logarithms and the PQ and HLG curves of stages 5 and 8 (R201, R203, R211, R213): each is computed
    on fixed-point numbers of 192 fraction bits and rounded once to binary32. -/

namespace Sys2Proof.Machine

/-- 1.0 in fixed point.
    Log 63 (DESIGN CHOICE, safe). -/
def fxOne : Nat := 2 ^ 192

/-- A quotient in fixed point. -/
def fxRat (n d : Nat) : Nat := n * fxOne / d

/-- The product of two fixed-point numbers. -/
def fxMul (a b : Nat) : Nat := a * b / fxOne

/-- The sum of `term / (2 i + 1)` for `n` terms, each `z2` times the one before. -/
def atanhSum (z2 : Nat) : Nat → Nat → Nat → Nat
  | 0, _, _ => 0
  | n + 1, i, term => term / (2 * i + 1) + atanhSum z2 n (i + 1) (fxMul term z2)

/-- The natural logarithm of a number from 1 to 2. -/
def fxLnUnit (m : Nat) : Nat :=
  let z := (m - fxOne) * fxOne / (m + fxOne)
  2 * atanhSum (fxMul z z) 64 0 z

/-- ln 2. -/
def fxLn2 : Nat := fxLnUnit (2 * fxOne)

/-- The natural logarithm of a positive number. -/
def fxLn (x : Nat) : Int :=
  let k := ratLog2 x fxOne
  let m := if 0 ≤ k then x / 2 ^ k.toNat else x * 2 ^ (-k).toNat
  k * fxLn2 + fxLnUnit m

/-- The sum of `r ^ i / i!` from `term` on, `n` terms. -/
def expSum (r : Nat) : Nat → Nat → Nat → Nat
  | 0, _, _ => 0
  | n + 1, i, term => term + expSum r n (i + 1) (fxMul term r / i)

/-- The exponential. -/
def fxExp (y : Int) : Nat :=
  let k := y / fxLn2
  let e := expSum (y - k * fxLn2).toNat 64 1 fxOne
  if 0 ≤ k then e * 2 ^ k.toNat else e / 2 ^ (-k).toNat

/-- A power with the exponent `n / d`; 0 stays 0. -/
def fxPow (x n d : Nat) : Nat := if x = 0 then 0 else fxExp (fxLn x * n / d)

/-- The code of a fixed-point number. -/
def ofFx (neg : Bool) (x : Nat) : Nat := f32.round neg x fxOne

/-- A function on the non-negative finite numbers, by its codes; what is not a number stays so, and infinity gives
    infinity. -/
def fxMap (g : Nat → Nat) (a : Nat) : Nat :=
  match f32.val a with
  | .nan => f32.nan
  | .inf _ => f32.inf false
  | .fin _ m e => ofFx false (g (if 0 ≤ e then m * 2 ^ e.toNat * fxOne else m * fxOne / 2 ^ (-e).toNat))

/-- A power of a non-negative number with any exponent.
    Log 63 (DESIGN CHOICE, safe). -/
def pow32 (a b : Nat) : Nat :=
  match f32.val b with
  | .fin s m e =>
    let y : Int := sInt s (if 0 ≤ e then m * 2 ^ e.toNat * fxOne else m * fxOne / 2 ^ (-e).toNat)
    fxMap (fun x => if x = 0 then 0 else fxExp (fxLn x * y / fxOne)) a
  | _ => f32.nan

/-- R201: the decimal logarithm of a positive quotient.
    Log 63 (DESIGN CHOICE, safe). -/
def log10Rat (n d : Nat) : Nat :=
  let y := (fxLn (fxRat n d)) * fxOne / fxLn (10 * fxOne)
  ofFx (decide (y < 0)) y.natAbs

/-- R201: the PQ EOTF of SMPTE ST 2084 as a fraction of 10,000 cd/m².
    Log 63 (DESIGN CHOICE, safe). -/
def pq32 (a : Nat) : Nat :=
  fxMap (fun x =>
    let e := fxPow x 32 2523
    let den := fxRat 2413 128 - fxMul (fxRat 2392 128) e
    if den = 0 then 0 else fxPow ((e - fxRat 3424 4096) * fxOne / den) 16384 2610) a

/-- R203, R211, R213: its inverse.
    Log 63 (DESIGN CHOICE, safe). -/
def pqInv32 (a : Nat) : Nat :=
  fxMap (fun x =>
    let y := fxPow x 2610 16384
    fxPow ((fxRat 3424 4096 + fxMul (fxRat 2413 128) y) * fxOne / (fxOne + fxMul (fxRat 2392 128) y)) 2523 32) a

/-- R201: the constants a, b and c of the HLG curves (BT.2100). -/
def hlgA : Nat := fxRat 17883277 100000000

/-- b = 1 − 4 a. -/
def hlgB : Nat := fxOne - 4 * hlgA

/-- c = 0.5 − a ln(4 a). -/
def hlgC : Nat := ((fxOne / 2 : Nat) - (hlgA : Int) * fxLn (4 * hlgA) / fxOne).toNat

/-- R201: the HLG inverse OETF.
    Log 63 (DESIGN CHOICE, safe). -/
def hlgInv32 (a : Nat) : Nat :=
  fxMap (fun x =>
    if x ≤ fxOne / 2 then fxMul x x / 3
    else (fxExp (((x : Int) - hlgC) * fxOne / hlgA) + hlgB) / 12) a

/-- R213: the HLG OETF.
    Log 63 (DESIGN CHOICE, safe). -/
def hlgOetf32 (a : Nat) : Nat :=
  fxMap (fun x =>
    if x ≤ fxOne / 12 then fxPow (3 * x) 1 2
    else ((hlgA : Int) * fxLn (12 * x - hlgB) / fxOne + hlgC).toNat) a

end Sys2Proof.Machine
end

