-- ==== Sys2Proof/Machine/Colour.lean ====
section
/-! DEFINITION.  Stage 5 (colour conversion), stage 7 (blending) and stage 8 (the output stage) of the data path
    (R196 to R216).  Every binary32 operation is rounded on its own, in the order the rules write it. -/

namespace Sys2Proof.Machine

/-- Four floating-point codes: R, G, B and alpha. -/
structure Px4 where
  r : Nat
  g : Nat
  b : Nat
  a : Nat
  deriving DecidableEq, Repr

/-- Three binary32 components. -/
structure Rgb where
  r : Nat
  g : Nat
  b : Nat
  deriving DecidableEq, Repr

/-- Apply a function to the three components. -/
def Rgb.map (f : Nat → Nat) (p : Rgb) : Rgb := ⟨f p.r, f p.g, f p.b⟩

/-- One row of a matrix, terms added left to right. -/
def dot (x y z : Nat) (p : Rgb) : Nat := add32 (add32 (mul32 x p.r) (mul32 y p.g)) (mul32 z p.b)

/-- A matrix of nine binary32 coefficients, row by row. -/
def mat3 (m : List Nat) (p : Rgb) : Rgb :=
  let c := fun i => m.getD i 0
  ⟨dot (c 0) (c 1) (c 2) p, dot (c 3) (c 4) (c 5) p, dot (c 6) (c 7) (c 8) p⟩

/-- R225: a signed Q3.12 coefficient in binary32. -/
def coefQ (n : Nat) : Nat := i32 (toInt 16 n) 4096

/-- Luminance with the BT.2020 weights (R201, R203). -/
def lum2020 (p : Rgb) : Nat := dot (c32 2627) (c32 6780) (c32 593) p

/-- Luminance with the BT.709 weights (R201). -/
def lum709 (p : Rgb) : Nat := dot (c32 2126) (c32 7152) (c32 722) p

/-- R199: step 1 for a video layer. -/
def normVideo (matrix range : Nat) (p : Px) : Rgb :=
  if 2 ≤ matrix then ⟨i32 p.c0 4095, i32 p.c1 4095, i32 p.c2 4095⟩
  else if range = 0 then ⟨i32 (p.c0 - 256) 3504, i32 (p.c1 - 2048) 3584, i32 (p.c2 - 2048) 3584⟩
  else ⟨i32 p.c0 4095, i32 (p.c1 - 2048) 4095, i32 (p.c2 - 2048) 4095⟩

/-- R200: step 2, MATRIX 0 and 1. -/
def ycToRgb (kr kbg krg kb : Nat) (p : Rgb) : Rgb :=
  ⟨add32 p.r (mul32 kr p.b), sub32 (sub32 p.r (mul32 kbg p.g)) (mul32 krg p.b), add32 p.r (mul32 kb p.g)⟩

/-- R200: step 2 for a video layer. -/
def stepMatrix (v : View) (l : Nat) (p : Rgb) : Rgb :=
  match v.g (F.VL_CSC_CTRL_MATRIX.i l) with
  | 0 => ycToRgb (c32 15748) (c32 1873) (c32 4681) (c32 18556) p
  | 1 => ycToRgb (c32 14746) (c32 1646) (c32 5714) (c32 18814) p
  | 2 => p
  | _ =>
    let o := fun j => i32 (toInt 13 (v.g (F.VL_CSC_OFFSET_OFFSET.ij l j))) 4095
    mat3 ((List.range 9).map (fun k => coefQ (v.g (F.VL_CSC_COEF_COEF.ij l k))))
      ⟨sub32 p.r (o 0), sub32 p.g (o 1), sub32 p.b (o 2)⟩

/-- R199: step 1 for a graphic layer of packed format `f`. -/
def normGraphic (f : Nat) (p : Px) : Rgb :=
  match f with
  | 0x10 => ⟨i32 p.c0 31, i32 p.c1 63, i32 p.c2 31⟩
  | 0x13 => ⟨i32 p.c0 1023, i32 p.c1 1023, i32 p.c2 1023⟩
  | 0x14 => ⟨fConv f16 f32 p.c0.toNat, fConv f16 f32 p.c1.toNat, fConv f16 f32 p.c2.toNat⟩
  | _ => ⟨i32 p.c0 255, i32 p.c1 255, i32 p.c2 255⟩

/-- R199: a graphic layer's alpha. -/
def alphaGraphic (f : Nat) (p : Px) : Nat :=
  match f with
  | 0x12 => i32 p.a 255
  | 0x13 => i32 p.a 3
  | 0x14 => fConv f16 f32 p.a.toNat
  | _ => one32

/-- R198 step 3; `float` for PK64F under TF = linear. -/
def stepClamp (float : Bool) (p : Rgb) : Rgb :=
  if float then p.map (fun x => if fIsNan f32 x || fLe f32 x 0 then 0 else x) else p.map (clamp32 one32)

/-- R201: HLG_PEAK held to 100 to 10,000. -/
def peakOf (n : Nat) : Nat := max 100 (min 10000 n)

/-- R201: the HLG system gamma.
    Log 63 (DESIGN CHOICE, safe). -/
def hlgGamma (lw : Nat) : Nat := add32 (c32 12000) (mul32 (c32 4200) (log10Rat lw 1000))

/-- R201: the HLG OOTF on scene light, in working units. -/
def hlgOotf (lw : Nat) (y : Nat) (e : Rgb) : Rgb :=
  let k := mul32 (q32 lw 1) (pow32 y (sub32 (hlgGamma lw) one32))
  e.map (fun x => div32 (mul32 k x) (q32 203 1))

/-- R201: step 4. -/
def stepTf (tf prim peak : Nat) (p : Rgb) : Rgb :=
  match tf with
  | 0 => p.map (fun e => if fLe f32 e (i32 4045 100000) then div32 e (q32 1292 100)
      else pow32 (div32 (add32 e (q32 55 1000)) (q32 1055 1000)) (q32 24 10))
  | 1 => p.map (fun e => pow32 e (q32 24 10))
  | 2 => p.map (fun e => div32 (mul32 (pq32 e) (q32 10000 1)) (q32 203 1))
  | 3 =>
    let e := p.map hlgInv32
    hlgOotf (peakOf peak) (if prim = 1 then lum709 e else lum2020 e) e
  | _ => p

/-- R202: step 6. -/
def stepPrim (prim : Nat) (p : Rgb) : Rgb :=
  if prim = 1 then
    mat3 [c32 6274, c32 3293, c32 433, c32 691, c32 9195, c32 114, c32 164, c32 880, c32 8956] p
  else p

/-- R203: the peak of the working space, 10,000 / 203, as the rules round it. -/
def peak49 : Nat := q32 492611 10000

/-- R203: step 7 through a curve of 1,024 entries. -/
def toneMap (curve : List Nat) (p : Rgb) : Rgb :=
  let y := lum2020 p
  if fLe f32 y 0 && fLe f32 0 y then p
  else
    let pos := mul32 (pqInv32 (div32 (mul32 (min32 y peak49) (q32 203 1)) (q32 10000 1))) (q32 1023 1)
    let i := (fFloor f32 pos).toNat
    let fr := sub32 pos (q32 i 1)
    let e0 := q32 (curve.getD i 0) 1
    let e1 := q32 (curve.getD (if fr = 0 then i else i + 1) 0) 1
    let q := div32 (add32 e0 (mul32 fr (sub32 e1 e0))) (q32 65535 1)
    let yo := div32 (mul32 (pq32 q) (q32 10000 1)) (q32 203 1)
    let k := div32 yo y
    p.map (fun x => mul32 x k)

/-- R186: step 8. -/
def stepAlpha (alphaEn premult : Bool) (ga : Nat) (a : Nat) (p : Rgb) : Rgb × Nat :=
  let g := q32 ga 255
  if !alphaEn then (p.map (mul32 · g), g)
  else
    let ag := mul32 a g
    if premult then (p.map (mul32 · g), ag) else (p.map (mul32 · ag), ag)

/-- Stage 5 of a layer from step 3 on, to the working-space pixel (R198); `curve` when tone mapping acts. -/
def stage5 (v : View) (l : Nat) (float keyed : Bool) (curve : Option (List Nat)) (a : Nat) (p : Rgb) : Px4 :=
  let tf := v.g (lf F.VL_CSC_CTRL_TF F.GL_CSC_CTRL_TF l)
  let prim := v.g (lf F.VL_CSC_CTRL_PRIM F.GL_CSC_CTRL_PRIM l)
  let p := stepClamp (float && 4 ≤ tf) p
  let p := stepTf tf prim (v.g (lf F.VL_LUM_HLG_PEAK F.GL_LUM_HLG_PEAK l)) p
  let p := p.map (mul32 · (fConv f16 f32 (v.g (lf F.VL_LUM_LUM_GAIN F.GL_LUM_LUM_GAIN l))))
  let p := stepPrim prim p
  let p := match curve with
    | some c => toneMap c p
    | none => p
  let r := stepAlpha (v.on (lf F.VL_CTRL_ALPHA_EN F.GL_CTRL_ALPHA_EN l))
    (v.on (lf F.VL_CTRL_PREMULT F.GL_CTRL_PREMULT l)) (v.g (lf F.VL_ALPHA_GLOBAL_ALPHA F.GL_ALPHA_GLOBAL_ALPHA l)) a p
  if keyed then ⟨0, 0, 0, 0⟩ else ⟨toWork r.1.r, toWork r.1.g, toWork r.1.b, toWorkAlpha r.2⟩

/-- R198: a video layer's pixel in the working space. -/
def videoWork (v : View) (l : Nat) (curve : Option (List Nat)) (p : Px) : Px4 :=
  stage5 v l false false curve (i32 p.a 4095)
    (stepMatrix v l (normVideo (v.g (F.VL_CSC_CTRL_MATRIX.i l)) (v.g (F.VL_CSC_CTRL_RANGE.i l)) p))

/-- R198: a graphic layer's pixel in the working space. -/
def graphicWork (v : View) (l f : Nat) (curve : Option (List Nat)) (p : Px) (keyed : Bool) : Px4 :=
  stage5 v l (f == 0x14) keyed curve (alphaGraphic f p) (normGraphic f p)

/-- R207: one blend stage, source over destination. -/
def blendOver (src dst : Px4) : Px4 :=
  let k := sub32 one32 (ofWork src.a)
  let mix := fun s t => add32 (ofWork s) (mul32 (ofWork t) k)
  ⟨toWork (mix src.r dst.r), toWork (mix src.g dst.g), toWork (mix src.b dst.b), toWorkAlpha (mix src.a dst.a)⟩

/-- A transparent pixel. -/
def Px4.clear : Px4 := ⟨0, 0, 0, 0⟩

/-- R230: a working-space pixel as 64 bits. -/
def Px4.code (p : Px4) : Nat := p.r + p.g * 2 ^ 16 + p.b * 2 ^ 32 + p.a * 2 ^ 48

/-- R230: the working-space pixel of 64 bits. -/
def Px4.ofCode (n : Nat) : Px4 := ⟨bits n 0 16, bits n 16 16, bits n 32 16, bits n 48 16⟩

/-! ### The output stage -/

/-- R210: step 1. -/
def outMatrix (v : View) (p : Nat) (c : Rgb) : Rgb :=
  match v.g (F.PIPE_OUT_CTRL_MATRIX.i p) with
  | 1 => mat3 [c32 16605, c32 (-5876), c32 (-728), c32 (-1246), c32 11329, c32 (-83), c32 (-182), c32 (-1006),
      c32 11187] c
  | 2 => mat3 ((List.range 9).map (fun k => coefQ (v.g (F.PIPE_OUT_COEF_COEF.ij p k)))) c
  | _ => c

/-- R211: the entry of grid point (r, g, b) of a LUT, in binary32. -/
def lutEntry (lut : List Nat) (r g b : Nat) : Rgb :=
  let e := lut.getD (r + 33 * g + 1089 * b) 0
  ⟨ofWork (bits e 0 16), ofWork (bits e 16 16), ofWork (bits e 32 16)⟩

/-- A grid cell and the fraction inside it, the last cell at the upper end. -/
def gridCell (s : Nat) : Nat × Nat :=
  let x := mul32 s (q32 32 1)
  let i := min 31 (fFloor f32 x).toNat
  (i, sub32 x (q32 i 1))

/-- R211: tetrahedral interpolation between four corners, along the axes in falling order of their fractions.
    Log 38 (DESIGN CHOICE, unsafe). -/
def tetra (lut : List Nat) (x y z : Nat × Nat) : Rgb :=
  let at_ := fun (i j k : Nat) => lutEntry lut (x.1 + i) (y.1 + j) (z.1 + k)
  let walk := fun (a b c d : Rgb) (f1 f2 f3 : Nat) =>
    let one := fun (p0 p1 p2 p3 : Nat) =>
      add32 (add32 (add32 p0 (mul32 f1 (sub32 p1 p0))) (mul32 f2 (sub32 p2 p1))) (mul32 f3 (sub32 p3 p2))
    (⟨one a.r b.r c.r d.r, one a.g b.g c.g d.g, one a.b b.b c.b d.b⟩ : Rgb)
  let ge := fun (a b : Nat × Nat) => fLe f32 b.2 a.2
  if ge x y then
    if ge y z then walk (at_ 0 0 0) (at_ 1 0 0) (at_ 1 1 0) (at_ 1 1 1) x.2 y.2 z.2
    else if ge x z then walk (at_ 0 0 0) (at_ 1 0 0) (at_ 1 0 1) (at_ 1 1 1) x.2 z.2 y.2
    else walk (at_ 0 0 0) (at_ 0 0 1) (at_ 1 0 1) (at_ 1 1 1) z.2 x.2 y.2
  else if ge x z then walk (at_ 0 0 0) (at_ 0 1 0) (at_ 1 1 0) (at_ 1 1 1) y.2 x.2 z.2
  else if ge y z then walk (at_ 0 0 0) (at_ 0 1 0) (at_ 0 1 1) (at_ 1 1 1) y.2 z.2 x.2
  else walk (at_ 0 0 0) (at_ 0 0 1) (at_ 0 1 1) (at_ 1 1 1) z.2 y.2 x.2

/-- R211: step 3. -/
def shapeLut (lut : List Nat) (c : Rgb) : Rgb :=
  let s := c.map (fun x => pqInv32 (div32 (mul32 x (q32 203 1)) (q32 10000 1)))
  (tetra lut (gridCell s.r) (gridCell s.g) (gridCell s.b)).map (clamp32 (q32 65504 1))

/-- R213: step 4. -/
def oetf (v : View) (p : Nat) (c : Rgb) : Rgb :=
  let gain := fConv f16 f32 (v.g (F.PIPE_OUT_LEVEL_OUT_GAIN.i p))
  let sdr := fun (f : Nat → Nat) => c.map (fun x => f (min32 (mul32 x gain) one32))
  let e := match v.g (F.PIPE_OUT_CTRL_OETF.i p) with
    | 0 => sdr (fun x => if fLe f32 x (i32 31308 10000000) then mul32 (q32 1292 100) x
        else sub32 (mul32 (q32 1055 1000) (pow32 x (q32 10 24))) (q32 55 1000))
    | 1 => sdr (fun x => pow32 x (q32 10 24))
    | 2 => c.map (fun x => pqInv32 (div32 (mul32 x (q32 203 1)) (q32 10000 1)))
    | 3 =>
      let lw := peakOf (v.g (F.PIPE_OUT_LEVEL_HLG_PEAK.i p))
      let f := c.map (fun x => div32 (mul32 x (q32 203 1)) (q32 lw 1))
      let g := hlgGamma lw
      let y := lum2020 f
      let k := pow32 y (div32 (sub32 one32 g) g)
      f.map (fun x => if fLe f32 y 0 then hlgOetf32 0 else hlgOetf32 (mul32 x k))
    | _ => sdr id
  e.map (clamp32 one32)

/-- R214: Y', Cb', Cr' under the weights of YC_MATRIX. -/
def toYcc (yc : Bool) (c : Rgb) : Rgb :=
  let kr := if yc then c32 2627 else c32 2126
  let kg := if yc then c32 6780 else c32 7152
  let kb := if yc then c32 593 else c32 722
  let y := dot kr kg kb c
  let den := fun k => mul32 (q32 2 1) (sub32 one32 k)
  ⟨y, div32 (sub32 c.b y) (den kb), div32 (sub32 c.r y) (den kr)⟩

/-- R215: the dither matrix. -/
def ditherM (x y : Nat) : Nat :=
  ([0, 8, 2, 10, 12, 4, 14, 6, 3, 11, 1, 9, 15, 7, 13, 5] : List Nat).getD (y % 4 * 4 + x % 4) 0

/-- R215: the term t of a pixel; `f` is the swap count at the frame's opening swap point. -/
def ditherT (mode x y f : Nat) : Nat :=
  let t := fun x y => q32 (2 * ditherM x y + 1) 32
  match mode with
  | 1 => t x y
  | 2 => t (x + f % 4) (y + f / 4 % 4)
  | _ => q32 1 2

/-- R215: a port code of `bpc` bits. -/
def quant (bpc : Nat) (full chroma : Bool) (t v : Nat) : Nat :=
  let m := fun (n : Nat) => if bpc < 8 then q32 n (2 ^ (8 - bpc)) else q32 (n * 2 ^ (bpc - 8)) 1
  let s := if full then q32 (2 ^ bpc - 1) 1 else if chroma then m 224 else m 219
  let o := if full then (if chroma then q32 (2 ^ (bpc - 1)) 1 else 0) else if chroma then m 128 else m 16
  (clampInt 0 ((2 ^ bpc - 1 : Nat) : Int) (fFloor f32 (add32 (add32 (mul32 v s) o) t))).toNat

/-- R209 steps 1 to 4: a blended pixel to encoded R'G'B'; `lut` when the LUT acts.
    Log 38 (DESIGN CHOICE, unsafe). -/
def encoded (v : View) (p : Nat) (lut : Option (List Nat)) (w : Px4) : Rgb :=
  let c := outMatrix v p ⟨ofWork w.r, ofWork w.g, ofWork w.b⟩
  let c := c.map (clamp32 peak49)
  let c := match lut with
    | some t => shapeLut t c
    | none => c
  oetf v p c

/-- R215: bits per component of BPC. -/
def bpcBits (n : Nat) : Nat := 6 + 2 * n

/-- R209 steps 6 and 7 before the 4:2:2 mean: the three codes of one pixel.
    Log 61 (DESIGN CHOICE, safe). -/
def portCodes (v : View) (p x y f : Nat) (e : Rgb) : List Nat :=
  let enc := v.g (F.PIPE_OUT_CTRL_ENCODE.i p)
  let bpc := bpcBits (v.g (F.PIPE_OUT_CTRL_BPC.i p))
  let full := v.on (F.PIPE_OUT_CTRL_RANGE.i p)
  let t := ditherT (v.g (F.PIPE_OUT_CTRL_DITHER.i p)) x y f
  if enc = 1 ∨ enc = 2 then
    let c := toYcc (v.on (F.PIPE_OUT_CTRL_YC_MATRIX.i p)) e
    [quant bpc full false t c.r, quant bpc full true t c.g, quant bpc full true t c.b]
  else [quant bpc full false t e.r, quant bpc full false t e.g, quant bpc full false t e.b]

/-- R214: the mean of two chroma codes, rounded half up. -/
def chromaMean (a b : Nat) : Nat := (a + b + 1) / 2

/-- R214: the codes of a line as sent: pairs share their chroma under ENCODE = 2. -/
def lineCodes (enc : Nat) : List (List Nat) → List Nat
  | [] => []
  | [a] => if enc = 2 then [a.getD 0 0, a.getD 1 0] else a
  | a :: b :: t =>
    (if enc = 2 then
      [a.getD 0 0, chromaMean (a.getD 1 0) (b.getD 1 0), b.getD 0 0, chromaMean (a.getD 2 0) (b.getD 2 0)]
    else a ++ b) ++ lineCodes enc t

/-- The port codes of black (R67, R321): encoded 0 through steps 6 and 7. -/
def blackCodes (v : View) (p x y f : Nat) : List Nat := portCodes v p x y f ⟨0, 0, 0⟩

end Sys2Proof.Machine
end

