-- ==== Sys2Proof/Machine/Compose.lean ====
section
/-! DEFINITION.  What a frame shows: the pixels of layers and crust planes (R16, R230, R321), the blend (R206, R207),
    the port codes (R209) and the CRCs over them (R329, R330), with the mean luma (R340). -/

namespace Sys2Proof.Machine

/-- A curve or LUT RAM that was never loaded. -/
def dfltRam : Nat → List Nat := fun _ => []

/-- The frame pipe `p` is sending. -/
def Dev.frame (d : Dev) (p : Nat) : Frame := (d.pst p).frame

/-- Replace it. -/
def Dev.putFrame (d : Dev) (p : Nat) (f : Frame) : Dev := d.putPst p { d.pst p with frame := f }

/-- R203 to R205: the curve that acts on layer `l` in line `y` of a frame. -/
def Dev.curveOf (d : Dev) (v : View) (f : Frame) (l y : Nat) : Option (List Nat) :=
  if v.on (lf F.VL_CSC_CTRL_TM_EN F.GL_CSC_CTRL_TM_EN l) && !f.noTm.any (fun x => x.1 == l && decide (x.2 ≤ y)) then
    some (Tab.get dfltRam d.tmRam (2 * l + v.g (lf F.VL_CSC_CTRL_TM_RAM F.GL_CSC_CTRL_TM_RAM l)))
  else none

/-- R211, R212: the LUT that acts on pipe `p` in line `y` of a frame. -/
def Dev.lutOf (d : Dev) (v : View) (f : Frame) (p y : Nat) : Option (List Nat) :=
  if v.on (F.PIPE_OUT_CTRL_LUT_EN.i p) && !f.noLut.any (· ≤ y) then
    some (Tab.get dfltRam d.lutRam (2 * p + v.g (F.PIPE_OUT_CTRL_LUT_RAM.i p)))
  else none

/-- Opaque black. -/
def Px4.black : Px4 := ⟨0, 0, 0, toWorkAlpha one32⟩

/-- R142: layer `l` shows a protected surface.
    Log 45 (DESIGN CHOICE, unsafe). -/
def Dev.showsProt (d : Dev) (v : View) (l : Nat) : Bool :=
  let s := d.surfAt (lySid v l)
  lyEn v l && s.prot && s.st != .free

/-- R182: the swap guard has disabled layer `l` for the frame. -/
def Dev.guardOff (d : Dev) (l : Nat) : Bool := decide (l < 64) && d.fl (F.VL_FAULT_DISABLED.i l)

/-- R262: the device as layer `l` read it in a frame: eight bytes in error were read as 0x00. -/
def Dev.readBy (d : Dev) (f : Frame) (l : Nat) : Dev :=
  Dev.each (fun (z : Nat × Nat) d => if z.1 == l then d.store z.2 (List.replicate 8 0) else d) f.zeros d

/-- The working-space pixel of layer `l` at (x, y) of its unclipped destination, in line `ly` of its pipe. -/
def Dev.layerWork (d : Dev) (v : View) (e : Nat × Nat) (f : Frame) (l x y ly : Nat) : Px4 :=
  if l < 64 then videoWork v l (d.curveOf v f l ly) (videoPixel (d.readBy f l) v l (2 ^ e.1) (2 ^ e.2) x y)
  else
    let g := graphicPixel (d.readBy f l) v l x y
    graphicWork v l (d.surfAt (lySid v l)).fmt (d.curveOf v f l ly) g.1 g.2

/-- A layer at pixel (x, y) of its pipe: none outside its clipped destination, and none on a line that parity made
    transparent (R183, R266). -/
def Dev.layerAt (d : Dev) (v : View) (e : Nat × Nat) (f : Frame) (p l x y : Nat) : Option Px4 :=
  let c := clipDst v p l
  if d.layerEmpty v p l || f.clear.contains (l, y) || !(decide (c.x ≤ x) && decide ((x : Int) < c.x + c.w) && decide (c.y ≤ y)
      && decide ((y : Int) < c.y + c.h)) then none
  else if f.prot && d.showsProt v l then some Px4.black
  else some (d.layerWork v e f l (x - (dstRect v l).x).toNat (y - (dstRect v l).y).toNat y)

/-- R321: crust tile `t` of plane `q` is touched by the clipped destination of a protected member. -/
def Dev.protTile (d : Dev) (q t : Nat) : Bool :=
  (d.members q).any (fun l => d.showsProt d.acV l
    && (tilesUnder d.acV (planePipe q) (clipDst d.acV (planePipe q) l)).contains t)

/-- R249: tile `k` is shown as EMPTY in line `y`: from the line after the error was found, or from line 0 of a later
    frame. -/
def Dev.tileEmpty (d : Dev) (f : Frame) (k y : Nat) : Bool :=
  (d.tileAt k).invalid && f.empty.all (fun x => x.1 != k || decide (x.2 ≤ y))

/-- R229, R230, R249, R266: a pixel of a crust plane. -/
def Dev.crustAtPx (d : Dev) (f : Frame) (q x y : Nat) : Px4 :=
  let t := y / 64 * tileCols d.acV (planePipe q) + x / 64
  let e := d.tileAt (tileKey q t)
  if f.clear.contains (128 + q, y) then Px4.clear
  else if f.prot && d.protTile q t then Px4.black
  else if d.tileEmpty f (tileKey q t) y then Px4.clear
  else match e.shown.st with
    | .empty => Px4.clear
    | .uniform => Px4.ofCode e.shown.payload
    | _ => Px4.ofCode (e.shown.pix.getD (y % 64 * 64 + x % 64) 0)

/-- R206: the background of a pipe.
    Log 38 (DESIGN CHOICE, unsafe). -/
def bgPx (v : View) (p : Nat) : Px4 :=
  ⟨v.g (F.PIPE_BG_R.i p), v.g (F.PIPE_BG_G.i p), v.g (F.PIPE_BG_B.i p), toWorkAlpha one32⟩

/-- R206, R207: the blended pixel (x, y) of pipe `p`. -/
def Dev.blendAt (d : Dev) (f : Frame) (p x y : Nat) : Px4 :=
  let v := d.acV
  let b := if planeCharged v (2 * p) then blendOver (d.crustAtPx f (2 * p) x y) (bgPx v p) else bgPx v p
  let b := ((blendOrder v p).filter (fun l => d.live p l && !d.guardOff l)).foldl (fun b l =>
    match d.layerAt v (d.usedDecim l) f p l x y with
    | some s => blendOver s b
    | none => b) b
  if planeCharged v (2 * p + 1) then blendOver (d.crustAtPx f (2 * p + 1) x y) b else b

/-- R209: the encoded pixel E′ of pipe `p`. -/
def Dev.encodedAt (d : Dev) (f : Frame) (p x y : Nat) : Rgb :=
  encoded d.acV p (d.lutOf d.acV f p y) (d.blendAt f p x y)

/-- R209, R214: the codes of line `y` of pipe `p` as sent; `dark` for a black line. -/
def Dev.codesOfLine (d : Dev) (f : Frame) (dark : Bool) (p y : Nat) : List Nat :=
  let v := d.acV
  lineCodes (encodeOf v p) ((List.range (rasterOf v p).hact).map (fun x =>
    if dark then blackCodes v p x y f.count else portCodes v p x y f.count (d.encodedAt f p x y)))

/-- R330: a CRC-32 fed with 16-bit little-endian values. -/
def crcFeed (c : Nat) (vals : List Nat) : Nat :=
  vals.foldl (fun c n => Alg.crc32.byte (Alg.crc32.byte c (n % 256)) (n / 256 % 256)) c

/-- R330: the CRC-32 over a list of lists of values. -/
def crc16s (ls : List (List Nat)) : Nat := ls.foldl crcFeed Alg.crc32.init ^^^ Alg.crc32.fin

/-- The line from which a frame is sent black: line 0 of a black frame and in safe black, or the line an underrun, a
    parity mismatch or a replay abort gives. -/
def Frame.darkFrom (f : Frame) : Option Nat := if f.blanked || f.black then some 0 else f.blackFrom

/-- Line `y` of a frame is sent black. -/
def Frame.dark (f : Frame) (y : Nat) : Bool := f.darkFrom.any (· ≤ y)

/-- R67, R283, R313: the codes of line `y` of pipe `p` as sent: black, replayed or composed. -/
def Dev.sentLine (d : Dev) (f : Frame) (p y : Nat) : List Nat :=
  if !f.dark y && f.replay then ((d.pst p).replayCodes.getD []).getD y [] else d.codesOfLine f (f.dark y) p y

/-- R284: the lines of a frame that are sent. -/
def Dev.linesSent (d : Dev) (f : Frame) (p : Nat) : Nat := min (f.cut.getD (rasterOf d.acV p).vact) (rasterOf d.acV p).vact

/-- The codes of a frame as sent, line by line. -/
def Dev.sentCodes (d : Dev) (f : Frame) (p : Nat) : List (List Nat) :=
  (List.range (d.linesSent f p)).map (d.sentLine f p)

/-- Line `y` of a frame shows a picture no rule gives: a surface was written while it was shown, or the line was read in
    error. -/
def Dev.openLine (d : Dev) (f : Frame) (p y : Nat) : Bool :=
  !f.dark y && (if f.replay then (d.pst p).replayCodes.isNone else f.openLines.contains y || d.dirty.any (d.live p))

/-- Such a line is sent. -/
def Dev.openPicture (d : Dev) (f : Frame) (p : Nat) : Bool := (List.range (d.linesSent f p)).any (d.openLine f p)

/-- R329, R330: the frame signature: every active pixel the port is sent.
    Log 61 (DESIGN CHOICE, safe). -/
def Dev.frameCrc (d : Dev) (f : Frame) (p : Nat) : Nat := crc16s (d.sentCodes f p)

/-- R172, R330: a component that leaves stage 3 as a 12-bit value; for one that the horizontal bypass let pass outside the
    12 bits the spec states none. -/
def twelve (x : Int) : Nat := if 0 ≤ x ∧ x ≤ 4095 then x.toNat else Config.wide12 x % 4096

/-- R330: the four values a layer's CRC takes for pixel (x, y) of its unclipped destination. -/
def Dev.layerVals (d : Dev) (f : Frame) (l x y : Nat) : List Nat :=
  let v := d.acV
  let d := d.readBy f l
  if l < 64 then
    let e := d.usedDecim l
    let p := videoPixel d v l (2 ^ e.1) (2 ^ e.2) x y
    [twelve p.c0, twelve p.c1, twelve p.c2, twelve p.a]
  else
    let g := graphicPixel d v l x y
    let fmt := (d.surfAt (lySid v l)).fmt
    let a := if within 0x12 0x14 fmt then g.1.a.toNat else 0xFFFF
    if g.2 then [0, 0, 0, 0] else [g.1.c0.toNat, g.1.c1.toNat, g.1.c2.toNat, a]

/-- The pixels of a layer's clipped destination, line by line, as coordinates of its unclipped destination. -/
def clipPixels (v : View) (p l : Nat) : List (List (Nat × Nat)) :=
  let c := clipDst v p l
  let t := dstRect v l
  (List.range c.h).map (fun (j : Nat) => (List.range c.w).map (fun (i : Nat) =>
    ((c.x + (i : Nat) - t.x).toNat, (c.y + (j : Nat) - t.y).toNat)))

/-- R329: the layer signature. -/
def Dev.layerCrc (d : Dev) (p l : Nat) : Nat :=
  crc16s ((clipPixels d.acV p l).map (fun row => row.flatMap (fun q => d.layerVals (d.frame p) l q.1 q.2)))

/-- R340: the mean luma of a video layer. -/
def Dev.lumaMean (d : Dev) (p l : Nat) : Nat :=
  let v := d.acV
  let packed := fmtPacked (d.surfAt (lySid v l)).fmt
  let luma := fun (c : List Nat) =>
    if v.g (F.VL_CSC_CTRL_MATRIX.i l) ≤ 1 ∧ !packed then c.getD 0 0
    else (2126 * c.getD 0 0 + 7152 * c.getD 1 0 + 722 * c.getD 2 0 + 5000) / 10000
  let px := (clipPixels v p l).flatMap id
  if px.isEmpty then 0 else sumOf (fun q => luma (d.layerVals (d.frame p) l q.1 q.2)) px / px.length

end Sys2Proof.Machine
end

