-- ==== Sys2Proof/Machine/Signature.lean ====
section
/-! DEFINITION.  Signatures: publication into the history (R331 to R334), the Stale, black and output-stale detectors
    (R337 to R341), their reporting (R342) and clearing (R336, R343), and snapshots (R335). -/

namespace Sys2Proof.Machine

/-- R333: the cause bits. -/
inductive Cause where
  | underrun | safeBlack | layerFault | data | crust | ram | replayAbort
  deriving DecidableEq, Repr

/-- R346: the bit of a cause in CAUSE. -/
def Cause.bit : Cause → Nat
  | .underrun => 1 | .safeBlack => 2 | .layerFault => 4 | .data => 8 | .crust => 16 | .ram => 32 | .replayAbort => 64

/-- A cause on the frame entry. -/
def Frame.causeF (f : Frame) (c : Cause) : Frame := { f with cause := f.cause ||| c.bit }

/-- A cause on a layer's entry. -/
def Frame.causeL (f : Frame) (l : Nat) (c : Cause) : Frame :=
  { f with layerCause := Tab.put (fun _ => 0) f.layerCause l (Tab.get (fun _ => 0) f.layerCause l ||| c.bit) }

/-- The frame is sent black from line `y` on, or from the earlier line it is black from already. -/
def Frame.blackOn (f : Frame) (y : Nat) : Frame := { f with blackFrom := some (min (f.blackFrom.getD y) y) }

/-- R333: an event of pipe `p`'s frame with the layers it marks and what it does to the picture.
    Log 46 (DESIGN CHOICE, unsafe). -/
def Dev.mark (d : Dev) (p : Nat) (c : Cause) (ls : List Nat) (g : Frame → Frame := id) : Dev :=
  let f := d.frame p
  if f.live then d.putFrame p (g (ls.foldl (fun f l => f.causeL l c) (f.causeF c))) else d

/-- The line of pipe `p` that starts next when an event of no given line is found. -/
def Dev.nextLine (d : Dev) (p : Nat) : Nat × Dev :=
  let r := d.draw
  (r.1 % ((rasterOf d.acV p).vact + 1), r.2)

/-- The history key of a layer. -/
def histKey (l : Nat) : Nat := 128 + l

/-- No history. -/
def dfltHist : Nat → List SigEntry := fun _ => []

/-- R334: the entries of a key, newest first. -/
def Dev.history (d : Dev) (k : Nat) : List SigEntry := Tab.get dfltHist d.hist k

/-- R334: an entry is published. -/
def Dev.publish (d : Dev) (k : Nat) (e : SigEntry) : Dev :=
  { d with hist := Tab.put dfltHist d.hist k (e :: (d.history k).take 2) }

/-- R332, R346: the flags of an entry. -/
def sigFlags (cause : Nat) (torn replay blanked prot empty notSent : Bool) : Nat :=
  cause + b2n notSent * 2 ^ 9 + b2n empty * 2 ^ 10 + b2n prot * 2 ^ 11 + b2n blanked * 2 ^ 12 + b2n replay * 2 ^ 13
    + b2n torn * 2 ^ 14 + b2n (cause != 0) * 2 ^ 15

/-- INVALID of an entry. -/
def SigEntry.invalid (e : SigEntry) : Bool := bit e.flags 15

/-- TORN of an entry. -/
def SigEntry.torn (e : SigEntry) : Bool := bit e.flags 14

/-- EMPTY of an entry. -/
def SigEntry.empty (e : SigEntry) : Bool := bit e.flags 10

/-- R342: a rise is kept for the next tick. -/
def Dev.rise (d : Dev) (kind index sid count : Nat) : Dev := { d with rises := d.rises ++ [⟨kind, index, sid, count⟩] }

/-- R337 to R339: the Stale detector at a publication; `flip` when this entry is the first after a flip. -/
def Dev.staleStep (d : Dev) (l : Nat) (e : SigEntry) (flip : Bool) : Dev :=
  let skip := e.invalid || e.torn || e.empty
  let d1 :=
    if !flip || skip then d
    else if Tab.get (fun _ => none) d.refs l == some e.value then d.incSat (F.SIG_VL_STATUS_STALE_RUN.i l)
    else
      { d with refs := Tab.put (fun _ => none) d.refs l (some e.value) }.dn (F.SIG_VL_STATUS_STALE_RUN.i l)
        |>.dn (F.SIG_VL_STATUS_STALE_ACTIVE.i l)
  let n := d1.rg (F.SIG_VL_CFG_STALE_FRAMES.i l)
  if n != 0 && decide (n ≤ d1.rg (F.SIG_VL_STATUS_STALE_RUN.i l)) && !d1.fl (F.SIG_VL_STATUS_STALE_ACTIVE.i l) then
    (d1.up (F.SIG_VL_STATUS_STALE_ACTIVE.i l)).rise 0 l (lySid d1.acV l) e.count
  else d1

/-- R340: the black detector at a publication of an entry with the given mean. -/
def Dev.blackStep (d : Dev) (l : Nat) (e : SigEntry) (mean : Nat) : Dev :=
  let d1 :=
    if e.invalid || e.torn || e.empty then d
    else
      let d := d.sg (F.SIG_VL_LUMA_MEAN.i l) mean
      if mean < d.rg (F.SIG_VL_CFG_BLACK_LEVEL.i l) then d.incSat (F.SIG_VL_STATUS_BLACK_RUN.i l)
      else (d.dn (F.SIG_VL_STATUS_BLACK_RUN.i l)).dn (F.SIG_VL_STATUS_BLACK_ACTIVE.i l)
  let n := d1.rg (F.SIG_VL_CFG_BLACK_FRAMES.i l)
  if n != 0 && decide (n ≤ d1.rg (F.SIG_VL_STATUS_BLACK_RUN.i l)) && !d1.fl (F.SIG_VL_STATUS_BLACK_ACTIVE.i l) then
    (d1.up (F.SIG_VL_STATUS_BLACK_ACTIVE.i l)).rise 1 l (lySid d1.acV l) e.count
  else d1

/-- R332: the value a NOT_SENT entry repeats; the spec states none where there is no previous entry. -/
def Dev.repeated (d : Dev) (k : Nat) : Nat × Dev :=
  match d.history k with
  | e :: _ => (e.value, d)
  | [] => (d.draw.1 % 2 ^ 32, d.draw.2)

/-- R331, R334: the entry of layer `l` of pipe `p` for the ending frame, and the detectors.
    Log 46 (DESIGN CHOICE, unsafe). -/
def Dev.publishLayer (d : Dev) (p l : Nat) : Dev :=
  let f := d.frame p
  let cause := Tab.get (fun _ => 0) f.layerCause l
  let torn := f.torn.contains (lySid d.acV l)
  let empty := d.layerEmpty d.acV p l
  let off := d.guardOff l
  let prot := f.prot && !f.black && !off && !empty && d.showsProt d.acV l
  let free := d.dirty.contains l || f.darkFrom.isSome || f.cut.isSome || f.clear.any (·.1 == l)
  let r : Nat × Dev :=
    if off || empty then (0, d)
    else if f.notSent then d.repeated (histKey l)
    else if free then (d.draw.1 % 2 ^ 32, d.draw.2) else (d.layerCrc p l, d)
  let e : SigEntry := ⟨r.1, sigFlags (if off then Cause.layerFault.bit ||| cause else cause) torn false false prot
    (empty && !off) f.notSent, f.count⟩
  let d1 := r.2.publish (histKey l) e
  if l < 64 then
    let flip := f.flips.contains l || d1.flipCarry.contains l
    let d2 := { d1 with flipCarry := d1.flipCarry.filter (· != l) }.staleStep l e flip
    let m : Nat × Dev := if free then (d2.draw.1 % 4096, d2.draw.2) else (d2.lumaMean p l, d2)
    m.2.blackStep l e m.1
  else d1

/-- R341: the output-stale alarm at a publication of a frame entry. -/
def Dev.outStep (d : Dev) (p : Nat) (e : SigEntry) : Dev :=
  let skip := e.invalid || bit e.flags 12 || bit e.flags 9
  let x := d.pst p
  let d1 :=
    if skip then d
    else if x.outRef == some e.value then
      (d.putPst p { x with runFlip := x.runFlip || !x.frame.flips.isEmpty }).incSat (F.SIG_PIPE_STATUS_OUT_RUN.i p)
    else
      ((d.putPst p { x with runFlip := false, outRef := some e.value }).dn (F.SIG_PIPE_STATUS_OUT_RUN.i p)).dn
        (F.SIG_PIPE_STATUS_OUTPUT_STALE_ACTIVE.i p)
  let n := d1.rg (F.SIG_PIPE_CFG_OUT_STALE_FRAMES.i p)
  if n != 0 && decide (n ≤ d1.rg (F.SIG_PIPE_STATUS_OUT_RUN.i p)) && (d1.pst p).runFlip
      && !d1.fl (F.SIG_PIPE_STATUS_OUTPUT_STALE_ACTIVE.i p) then
    (d1.up (F.SIG_PIPE_STATUS_OUTPUT_STALE_ACTIVE.i p)).rise 2 p 0 e.count
  else d1

/-- R329, R330, R332: the value of the frame signature: over the lines as sent, repeated, or free when a line shows a
    picture no rule gives; a frame replayed as captured has the captured frame's value.
    Log 46 (DESIGN CHOICE, unsafe). -/
def Dev.frameValue (d : Dev) (p : Nat) : Nat × Dev :=
  let f := d.frame p
  if f.notSent then d.repeated p
  else if !d.openPicture f p then (d.frameCrc f p, d)
  else if f.replay && f.darkFrom.isNone then ((d.pst p).replayVal, d)
  else (d.draw.1 % 2 ^ 32, d.draw.2)

/-- R313: what the replay region holds after the ending frame: a frame that is not itself replayed leaves its value and
    its codes. -/
def Dev.captured (d : Dev) (p val : Nat) : PipeSt :=
  let x := d.pst p
  if x.frame.replay then x
  else { x with replayVal := val, replayCodes := if d.openPicture x.frame p then none else some (d.sentCodes x.frame p) }

/-- R321, R332: a composed frame showed protected content as black: of a live layer, or of a crust tile under a protected
    member. -/
def Dev.protBlack (d : Dev) (f : Frame) (p : Nat) : Bool :=
  f.prot && !f.blanked && !f.black && !f.replay
    && (layersOf d.acV p).any (fun l => d.showsProt d.acV l && !d.guardOff l && !d.layerEmpty d.acV p l)

/-- R331 to R334: at the swap point that ends a frame, its entries are published and compared.
    Log 46 (DESIGN CHOICE, unsafe). -/
def Dev.publishFrame (d : Dev) (p : Nat) : Dev :=
  let f := d.frame p
  if !f.live then d
  else
    let ls := (layersOf d.acV p).filter (fun l => d.member l == 0)
    let torn := (layersOf d.acV p).any (fun l => f.torn.contains (lySid d.acV l))
    let d1 := if f.blanked || f.replay then
        { d with flipCarry := (d.flipCarry ++ f.flips.filter (· < 64)).eraseDups }
      else Dev.each (fun l d => d.publishLayer p l) ls d
    let r := d1.frameValue p
    let e : SigEntry := ⟨r.1, sigFlags f.cause torn f.replay f.blanked (d.protBlack f p) false f.notSent, f.count⟩
    let d2 := (r.2.publish p e).outStep p e
    let d3 := if e.invalid then d2.incSat (F.SIG_PIPE_COUNTS_INVALID_FRAMES.i p) else d2
    let d4 := if torn then d3.incSat (F.SIG_PIPE_COUNTS_TORN_FRAMES.i p) else d3
    d4.putPst p (d4.captured p r.1)

/-- R342: the Stale bookkeeping of a tick. -/
def Dev.staleBook (d : Dev) : Dev :=
  { Dev.each (fun (r : Rise) d =>
      let flag := match r.kind with
        | 0 => F.SIG_VL_STATUS_STALE.i r.index
        | 1 => F.SIG_VL_STATUS_BLACK.i r.index
        | _ => F.SIG_PIPE_STATUS_OUTPUT_STALE.i r.index
      ((d.up flag).attn .stale).logMore 3 4 1 (r.kind * 2 ^ 30 + r.index * 2 ^ 24 + r.count % 2 ^ 24) [r.sid]) d.rises d with
    rises := [] }

/-- R343: the output-stale state of a pipe clears. -/
def Dev.clearOutRun (d : Dev) (p : Nat) : Dev :=
  ((d.putPst p { d.pst p with runFlip := false }).dn (F.SIG_PIPE_STATUS_OUT_RUN.i p)).dn
    (F.SIG_PIPE_STATUS_OUTPUT_STALE_ACTIVE.i p)

/-- R336: the history of a key clears. -/
def Dev.clearHist (d : Dev) (k : Nat) : Dev := { d with hist := Tab.put dfltHist d.hist k [] }

/-- R346: entry `k` of a snapshot as the snapshot registers show it. -/
def Dev.showEntry (d : Dev) (q : Rq) (k : Nat) (e : Option SigEntry) : Dev :=
  let x := match e with
    | some e => e
    | none => ⟨0, 0, 0⟩
  ((d.sgWord (rqKey q (0xA0010 + 16 * k)) (BitVec.ofNat 32 x.value)).sgWord (rqKey q (0xA0014 + 16 * k))
    (BitVec.ofNat 32 x.count)).sgWord (rqKey q (0xA0018 + 16 * k)) (BitVec.ofNat 32 (x.flags + b2n e.isSome * 2 ^ 31))

/-- SIG_SNAP_SEL_WRITE (R335): KIND and INDEX are stored; a named target's three entries are copied. -/
def sigSnapSelWrite (q : Rq) (w : Word) (d : Dev) : Dev :=
  let v : View := fun _ => w
  let kind := v.g F.SIG_SNAP_SEL_KIND
  let ix := v.g F.SIG_SNAP_SEL_INDEX
  let key := match kind with
    | 0 => if ix < 4 then some ix else none
    | 1 => if ix < 64 then some (128 + ix) else none
    | 2 => if ix < 64 then some (192 + ix) else none
    | _ => none
  let d1 := (d.sg (F.SIG_SNAP_SEL_KIND.rq q) kind).sg (F.SIG_SNAP_SEL_INDEX.rq q) ix
  match key with
  | some k =>
    let h := d1.history k
    ((((d1.showEntry q 0 h[0]?).showEntry q 1 h[1]?).showEntry q 2 h[2]?)).up (F.SIG_SNAP_SEL_VALID.rq q)
  | none => d1.dn (F.SIG_SNAP_SEL_VALID.rq q)

end Sys2Proof.Machine
end

