-- ==== Sys2Proof/Machine/Crust.lean ====
section
/-! DEFINITION.  The crust composer: flatten items (R233, R234, R240, R242), versions and when they appear (R245 to
    R248), dissolution (R239, R251), tile faults (R249, R250), hints (R241) and tile snapshots (R255). -/

namespace Sys2Proof.Machine

/-! ### What the registers show -/

/-- The tile-table entries of plane `q` that its grid uses. -/
def Dev.planeTiles (d : Dev) (q : Nat) : Tab Tile :=
  Tab.keep (fun k => decide (q * 8192 ≤ k) && decide (k < q * 8192 + min 8192 (tileCount d.acV (planePipe q)))) d.tiles

/-- R230: the peak line cost of a plane whose tile `t` has state `st t`. -/
def peakCost (cols rows : Nat) (st : Nat → TileSt) : Nat :=
  maxOf (fun r => sumOf (fun c => (st (r * cols + c)).cost) (List.range cols)) (List.range rows)

/-- R256: the tile counts, the peak cost and the member count of the visible version of plane `q`. -/
def Dev.planeShow (d : Dev) (q : Nat) : Dev :=
  let ts := d.planeTiles q
  let n := fun (s : TileSt) => countP (fun e => e.2.shown.st == s) ts
  let p := planePipe q
  let empty := min 8192 (tileCount d.acV p) - n .uniform - n .compressed - n .raw
  let peak := peakCost (tileCols d.acV p) (tileRows d.acV p) (fun t => (d.tileAt (tileKey q t)).shown.st)
  ((((d.sg (F.CRUST_TILES_A_UNIFORM.i q) (n .uniform)).sg (F.CRUST_TILES_A_EMPTY.i q) empty).sg
    (F.CRUST_TILES_B_RAW.i q) (n .raw)).sg (F.CRUST_TILES_B_COMPRESSED.i q) (n .compressed)).sg
    (F.CRUST_RUN_PEAK.i q) peak |>.sg (F.CRUST_RUN_MEMBERS.i q) (d.members q).length

/-- R248, R254: the units of the store in use: by a version of a tile, or by a replaced one that has not drained. -/
def Dev.usedUnits (d : Dev) : List Nat :=
  (d.tiles.flatMap (fun e => e.2.v0.unitList ++ e.2.v1.unitList) ++ d.crust.flatMap (fun e => e.2.draining)).eraseDups

/-- R254: the units of the store not in use. -/
def Dev.storeFree (d : Dev) : Nat :=
  d.rg F.CRUST_STORE_UNITS_UNITS - countP (fun u => decide (u < d.rg F.CRUST_STORE_UNITS_UNITS)) d.usedUnits

/-- R248: where a slot of `n` consecutive free units can begin. -/
def Dev.slots (d : Dev) (n : Nat) : List Nat :=
  let used := d.usedUnits
  (List.range (d.rg F.CRUST_STORE_UNITS_UNITS + 1 - n)).filter (fun u => (List.range n).all (fun i => !used.contains (u + i)))

/-- R254: CRUST_STORE_FREE.
    Log 41 (DESIGN CHOICE, unsafe). -/
def Dev.storeShow (d : Dev) : Dev := d.sg F.CRUST_STORE_FREE_FREE d.storeFree

/-- R257: TOO_LARGE and READY of a pipe.
    Log 41 (DESIGN CHOICE, unsafe). -/
def Dev.crustShow (d : Dev) (p : Nat) : Dev :=
  (d.largeShow p).sg (F.CRUST_PIPE_STATUS_READY.i p) (b2n (d.crustAt p).ready.isSome)

/-! ### Flatten items -/

/-- R237: the values a crust hold of pipe `p` holds. -/
def Dev.heldSnaps (d : Dev) (p : Nat) : List Snap :=
  if d.fl (F.CRUST_PIPE_STATUS_HOLD.i p) then d.armed.filter (fun s => (d.snapPipes s).contains p) else []

/-- R233: the banked words a new version will show: the active banks with held values. -/
def Dev.versionCfg (d : Dev) (held : List Snap) : Tab Word :=
  held.foldl (fun t s => blkReplace s.id s.vals t) d.active

/-- A version's words as a view. -/
def cfgV (t : Tab Word) : View := Tab.get dfltB t

/-- The damaged tiles of a pipe's planes, by table index. -/
def Dev.damaged (d : Dev) (p : Nat) : List Nat :=
  ((d.planeTiles (2 * p) ++ d.planeTiles (2 * p + 1)).filter (fun e => e.2.damage)).map (·.1)

/-- R236, R240: the change is one of the blend order between a member and another layer, or of the plane's register. -/
def Dev.wholePlane (d : Dev) (v : View) (q : Nat) : Bool :=
  let b := d.builtV (planePipe q)
  let ob := blendOrder b (planePipe q)
  let on := blendOrder v (planePipe q)
  v (F.CRUST_CTRL_EN.i q).off != b (F.CRUST_CTRL_EN.i q).off
    || (d.members q).any (fun m => on.any (fun x => !sameOrder ob on m x))

/-- R240: the tiles of plane `q` a version recomposes when `ms` are its members; `dam` is the damage taken. -/
def Dev.tilesFor (d : Dev) (v : View) (q : Nat) (dam ms : List Nat) : List Nat :=
  let p := planePipe q
  let b := d.builtV p
  let old := d.members q
  let all := List.range (min 8192 (tileCount v p))
  if d.wholePlane v q then all
  else
    let under := fun (w : View) (l : Nat) => tilesUnder v p (clipDst w p l)
    let moved := (ms.filter (fun l => !old.contains l)).flatMap (under v)
      ++ (old.filter (fun l => !ms.contains l)).flatMap (under b)
      ++ (ms.filter (fun l => old.contains l && !sameLayer v b l)).flatMap (fun l => under v l ++ under b l)
    all.filter (fun t => dam.contains (tileKey q t) || moved.contains t)

/-- R204: a layer names a curve RAM that is not VALID. -/
def Dev.noCurve (d : Dev) (v : View) (l : Nat) : Bool :=
  let ram := v.g (lf F.VL_CSC_CTRL_TM_RAM F.GL_CSC_CTRL_TM_RAM l)
  v.on (lf F.VL_CSC_CTRL_TM_EN F.GL_CSC_CTRL_TM_EN l)
    && d.rg (if ram = 0 then lf F.VL_TM_STATUS_RAM0_STATE F.GL_TM_STATUS_RAM0_STATE l
      else lf F.VL_TM_STATUS_RAM1_STATE F.GL_TM_STATUS_RAM1_STATE l) != 2

/-- R242: the pixels of tile `t`, 64 lines of 64; a pixel outside the active area is none. -/
def Dev.composeTile (d : Dev) (v : View) (p : Nat) (ms : List Nat) (t : Nat) : List (List (Option Nat)) :=
  let f : Frame := { noTm := (ms.filter (d.noCurve v)).map (fun l => (l, 0)) }
  let r := rasterOf v p
  let x0 := t % tileCols v p * 64
  let y0 := t / tileCols v p * 64
  (List.range 64).map (fun j => (List.range 64).map (fun i =>
    if r.hact ≤ x0 + i ∨ r.vact ≤ y0 + j then none
    else some ((ms.foldl (fun b l => match d.layerAt v (d.usedDecim l) f p l (x0 + i) (y0 + j) with
      | some s => blendOver s b
      | none => b) Px4.clear).code)))

/-- R230: the first state that fits the pixels, with its payload; units are allocated later. -/
def classify (px : List (List (Option Nat))) : TileVer :=
  let ins := (px.flatMap id).filterMap id
  let first := ins.head?.getD 0
  let codes := px.flatMap (fun row => row.map (·.getD 0))
  if ins.all (· == 0) then {}
  else if ins.all (· == first) then ⟨.uniform, first, []⟩
  else if px.all (fun row => (row.filterMap id).isEmpty || Config.lineFits (row.filterMap id)) then ⟨.compressed, 0, codes⟩
  else ⟨.raw, 0, codes⟩

/-- R242: the tile signature. -/
def tileSig (px : List (List (Option Nat))) : Nat :=
  Alg.crc16.crc (px.flatMap (fun row => row.flatMap (fun c => leBytes 8 (c.getD 0))))

/-- One recomposed tile: its index, its new version, its signature, and whether it is skipped. -/
structure Recomposed where
  t : Nat
  ver : TileVer
  sig : Nat
  skip : Bool

/-- R242: every tile of a list is recomposed. -/
def Dev.recompose (d : Dev) (it : CrustItem) (q : Nat) (ms ts : List Nat) : List Recomposed :=
  let p := planePipe q
  ts.map (fun t =>
    let px := d.composeTile (cfgV it.cfg) p ms t
    let e := d.tileAt (tileKey q t)
    let s := tileSig px
    ⟨t, classify px, s, d.fl (F.CRUST_PIPE_CFG_SIG_SKIP.i p) && !e.invalid && !it.force.contains (tileKey q t)
      && s == e.sig⟩)

/-- R234: the peak line cost of a plane with recomposed tiles. -/
def Dev.newPeak (d : Dev) (v : View) (q : Nat) (rs : List Recomposed) : Nat :=
  peakCost (tileCols v (planePipe q)) (tileRows v (planePipe q)) (fun t =>
    match firstWith (fun (r : Recomposed) => r.t == t && !r.skip) rs with
    | some r => r.ver.st
    | none => (d.tileAt (tileKey q t)).shown.st)

/-- R234: the innermost layer of a run that may be removed. -/
def Dev.removable (d : Dev) (charged : Bool) (q : Nat) (ms : List Nat) : Option Nat :=
  firstWith (fun l => charged || d.member l != q % 2 + 1) (if q % 2 = 0 then ms.reverse else ms)

/-- A plane of a new version: its members, its recomposed tiles, whether it fits, and whether a layer was removed. -/
structure PlaneBuilt where
  members : List Nat
  tiles : List Recomposed
  fits : Bool
  limited : Bool

/-- R234: layers are removed until the plane fits; `n` bounds the removals.
    Log 41 (DESIGN CHOICE, unsafe). -/
def Dev.buildPlane (d : Dev) (it : CrustItem) (charged : Bool) (q : Nat) : Nat → List Nat → Bool → PlaneBuilt
  | 0, ms, lim => ⟨ms, [], false, lim⟩
  | n + 1, ms, lim =>
    let v := cfgV it.cfg
    let rs := d.recompose it q ms (d.tilesFor v q it.damage ms)
    if d.newPeak v q rs ≤ planeAlloc v q then ⟨ms, rs, true, lim⟩
    else match d.removable charged q ms with
      | some l => Dev.buildPlane d it charged q n (ms.filter (· != l)) true
      | none => ⟨ms, rs, false, true⟩

/-- R233, R240: the item of pipe `p` that starts now, if there is work for one. -/
def Dev.newItem (d : Dev) (p : Nat) : Option CrustItem :=
  let held := d.heldSnaps p
  let cfg := d.versionCfg held
  let v := cfgV cfg
  let r := d.runs v p
  let dam := d.damaged p
  let it : CrustItem :=
    { cfg := cfg, held := held, under := r.1, top := r.2, damage := dam,
      force := dam.filter (fun k => (d.tileAt k).force), inv := dam.filter (fun k => (d.tileAt k).invalid) }
  let work := !held.isEmpty || !(d.tilesFor v (2 * p) dam r.1).isEmpty || !(d.tilesFor v (2 * p + 1) dam r.2).isEmpty
    || r.1 != d.members (2 * p) || r.2 != d.members (2 * p + 1)
  if work then some it else none

/-- R26, R27, R240, R246: at a tick a flatten item of pipe `p` starts, unless one runs or a ready version waits; it
    takes and clears the damage.
    Log 19 (DESIGN CHOICE, unsafe). -/
def Dev.flattenStart (d : Dev) (p : Nat) : Dev :=
  let c := d.crustAt p
  if !d.running p || c.item.isSome || c.ready.isSome then d
  else match d.newItem p with
    | some it =>
      (Dev.each (fun k d => d.putTile k { d.tileAt k with damage := false, force := false }) it.damage d).putCrust p
        { c with item := some it }
    | none => d

/-- R27: items that run across a tick. -/
def Dev.flattenRunning (d : Dev) : Nat := countP (fun p => (d.crustAt p).item.isSome) pipes

/-! ### Versions -/

/-- R242: the non-visible version of a tile takes its new content. -/
def Dev.putVersion (d : Dev) (k : Nat) (ver : TileVer) : Dev :=
  let e := d.tileAt k
  d.putTile k (if e.vis then { e with v0 := ver } else { e with v1 := ver })

/-- R242, R248: recomposed tiles are written one after the other, each with a slot of its own, until one finds none; what
    is left from that one on.
    Log 41 (DESIGN CHOICE, unsafe). -/
def Dev.writeTiles : List (Nat × Recomposed) → Dev → Dev × List (Nat × Recomposed)
  | [], d => (d, [])
  | (q, r) :: t, d =>
    if r.skip then Dev.writeTiles t d
    else if r.ver.st.units = 0 then Dev.writeTiles t (d.putVersion (tileKey q r.t) r.ver)
    else
      let free := d.slots r.ver.st.units
      if free.isEmpty then (d, (q, r) :: t)
      else Dev.writeTiles t
        (d.draw.2.putVersion (tileKey q r.t) { r.ver with payload := free.getD (d.draw.1 % free.length) 0 })

/-- R247: the tiles of a version that is discarded are damaged again, and forced ones stay forced; entries that the raster
    does not use stay 0 (R229).
    Log 41 (DESIGN CHOICE, unsafe). -/
def Dev.damageAgain (d : Dev) (force keys : List Nat) : Dev :=
  Dev.each (fun k d =>
    if k % 8192 < tileCount d.acV (k / 16384) then
      d.putTile k { d.tileAt k with damage := true, force := (d.tileAt k).force || force.contains k }
    else d) keys d

/-- R247: the ready version of pipe `p` is discarded: its slots are freed and its tiles damaged.
    Log 41 (DESIGN CHOICE, unsafe). -/
def Dev.discardReady (d : Dev) (p : Nat) : Dev :=
  match (d.crustAt p).ready with
  | none => d
  | some r =>
    let d1 := Dev.each (fun (x : Nat × TileVer × Nat) d =>
      let e := d.tileAt x.1
      d.putTile x.1
        (if e.vis then { e with v0 := {}, damage := true } else { e with v1 := {}, damage := true })) r.tiles d
    (((d1.putCrust p { d1.crustAt p with ready := none }).up (F.CRUST_PIPE_STATUS_DISCARDED.i p)).crustShow p).storeShow

/-- R234, R238: every layer of the run of plane `q` is charged at its live cost, so that each may be removed. -/
def Dev.liveCharged (d : Dev) (q : Nat) : Bool :=
  (d.crustAt (planePipe q)).holdFor.contains q || d.crustAffecting d.arV q

/-- FLATTEN_ITEM_COMPLETE (R234, R242, R245, R247, R248): the item's version becomes ready, or is discarded. -/
def flattenItemComplete (p : Nat) (d : Dev) : Dev :=
  match (d.crustAt p).item with
  | none => d
  | some it =>
    let build := fun (q : Nat) (run : List Nat) => d.buildPlane it (d.liveCharged q) q (run.length + 1) run false
    let a := build (2 * p) it.under
    let b := build (2 * p + 1) it.top
    let all := a.tiles.map (fun r => (2 * p, r)) ++ b.tiles.map (fun r => (2 * p + 1, r))
    let fits := a.fits && b.fits
    let w := if fits then Dev.writeTiles all d else (d, [])
    let done := all.take (all.length - w.2.length)
    let wrote := done.filter (fun x => !x.2.skip)
    let keys := wrote.map (fun x => tileKey x.1 x.2.t)
    let add := fun (f : Fld) (n : Nat) (d : Dev) => d.sg f (satAdd f.len (d.rg f) n)
    let count := fun (d : Dev) =>
      (add (F.CRUST_PIPE_COUNTS_TILES_SKIPPED.i p) (done.length - wrote.length)
        (add (F.CRUST_PIPE_COUNTS_TILES_WRITTEN.i p) wrote.length (d.putCrust p { d.crustAt p with item := none }))).onlyIf
        (a.limited || b.limited || !fits) (·.up (F.CRUST_PIPE_STATUS_ALLOC_LIMIT.i p))
    if !fits then
      ((count d).damageAgain it.force (all.map (fun x => tileKey x.1 x.2.t) ++ it.damage)).onlyIf it.obsolete
        (·.up (F.CRUST_PIPE_STATUS_DISCARDED.i p))
    else if it.obsolete || !w.2.isEmpty then
      (((count { d with free := w.1.free }).damageAgain it.force (keys ++ w.2.map (fun x => tileKey x.1 x.2.t))).up
        (F.CRUST_PIPE_STATUS_DISCARDED.i p)).onlyIf (!w.2.isEmpty) (·.up (F.CRUST_PIPE_STATUS_STORE_FULL.i p))
    else
      let d3 := count w.1
      ((d3.putCrust p { d3.crustAt p with
        ready := some { cfg := it.cfg, held := it.held, under := a.members, top := b.members, inv := it.inv,
                        tiles := wrote.map (fun x => (tileKey x.1 x.2.t, x.2.ver, x.2.sig)) } }).crustShow p).storeShow

/-- R235: layer `l` is a member by the visible version of pipe `p`. -/
def Dev.inCrust (d : Dev) (p l : Nat) : Bool := d.member l != 0 && assigned (d.builtV p) p l

/-- R245: at the swap point the marked version becomes visible: the entries change VIS, the membership changes, and
    VERSIONS advances.
    Log 41 (DESIGN CHOICE, unsafe). -/
def Dev.versionShow (d : Dev) (p : Nat) (r : CrustVersion) : Dev :=
  let d1 := Dev.each (fun (x : Nat × TileVer × Nat) d =>
    let e := d.tileAt x.1
    let c := d.crustAt p
    (d.putCrust p { c with draining := c.draining ++ e.shown.unitList }).putTile x.1
      { e with vis := !e.vis, invalid := e.invalid && !r.inv.contains x.1, sig := x.2.2 }) r.tiles d
  let d2 := Dev.each (fun l d =>
      if r.under.contains l then d.sg (F.GL_CRUST_STATUS_MEMBER.i (l - 64)) 1
      else if r.top.contains l then d.sg (F.GL_CRUST_STATUS_MEMBER.i (l - 64)) 2
      else if assigned d.acV p l || d.inCrust p l then d.dn (F.GL_CRUST_STATUS_MEMBER.i (l - 64)) else d) glLayers d1
  ((d2.putCrust p { d2.crustAt p with ready := none, built := r.cfg }).inc (F.CRUST_PIPE_VERSIONS_VERSIONS.i p)).crustShow p
    |>.planeShow (2 * p) |>.planeShow (2 * p + 1)

/-- CRUST_SLOT_DRAIN (R248): the slots of replaced versions are freed. -/
def crustSlotDrain (p : Nat) (d : Dev) : Dev :=
  let c := d.crustAt p
  if c.draining = [] then d
  else
    let kept := match c.ready with
      | some r => r.tiles.map (fun (x : Nat × TileVer × Nat) => x.1)
      | none => []
    let mine := (Tab.keep (fun k => k / 16384 == p) d.tiles).map (fun (e : Nat × Tile) => e.1)
    let d1 := Dev.each (fun k d =>
      let e := d.tileAt k
      if kept.contains k then d else d.putTile k (if e.vis then { e with v0 := {} } else { e with v1 := {} })) mine d
    (d1.putCrust p { d1.crustAt p with draining := [] }).storeShow

/-- R239, R251: the crust of pipe `p` dissolves; `reset` abandons a running item, which otherwise becomes obsolete.
    Log 41 (DESIGN CHOICE, unsafe). -/
def Dev.dissolve (d : Dev) (reset : Bool) (p : Nat) : Dev :=
  let c := d.crustAt p
  let d1 := Dev.each (fun l d =>
      if assigned d.acV p l || d.inCrust p l then
        (d.dn (F.GL_CRUST_STATUS_MEMBER.i (l - 64))).dn (F.GL_CRUST_STATUS_QUIET.i (l - 64)) else d) glLayers
    { d with tiles := Tab.keep (fun k => k / 16384 != p) d.tiles }
  let d2 := d1.onlyIf (c.ready.isSome || (reset && c.item.isSome)) (·.up (F.CRUST_PIPE_STATUS_DISCARDED.i p))
  (((d2.putCrust p
    { item := if reset then none else c.item.map (fun i => { i with obsolete := true }), built := d.active }).up
      (F.CRUST_PIPE_STATUS_DISSOLVED.i p)).crustShow p).planeShow (2 * p) |>.planeShow (2 * p + 1) |>.storeShow

/-! ### Faults -/

/-- R249, R250: a tile becomes INVALID and damaged, and no version built so far cures it; the frame that shows it as EMPTY,
    from line `line` on where it was not INVALID yet, is marked. -/
def Dev.tileInvalid (d : Dev) (flag : Fld) (q t line : Nat) (g : Frame → Frame) : Dev :=
  let p := planePipe q
  let d1 := (d.up (flag.i p)).logOpen
  if t < min 8192 (tileCount d.acV p) then
    let k := tileKey q t
    let e := d1.tileAt k
    let c := d1.crustAt p
    ((d1.putTile k { e with invalid := true, damage := true }).putCrust p { c with
      item := c.item.map (fun i => { i with inv := i.inv.filter (· != k) })
      ready := c.ready.map (fun r => { r with inv := r.inv.filter (· != k) }) }).onlyIf (planeCharged d1.acV q)
      (fun d => d.mark p .crust [] (fun f => g (if e.invalid then f else { f with empty := (k, line) :: f.empty })))
  else d1

/-- TILE_SCRUB (R249): the scrub finds the listed entries in error.
    Log 41 (DESIGN CHOICE, unsafe). -/
def tileScrub (hits : List (BitVec 16)) (d : Dev) : Dev :=
  Dev.each (fun (h : BitVec 16) d =>
    let n := d.nextLine (planePipe (h.toNat / 8192))
    n.2.tileInvalid F.CRUST_PIPE_STATUS_ENTRY_PARITY (h.toNat / 8192) (h.toNat % 8192) n.1 id) hits d

/-- CRUST_DATA_PARITY (R250): the error is found in line `line`, whose own pixels in the tile the spec does not give.
    Log 41 (DESIGN CHOICE, unsafe). -/
def crustDataParity (q t line : Nat) (d : Dev) : Dev :=
  d.tileInvalid F.CRUST_PIPE_STATUS_DATA_PARITY q t (line + 1) (fun f => { f with openLines := line :: f.openLines })

/-! ### Registers -/

/-- CRUST_HINT_GO (R241): a hint is submitted. -/
def crustHintGo (q : Rq) (w : Word) (d : Dev) : Dev :=
  let g := fun (f : Fld) => d.rg (f.rq q)
  let sid := g F.CRUST_HINT_SID_SID
  let h : Hint := ⟨q, sid, g F.CRUST_HINT_RECT_X, g F.CRUST_HINT_RECT_Y, g F.CRUST_HINT_RECT_W, g F.CRUST_HINT_RECT_H,
    g F.CRUST_HINT_SID_FORCE != 0, g F.CRUST_HINT_FENCE_FID, g F.CRUST_HINT_WAIT_VALUE⟩
  if !View.on (fun _ => w) F.CRUST_HINT_GO_GO then d
  else if (d.surfAt sid).st = .free then d.up F.CRUST_STATUS_HINT_BAD
  else if g F.CRUST_HINT_FENCE_EN = 0 then d.hintApply h
  else if 16 ≤ countP (fun x => x.rq == q) d.hints then d.up F.CRUST_STATUS_HINT_FULL
  else ({ d with hints := d.hints ++ [h] }).hintsDue

/-- R255: a state's code. -/
def TileSt.num : TileSt → Nat
  | .empty => 0 | .uniform => 1 | .compressed => 2 | .raw => 3

/-- CRUST_TILE_SEL_WRITE (R255): the entry selected is copied into CRUST_TILE_W0 to W4. -/
def crustTileSelWrite (w : Word) (d : Dev) : Dev :=
  let v : View := fun _ => w
  let q := v.g F.CRUST_TILE_SEL_PLANE
  let t := v.g F.CRUST_TILE_SEL_TILE
  let e := d.tileAt (tileKey q t)
  Dev.each (fun (x : Fld × Nat) d => d.sg x.1 x.2)
    [(F.CRUST_TILE_SEL_PLANE, q), (F.CRUST_TILE_SEL_TILE, t), (F.CRUST_TILE_W0_DAMAGE, b2n e.damage),
     (F.CRUST_TILE_W0_VIS, b2n e.vis), (F.CRUST_TILE_W0_INVALID, b2n e.invalid), (F.CRUST_TILE_W0_STATE1, e.v1.st.num),
     (F.CRUST_TILE_W0_STATE0, e.v0.st.num), (F.CRUST_TILE_W0_SIG, e.sig),
     (F.CRUST_TILE_W1_PAYLOAD0_LO, e.v0.payload), (F.CRUST_TILE_W2_PAYLOAD0_HI, e.v0.payload / 2 ^ 32),
     (F.CRUST_TILE_W3_PAYLOAD1_LO, e.v1.payload), (F.CRUST_TILE_W4_PAYLOAD1_HI, e.v1.payload / 2 ^ 32)] d

/-- R231: a crust plane has EN = 1 in its proof, armed or active bank. -/
def Dev.anyPlaneEn (d : Dev) : Bool := (List.range 8).any (fun q => planeEn d.pfV q || planeEn d.acV q || planeEn d.arV q)

/-- R231: a write of a store register that leads from `d` to `d1` is refused while a plane is enabled, or when the store
    would leave usable DRAM. -/
def Dev.storeRefused (d d1 : Dev) : Bool :=
  d.anyPlaneEn || (d1.storeLen != 0 && decide (d1.usableBytes < d1.storeBase + d1.storeLen))

/-- FLATTEN_ITEM_COMPLETE. -/
def execFlattenItemComplete (pipe : Fin 4) (s : State) : Host.Outcome State Fault Refusal :=
  s.run (Dev.engine (flattenItemComplete pipe.val))

/-- CRUST_SLOT_DRAIN. -/
def execCrustSlotDrain (pipe : Fin 4) (s : State) : Host.Outcome State Fault Refusal :=
  s.run (Dev.engine (crustSlotDrain pipe.val))

/-- TILE_SCRUB. -/
def execTileScrub (hits : List (BitVec 16)) (s : State) : Host.Outcome State Fault Refusal := s.run (tileScrub hits)

/-- CRUST_DATA_PARITY. -/
def execCrustDataParity (plane : Fin 8) (tile : TileOnLine) (s : State) : Host.Outcome State Fault Refusal :=
  s.run (crustDataParity plane.val tile.tile.toNat tile.line.toNat)

end Sys2Proof.Machine
end

