-- ==== Sys2Proof/Machine/Writeback.lean ====
section
/-! DEFINITION.  Writeback: a frame opens (R218, R219), its pixels and trailer (R216, R220, R221), its end (R222) and
    what spoils it (R223). -/

namespace Sys2Proof.Machine

/-- Free bytes.
    Log 4 (DESIGN CHOICE, safe). -/
def Dev.freeBytes (d : Dev) (n : Nat) : List Byte × Dev :=
  ((List.range n).map (fun i => BitVec.ofNat 8 (Config.freeNat (d.free + i))), { d with free := d.free + n })

/-- R216, R223: the value of a pixel a tap sees, as three binary32 components; a line sent black is black here too. -/
def Dev.tapAt (d : Dev) (f : Frame) (tap p x y : Nat) : Rgb :=
  if f.dark y then ⟨0, 0, 0⟩
  else if tap = 1 then d.encodedAt f p x y
  else
    let w := d.blendAt f p x y
    ⟨ofWork w.r, ofWork w.g, ofWork w.b⟩

/-- R220: the value of a proxy pixel, the mean of a box in binary32.
    Log 40 (DESIGN CHOICE, unsafe). -/
def Dev.proxyAt (d : Dev) (f : Frame) (w : WbFrame) (p x y : Nat) : Rgb :=
  let r := rasterOf d.acV p
  let nx := min w.fh (r.hact - x * w.fh)
  let ny := min w.fv (r.vact - y * w.fv)
  let box := (List.range ny).flatMap (fun j => (List.range nx).map (fun i =>
    d.tapAt f w.tap p (x * w.fh + i) (y * w.fv + j)))
  let mean := fun (g : Rgb → Nat) => div32 (box.foldl (fun s c => add32 s (g c)) 0) (q32 (nx * ny) 1)
  ⟨mean (·.r), mean (·.g), mean (·.b)⟩

/-- R216: 10-bit samples packed three to a 32-bit word. -/
def packT10 : List Nat → List Byte
  | [] => []
  | [a] => leBytes 4 a
  | [a, b] => leBytes 4 (a + b * 1024)
  | a :: b :: c :: t => leBytes 4 (a + b * 1024 + c * 1048576) ++ packT10 t

/-- R214: chroma of a line of 4:4:4 codes, Cb and Cr of each pair; an odd last pixel keeps its own. -/
def pairChroma : List (List Nat) → List Nat
  | a :: b :: t => chromaMean (a.getD 1 0) (b.getD 1 0) :: chromaMean (a.getD 2 0) (b.getD 2 0) :: pairChroma t
  | [a] => [a.getD 1 0, a.getD 2 0]
  | [] => []

/-- R216: the bytes of a line of pixels, plane by plane. -/
def tapLine (v : View) (p fmt : Nat) (px : List Rgb) : List (List Byte) :=
  let one16 := toWork one32
  if fmt = 0x14 then
    [px.flatMap (fun c => leBytes 8 (toWork c.r + toWork c.g * 2 ^ 16 + toWork c.b * 2 ^ 32 + one16 * 2 ^ 48))]
  else if fmt = 0x13 then
    let q := fun x => (clampInt 0 1023 (fFloor f32 (add32 (mul32 x (q32 1023 1)) (q32 1 2)))).toNat
    [px.flatMap (fun c => leBytes 4 (q c.r + q c.g * 1024 + q c.b * 1048576 + 3 * 2 ^ 30))]
  else
    let full := v.on (F.PIPE_OUT_CTRL_RANGE.i p)
    let codes := px.map (fun c =>
      let y := toYcc (v.on (F.PIPE_OUT_CTRL_YC_MATRIX.i p)) c
      [quant 10 full false (q32 1 2) y.r, quant 10 full true (q32 1 2) y.g, quant 10 full true (q32 1 2) y.b])
    [packT10 (codes.map (fun c => c.getD 0 0)), packT10 (pairChroma codes)]

/-- R221: words 1 to 3 of a trailer. -/
def trailerWords (w : WbFrame) (p : Nat) (proxy invalid torn short : Bool) : List Byte :=
  leBytes 4 w.k ++ leBytes 4 (p + w.slot * 4 + b2n proxy * 16 + w.tap * 32 + b2n invalid * 256 + b2n torn * 512
    + b2n short * 1024) ++ leBytes 4 (w.fmt * 2 ^ 24)

/-- The bytes of a line, all free.
    Log 4 (DESIGN CHOICE, safe). -/
def Dev.freeLine : List (List Byte) → Dev → List (List Byte) × Dev
  | [], d => ([], d)
  | bs :: t, d =>
    let r := d.freeBytes bs.length
    let rest := Dev.freeLine t r.2
    (r.1 :: rest.1, rest.2)

/-- R216: the bytes of the listed lines, plane by plane; those of a line whose picture no rule gives are free. -/
def Dev.tapLines (line : Nat → List (List Byte)) (isOpen : Nat → Bool) : List Nat → Dev → List (List (List Byte)) × Dev
  | [], d => ([], d)
  | y :: t, d =>
    let r := if isOpen y then Dev.freeLine (line y) d else (line y, d)
    let rest := Dev.tapLines line isOpen t r.2
    (r.1 :: rest.1, rest.2)

/-- R216, R221: the writes of lines into a surface, and of its trailer where words 1 to 3 are given; the CRC covers the bytes
    written, plane by plane. -/
def wbCopy (s : Surf) (fmt : Nat) (rows : List (List (List Byte))) (trailer : Option (List Byte)) : List (Nat × List Byte) :=
  let plane := fun (k : Nat) => rows.map (fun r => r.getD k [])
  let puts := (List.range (fmtPlanes fmt)).flatMap (fun k =>
    ((plane k).zip (List.range rows.length)).map (fun x => (s.base.getD k 0 + x.2 * (s.pitch.getD k 0 * 64), x.1)))
  match trailer with
  | some t =>
    puts ++ [(s.trailer, leBytes 4 (Alg.crc32.crc ((List.range (fmtPlanes fmt)).flatMap (fun k => (plane k).flatMap id))) ++ t)]
  | none => puts

/-- R220, R221, R223: the writes of the frame open for writeback, of which `lines` lines are written; a proxy line is written
    when its whole box is.
    Log 40 (DESIGN CHOICE, unsafe). -/
def Dev.wbWrites (d : Dev) (p : Nat) (w : WbFrame) (lines : Nat) (trailer : Bool) : List (Nat × List Byte) × Dev :=
  let f := d.frame p
  let r := rasterOf d.acV p
  let torn := (layersOf d.acV p).any (fun l => f.torn.contains (lySid d.acV l))
  let short := decide (lines < r.vact)
  let free := d.openLine f p
  let copy := fun (proxy : Bool) (s : Option Surf) (ww ll : Nat) (px : Nat → Nat → Rgb) (isOpen : Nat → Bool) (e : Dev) =>
    match s with
    | none => ([], e)
    | some s =>
      let rows := Dev.tapLines (fun y => tapLine d.acV p w.fmt ((List.range ww).map (fun x => px x y))) isOpen (List.range ll) e
      (wbCopy s w.fmt rows.1 (if trailer then some (trailerWords w p proxy (decide (f.cause ≠ 0)) torn short) else none), rows.2)
  let main := copy false w.main r.hact lines (d.tapAt f w.tap p) free d
  let prox := copy true w.proxy (ceilDiv r.hact w.fh) (if short then lines / w.fv else ceilDiv lines w.fv) (d.proxyAt f w p)
    (fun y => (List.range w.fv).any (fun j => decide (y * w.fv + j < r.vact) && free (y * w.fv + j))) main.2
  (main.1 ++ prox.1, prox.2)

/-- Bytes of a list of writes reach DRAM. -/
def Dev.putWrites (d : Dev) (engine : Bool) (ws : List (Nat × List Byte)) : Dev :=
  Dev.each (fun (x : Nat × List Byte) d => (d.store x.1 x.2).noteWrite engine x.1 x.2.length) ws d

/-- R222: at the swap point that ends a frame its writes are fixed; they reach DRAM at WRITEBACK_FRAME_DONE. -/
def Dev.wbClose (d : Dev) (p : Nat) : Dev :=
  match (d.pst p).wb with
  | none => d
  | some w =>
    let f := d.frame p
    let n := (rasterOf d.acV p).vact
    let lines := min (w.cut.getD n) (f.cut.getD n)
    let r := d.wbWrites p w lines true
    let x := r.2.pst p
    r.2.putPst p { x with wb := none, wbEnd :=
      if w.main.isSome || w.proxy.isSome then some ⟨r.1, w.k, w.fenceEn, w.fid⟩ else none }

/-- R142, R219: the lowest protected surface that pipe `p` shows: by a layer active on it, or in the tiles that its
    crust planes hold. -/
def Dev.wbProt (d : Dev) (p : Nat) : Option Nat :=
  let act := ((layersOf d.acV p).filter (d.showsProt d.acV)).map (lySid d.acV)
  let held := ((d.members (2 * p) ++ d.members (2 * p + 1)).filter (d.showsProt (d.builtV p))).map (lySid (d.builtV p))
  (act ++ held).min?

/-- R219: the test of a destination surface: none, or the flag and the result code. -/
def Dev.wbSkip (d : Dev) (p sid : Nat) : Option (Fld × Nat) :=
  let s := d.surfAt sid
  if s.st = .free then some (F.PIPE_WB_STATUS_DEST_FREE.i p, 0x13)
  else if s.planes.any (fun q => d.guardHit q.base q.span) then some (F.PIPE_WB_STATUS_GUARD.i p, 0x10)
  else if (d.wbProt p).isSome && !d.protInside s.lo (s.hi - s.lo) then
    some (F.PIPE_WB_STATUS_PROT.i p, 0x11)
  else none

/-- R142, R157, R219, R227: a skipped write is flagged; a protected surface is captured in SURF_ERR_SID. -/
def Dev.wbFlag (d : Dev) (p : Nat) (x : Option (Fld × Nat)) : Dev :=
  match x with
  | none => d
  | some (f, code) =>
    ((d.up f).sg (F.PIPE_WB_STATUS_LAST_RESULT.i p) code).onlyIf (code == 0x11)
      (fun d => (d.up F.SURF_STATUS_PROT_COPY).surfErr ((d.wbProt p).getD 0))

/-- R216, R219: a destination as registered when the frame opens; the address of a plane that the tap's format has and the
    descriptor has not is open. -/
def Dev.wbDestAt (d : Dev) (fmt sid : Nat) : Surf × Dev :=
  let s := d.surfAt sid
  if fmtPlanes fmt ≤ fmtPlanes s.fmt then (s, d)
  else ({ s with base := [s.base.getD 0 0, d.draw.1 % 2 ^ 40] }, d.draw.2)

/-- R218, R219: a frame of pipe `p` opens for writeback.
    Log 40 (DESIGN CHOICE, unsafe). -/
def Dev.wbOpen (d : Dev) (p : Nat) : Dev :=
  let v := d.acV
  let mode := v.g (F.PIPE_WB_CTRL_MODE.i p)
  if !(mode == 1 || (mode == 2 && (d.pst p).wbOnce)) || (d.frame p).notSent then d
  else
    let d := d.inc (F.PIPE_WB_FRAMES_COUNT.i p)
    let k := d.rg (F.PIPE_WB_FRAMES_COUNT.i p)
    let ring := v.g (F.PIPE_WB_CTRL_RING_LEN.i p)
    let slot := (k + ring) % (ring + 1)
    let sid := wbSlot v p slot
    let a := d.wbSkip p sid
    let psid := v.g (F.PIPE_WB_PROXY_SID_SID.i p)
    let b := if proxyEn v p then d.wbSkip p psid else none
    let d1 := ((d.wbFlag p a).wbFlag p b).onlyIf (a.isSome || b.isSome) (·.incSat (F.PIPE_WB_STATUS_SKIP_COUNT.i p))
    let x := proxyF v p
    let fmt := v.g (F.PIPE_WB_CTRL_FORMAT.i p)
    let m := d1.wbDestAt fmt sid
    let q := m.2.wbDestAt fmt psid
    let w : WbFrame :=
      { k := k, slot := slot, main := if a.isSome then none else some m.1,
        proxy := if proxyEn v p && b.isNone then some q.1 else none, tap := v.g (F.PIPE_WB_CTRL_TAP.i p),
        fmt := fmt, fenceEn := v.on (F.PIPE_WB_CTRL_FENCE_EN.i p),
        fid := v.g (F.PIPE_WB_FENCE_FID.i p), fh := x.1, fv := x.2 }
    q.2.putPst p { q.2.pst p with wbOnce := false, wb := some w }

/-- WRITEBACK_FRAME_DONE (R222): the ended frame's bytes and trailer reach DRAM; DONE and the fence follow.
    Log 40 (DESIGN CHOICE, unsafe). -/
def writebackFrameDone (p : Nat) (d : Dev) : Dev :=
  match (d.pst p).wbEnd with
  | none => d
  | some e =>
    let d1 := ((d.putPst p { d.pst p with wbEnd := none }).putWrites true e.writes).up (F.PIPE_WB_STATUS_DONE.i p)
    if e.fenceEn then d1.signalSet e.fid e.k else d1

/-- WRITEBACK_LINE_OVERFLOW (R223): a line was not accepted before its deadline; the frame is written up to it. -/
def writebackLineOverflow (p line : Nat) (d : Dev) : Dev :=
  match (d.pst p).wb with
  | none => d
  | some w =>
    if line < (rasterOf d.acV p).vact then
      (d.putPst p { d.pst p with wb := some { w with cut := some (min (w.cut.getD line) line) } }).up
        (F.PIPE_WB_STATUS_OVERFLOW.i p)
    else d

/-- R223: a per-pipe reset during a frame: the lines written so far stay, how many is open; no trailer, no signal. -/
def Dev.wbReset (d : Dev) (p : Nat) : Dev :=
  match (d.pst p).wb with
  | none => d
  | some w =>
    let r := d.draw
    let n := r.1 % ((rasterOf d.acV p).vact + 1)
    let x := r.2.wbWrites p w n false
    (x.2.putPst p { x.2.pst p with wb := none }).putWrites true x.1

/-- WRITEBACK_FRAME_DONE. -/
def execWritebackFrameDone (pipe : Fin 4) (s : State) : Host.Outcome State Fault Refusal :=
  s.run (Dev.engine (writebackFrameDone pipe.val))

/-- WRITEBACK_LINE_OVERFLOW. -/
def execWritebackLineOverflow (pipe : Fin 4) (line : BitVec 14) (s : State) : Host.Outcome State Fault Refusal :=
  s.run (writebackLineOverflow pipe.val line.toNat)

end Sys2Proof.Machine
end

