-- ==== Sys2Proof/Machine/Layout.lean ====
section
/-! DEFINITION.  The layout service: window entries (R426), the commit of a layout (R427, R428), its overlays and meter
    bars (R427, R429), and the restart of a service-owned pipe (R430). -/

namespace Sys2Proof.Machine

/-- A pipe without service state. -/
def dfltService : Nat → Service := fun _ => {}

/-- The layout service of pipe `p`. -/
def Dev.svcOf (d : Dev) (p : Nat) : Service := Tab.get dfltService d.hearth.service p

/-- Replace it. -/
def Dev.putSvc (d : Dev) (p : Nat) (x : Service) : Dev :=
  { d with hearth := { d.hearth with service := Tab.put dfltService d.hearth.service p x } }

/-- R425: a layout of 64 disabled windows. -/
def emptyLayout : List (List Word) := List.replicate 64 []

/-- R426: a field of a window entry. -/
def winF (w : List Word) (k lo len : Nat) : Nat := bits (w.getD k 0).toNat lo len

/-- R426: EN. -/
def winEn (w : List Word) : Bool := winF w 0 16 1 == 1

/-- R426: the window shows its SID. -/
def winSrc (w : List Word) : Bool := winEn w && winF w 0 17 1 == 1

/-- R426: the SID. -/
def winSid (w : List Word) : Nat := winF w 1 0 14

/-- R426: METERS of an enabled window. -/
def winMeters (w : List Word) : Nat := if winEn w then winF w 6 8 5 else 0

/-- R426: the rectangle of a window. -/
def winRect (w : List Word) : Rect := ⟨(winF w 2 0 16 : Int), (winF w 2 16 16 : Int), winF w 3 0 16, winF w 3 16 16⟩

/-- R427: one axis of a packed source: destination start, source start, size shown. -/
def centre (at_ len src : Nat) : Nat × Nat × Nat :=
  if src ≤ len then (at_ + (len - src) / 2, 0, src) else (at_, (src - len) / 2, len)

/-- R427: where a window's source is shown on the active area. -/
def Dev.winShown (d : Dev) (w : List Word) : Rect :=
  let r := winRect w
  let s := d.surfAt (winSid w)
  if fmtPacked s.fmt then
    let a := centre r.x.toNat r.w s.w
    let b := centre r.y.toNat r.h s.h
    ⟨a.1, b.1, a.2.2, b.2.2⟩
  else r

/-! ### Building a layout -/

/-- A layout under construction: layers still free by kind, the layer of each window, and what is missing. -/
structure Alloc where
  freeV : List Nat
  freeG : List Nat
  map : Tab Nat := []
  fail : Option (Nat × Nat) := none

/-- No layer.
    Log 16 (DESIGN CHOICE, unsafe). -/
def noLayer : Nat → Nat := fun _ => 0

/-- R427: key `k` takes the lowest-numbered layer of its kind; key 64 is the meter overlay, 65 the label overlay.
    Log 16 (DESIGN CHOICE, unsafe). -/
def Alloc.take (graphic : Bool) (k : Nat) (a : Alloc) : Alloc :=
  match (if graphic then a.freeG else a.freeV) with
  | l :: t => { a with map := Tab.put noLayer a.map k (l + 1), freeG := if graphic then t else a.freeG,
                       freeV := if graphic then a.freeV else t }
  | [] => { a with fail := a.fail.or (some (k, b2n graphic)) }

/-- R427: a layer that belongs to no pipe, the layers of pipe `p` counting as free since the layout replaces them.
    Log 16 (DESIGN CHOICE, unsafe). -/
def Dev.unassigned (d : Dev) (p l : Nat) : Bool := (d.ownerPipes (.layer l)).all (· == p)

/-- R35, R37: layer `l` belongs to pipe `p`, and to no host-owned pipe with it. -/
def Dev.svcLayer (d : Dev) (p l : Nat) : Bool :=
  (d.ownerPipes (.layer l)).contains p && (d.ownerPipes (.layer l)).all d.svcOwned

/-- The keys of a layout that need a layer, with the kind of each. -/
def Dev.layoutKeys (d : Dev) (lay : List (List Word)) : List (Nat × Bool) :=
  ((lay.zip (List.range 64)).filter (fun x => winSrc x.1)).map (fun x => (x.2, fmtPacked (d.surfAt (winSid x.1)).fmt))
    ++ (if lay.any (fun w => decide (0 < winMeters w)) then [(64, true)] else []) ++ [(65, true)]

/-- R427: every key of a layout takes its layer.
    Log 16 (DESIGN CHOICE, unsafe). -/
def Dev.layoutAlloc (d : Dev) (p : Nat) (lay : List (List Word)) : Alloc :=
  (d.layoutKeys lay).foldl (fun a x => a.take x.2 x.1)
    { freeV := (List.range 64).filter (d.unassigned p), freeG := glLayers.filter (d.unassigned p) }

/-- R428: a limit found before the commit: code, window, P1, P2. -/
def Dev.layoutLimit (d : Dev) (p : Nat) (lay : List (List Word)) (a : Alloc) : Option (Nat × Nat × Nat × Nat) :=
  match a.fail with
  | some (k, g) =>
    some (0x80, if k < 64 then k else 0xFF, countP (fun x => x.2 == (g == 1)) (d.layoutKeys lay),
      ((if g = 1 then glLayers else List.range 64).filter (d.unassigned p)).length)
  | none =>
    match firstWith (fun x => winEn x.1 && winF x.1 8 2 2 != 0 && (Tab.get (fun _ => none) d.hearth.atlases (winF x.1 8 0 2)).isNone)
        (lay.zip (List.range 64)) with
    | some x => some (0x81, x.2, 0, 0)
    | none =>
      match firstWith (fun x => decide (0 < winMeters x.1)
          && decide (d.hearth.meters.entries < winF x.1 7 0 10 + winMeters x.1)) (lay.zip (List.range 64)) with
      | some x => some (0x82, x.2, 0, 0)
      | none => none

/-- Hearth firmware writes a frame-banked field. -/
def Dev.sp (d : Dev) (f : Fld) (v : Nat) : Dev := { d with proof := f.set dfltB d.proof v }

/-- A layer's proof bank is written afresh: enabled on pipe `p`, showing a SID, source and destination rectangle; one that
    begins beyond every active area (R426) shows nothing and is empty (R161). -/
def Dev.layerProof (d : Dev) (p l sid : Nat) (src dst : Rect) (alpha : Bool) : Dev :=
  let src := if dst.x < 8192 ∧ dst.y < 8192 then src else ⟨0, 0, 0, 0⟩
  let fs : List (Fld × Nat) :=
    [(lf F.VL_CTRL_EN F.GL_CTRL_EN l, 1), (lf F.VL_CTRL_PIPE F.GL_CTRL_PIPE l, p),
     (lf F.VL_CTRL_ALPHA_EN F.GL_CTRL_ALPHA_EN l, b2n alpha), (lf F.VL_SID_SID F.GL_SID_SID l, sid),
     (lf F.VL_SRC_RECT_X F.GL_SRC_RECT_X l, src.x.toNat), (lf F.VL_SRC_RECT_Y F.GL_SRC_RECT_Y l, src.y.toNat),
     (lf F.VL_SRC_RECT_W F.GL_SRC_RECT_W l, src.w), (lf F.VL_SRC_RECT_H F.GL_SRC_RECT_H l, src.h),
     (lf F.VL_DST_RECT_X F.GL_DST_POS_X l, dst.x.toNat), (lf F.VL_DST_RECT_Y F.GL_DST_POS_Y l, dst.y.toNat)]
  let fs := if l < 64 then fs ++ [(F.VL_DST_RECT_W.i l, dst.w), (F.VL_DST_RECT_H.i l, dst.h)] else fs
  fs.foldl (fun d x => d.sp x.1 x.2) { d with proof := blkReplace (.layer l) [] d.proof }

/-- R427: the proof banks of a layout: the layers it takes, those it no longer uses disabled, the overlays and the blend
    order of pipe `p`. -/
def Dev.layoutProof (d : Dev) (p : Nat) (lay : List (List Word)) (map : Tab Nat) (front : Bool) : Dev :=
  let at_ := fun (k : Nat) => Tab.get noLayer map k - 1
  let has := fun (k : Nat) => Tab.get noLayer map k != 0
  let d1 := Dev.each (fun l d => if d.svcLayer p l then d.sp (lf F.VL_CTRL_EN F.GL_CTRL_EN l) 0 else d) allLayers d
  let d2 := Dev.each (fun (x : List Word × Nat) d =>
      if has x.2 then
        let s := d.surfAt (winSid x.1)
        let r := winRect x.1
        if fmtPacked s.fmt then
          let a := centre r.x.toNat r.w s.w
          let b := centre r.y.toNat r.h s.h
          d.layerProof p (at_ x.2) (winSid x.1) ⟨a.2.1, b.2.1, a.2.2, b.2.2⟩ ⟨a.1, b.1, a.2.2, b.2.2⟩ false
        else d.layerProof p (at_ x.2) (winSid x.1) ⟨0, 0, s.w, s.h⟩ r false
      else d) (lay.zip (List.range 64)) d1
  let a := activeArea d.acV p
  let clip := fun (k j : Nat) (allow : Nat) (d : Dev) =>
    if has k then
      ((d.layerProof p (at_ k) ((d.svcOf p).overlays.getD (j + b2n front) 0) ⟨0, 0, a.w, a.h⟩ ⟨0, 0, a.w, a.h⟩ true)).sp
        (F.GL_CRUST_ALLOW.i (at_ k - 64)) allow
    else d
  let d3 := clip 65 0 1 (clip 64 2 0 d2)
  let order := ((List.range 66).filter has).map at_
  Dev.each (fun k d =>
    match order[k]? with
    | some l => ((d.sp (F.PIPE_ZORDER_VALID.ij p k) 1).sp (F.PIPE_ZORDER_KIND.ij p k) (l / 64)).sp
        (F.PIPE_ZORDER_INDEX.ij p k) (l % 64)
    | none => d.sp (F.PIPE_ZORDER_VALID.ij p k) 0) (List.range 32) (d3.sp (F.PIPE_BLEND_CTRL_ZMODE.i p) 1)

/-- R428: Hearth firmware strobes a commit of the listed blocks as its own requester, and the checker ends it: the
    refusal if any, and the sequence number.
    Log 16 (DESIGN CHOICE, unsafe). -/
def Dev.fwCommit (d : Dev) (bs : List BlkId) : Option Result × Nat × Dev :=
  let d := d.drain.snapParity bs
  let seq := (d.seq + 1) % 65536
  let snaps := bs.map (d.snapshot .fw seq)
  let ps := d.pipeSet snaps
  let late := d.latePipes ps
  let d1 := (Dev.each (fun p d => d.lateCount p) late d).onlyIf (!late.isEmpty) (·.attn .late)
  let st : Strobe :=
    { rq := .fw, seq := seq, pipes := ps, snaps := snaps, late := late,
      swapsAt := pipes.map (fun p => d.rg (F.PIPE_SWAP_COUNT_SWAPS.i p)), parity := d.parityIn bs }
  let d2 := ({ d1 with seq := seq }).sg (F.COMMIT_STATUS_SEQ.rq .fw) seq
  let k := d2.checkOf st
  match d2.check st k with
  | some r => (some r, seq, (d2.report st r).lostSweep)
  | none => (none, seq, (d2.accept st k).report st ⟨0, 0, 0, 0, 0⟩)

/-! ### Overlays -/

/-- R427: the pitch and address of overlay buffer `j` of pipe `p`.
    Log 16 (DESIGN CHOICE, unsafe). -/
def overlayPitch (v : View) (p : Nat) : Nat := ceilDiv (4 * v.g (F.PIPE_HTIMING_A_HACTIVE.i p)) 64

/-- R427: the descriptor of overlay buffer `j`. -/
def overlaySurf (v : View) (p base j : Nat) : Surf :=
  let a := activeArea v p
  { base := [base + j * (overlayPitch v p * 64 * a.h), 0, 0], pitch := [overlayPitch v p, 0, 0],
    fmt := 0x12, w := a.w, h := a.h }

/-- R427: the four highest-numbered free SIDs. -/
def Dev.topSids (d : Dev) : List Nat := (((List.range 16384).reverse).filter d.sidFree).take 4

/-- R427: the overlay surfaces of pipe `p` are registered under a view. -/
def Dev.overlaysOn (d : Dev) (v : View) (p : Nat) : Dev :=
  let sids := d.topSids
  let b := (d.svcOf p).base
  let d1 := Dev.each (fun (x : Nat × Nat) d =>
    (d.register (overlaySurf v p b x.2) false x.1).2.2) (sids.zip (List.range 4)) d
  d1.putSvc p { d1.svcOf p with overlays := sids }

/-- R427: the overlay region of pipe `p` is large enough and lies below the usable DRAM size. -/
def Dev.regionOk (d : Dev) (v : View) (p base size : Nat) : Bool :=
  let a := activeArea v p
  decide (16 * a.w * a.h ≤ size) && decide (base + size ≤ d.usableBytes)

/-- A point lies in a rectangle. -/
def Rect.has (r : Rect) (x y : Nat) : Bool :=
  decide (r.x ≤ x) && decide ((x : Int) < r.x + r.w) && decide (r.y ≤ y) && decide ((y : Int) < r.y + r.h)

/-- R426, R427: what the label overlay shows at a point but for labels: backgrounds where no source is shown, and tally
    borders, windows in index order.
    Log 16 (DESIGN CHOICE, unsafe). -/
def Dev.labelPixel (d : Dev) (lay : List (List Word)) (x y : Nat) : Nat :=
  lay.foldl (fun c w =>
    let r := winRect w
    if winEn w && r.has x y then
      let bg := (w.getD 4 0).toNat
      let c1 := if winSrc w && (d.winShown w).has x y then 0 else if bg / 2 ^ 24 = 0 then c else bg
      let t : Int := winF w 6 0 8
      let inner : Rect := ⟨r.x + t, r.y + t, r.w - 2 * t.toNat, r.h - 2 * t.toNat⟩
      if t = 0 ∨ inner.has x y then c1 else (w.getD 5 0).toNat
    else c) 0

/-- R426: the band a label may touch; where in it the glyphs lie is open. -/
def Dev.labelBand (d : Dev) (w : List Word) : Option Rect :=
  let r := winRect w
  match Tab.get (fun _ => none) d.hearth.atlases (winF w 8 0 2) with
  | none => none
  | some a =>
    if !winEn w then none
    else match winF w 8 2 2 with
      | 1 => some ⟨r.x, r.y, r.w, min r.h a.cellH⟩
      | 2 => some ⟨r.x, r.y + r.h - min r.h a.cellH, r.w, min r.h a.cellH⟩
      | 3 =>
        let n := winF w 8 8 6 * a.cellW + 2
        some ⟨r.x + ((r.w : Int) - n) / 2, r.y + r.h, n, a.cellH⟩
      | _ => none

/-- R426, R429: the strip of a window's meter bars. -/
def meterStrip (w : List Word) : Rect :=
  let r := winRect w
  let t := winMeters w * winF w 6 16 8
  match winF w 6 13 2 with
  | 0 => ⟨r.x, r.y, min r.w t, r.h⟩
  | 1 => ⟨r.x + r.w - min r.w t, r.y, min r.w t, r.h⟩
  | 2 => ⟨r.x, r.y + r.h - min r.h t, r.w, min r.h t⟩
  | _ => ⟨r.x, r.y, r.w, min r.h t⟩

/-- The bytes of a rectangle of an overlay surface become free values.
    Log 4 (DESIGN CHOICE, safe). -/
def Dev.freeRect (d : Dev) (p sid : Nat) (r : Rect) : Dev :=
  let s := d.surfAt sid
  let c := r.meet (activeArea d.acV p)
  if c.isEmpty then d
  else Dev.each (fun i d =>
    let a := s.base.getD 0 0 + (c.y.toNat + i) * (s.pitch.getD 0 0 * 64) + c.x.toNat * 4
    let b := d.freeBytes (4 * c.w)
    (b.2.store a b.1).noteWrite true a (4 * c.w)) (List.range c.h) d

/-- R427: an overlay buffer is drawn, pixel by pixel.
    Log 16 (DESIGN CHOICE, unsafe). -/
def Dev.drawOverlay (d : Dev) (p sid : Nat) (px : Nat → Nat → Nat) : Dev :=
  let s := d.surfAt sid
  let a := activeArea d.acV p
  Dev.each (fun y d =>
    let at_ := s.base.getD 0 0 + y * (s.pitch.getD 0 0 * 64)
    (d.store at_ ((List.range a.w).flatMap (fun x => leBytes 4 (px x y)))).noteWrite true at_ (4 * a.w)) (List.range a.h) d

/-- R429: the bars of a layout are drawn into the meter overlay.
    Log 16 (DESIGN CHOICE, unsafe). -/
def Dev.drawBars (d : Dev) (p : Nat) (lay : List (List Word)) (front : Bool) : Dev :=
  Dev.each (fun w d => if 0 < winMeters w then d.freeRect p ((d.svcOf p).overlays.getD (2 + b2n front) 0) (meterStrip w) else d)
    lay d

/-- R427: the overlays of a new layout are drawn. -/
def Dev.drawLayout (d : Dev) (p : Nat) (lay : List (List Word)) (front : Bool) : Dev :=
  let label := (d.svcOf p).overlays.getD (b2n front) 0
  let meter := (d.svcOf p).overlays.getD (2 + b2n front) 0
  let d1 := d.drawOverlay p label (d.labelPixel lay)
  let d2 := Dev.each (fun w d => match d.labelBand w with
    | some r => d.freeRect p label r
    | none => d) lay d1
  let d3 := d2.sq3Jobs
  if lay.any (fun w => decide (0 < winMeters w)) then (d3.sq3Jobs.drawOverlay p meter (fun _ _ => 0)).drawBars p lay front
  else d3

/-- R429: the entries of the meter table. -/
def Dev.meterTable (d : Dev) : List Word :=
  (List.range d.hearth.meters.entries).map (fun k => BitVec.ofNat 32 (d.leAt (d.hearth.meters.addr + 4 * k) 4))

/-- R429: Hearth firmware has drawn the bars of the windows that changed, and they are shown from this swap point of pipe
    `p`.
    Log 16 (DESIGN CHOICE, unsafe). -/
def Dev.barsShow (d : Dev) (p : Nat) : Dev :=
  let x := d.svcOf p
  if x.bars.isEmpty then d
  else
    let e := d.drawBars p x.bars x.front
    { e.putSvc p { e.svcOf p with bars := [] } with dirty := d.dirty, changed := d.changed }

/-- R429: at a tick the table is read and the bars whose entries changed are drawn again, with SQ_3; a running pipe shows them
    from its next swap point.
    Log 16 (DESIGN CHOICE, unsafe). -/
def Dev.meterTick (d : Dev) : Dev :=
  let t := d.meterTable
  let old := d.hearth.meters.drawn
  if t == old then d
  else
    let changed := fun (w : List Word) => (List.range (winMeters w)).any (fun i =>
      t[winF w 7 0 10 + i]? != old[winF w 7 0 10 + i]?)
    let d1 := { d with hearth := { d.hearth with meters := { d.hearth.meters with drawn := t } } }
    Dev.each (fun p d =>
      let ws := (d.svcOf p).layout.filter changed
      if d.fl (F.PIPE_OWNER_OWNER.i p) && ws.any (fun w => decide (0 < winMeters w)) then
        let e := (d.sq3Jobs.putSvc p { d.svcOf p with bars := (d.svcOf p).bars ++ ws }).change p
        if d.running p then e else e.barsShow p
      else d) pipes d1

/-! ### Timing of a service-owned pipe -/

/-- The registers of the six pipe timing words and of the port's word, by offset. -/
def timingOffs (v : View) (p : Nat) : List Nat :=
  [F.PIPE_TG_CTRL_EN, F.PIPE_HTIMING_A_HACTIVE, F.PIPE_HTIMING_B_HSYNC, F.PIPE_VTIMING_A_VACTIVE,
    F.PIPE_VTIMING_B_VSYNC, F.PIPE_PCLK_KHZ].map (fun f => (f.i p).off)
  ++ (let s := portSel v p
      if s < 4 then [(F.DP_CTRL_MODE.i s).off] else if s < 6 then [(F.DSI_CTRL_MODE.i (s - 4)).off] else [])

/-- R430: the seven timing words of pipe `p` in a view. -/
def timingWords (v : View) (p : Nat) : List Word := (timingOffs v p).map v

/-- A word of frame-banked fields as a write leaves it. -/
def bankedWord (off : Nat) (w : Word) : Word :=
  match findReg off with
  | some (r, k) => w &&& maskOf r k Fld.banked
  | none => 0

/-- R423, R430: Hearth firmware writes the seven timing words into the proof bank; the port is the one they select. -/
def Dev.timingProof (d : Dev) (p : Nat) (ws : List Word) : Dev :=
  let put := fun (d : Dev) (off : Nat) (w : Word) => d.spWord off (bankedWord off w)
  let d1 := put d (F.PIPE_TG_CTRL_EN.i p).off (ws.getD 0 0)
  ((timingOffs d1.pfV p).zip ws).foldl (fun d x => put d x.1 x.2) d1

/-- The blocks a timing commit of pipe `p` targets. -/
def Dev.timingBlocks (d : Dev) (p : Nat) : List BlkId :=
  .pipe p :: (if portSel d.pfV p < 6 then [.port (portSel d.pfV p)] else [])

/-- R430: at step 6 of a start Hearth firmware restarts a service-owned pipe with its kept timing and no window. -/
def Dev.serviceRestart (d : Dev) (p : Nat) : Dev :=
  if !d.fl (F.PIPE_OWNER_OWNER.i p) then d
  else
    let d1 := d.timingProof p (d.svcOf p).timing
    let d2 := d1.overlaysOn d1.pfV p
    let r := d2.fwCommit (d2.timingBlocks p)
    match r.1 with
    | some e => r.2.2.logE 4 5 2 (p * 2 ^ 30 + e.code)
    | none => r.2.2

end Sys2Proof.Machine
end

