-- ==== Sys2Proof/Machine/Health.lean ====
section
/-! DEFINITION.  The MRAM (R434) and the health record (R507, R508). -/

namespace Sys2Proof.Machine

/-- Bytes are stored into the MRAM. -/
def mramPut (m : Tab Byte) (x : Nat × List Byte) : Tab Byte := Tab.putList dfltMem m x.1 x.2

/-- R434, R468: `n` bytes of the MRAM from `a` upward, as Hearth firmware sees them: writes that wait have their value; what
    was never written reads 0.
    Log 3 (DESIGN CHOICE, unsafe). -/
def Dev.mramBytes (d : Dev) (a n : Nat) : List Byte :=
  Tab.getList dfltMem (d.hearth.mramWait.foldl mramPut d.hearth.mram) a n

/-- A little-endian word of the MRAM. -/
def Dev.mramWord (d : Dev) (a : Nat) : Nat := ofLe (d.mramBytes a 4)

/-- R468, R503: bytes go into the MRAM, at once or, during a brownout warning, when MRAM writes resume.
    Log 54 (DESIGN CHOICE, unsafe). -/
def Dev.mramStore (d : Dev) (a : Nat) (bs : List Byte) : Dev :=
  if d.mramHeld then { d with hearth := { d.hearth with mramWait := d.hearth.mramWait ++ [(a, bs)] } }
  else { d with hearth := { d.hearth with mram := mramPut d.hearth.mram (a, bs) } }

/-- R469: MRAM writes resume; those that waited are made in order. -/
def Dev.mramFlush (d : Dev) : Dev :=
  if d.mramHeld then d
  else { d with hearth := { d.hearth with mram := d.hearth.mramWait.foldl mramPut d.hearth.mram, mramWait := [] } }

/-- R507: the MRAM offset of a copy of the health record. -/
def healthBase (copy : Nat) : Nat := 0x600000 + copy * 0x8000

/-- R507: a copy is valid: MAGIC, and the CRC-32C of W0 to W219 in W220. -/
def Dev.healthValid (d : Dev) (copy : Nat) : Bool :=
  d.mramWord (healthBase copy) == 0x97648EA1
    && d.mramWord (healthBase copy + 880) == Alg.crc32c.crc (d.mramBytes (healthBase copy) 880)

/-- R507: the copy step 1 of a start uses.
    Log 56 (DESIGN CHOICE, unsafe). -/
def Dev.healthPick (d : Dev) : Option Nat :=
  match d.healthValid 0, d.healthValid 1 with
  | true, true => some (if newerMod 32 (d.mramWord (healthBase 1 + 4)) (d.mramWord (healthBase 0 + 4)) then 1 else 0)
  | true, false => some 0
  | false, true => some 1
  | false, false => none

/-- R507: the words of the record in use; without a record, zeros. -/
def Dev.healthWords (d : Dev) : List Nat :=
  match d.hearth.healthCopy with
  | some c => (List.range 221).map (fun k => d.mramWord (healthBase c + 4 * k))
  | none => 0x97648EA1 :: List.replicate 220 0

/-- Word `k` of the record in use. -/
def Dev.healthWord (d : Dev) (k : Nat) : Nat := d.healthWords.getD k 0

/-- R507: GENERATION of the copy in use; without one, 0. -/
def Dev.healthGen (d : Dev) : Nat :=
  match d.hearth.healthCopy with
  | some c => d.mramWord (healthBase c + 4)
  | none => 0

/-- R507: the other copy is written with these words, GENERATION advanced by 1 and the CRC renewed.
    Log 56 (DESIGN CHOICE, unsafe). -/
def Dev.healthWrite (ws : List Nat) (d : Dev) : Dev :=
  let other := match d.hearth.healthCopy with
    | some 0 => 1
    | _ => 0
  let body := ((ws.set 0 0x97648EA1).set 1 ((d.healthGen + 1) % 2 ^ 32)).take 220
  let bytes := body.flatMap (leBytes 4)
  let d1 := d.mramStore (healthBase other) (bytes ++ leBytes 4 (Alg.crc32c.crc bytes))
  { d1 with hearth := { d1.hearth with healthCopy := some other } }

/-- R507: the record is updated. -/
def Dev.healthUpdate (d : Dev) (f : List Nat → List Nat) : Dev :=
  let ws := (((f d.healthWords).set 3 (d.rg F.SYS_BOOT_COUNT_STARTS)).set 4 (d.rg F.LEAVEN_TRIM_TRIM)).set 5
    (d.rg F.FETCH_EFF_CEILING + d.rg F.FETCH_DERATE_TRAIN_MS * 65536) |>.set 6 (b2n d.hearth.capLow)
  d.healthWrite ws

/-- R508: the entry of a slice: four words from W16 + 4s. -/
def Dev.sliceEntry (d : Dev) (s : Nat) : List Nat := (List.range 4).map (fun k => d.healthWord (16 + 4 * s + k))

end Sys2Proof.Machine
end

