-- ==== Sys2Proof/Machine/Leaven.lean ====
section
/-! DEFINITION.  Leaven: margins and plans (R452 to R454), degraded operation and the pipe cap (R455, R456). -/

namespace Sys2Proof.Machine

/-- R436: an island's ageing pairs: the first and their number. -/
def ageingPairs : Nat → Nat × Nat
  | 0 => (0, 16) | 1 => (16, 10) | 2 => (26, 8) | 3 => (34, 4) | 4 => (38, 4) | 5 => (42, 4) | 6 => (46, 2)
  | _ => (0, 0)

/-- The islands, by code. -/
def islands : List Nat := [0, 1, 2, 3, 4, 5, 6]

/-- R460: TRIM of an island in 5 mV steps. -/
def Dev.trim (d : Dev) (i : Nat) : Nat := bits (d.rg F.LEAVEN_TRIM_TRIM) (4 * i) 4

/-- R455: an island's bump in 5 mV steps, over the nine watched differences. -/
def Dev.bump (d : Dev) (i : Nat) : Nat :=
  sumOf (fun q => Tab.get (fun _ => 0) d.hearth.bumps (q * 8 + i)) (List.range 9)

/-- R466: the supply target of every island: nominal voltage, TRIM and bump. -/
def Dev.targets (d : Dev) : Dev :=
  Dev.each (fun i d => d.sg (F.POWER_ISLAND_TARGET.i i) (nominalMv i + 5 * (d.trim i + d.bump i))) islands d

/-- Set the TRIM of an island. -/
def Dev.setTrim (d : Dev) (i n : Nat) : Dev :=
  (d.sg F.LEAVEN_TRIM_TRIM (setBits (d.rg F.LEAVEN_TRIM_TRIM) (4 * i) 4 n)).targets

/-- R510: an ageing pair is excluded by the health record. -/
def Dev.ageExcluded (d : Dev) (k : Nat) : Bool := bit (d.healthWord (10 + k / 32)) (k % 32)

/-- R452, R510: D of an island, the highest DEGRADE among its usable pairs; without one, among all usable pairs. -/
def Dev.degrade (d : Dev) (i : Nat) : Nat :=
  let r := ageingPairs i
  let usable := fun (l : List Nat) => l.filter (fun k => !d.ageExcluded k)
  let mine := usable ((List.range r.2).map (r.1 + ·))
  maxOf (fun k => bits (d.rg (F.SENSOR_AGE_WORD.i k)) 0 16) (if mine.isEmpty then usable (List.range 48) else mine)

/-- What R453 may change: TRIM steps, the pipe cap, CEILING and TRAIN_MS. -/
structure Caps where
  trim : Nat
  capLow : Bool
  ceiling : Nat
  trainMs : Nat

/-- R453: the credit C of an island under capabilities. -/
def Caps.credit (c : Caps) (i : Nat) : Nat :=
  match i with
  | 0 => if c.capLow then 25 else 0
  | 1 => if c.capLow then 25 else 0
  | 2 => 15 * ((7200 - c.ceiling) / 400)
  | 3 => if c.trainMs ≤ 50 then 20 else if c.trainMs ≤ 250 then 10 else 0
  | _ => 0

/-- R452: an island's margin in mV under capabilities. -/
def Dev.marginWith (d : Dev) (c : Caps) (i : Nat) : Int :=
  (Config.factoryMargin i : Int) + 5 * c.trim + c.credit i - ceilDiv (d.degrade i * 4) 1000

/-- The capabilities as they stand. -/
def Dev.caps (d : Dev) (i : Nat) : Caps :=
  ⟨d.trim i, d.hearth.capLow, d.rg F.FETCH_EFF_CEILING, d.rg F.FETCH_DERATE_TRAIN_MS⟩

/-- R452: an island's margin as it stands. -/
def Dev.margin (d : Dev) (i : Nat) : Int := d.marginWith (d.caps i) i

/-- R453: actions on an island while its margin is below 30 mV; `n` bounds the steps. -/
def Dev.planIsland (d : Dev) (i : Nat) : Nat → Caps → Caps
  | 0, c => c
  | n + 1, c =>
    if 30 ≤ d.marginWith c i then c
    else if c.trim < 12 then Dev.planIsland d i n { c with trim := c.trim + 1 }
    else match i with
      | 0 => if c.capLow then c else Dev.planIsland d i n { c with capLow := true }
      | 1 => if c.capLow then c else Dev.planIsland d i n { c with capLow := true }
      | 2 => if c.ceiling ≤ 6400 then c else Dev.planIsland d i n { c with ceiling := if 6800 < c.ceiling then 6800 else 6400 }
      | 3 => if c.trainMs ≤ 50 then c else Dev.planIsland d i n { c with trainMs := if 250 < c.trainMs then 250 else 50 }
      | _ => c

/-- R453: the actions that take island `i` from its capabilities to planned ones; TRIM's new value is in mV. -/
def planActs (i : Nat) (a b : Caps) : List PlanAct :=
  (if a.trim = b.trim then [] else [⟨i, 1, 5 * b.trim⟩]) ++ (if a.capLow == b.capLow then [] else [⟨i, 2, 2000⟩])
    ++ (if a.ceiling = b.ceiling then [] else [⟨i, 3, b.ceiling⟩]) ++ (if a.trainMs = b.trainMs then [] else [⟨i, 4, b.trainMs⟩])

/-- R453: the plan of a run, island by island; an action that one island took stands for the next. -/
def Dev.planAll (d : Dev) : List PlanAct :=
  (islands.foldl (fun (r : List PlanAct × Bool) i =>
    let a := { d.caps i with capLow := (d.caps i).capLow || r.2 }
    let b := d.planIsland i 20 a
    (r.1 ++ planActs i a b, b.capLow)) ([], false)).1

/-- R456: CAP_MPIX of every pipe, and OVER_CAP. -/
def Dev.capShow (d : Dev) : Dev :=
  let cap := if d.rg F.HEARTH_STATE_DEGRADED ≠ 0 || d.hearth.capLow then 2000 else 2400
  (Dev.each (fun p d => d.sg (F.PIPE_TG_STATUS_CAP_MPIX.i p) cap) [0, 1, 2, 3] d).overShow

/-- R455: cause `k` sets: its bit, a DEGRADED entry and the cap. -/
def Dev.causeSet (d : Dev) (k : Nat) : Dev :=
  if bit (d.rg F.HEARTH_STATE_DEGRADED) k then d
  else
    let d1 := d.orBits F.HEARTH_STATE_DEGRADED (2 ^ k)
    (d1.logE 5 6 2 (d1.rg F.HEARTH_STATE_DEGRADED)).capShow

/-- R455: cause `k` clears. -/
def Dev.causeClear (d : Dev) (k : Nat) : Dev := (d.clrBits F.HEARTH_STATE_DEGRADED (2 ^ k)).capShow

/-- R460: the margin registers.
    Log 53 (DESIGN CHOICE, unsafe). -/
def Dev.marginShow (d : Dev) : Dev :=
  Dev.each (fun i d =>
    let f := if i % 2 = 0 then F.LEAVEN_MARGIN_MARGIN_LO.i (i / 2) else F.LEAVEN_MARGIN_MARGIN_HI.i (i / 2)
    d.sg f (ofInt 16 (d.margin i))) islands d

/-- R453: one action takes effect. -/
def Dev.planApply (a : PlanAct) (d : Dev) : Dev :=
  match a.action with
  | 1 => d.setTrim a.island (a.value / 5)
  | 2 => { d with hearth := { d.hearth with capLow := true } }.capShow
  | 3 =>
    let d1 := d.sg F.FETCH_EFF_CEILING a.value
    { (if a.value < d1.rg F.FETCH_EFF_EFF then d1.sg F.FETCH_EFF_EFF a.value else d1) with replan := true }
  | 4 => { d.sg F.FETCH_DERATE_TRAIN_MS a.value with replan := true }
  | _ => { d.sg F.FETCH_DERATE_REF_PLAN a.value with replan := true }

/-- R439, R453: an action is applied and logged.
    Log 53 (DESIGN CHOICE, unsafe). -/
def Dev.planLog (a : PlanAct) (d : Dev) : Dev :=
  (d.planApply a).logE 3 6 1 (a.island * 2 ^ 28 + a.action * 2 ^ 24 + a.value % 2 ^ 24)

/-- R453, R455: a plan takes effect: its actions, the margins, MARGIN and the cause MARGIN_EXHAUSTED.
    Log 53 (DESIGN CHOICE, unsafe). -/
def Dev.planTake (d : Dev) (acts : List PlanAct) : Dev :=
  let d1 := (Dev.each Dev.planLog acts d).marginShow
  let d2 := if acts.isEmpty then d1 else ((d1.incSat F.LEAVEN_STATUS_REPLANS).attn .margin).healthUpdate id
  let low := islands.any (fun i => decide (d2.margin i < 30))
  let d3 := d2.onlyIf low (·.attn .margin)
  if islands.any (fun i => decide (d3.margin i < 0)) then d3.causeSet 3 else d3.causeClear 3

/-- R452: the re-plan of a run takes effect at the first tick after it. -/
def Dev.leavenTick (d : Dev) : Dev :=
  match d.hearth.plan with
  | some acts => { d with hearth := { d.hearth with plan := none } }.planTake acts
  | none => d

/-- R292: the highest refresh multiplier that any channel reports.
    Log 53 (DESIGN CHOICE, unsafe). -/
def Dev.refHigh (d : Dev) : Nat := maxOf (fun n => d.rg (F.CH_STATUS_REF_MULT.i n)) (List.range 16)

/-- R454: at each tick REF_PLAN rises to the highest multiplier reported.
    Log 53 (DESIGN CHOICE, unsafe). -/
def Dev.refRaise (d : Dev) : Dev :=
  if d.rg F.FETCH_DERATE_REF_PLAN < d.refHigh then (d.planLog ⟨3, 5, d.refHigh⟩).attn .margin else d

/-- LEAVEN_RUN (R452): a run starts measuring. -/
def leavenRun (d : Dev) : Dev := { d with hearth := { d.hearth with measuring := true } }

/-- R452, R454, R505: what a run measures is recorded, but for pairs under an on-demand slice, and planned; a periodic run may lower REF_PLAN by one step.
    Log 53 (DESIGN CHOICE, unsafe). -/
def Dev.leavenMeasure (d : Dev) (degrade : List (BitVec 16)) (periodic : Bool) : Dev :=
  let word := fun (k : Nat) (v : BitVec 16) => 2 ^ 31 + (firstWith (fun i =>
    within (ageingPairs i).1 ((ageingPairs i).1 + (ageingPairs i).2 - 1) k) islands).getD 0 * 65536 + v.toNat
  let d1 := if d.onDemand 0x32 then d else Dev.each (fun (x : BitVec 16 × Nat) d =>
    d.sg (F.SENSOR_AGE_WORD.i x.2) (if d.ageExcluded x.2 then 0 else word x.2 x.1)) (degrade.zip (List.range 48)) d
  let plan := d1.rg F.FETCH_DERATE_REF_PLAN
  let recent := fun m => match Tab.get (fun _ => none) d1.hearth.refSeen m with
    | some t => decide (d1.now < t + 6 * 3600 * 1000000000)
    | none => false
  let lower := periodic && decide (0 < plan) && !(List.range 4).any (fun m => decide (plan ≤ m) && recent m)
  let acts := d1.planAll ++ (if lower then [⟨3, 5, plan - 1⟩] else [])
  { d1 with hearth := { d1.hearth with measuring := false, plan := some acts } }.marginShow

/-- LEAVEN_RUN_COMPLETE (R452, R453). -/
def leavenRunComplete (degrade : List (BitVec 16)) (d : Dev) : Dev :=
  if d.hearth.measuring then d.leavenMeasure degrade true else d

/-- LEAVEN_RUN. -/
def execLeavenRun (s : State) : Host.Outcome State Fault Refusal := s.run leavenRun

/-- LEAVEN_RUN_COMPLETE. -/
def execLeavenRunComplete (degrade : List (BitVec 16)) (s : State) : Host.Outcome State Fault Refusal :=
  s.run (leavenRunComplete degrade)

end Sys2Proof.Machine
end

