-- ==== Sys2Proof/Machine/Genlock.lean ====
section
/-! DEFINITION.  Model time, and genlock: groups, leaders and the lock loop (R298 to R303). -/

namespace Sys2Proof.Machine

/-- R460: HEARTH_WDOG.RECENT counts the expiries of the last 60 s.
    Log 49 (DESIGN CHOICE, unsafe). -/
def Dev.recentShow (d : Dev) : Dev :=
  let l := d.hearth.expiries.filter (fun t => decide (d.now < t + 60000000000))
  if l == d.hearth.expiries then d
  else { d with hearth := { d.hearth with expiries := l } }.sg F.HEARTH_WDOG_RECENT l.length

/-- R519: REMAINING of a running slice. -/
def Dev.remainShow (d : Dev) : Dev :=
  if d.fl F.SECURE_ST_STATUS_RUNNING then d.sg F.SECURE_ST_STATUS_REMAINING d.sliceLeft else d

/-- Model time advances by `dt` ns; SYS_REF_STATUS.PRESENT lasts 100 ms after an edge (R303).
    Log 6 (DESIGN CHOICE, unsafe). -/
def Dev.advance (d : Dev) (dt : Nat) : Dev :=
  let d1 := ({ d with now := d.now + dt } : Dev).recentShow.remainShow
  match d.refEdge with
  | some t => if t + 100000000 < d1.now then d1.dn F.SYS_REF_STATUS_PRESENT else d1
  | none => d1

/-- R298: the leader of a genlock group in a view. -/
def genLeader (v : View) (g : Nat) : Option Nat := if g = 0 then none else (genMembers v g).head?

/-- R298: SRC of a group, its leader's. -/
def genSrc (v : View) (g : Nat) : Bool :=
  match genLeader v g with
  | some l => v.on (F.PIPE_GENLOCK_SRC.i l)
  | none => false

/-- R298, R300: pipe `p` is a locking member of its group. -/
def genLocking (v : View) (p : Nat) : Bool :=
  let g := genGroup v p
  g != 0 && tgEn v p && (genSrc v g || genLeader v g != some p)

/-- R300: STATE of pipe `p`. -/
def Dev.genState (d : Dev) (p : Nat) : Nat := d.rg (F.PIPE_GENLOCK_STATUS_STATE.i p)

/-- R300: pipe `p` enters a state of the lock loop with its counts afresh. -/
def Dev.genEnter (d : Dev) (p st : Nat) : Dev :=
  (d.putPst p { d.pst p with gGood := 0, gBad := 0, gIn := 0 }).sg (F.PIPE_GENLOCK_STATUS_STATE.i p) st

/-- R302: a member in ACQUIRE, PULL or LOCKED enters HOLDOVER.
    Log 43 (DESIGN CHOICE, unsafe). -/
def Dev.holdover (d : Dev) (p : Nat) : Dev :=
  if within 1 3 (d.genState p) then
    ((((d.genEnter p 4).up (F.PIPE_GENLOCK_STATUS_REF_LOST.i p)).incSat
      (F.PIPE_GENLOCK_STATUS_LOSS_COUNT.i p)).attn .link).logOpen
  else d

/-- A pipe's frame period, as ns times its rate in kHz. -/
def Raster.periodScaled (r : Raster) : Nat := r.htot * r.vtot * r.fDen * 1000

/-- R300: a measured period of `ns` lies within ±100 ppm of the frame period. -/
def Raster.within100ppm (r : Raster) (ns : Nat) : Bool :=
  let a := ns * r.khz * 10000
  let b := r.periodScaled * 10000
  decide (a ≤ b + r.periodScaled) && decide (b ≤ a + r.periodScaled)

/-- R300, R302: a reference event at the present moment, for member `p`; the target instant is `off` ns away.
    Log 43 (DESIGN CHOICE, unsafe). -/
def Dev.refEvent (d : Dev) (off : Int) (p : Nat) : Dev :=
  let x := d.pst p
  let good := match x.gRef with
    | some t => some ((rasterOf d.acV p).within100ppm (d.now - t))
    | none => none
  let d1 := d.putPst p { x with
    gRef := some d.now
    gTarget := ((d.now : Int) + off).toNat
    gGood := if good == some true then x.gGood + 1 else 0
    gBad := if good == some false then x.gBad + 1 else 0 }
  let y := d1.pst p
  match d1.genState p with
  | 1 => if 4 ≤ y.gGood then d1.genEnter p 2 else if 4 ≤ y.gBad then d1.holdover p else d1
  | 2 => if 4 ≤ y.gBad then d1.holdover p else d1
  | 3 => if 4 ≤ y.gBad then d1.holdover p else d1
  | 4 => d1.genEnter p 1
  | _ => d1

/-- R300: the phase error of pipe `p` at the present moment in its pclk, to the nearest target instant.
    Log 43 (DESIGN CHOICE, unsafe). -/
def Dev.phaseError (d : Dev) (p : Nat) : Int :=
  let r := rasterOf d.acV p
  let n : Int := r.htot * r.vtot
  let e := ((d.now : Int) - (d.pst p).gTarget) * r.khz / (r.fDen * 1000) % n
  if n < 2 * e then e - n else e

/-- R300: the lock loop at pipe `p`'s own swap point.
    Log 43 (DESIGN CHOICE, unsafe). -/
def Dev.lockStep (d : Dev) (p : Nat) : Dev :=
  if (d.pst p).gRef.isNone || !within 1 4 (d.genState p) then d
  else
    let e := d.phaseError p
    let d1 := d.sg (F.PIPE_GENLOCK_STATUS_ERROR.i p) (ofInt 16 (clampInt (-32768) 32767 e))
    if d1.genState p = 2 then
      let n := if -2 ≤ e ∧ e ≤ 2 then (d1.pst p).gIn + 1 else 0
      let d2 := d1.putPst p { d1.pst p with gIn := n }
      if 8 ≤ n then d2.genEnter p 3 else d2
    else d1

/-- R302: pipe `p` stays in a pipe-led group whose leader under `old` has stopped or has left it. -/
def leaderGone (old v : View) (p : Nat) : Bool :=
  let g := genGroup v p
  !genSrc old g && (genMembers v g).contains p && (genMembers old g).contains p
    && (genLeader old g).any (fun l => !(genMembers v g).contains l)

/-- R300 to R302: at a swap point of pipe `s`, after the active bank has changed from `old`, pipes join and leave the lock
    loop; a pipe-led group that has lost its leader is in HOLDOVER, its new leader too until the group's next swap point; a
    new PHASE returns a REF_IN group to PULL. -/
def Dev.genSync (d : Dev) (s : Nat) (old : View) : Dev :=
  let v := d.acV
  Dev.each (fun p d =>
      let g := genGroup v p
      if leaderGone old v p then d.holdover p
      else if !genLocking v p then
        if d.genState p = 0 || (d.genState p == 4 && (genMembers v g).contains p && genGroup v s != g) then d
        else (d.genEnter p 0).putPst p { d.pst p with gRef := none, gGood := 0, gBad := 0, gIn := 0 }
      else if d.genState p = 0 || genGroup old p != g then
        (d.genEnter p 1).putPst p { d.pst p with gRef := none, gGood := 0, gBad := 0, gIn := 0 }
      else match genLeader v g with
        | some l =>
          if genSrc v g && d.genState l == 3 && old.g (F.PIPE_GENLOCK_PHASE.i l) != v.g (F.PIPE_GENLOCK_PHASE.i l)
              && within 2 3 (d.genState p) && l != p then d.genEnter p 2
          else d
        | none => d) pipes d
  |> fun d => Dev.each (fun l d =>
      if genSrc v (genGroup v l) && genLeader v (genGroup v l) == some l && d.genState l == 3
          && old.g (F.PIPE_GENLOCK_PHASE.i l) != v.g (F.PIPE_GENLOCK_PHASE.i l) then d.genEnter l 2 else d) pipes d

/-- R298: the swap point of pipe `p` as the reference event of the members it leads. -/
def Dev.leadEvent (d : Dev) (p : Nat) : Dev :=
  let v := d.acV
  let g := genGroup v p
  if g != 0 && genLeader v g == some p && !genSrc v g then
    Dev.each (fun q d => if q == p then d else d.refEvent 0 q) (genMembers v g) d
  else d

/-- R298, R303: an active REF_IN edge as the reference event of the groups with SRC = 1. -/
def Dev.refInEvent (d : Dev) : Dev :=
  let v := d.acV
  Dev.each (fun p d =>
      let g := genGroup v p
      match genLeader v g with
      | some l =>
        if genLocking v p && genSrc v g then
          let r := rasterOf v l
          d.refEvent (toInt 24 (v.g (F.PIPE_GENLOCK_PHASE.i l)) * (r.fDen * 1000) / r.khz) p
        else d
      | none => d) pipes d

/-- R303: an active REF_IN edge is measured. -/
def Dev.refMeasure (d : Dev) : Dev :=
  let d1 := (match d.refEdge with
    | some t => d.sg F.SYS_REF_STATUS_PERIOD (min ((d.now - t) / 40) 0xFFFFF)
    | none => d).up F.SYS_REF_STATUS_PRESENT
  { d1 with refEdge := some d1.now }

/-- GENLOCK_REF_LOST (R302): no reference event arrived within 2 frame periods; one of the same cycle counts (R324).
    Log 43 (DESIGN CHOICE, unsafe). -/
def genlockRefLost (p : Nat) (d : Dev) : Dev :=
  if genLocking d.acV p && (d.pst p).gRef != some d.now then d.holdover p else d

/-- GENLOCK_REF_LOST. -/
def execGenlockRefLost (pipe : Fin 4) (s : State) : Host.Outcome State Fault Refusal :=
  s.run (genlockRefLost pipe.val)

end Sys2Proof.Machine
end

