-- ==== Sys2Proof/Machine/Swap.lean ====
section
/-! DEFINITION.  The cutoff (R97 to R102), what a swap point takes, holds and drops (R82, R90, R99 to R107, R110, R236 to
    R239), the frame it opens (R182, R204, R310 to R313), and changes of owner (R41 to R43). -/

namespace Sys2Proof.Machine

/-! ### Cutoff -/

/-- R101: the value of a fence as pipe `p` sampled it; a FREE fence reads 0. -/
def Dev.sampled (d : Dev) (p f : Nat) : Nat := (Tab.get dfltFence (d.pst p).sample f).val.toNat

/-- R101, R102: the snapshot's wait is unsatisfied by what pipe `p` sampled. -/
def Dev.unsat (d : Dev) (p : Nat) (s : Snap) : Bool :=
  match s.id with
  | .layer l => fenceEn s.view l
      && decide (d.sampled p (s.view.g (lf F.VL_FLIP_CTRL_FID F.GL_FLIP_CTRL_FID l))
        < s.view.g (lf F.VL_FLIP_WAIT_VALUE F.GL_FLIP_WAIT_VALUE l))
  | _ => false

/-- R103: the flip group of a snapshot. -/
def Snap.group (s : Snap) : Option Nat :=
  match s.id with
  | .layer l =>
    if s.view.on (lf F.VL_FLIP_CTRL_GROUP_EN F.GL_FLIP_CTRL_GROUP_EN l) then
      some (s.view.g (lf F.VL_FLIP_CTRL_GROUP F.GL_FLIP_CTRL_GROUP l)) else none
  | _ => none

/-- R90: the snapshot takes a layer from running pipe `p` to another pipe. -/
def Dev.leaving (d : Dev) (p : Nat) (s : Snap) : Bool :=
  match s.id with
  | .layer l => pipeOf d.acV l == some p && (match d.snapPipe s with
    | some q => q != p
    | none => false)
  | _ => false

/-- The armed snapshots that pipe `p`'s swap point is to take. -/
def Dev.swapping (d : Dev) (p : Nat) : List Snap := d.armed.filter (fun s => d.swapsAt s p)

/-- R104: the flip groups of pipe `p` that its sample holds. -/
def Dev.heldGroups (d : Dev) (p : Nat) : List Nat :=
  (((d.swapping p).filter (fun s => d.unsat p s && !d.leaving p s)).filterMap Snap.group).eraseDups

/-- R104: the snapshots that pipe `p`'s sample holds. -/
def Dev.heldAt (d : Dev) (p : Nat) : List Snap :=
  let g := d.heldGroups p
  (d.swapping p).filter (fun s => d.unsat p s || (!d.leaving p s && (match s.group with
    | some k => g.contains k
    | none => false)))

/-- R245, R247: the cutoff tests the ready version: an obsolete one is discarded; one whose members' waits are all
    satisfied is marked. -/
def Dev.versionTest (d : Dev) (p : Nat) : Dev :=
  match (d.crustAt p).ready with
  | none => d
  | some r =>
    if r.obsolete then d.discardReady p
    else
      let held := d.heldAt p
      let ok := r.held.all (fun s => match s.id with
        | .layer l => !((r.under ++ r.top).contains l && held.any (fun x => x.id == s.id))
        | _ => true)
      d.putCrust p { d.crustAt p with ready := some { r with marked := ok } }

/-- R99, R102: the armed bank of pipe `p` freezes and the fences are sampled. -/
def Dev.freeze (d : Dev) (p : Nat) : Dev :=
  if (d.pst p).frozen then d
  else (d.putPst p { d.pst p with frozen := true, sample := d.fence }).versionTest p

/-- R108: the pipes that take their cutoff with `p`: they swap together and share an armed commit, or a strobe under
    validation that is on time. -/
def Dev.cutoffWith (d : Dev) (p : Nat) : List Nat :=
  let seqs := (d.armed.filter (fun s => (d.snapPipes s).contains p)).map (·.seq)
  pipes.filter (fun r => r == p || (d.together p r
    && (d.armed.any (fun s => (d.snapPipes s).contains r && seqs.contains s.seq)
      || d.strobes.any (fun st => st.pipes.contains p && st.pipes.contains r && !st.late.contains p))))

/-- CUTOFF (R97 to R102, R108). -/
def cutoff (p : Nat) (d : Dev) : Dev :=
  if d.running p then Dev.each (fun r d => d.freeze r) (d.cutoffWith p) d else d

/-- R97: EFFECTIVE under the active timing. -/
def Dev.cutoffLines (d : Dev) (p : Nat) : Nat :=
  let r := rasterOf d.acV p
  let cover := fun (us : Nat) => ceilDiv (us * r.khz) (r.fDen * r.htot)
  let n := d.rg (F.PIPE_CUTOFF_LINES.i p)
  min (max (if n = 0 then cover 64 else n) (cover 24)) (r.vtot - 1)

/-! ### Owner -/

/-- R41 to R43: a pending change of owner completes when nothing of the old plane is armed, held or late.
    Log 17 (DEDUCED, unsafe), 20 (DEDUCED, unsafe). -/
def Dev.ownerStep (d : Dev) (force : Bool) (p : Nat) : Dev :=
  let svc := d.fl (F.PIPE_OWNER_OWNER.i p)
  if d.fl (F.PIPE_OWNER_PENDING.i p)
      && (force || !((d.armed ++ d.late).any (fun s => s.fw == svc && (d.snapPipes s).contains p))) then
    ((d.sg (F.PIPE_OWNER_OWNER.i p) (b2n (!svc))).dn (F.PIPE_OWNER_PENDING.i p)).sq3Show
  else d

/-! ### What becomes active -/

/-- R337: a layer's snapshot flips the layer. -/
def flips (old : View) (s : Snap) (l : Nat) : Bool := s.view.g (lf F.VL_SID_SID F.GL_SID_SID l) != lySid old l || fenceEn s.view l

/-- R182, R190: DISABLED clears for video layer `l`. -/
def Dev.guardOut (d : Dev) (l : Nat) : Dev := if l < 64 then d.dn (F.VL_FAULT_DISABLED.i l) else d

/-- R90, R122, R190: a layer leaves its pipe: EN of its active bank becomes 0, its grant is released, its counts clear, and
    it is neither held nor disabled by the guard.
    Log 33 (DESIGN CHOICE, unsafe). -/
def Dev.leave (d : Dev) (l : Nat) : Dev :=
  let d1 := ((({ d with active := (lf F.VL_CTRL_EN F.GL_CTRL_EN l).set dfltB d.active 0 }.clearRuns l).quietReset l).unhold l).guardOut l
  if l < 64 then (d1.release l 0).needShow l (d.usedDecim l) else d1

/-- R90: running pipe `q` reached its swap point at this very instant, with the snapshot armed: that swap point is not
    earlier than the leave, so the layer joins at it.
    Log 33 (DESIGN CHOICE, unsafe). -/
def Dev.joinsNow (d : Dev) (q l : Nat) (s : Snap) : Bool :=
  (d.pst q).lastSwap == d.now && (d.pst q).waiting.contains (l, s.seq) && !d.fl (F.PIPE_COMMIT_STATUS_CLASS_B.i q)

/-- R90: the layers that wait to leave another pipe for pipe `q`, with their commits.
    Log 33 (DESIGN CHOICE, unsafe). -/
def Dev.joiners (d : Dev) (q : Nat) : List (Nat × Nat) :=
  d.armed.filterMap (fun s => match s.id with
    | .layer l => if d.snapPipe s == some q && (pipeOf d.acV l).any (· != q) then some (l, s.seq) else none
    | _ => none)

/-- The change of a swap point so far: a value differs, the layers that flipped, taps newly set. -/
structure Taken where
  changed : Bool := false
  flips : List Nat := []
  some : Bool := false

/-- R182, R190: the frame of pipe `p` ends: DISABLED clears for its layers and for those of no pipe. -/
def Dev.guardClear (d : Dev) (p : Nat) : Dev :=
  Dev.each (fun l d => if (pipeOf d.acV l).all (· == p) then d.guardOut l else d) (List.range 64) d

/-- R182: the swap guard tests video layer `l`. -/
def Dev.guardTest (d : Dev) (p l : Nat) : Dev :=
  if !assigned d.acV p l then d
  else
    let n := d.lsNeed d.acV l (d.usedDecim l)
    if n ≤ d.granted l 0 ∧ n ≤ 48 then d.dn (F.VL_FAULT_DISABLED.i l)
    else
      let d1 := ((((d.up (F.VL_FAULT_LAYER_FAULT.i l)).incSat (F.VL_FAULT_FAULT_COUNT.i l)).up (F.VL_FAULT_DISABLED.i l)).faultSum
        F.SYS_FAULT_SUMMARY_LAYER_FAULT).logE 4 2 1 l
      let f := d1.frame p
      d1.putFrame p ({ f with cause := f.cause ||| Cause.layerFault.bit }.causeL l .layerFault)

/-- R204: a layer whose curve RAM is not VALID is composed without tone mapping. -/
def Dev.curveTest (d : Dev) (p l : Nat) : Dev :=
  if assigned d.acV p l && d.noCurve d.acV l then
    (d.up (lf F.VL_TM_STATUS_MISSING F.GL_TM_STATUS_MISSING l)).putFrame p
      { d.frame p with noTm := (l, 0) :: (d.frame p).noTm }
  else d

/-- R82, R90, R105: one snapshot is taken at pipe `p`'s swap point. -/
def Dev.takeOne (p : Nat) (s : Snap) (r : Dev × Taken) : Dev × Taken :=
  let d := r.1
  let t := r.2
  let go := fun (d : Dev) =>
    let d1 := (d.dropArmed (fun x => x.id == s.id)).activate s 1
    match s.id with
    | .layer l => d1.unhold l
    | _ => d1
  match s.id with
  | .layer l =>
    if d.leaving p s then
      let d1 := d.leave l
      let q := (d.snapPipe s).getD p
      let t1 : Taken := { t with changed := true, some := true }
      if d1.stopped q then (if s.fenced then d1 else go d1, t1)
      else if d.joinsNow q l s then
        let d2 := go d1
        let d3 := if flips d.acV s l then d2.putFrame q { d2.frame q with flips := l :: (d2.frame q).flips } else d2
        ((if l < 64 then d3.guardTest q l else d3).curveTest q l, t1)
      else (d1, t1)
    else (go d, { changed := t.changed || blkWords s.id d.active != s.vals,
                  flips := if flips d.acV s l then l :: t.flips else t.flips, some := true })
  | _ => (go d, { t with changed := t.changed || blkWords s.id d.active != s.vals, some := true })

/-- R104: the layers and groups held at this swap point are shown and counted.
    Log 33 (DESIGN CHOICE, unsafe). -/
def Dev.holdCount (d : Dev) (p : Nat) (held : List Snap) : Dev :=
  let groups := d.heldGroups p
  let lone := held.any (fun s => match s.group with
    | some g => !groups.contains g
    | none => true)
  let d1 := Dev.each (fun (s : Snap) d => match s.id with
      | .layer l => (d.up (lf F.VL_FLIP_STATUS_HELD F.GL_FLIP_STATUS_HELD l)).incSat
          (lf F.VL_FLIP_STATUS_HOLD_FRAMES F.GL_FLIP_STATUS_HOLD_FRAMES l)
      | _ => d) held d
  let x := d1.pst p
  let counts := (List.range 16).foldl (fun t g =>
    if groups.contains g then Tab.put (fun _ => 0) t g (Tab.get (fun _ => 0) x.groupHold g + 1) else t) ([] : Tab Nat)
  let d2 := ((d1.putPst p { x with groupHold := counts }).sg (F.PIPE_HELD_GROUPS_GROUPS.i p)
    (sumOf (fun g => 2 ^ g) groups)).sg (F.PIPE_HELD_GROUPS_UNGROUPED.i p) (b2n lone)
  if held.isEmpty then d2
  else (d2.up (F.PIPE_COMMIT_STATUS_FLIP_HELD.i p)).incSat (F.PIPE_HOLD_COUNTS_HELD_COUNT.i p)

/-- R106: a dropped snapshot: its values and grant are discarded. -/
def Dev.dropSnap (d : Dev) (s : Snap) : Dev :=
  let d1 := d.dropArmed (fun x => x.id == s.id)
  match s.id with
  | .layer l => (if l < 64 then d1.release l 1 else d1).unhold l
  | _ => d1

/-- R66, R108: the pipes on which an armed mismatch at a block of pipe `p` discards values: `p` and its group. -/
def Dev.parityPipes (d : Dev) (p : Nat) : List Nat := pipes.filter (fun r => r == p || d.together p r)

/-- R66: the armed values of the commit that placed a mismatched value are discarded on the pipe and its group. -/
def Dev.armedParity (d : Dev) (off : Nat) : Dev :=
  match blkOf off with
  | none => d
  | some b =>
    match snapOf b d.armed with
    | none => d
    | some s =>
      let ps := (d.snapPipes s).flatMap d.parityPipes
      let gone := d.armed.filter (fun x => x.id == b
        || (x.seq == s.seq && (d.snapPipes x).any (fun p => ps.contains p)))
      let d1 := (Dev.each (fun x d => d.dropSnap x) gone d).discarded gone
      (Dev.each (fun r d => d.crustObsolete r gone) pipes d1).armShow.poolShow

/-- R65, R66: the swap point of pipe `p` checks the armed values it is to take. -/
def Dev.swapParity (d : Dev) (p : Nat) : Dev :=
  Dev.each (fun (m : Mismatch) d => (d.parityReport m).armedParity m.off)
    (d.latentIn .armed (fun b => (d.swapping p).any (fun s => s.id == b))) d

/-- R106: held layers and groups that have reached TIMEOUT_FRAMES are dropped. -/
def Dev.holdDrop (d : Dev) (p : Nat) (held : List Snap) : Dev :=
  let n := d.rg (F.PIPE_FLIP_CTRL_TIMEOUT_FRAMES.i p)
  let groups := (d.heldGroups p).filter (fun g => decide (n ≤ Tab.get (fun _ => 0) (d.pst p).groupHold g))
  let due := fun (s : Snap) => match s.group, s.id with
    | some g, .layer l =>
      if (d.heldGroups p).contains g then groups.contains g
      else decide (n ≤ d.rg (lf F.VL_FLIP_STATUS_HOLD_FRAMES F.GL_FLIP_STATUS_HOLD_FRAMES l))
    | none, .layer l => decide (n ≤ d.rg (lf F.VL_FLIP_STATUS_HOLD_FRAMES F.GL_FLIP_STATUS_HOLD_FRAMES l))
    | _, _ => false
  let gone := held.filter due
  if n = 0 ∨ gone = [] then d
  else
    let count := groups.length + countP (fun s => match s.group with
      | some g => !(d.heldGroups p).contains g
      | none => true) gone
    let x := d.pst p
    let d1 := d.putPst p { x with groupHold := groups.foldl (fun t g => Tab.put (fun _ => 0) t g 0) x.groupHold }
    let d2 := ((Dev.each (fun s d => d.dropSnap s) gone d1).discarded gone)
    let d3 := Dev.each (fun r d => d.crustObsolete r gone) pipes d2
    (d3.up (F.PIPE_COMMIT_STATUS_FENCE_TIMEOUT.i p)).sg (F.PIPE_HOLD_COUNTS_TIMEOUT_COUNT.i p)
      (satAdd 16 (d3.rg (F.PIPE_HOLD_COUNTS_TIMEOUT_COUNT.i p)) count)

/-- R82, R104: the armed snapshots of pipe `p` but the held ones become active; held ones are counted, or dropped. -/
def Dev.takeArmed (d : Dev) (p : Nat) : Dev × Taken :=
  let held := d.heldAt p
  let d1 := (d.holdCount p held).holdDrop p held
  ((d1.swapping p).filter (fun s => !held.any (fun x => x.id == s.id))).foldl (fun r s => Dev.takeOne p s r) (d1, {})

/-- R99: the late store of pipe `p` moves into the armed bank. -/
def Dev.lateArm (d : Dev) (p : Nat) : Dev :=
  let mine := d.late.filter (fun s => s.lateFor.contains p)
  if mine.isEmpty then d
  else
    let old := d.armed.filter (fun x => mine.any (fun s => s.id == x.id))
    let d0 := d.dropArmed (fun x => mine.any (fun s => s.id == x.id))
    let d1 : Dev := { d0 with
      late := d0.late.filter (fun s => !s.lateFor.contains p)
      armed := d0.armed ++ mine.map (fun s => { s with lateFor := [] }) }
    let d2 := Dev.each (fun (s : Snap) d => match s.id with
      | .layer l => (if l < 64 then d.moveGrant l 2 1 else d).unhold l
      | _ => d) mine d1
    let d3 := Dev.each (fun (s : Snap) d => Dev.each (fun q d => d.armedSeq q s.seq) (d.snapPipes s) d) mine d2
    Dev.each (fun r d => (d.crustObsolete r old).crustHold r) pipes ((d3.supersede old).discarded old)

/-! ### Crust at the swap point -/

/-- R237: every pipe that holds this commit has a version built from the held values marked.
    Log 33 (DESIGN CHOICE, unsafe). -/
def Dev.holdEnds (d : Dev) (p : Nat) : Bool :=
  (d.heldSnaps p).isEmpty
    || (pipes.filter (fun r => r == p || (d.together p r && d.fl (F.CRUST_PIPE_STATUS_HOLD.i r)))).all (fun r =>
      (d.crustAt r).holdFor.isEmpty || (match (d.crustAt r).ready with
        | some v => v.marked && !v.held.isEmpty
        | none => false))

/-- R237, R245: the marked version of pipe `p` becomes visible; one built from held values only when the hold is over. -/
def Dev.showMarked (d : Dev) (p : Nat) (free : Bool) : Dev × Bool :=
  match (d.crustAt p).ready with
  | some r => if r.marked && (r.held.isEmpty || free) then (d.versionShow p r, true) else (d, false)
  | none => (d, false)

/-- R237: a swap point passed under crust hold. -/
def Dev.holdPassed (d : Dev) (p : Nat) : Dev :=
  let d1 := d.incSat (F.CRUST_PIPE_STATUS_HOLD_FRAMES.i p)
  let n := d1.rg (F.CRUST_PIPE_CFG_SLOW.i p)
  if n ≠ 0 ∧ d1.rg (F.CRUST_PIPE_STATUS_HOLD_FRAMES.i p) = n then (d1.up (F.CRUST_PIPE_STATUS_SLOW.i p)).logOpen else d1

/-- R237: the hold of pipe `p` ends. -/
def Dev.holdOff (d : Dev) (p : Nat) : Dev :=
  ((d.putCrust p { d.crustAt p with holdFor := [] }).dn (F.CRUST_PIPE_STATUS_HOLD.i p)).dn
    (F.CRUST_PIPE_STATUS_HOLD_FRAMES.i p)

/-- R232: the quiet counts of the graphic layers of pipe `p` after a swap point. -/
def Dev.quietLayers (d : Dev) (old : View) (p : Nat) : Dev :=
  let v := d.acV
  let d1 := Dev.each (fun l d =>
      if assigned v p l then
        if assigned old p l && sameLayer old v l && !d.hinted.contains l then d.incSat (F.GL_CRUST_STATUS_QUIET.i (l - 64))
        else d.quietReset l
      else d) glLayers d
  { d1 with hinted := d1.hinted.filter (fun l => !assigned v p l) }

/-! ### Rest -/

/-- R312: pipe `p` drives an eDP panel with self refresh. -/
def psrPort (v : View) (p : Nat) : Bool :=
  decide (portSel v p < 4) && v.on (F.DP_CTRL_MODE.i (portSel v p)) && v.on (F.DP_CTRL_PSR_EN.i (portSel v p))

/-- REST_STATUS.STATE. -/
def Dev.rest (d : Dev) (p : Nat) : Nat := d.rg (F.PIPE_REST_STATUS_STATE.i p)

/-- R312: PSR_ACTIVE of the port of pipe `p`.
    Log 44 (DESIGN CHOICE, unsafe). -/
def Dev.psr (d : Dev) (p n : Nat) : Dev :=
  if portSel d.acV p < 4 then d.sg (F.DP_STATUS_PSR_ACTIVE.i (portSel d.acV p)) n else d

/-- R310 to R315: the quiet count of pipe `p`, and Rest.
    Log 44 (DESIGN CHOICE, unsafe). -/
def Dev.restStep (d : Dev) (p : Nat) (quiet composed : Bool) : Dev :=
  let d1 := if quiet then d.incSat (F.PIPE_REST_STATUS_QUIET.i p) else d.dn (F.PIPE_REST_STATUS_QUIET.i p)
  let goTo := fun (n : Nat) (d : Dev) => d.sg (F.PIPE_REST_STATUS_STATE.i p) n
  let v := d1.acV
  let entry := v.g (F.PIPE_REST_CTRL_ENTRY.i p)
  if !quiet || !composed then (goTo 0 d1).psr p 0
  else match d1.rest p with
    | 0 =>
      if v.on (F.PIPE_REST_CTRL_EN.i p) && entry != 0 && d1.rg (F.PIPE_REST_STATUS_QUIET.i p) == entry then
        if genGroup v p == 0 && vrrPort v p then goTo 1 d1 else if canReplay v p then goTo 2 d1 else d1
      else d1
    | 1 => if psrPort v p then d1.psr p 1 else d1
    | _ => goTo 3 d1

/-! ### The frame a swap point opens -/

/-- R212: STATE of LUT RAM `k` of pipe `p`. -/
def Dev.lutState (d : Dev) (p k : Nat) : Nat :=
  d.rg (if k = 0 then F.PIPE_LUT_STATUS_RAM0_STATE.i p else F.PIPE_LUT_STATUS_RAM1_STATE.i p)

/-- R212: a pipe whose LUT RAM is not VALID is composed without its LUT. -/
def Dev.lutTest (d : Dev) (p : Nat) : Dev :=
  if d.acOn (F.PIPE_OUT_CTRL_LUT_EN.i p) && d.lutState p (d.ac (F.PIPE_OUT_CTRL_LUT_RAM.i p)) != 2 then
    (d.up (F.PIPE_LUT_STATUS_MISSING.i p)).putFrame p { d.frame p with noLut := some 0 }
  else d

/-- R67: pipe `p` is in safe black. -/
def Dev.safeBlack (d : Dev) (p : Nat) : Bool := bit (d.rg F.SYS_PARITY_STATUS_SAFE_BLACK) p

/-- R67: safe black of pipe `p` ends. -/
def Dev.safeBlackOff (d : Dev) (p : Nat) : Dev :=
  (d.putPst p { d.pst p with reloaded := false, reloadFail := false }).sg F.SYS_PARITY_STATUS_SAFE_BLACK
    (setBits (d.rg F.SYS_PARITY_STATUS_SAFE_BLACK) p 1 0)

/-- R249: pipe `p` shows an INVALID tile as EMPTY. -/
def Dev.showsInvalid (d : Dev) (p : Nat) : Bool :=
  [2 * p, 2 * p + 1].any (fun q => planeCharged d.acV q && (d.planeTiles q).any (fun e => e.2.invalid))

/-- R182, R204, R212, R249, R333: the swap point opens a frame: a black one of a sequence, one sent from the replay region, or
    a composed one; in safe black it sends black and is marked. -/
def Dev.openFrame (d : Dev) (p : Nat) (blanked : Bool) (fl : List Nat) : Dev :=
  let st := d.rest p
  let black := d.safeBlack p
  let psr := decide (st = 1) && psrPort d.acV p && decide (portSel d.acV p < 4)
    && d.fl (F.DP_STATUS_PSR_ACTIVE.i (portSel d.acV p))
  let f : Frame :=
    { live := true, blanked := blanked, black := black, replay := decide (st = 3) && !black && !blanked, notSent := psr,
      count := d.rg (F.PIPE_SWAP_COUNT_SWAPS.i p), flips := fl, cause := if black then Cause.safeBlack.bit else 0 }
  let d := d.guardClear p
  let f := if !blanked && !f.replay && !black && d.showsInvalid p then f.causeF .crust else f
  let d1 := d.putFrame p (if black then (layersOf d.acV p).foldl (fun f l => f.causeL l .safeBlack) f else f)
  if blanked || f.replay then d1
  else
    (Dev.each (fun l d => d.curveTest p l) allLayers (Dev.each (fun l d => d.guardTest p l) (List.range 64) d1)).lutTest p

/-! ### The swap point -/

/-- R306: a black frame of a sequence: nothing becomes active, the late store moves into the armed bank. -/
def Dev.swapBlack (d : Dev) (p : Nat) : Dev :=
  let d1 := (d.sg (F.PIPE_HELD_GROUPS_GROUPS.i p) 0).dn (F.PIPE_HELD_GROUPS_UNGROUPED.i p)
  ((((d1.restStep p false false).lateArm p).surfSwap).openFrame p true [])

/-- R306: the class B sequence of pipe `p` starts: the crust dissolves and no field becomes active.
    Log 33 (DESIGN CHOICE, unsafe). -/
def Dev.classBStart (d : Dev) (p : Nat) : Dev :=
  ((((((d.dissolve false p).holdOff p).up (F.PIPE_COMMIT_STATUS_CLASS_B.i p)).setStep p 1).putPst p
    { d.pst p with steps := 0 }).swapBlack p)

/-- R65, R82 to R107, R232, R245, R310: a swap point that opens a composed frame. -/
def Dev.swapTake (d : Dev) (p : Nat) : Dev :=
  let old := d.acV
  let hold := d.fl (F.CRUST_PIPE_STATUS_HOLD.i p)
  let ends := hold && d.holdEnds p
  let a := if hold && !ends then
      ((d.holdPassed p).sg (F.PIPE_HELD_GROUPS_GROUPS.i p) 0 |>.dn (F.PIPE_HELD_GROUPS_UNGROUPED.i p), ({} : Taken))
    else ((if ends then d.holdOff p else d).swapParity p).takeArmed p
  let b := a.1.showMarked p (!hold || ends)
  let quiet := !a.2.changed && !b.2 && !b.1.changed.contains p
  let d1 := ((b.1.quietLayers old p).restStep p quiet true).lateArm p
  let d2 := if d1.safeBlack p && ((d1.pst p).reloaded || ((d1.pst p).reloadFail && a.2.some)) then d1.safeBlackOff p else d1
  ((d2.genSync p old).surfSwap.openFrame p false (if (d2.rest p) = 3 then [] else a.2.flips)).wbOpen p

/-- R306: the swap point that ends a sequence: CLASS_B and STEP return to 0, and everything held becomes active. -/
def Dev.classBEnd (d : Dev) (p : Nat) : Dev :=
  (((d.dn (F.PIPE_COMMIT_STATUS_CLASS_B.i p)).setStep p 0).clearOutRun p).swapTake p

/-- R114, R98: a swap point that an underrun brings forward before the pipe's cutoff is the cutoff too, so a strobe still
    under validation is late for the pipe. -/
def Dev.strobesCut (d : Dev) (p : Nat) : Dev :=
  if (d.frame p).cut.isNone || (d.pst p).frozen then d
  else
    let missed := d.strobes.filter (fun st => st.pipes.contains p && !st.late.contains p)
    (Dev.each (fun _ d => d.lateCount p) missed d).onlyIf (!missed.isEmpty) (·.attn .late)

/-- R313: the composed frame that follows the entry into Rest-replay has been written to the replay region, whose layout is
    internal.
    Log 42 (DESIGN CHOICE, unsafe). -/
def Dev.replayWrite (d : Dev) (p : Nat) : Dev :=
  if d.rest p = 2 ∧ (d.frame p).live then
    let r := replayRegion d.acV p
    let b := d.freeBytes r.2
    (b.2.store r.1 b.1).noteWrite false r.1 r.2
  else d

/-- R82: the swap point of running pipe `p` but for the tick: the ending frame is published, the armed bank becomes
    active, and the next frame opens.  The status picture of Starter mode (R450) is a free value: GL_0 counts as rewritten. -/
def Dev.swapCore (d : Dev) (p : Nat) : Dev :=
  let d0 := cutoff p (d.strobesCut p)
  let d1 := ((d0.publishFrame p).wbClose p).replayWrite p
  let starter := if d1.rg F.HEARTH_STATE_STATE = 2 ∨ d1.rg F.HEARTH_STATE_STATE = 4 then [64] else []
  let d2 := { d1 with dirty := starter ++ d1.dirty.filter (fun l => pipeOf d1.acV l != some p) }.inc
    (F.PIPE_SWAP_COUNT_SWAPS.i p)
  let d3 := d2.putPst p { d2.pst p with
    lastSwap := d2.now, steps := (d2.pst p).steps + 1, line0 := false, teGo := false }
  let d4 :=
    if d3.fl (F.PIPE_COMMIT_STATUS_CLASS_B.i p) then
      if d3.rg (F.PIPE_TG_STATUS_STEP.i p) = 4 then d3.classBEnd p else d3.swapBlack p
    else if tChange d3.acV d3.arV p == .classB then d3.classBStart p
    else d3.swapTake p
  let d5 := ({ d4 with changed := d4.changed.filter (· != p) }.ownerStep false p).putPst p
    { d4.pst p with frozen := false, sample := [], waiting := d4.joiners p }
  let d6 := (d5.sg (F.PIPE_CUTOFF_EFFECTIVE.i p) (d5.cutoffLines p)).armShow.poolShow
  (((Dev.each (fun q d => d.needShowPipe q) pipes d6).headroom.overClear).leadEvent p).lockStep p

/-- CUTOFF. -/
def execCutoff (pipe : Fin 4) (s : State) : Host.Outcome State Fault Refusal := s.run (cutoff pipe.val)

end Sys2Proof.Machine
end

