-- ==== Sys2Proof/Machine/Tick.lean ====
section
/-! DEFINITION.  Ticks: the tick master and its fallback (R22 to R24), the work a tick starts, carries and does (R25 to R28,
    R181, R280, R342, R429, R454), and the swap point with its tick. -/

namespace Sys2Proof.Machine

/-- R23: 2.0 ms have passed since the last tick. -/
def Dev.tickDue (d : Dev) : Bool :=
  match d.lastTick with
  | some t => decide (t + 2000000 ≤ d.now)
  | none => true

/-- R26, R27: one count for each item that is carried into a new tick or spans it.
    Log 19 (DESIGN CHOICE, unsafe). -/
def Dev.tickCarry (d : Dev) : Dev :=
  let n := d.flattenRunning + countP (fun s => s.listed) d.icp.svc
  { d.sg F.SYS_TICK_CARRY_COUNT (satAdd 32 (d.rg F.SYS_TICK_CARRY_COUNT) n) with
    icp := { d.icp with svc := d.icp.svc.map (fun s => { s with listed := true }) } }

/-- R26 to R28: a tick from source `src`: 0 to 3 a pipe, 4 REF_IN, 5 the timer.
    Log 19 (DESIGN CHOICE, unsafe), 20 (DEDUCED, unsafe). -/
def Dev.tick (d : Dev) (src : Nat) (fallback : Bool) : Dev :=
  let d1 := ((({ d with lastTick := some d.now }.inc F.SYS_TICK_COUNT_TICKS).sg F.SYS_TICK_STATUS_CUR_SRC src).sg
    F.SYS_TICK_STATUS_FALLBACK (b2n fallback)).tickCarry
  let d2 := d1.logTick.staleBook
  let d3 := (if d2.replan then d2.planBudget else d2).leavenTick.refRaise
  Dev.engine (fun d => (Dev.each (fun p d => d.flattenStart p) pipes d).meterTick) d3.rebuildClaims

/-- R23, R24, R29: an event of the tick master ticks, or is counted as skipped; a source that is newly selected becomes the tick
    master at its first event that can tick.
    Log 20 (DEDUCED, unsafe). -/
def Dev.masterEvent (d : Dev) (src : Nat) : Dev :=
  if d.tickSrc = src then
    if d.tickDue then d.tick src false else d.incSat F.SYS_TICK_STATUS_SKIPPED_COUNT
  else if d.rg F.SYS_TICK_CTRL_SRC = src ∧ d.tickDue then { d with tickSrc := src }.tick src false
  else d

/-- R24: the lowest-numbered running pipe. -/
def Dev.lowRunning (d : Dev) : Option Nat := firstWith d.running pipes

/-- R24: a swap point of pipe `p` as a source of ticks. -/
def Dev.tickSwap (d : Dev) (p : Nat) : Dev :=
  if d.tickSrc = p ∨ d.rg F.SYS_TICK_CTRL_SRC = p then d.masterEvent p
  else if d.fl F.SYS_TICK_STATUS_FALLBACK && d.lowRunning == some p && d.tickDue then d.tick p true
  else d

/-- SWAP_POINT (R82): pipe `p` reaches line VACTIVE, `dt` ns after the last event. -/
def swapPoint (p dt : Nat) (d : Dev) : Dev :=
  let d1 := d.advance dt
  if d1.running p then ((d1.swapCore p).barsShow p).tickSwap p else d1

/-- REF_IN_EDGE (R303): an active edge is measured; it drives genlock and the tick. -/
def refInEdge (dt : Nat) (d : Dev) : Dev :=
  let d1 := ((d.advance dt).refMeasure).refInEvent
  d1.masterEvent 4

/-- FALLBACK_TICK (R24): 100 ms after a tick without an event of the tick master.
    Log 15 (DESIGN CHOICE, unsafe), 19 (DESIGN CHOICE, unsafe). -/
def fallbackTick (dt : Nat) (d : Dev) : Dev :=
  let d1 := d.advance dt
  if decide (d1.lastTick.getD d1.startAt + 100000000 ≤ d1.now) && !d1.fl F.SYS_TICK_STATUS_FALLBACK then
    d1.tick (d1.lowRunning.getD 5) true
  else d1

/-- FALLBACK_TIMER_TICK (R24): the 60 Hz timer expires while no pipe runs and ticks come from a fallback source.
    Log 19 (DESIGN CHOICE, unsafe). -/
def fallbackTimerTick (dt : Nat) (d : Dev) : Dev :=
  let d1 := d.advance dt
  if (d1.fl F.SYS_TICK_STATUS_FALLBACK || d1.rg F.POWER_STATUS_STATE == 2) && d1.lowRunning.isNone && d1.tickDue then
    d1.tick 5 true
  else d1

/-- REF_IN_EDGE. -/
def execRefInEdge (dt : Nat) (s : State) : Host.Outcome State Fault Refusal := s.run (refInEdge dt)

/-- FALLBACK_TICK. -/
def execFallbackTick (dt : Nat) (s : State) : Host.Outcome State Fault Refusal := s.run (fallbackTick dt)

/-- FALLBACK_TIMER_TICK. -/
def execFallbackTimerTick (dt : Nat) (s : State) : Host.Outcome State Fault Refusal := s.run (fallbackTimerTick dt)

end Sys2Proof.Machine
end

