-- ==== Sys2Proof/Machine/Fetch.lean ====
section
/-! DEFINITION.  Fetch: underruns (R281 to R285), ECC and fetch-store errors (R262, R266), refresh and retraining (R271),
    declarations and efficiency (R267, R280, R288), and the DRAM window (R142 to R146, R231, R261, R314). -/

namespace Sys2Proof.Machine

/-- R120: KIND and INDEX of what an underrun found short. -/
def underCode (p : Nat) (i : Nat) : UnderKind → Nat × Nat
  | .video => (1, i) | .graphic => (2, i) | .under => (5, 2 * p) | .top => (5, 2 * p + 1)

/-- R281: what an underrun finds short at line `y` of pipe `p`: a live layer, or a crust plane, that covers the line. -/
def Dev.fetchesAt (d : Dev) (p y i : Nat) (k : UnderKind) : Bool :=
  let layer := fun (l : Nat) =>
    let c := clipDst d.acV p l
    d.live p l && !d.guardOff l && !d.layerEmpty d.acV p l && decide (c.y ≤ y) && decide ((y : Int) < c.y + c.h)
  let plane := fun (q : Nat) => planeCharged d.acV q && (List.range (tileCols d.acV p)).any (fun c =>
    let t := d.tileAt (tileKey q (y / 64 * tileCols d.acV p + c))
    !t.invalid && t.shown.st.cost != 0)
  match k with
  | .video => decide (i < 64) && layer i
  | .graphic => decide (i < 64) && layer (64 + i)
  | .under => plane (2 * p)
  | .top => plane (2 * p + 1)

/-- R282: the refresh multiplier, the corrected-error count and the temperature of every channel.
    Log 67 (DESIGN CHOICE, unsafe). -/
def Dev.channelLog (d : Dev) : List Nat :=
  (List.range 16).flatMap (fun n =>
    [d.rg (F.CH_STATUS_REF_MULT.i n), d.rg (F.CH_ERRORS_CE_COUNT.i n), d.rg (F.CH_STATUS_TEMP.i n)])

/-- R283, R284: the mode an underrun of pipe `p` acts in: RESTART_NOW, or BLACK_TO_END where the port no longer meets
    the condition, with MODE_FALLBACK. -/
def Dev.underMode (d : Dev) (p : Nat) : Bool × Dev :=
  if !restartNow d.acV p then (false, d)
  else if d.restartOk d.acV p then (true, d)
  else (false, d.up (F.PIPE_UNDERRUN_STATUS_MODE_FALLBACK.i p))

/-- UNDERRUN (R281 to R284), once per frame: black frames, replayed frames and lines outside the active ones cannot
    underrun.
    Log 42 (DESIGN CHOICE, unsafe). -/
def underrun (p line : Nat) (kind : UnderKind) (index : Nat) (d : Dev) : Dev :=
  let f := d.frame p
  if !d.running p || !f.live || f.blanked || f.replay || f.notSent || bit f.cause 0
      || decide ((rasterOf d.acV p).vact ≤ line) || !d.fetchesAt p line index kind then d
  else
    let m := d.underMode p
    let k := underCode p index kind
    let d1 := ((m.2.incSat (F.PIPE_UNDERRUN_STATUS_COUNT.i p)).up (F.PIPE_UNDERRUN_STATUS_UNDERRUN.i p)).sg
      (F.PIPE_UNDERRUN_LAST_LINE.i p) line
    let d2 := (d1.sg (F.PIPE_UNDERRUN_LAST_KIND.i p) k.1).sg (F.PIPE_UNDERRUN_LAST_INDEX.i p) k.2
    let d3 := ((d2.faultSum F.SYS_FAULT_SUMMARY_UNDERRUN).mark p .underrun (layersOf d2.acV p)
      (fun f => if m.1 then { f with cut := some line } else f.blackOn line)).attn .underrun
    d3.logMore 4 3 1 (line % 2 ^ 14 * 2 ^ 16 + k.1 * 2 ^ 12 + k.2 + p * 2 ^ 30) d3.channelLog

/-- UNDERRUN. -/
def execUnderrun (pipe : Fin 4) (line : BitVec 16) (kind : UnderKind) (index : BitVec 7) (s : State) :
    Host.Outcome State Fault Refusal := s.run (underrun pipe.val line.toNat kind index.toNat)

/-! ### Errors of the memory -/

/-- R262: a corrected error of channel `ch`: it is counted, and more than STORM of them within 1.0 ms are a storm.
    Log 42 (DESIGN CHOICE, unsafe). -/
def Dev.corrected (d : Dev) (ch : Nat) : Dev :=
  let old := (Tab.get (fun _ => []) d.ceTimes ch).filter (fun t => decide (d.now < t + 1000000))
  let n := d.rg F.FETCH_ECC_CFG_STORM
  let d1 : Dev := { d with ceTimes := Tab.put (fun _ => []) d.ceTimes ch ((d.now :: old).take 256) }
  let d2 := d1.incSat (F.CH_ERRORS_CE_COUNT.i ch)
  if n != 0 && decide (n ≤ old.length) then
    ((d2.up F.FETCH_STATUS_CE_STORM).attn .fault).onlyIf (!d2.fl F.FETCH_STATUS_CE_STORM) (·.logE 4 3 3 ch)
  else d2

/-- R262: an uncorrectable error of channel `ch`. -/
def Dev.uncorrected (d : Dev) (ch : Nat) : Dev :=
  ((d.incSat (F.CH_ERRORS_UE_COUNT.i ch)).up F.FETCH_STATUS_ECC_UE).logE 4 3 2 ch

/-- R333: data of layer `l` was lost in the frame its pipe is sending. -/
def Dev.layerData (d : Dev) (l : Nat) (g : Frame → Frame := id) : Dev :=
  match pipeOf d.acV l with
  | some p => d.mark p .data [l] g
  | none => d

/-- R333: data of crust plane `q` was lost. -/
def Dev.crustData (d : Dev) (q : Nat) (g : Frame → Frame := id) : Dev := d.mark (planePipe q) .data [] g

/-- R183, R266: what layer or plane `key` shows is transparent in line `line`. -/
def Frame.clearLine (key line : Nat) (f : Frame) : Frame := { f with clear := (key, line) :: f.clear }

/-- STORE_PARITY (R266). -/
def storeParity (src : StoreReader) (line : Nat) (d : Dev) : Dev :=
  let d1 := d.up F.FETCH_STATUS_STORE_PARITY
  match src with
  | .layer l => d1.layerData l.val (Frame.clearLine l.val line)
  | .crust q => d1.crustData q.val (Frame.clearLine (128 + q.val) line)

/-- STORE_PARITY. -/
def execStoreParity (src : StoreOnLine) (s : State) : Host.Outcome State Fault Refusal :=
  s.run (storeParity src.reader src.line.toNat)

/-- LS_PARITY (R183): VL_n's output is transparent for one line. -/
def lsParity (l line : Nat) (d : Dev) : Dev :=
  ((d.up (F.VL_FAULT_LS_PARITY.i l)).incSat (F.VL_FAULT_PARITY_COUNT.i l)).layerData l (Frame.clearLine l line)

/-- LS_PARITY. -/
def execLsParity (vl : OnLine 64) (s : State) : Host.Outcome State Fault Refusal :=
  s.run (lsParity vl.index.val vl.line.toNat)

/-- R271, R454: the report of one channel, shown when the channel is trained. -/
def Dev.refReport (x : Nat × RefReport) (d : Dev) : Dev :=
  if d.fl (F.CH_STATUS_TRAINED.i x.1) then
    let d1 := (d.sg (F.CH_STATUS_REF_MULT.i x.1) x.2.mult.toNat).sg (F.CH_STATUS_TEMP.i x.1) x.2.temp.toNat
    { d1 with
      hearth := { d1.hearth with refSeen := Tab.put (fun _ => none) d1.hearth.refSeen x.2.mult.toNat (some d1.now) } }
  else d

/-- REFRESH_MULT_UPDATE (R271): the channels' reports, in channel order. -/
def refreshMultUpdate (reports : List RefReport) (d : Dev) : Dev :=
  let d1 := Dev.each Dev.refReport ((List.range 16).zip reports) d
  d1.sg F.FETCH_DERATE_REF_NOW d1.refHigh

/-- REFRESH_MULT_UPDATE. -/
def execRefreshMultUpdate (reports : List RefReport) (s : State) : Host.Outcome State Fault Refusal :=
  s.run (refreshMultUpdate reports)

/-- DRAM_RETRAIN (R271): a pause of one channel, at most 1.0 µs long, which changes nothing the block shows. -/
def dramRetrain (_ch : Nat) (d : Dev) : Dev := d

/-- DRAM_RETRAIN. -/
def execDramRetrain (ch : Fin 16) (s : State) : Host.Outcome State Fault Refusal := s.run (dramRetrain ch.val)

/-! ### Declarations and efficiency -/

/-- R267: a write to FETCH_DECL_k_CTRL: one that disables the declaration, or neither enables it nor raises its rate, is
    applied at once; any other is tested. -/
def fetchDeclCtrl (k : Nat) (w : Word) (d : Dev) : Dev :=
  let v : View := fun _ => w
  let en := v.on F.FETCH_DECL_CTRL_EN
  let mb := v.g F.FETCH_DECL_CTRL_MBPS
  let was := d.fl (F.FETCH_DECL_CTRL_EN.i k)
  if d.fl F.FETCH_STATUS_DECL_PENDING then d.up F.FETCH_STATUS_DECL_BUSY
  else if (en && !was) || (en == was && decide (d.rg (F.FETCH_DECL_CTRL_MBPS.i k) < mb)) then
    if d.fl F.COMMIT_STATUS_PENDING then d.up F.FETCH_STATUS_DECL_BUSY
    else { d with declTest := some ⟨k, w, !d.strobes.isEmpty⟩ }.up F.FETCH_STATUS_DECL_PENDING
  else ((d.sg (F.FETCH_DECL_CTRL_EN.i k) (b2n en)).sg (F.FETCH_DECL_CTRL_MBPS.i k) mb).declShow

/-- R267: a write to a word of SIZE or BASE while a test runs is discarded. -/
def fetchDeclOther (d : Dev) (f : Dev → Dev) : Dev :=
  if d.fl F.FETCH_STATUS_DECL_PENDING then d.up F.FETCH_STATUS_DECL_BUSY else f d

/-- R288: an unlocked write to FETCH_EFF: EFF is clamped between 5,000 and CEILING, and the budget is planned again at
    the next tick (R280). -/
def fetchEffWrite (w : Word) (d : Dev) : Dev :=
  let v : View := fun _ => w
  let x := v.g F.FETCH_EFF_EFF
  let e := max 5000 (min x (d.rg F.FETCH_EFF_CEILING))
  let d1 := if v.on F.FETCH_EFF_EFF_CLAMPED then d.dn F.FETCH_EFF_EFF_CLAMPED else d
  ({ d1 with replan := true }.sg F.FETCH_EFF_EFF e).onlyIf (e != x) (·.up F.FETCH_EFF_EFF_CLAMPED)

/-! ### The DRAM window -/

/-- R145: a torn write of `[a, a+n)` into the range of surface `sid`.
    Log 35 (DESIGN CHOICE, unsafe). -/
def Dev.tornWrite (d : Dev) (a n sid : Nat) : Dev :=
  let x := d.surfAt sid
  if x.st == .inScan && x.inRange a n then
    Dev.each (fun p d =>
        if d.shownByPipe sid p then
          let d1 := (((d.orBits F.SURF_TORN_PIPE (2 ^ p)).sg F.SURF_TORN_SID sid).up F.SURF_STATUS_TORN).change p
          let f := d1.frame p
          if f.live && !f.torn.contains sid then
            let y := d1.surfAt sid
            (d1.putFrame p { f with torn := sid :: f.torn }).putSurf sid
              { y with torn := satAdd 16 y.torn 1 }
          else d1
        else d) pipes d
  else d

/-- R261, R484: the bytes a DRAM window access may reach; none in HOLD. -/
def Dev.windowBytes (d : Dev) : Nat := if d.inHold then 0 else d.usableBytes

/-- R231, R261, R314: what happens to one byte of a DRAM window access: none is out of range, in the store or in a
    replay region; the flags of those are set by `Dev.windowFlags`.
    Log 35 (DESIGN CHOICE, unsafe). -/
def Dev.windowOk (d : Dev) (a : Nat) : Bool :=
  decide (a < d.windowBytes) && !d.inStore a 1 && !pipes.any (fun p => d.inReplay p a 1)

/-- R231, R261, R314: the flags of a DRAM window access of `[a, a+n)`. -/
def Dev.windowFlags (d : Dev) (a n : Nat) : Dev :=
  let d1 := d.onlyIf (decide (d.windowBytes < a + n)) (·.up F.FETCH_STATUS_OUT_OF_RANGE)
  let d2 := d1.onlyIf (d.inStore a n) (·.up F.CRUST_STATUS_STORE_ACCESS)
  Dev.each (fun p d => d.onlyIf (d.inReplay p a n) (·.up (F.PIPE_REST_STATUS_REPLAY_ACCESS.i p))) pipes d2

/-- DRAM_WINDOW_WRITE: the bytes that may be written are; torn writes are marked. -/
def dramWindowWrite (a : Nat) (bs : List Byte) (d : Dev) : Dev :=
  let d1 := Dev.each (fun x d => if d.windowOk x.1 then d.store x.1 [x.2] else d)
    ((List.range bs.length).map (a + ·) |>.zip bs) (d.windowFlags a bs.length)
  Dev.each (fun sid d => d.tornWrite a bs.length sid) (d1.surf.map (·.1)) (d1.noteWrite false a bs.length)

/-- DRAM_WINDOW_WRITE. -/
def execDramWindowWrite (addr : BitVec 40) (data : List Byte) (dt : Nat) (s : State) :
    Host.Outcome State Fault Refusal := s.run (fun d => dramWindowWrite addr.toNat data (d.advance dt))

/-- R142, R231, R261, R314: one byte as a window read returns it. -/
def Dev.windowByte (d : Dev) (a : Nat) : Byte :=
  if d.usableBytes ≤ a then 0xFF
  else if !d.windowOk a || (d.protHit a 1).isSome then 0 else d.byteAt a

/-- R262: DRAM words of eight bytes that the window reads next were in error: the device as that read sees it. -/
def Dev.poisonedBy (d : Dev) (ws : List Nat) : Dev :=
  Dev.each (fun a d => let b := d.freeBytes 8; b.2.store a b.1) ws d

/-- DRAM_WINDOW_READ; the completion of a read of words in error is poisoned (R262).
    Log 32 (DESIGN CHOICE, unsafe). -/
def dramWindowRead (a n : Nat) (d : Dev) : Dev :=
  let d1 := d.windowFlags a n
  let d2 := match d.protHit a n with
    | some sid => (d1.up F.SURF_STATUS_PROT_READ).surfErr sid
    | none => d1
  let bad := d.poison.filter (fun w => overlaps w 8 a n)
  let x := d2.poisonedBy bad
  { d2 with free := x.free, poison := d2.poison.filter (fun w => !bad.contains w) }.send
    (.read .host ((List.range n).map (fun i => x.windowByte (a + i))) (!bad.isEmpty))

/-- DRAM_WINDOW_READ. -/
def execDramWindowRead (addr : BitVec 40) (len : BitVec 13) (s : State) : Host.Outcome State Fault Refusal :=
  s.run (dramWindowRead addr.toNat len.toNat)

end Sys2Proof.Machine
end

