-- ==== Sys2Proof/Machine/Ports.lean ====
section
/-! DEFINITION.  Ports and rasters outside the swap points: class B steps and starts (R306, R307), link training, hot-plug
    and HDCP (R318, R320, R512), line 0 (R321), TE pacing (R308, R309), DSI error reports (R322), replay aborts (R313). -/

namespace Sys2Proof.Machine

/-! ### HDCP -/

/-- R512: the key unwrap failed: no DisplayPort port can authenticate until cold power-on. -/
def Dev.wrapFail (d : Dev) : Dev :=
  (((Dev.each (fun s d => (d.hdcpTo s 4).dn (F.DP_HDCP_ENCRYPTING.i s)) [0, 1, 2, 3]
    (d.up F.SECURE_KEYS_WRAP_FAIL)).sg F.SECURE_KEYS_HDCP_KEYS 3).attn .security).logSev 5

/-- HDCP_AUTH_COMPLETE (R320, R512): the first authentication of a start unwraps the keys.
    Log 34 (DESIGN CHOICE, unsafe). -/
def hdcpAuthComplete (s : Nat) (ok unwrapOk repeater : Bool) (d : Dev) : Dev :=
  if d.rg (F.DP_HDCP_STATE.i s) ≠ 1 ∨ d.hearth.stopped then d
  else if d.rg F.SECURE_KEYS_HDCP_KEYS < 2 && !unwrapOk then d.wrapFail
  else
    let d1 := if d.rg F.SECURE_KEYS_HDCP_KEYS < 2 then d.sg F.SECURE_KEYS_HDCP_KEYS 2 else d
    if ok then ((d1.hdcpTo s 2).incSat (F.DP_HDCP_AUTH_COUNT.i s)).sg (F.DP_HDCP_REPEATER.i s) (b2n repeater)
    else d1.hdcpTo s 3

/-- HDCP_AUTH_COMPLETE. -/
def execHdcpAuthComplete (port : Fin 4) (ok unwrapOk repeater : Bool) (s : State) : Host.Outcome State Fault Refusal :=
  s.run (hdcpAuthComplete port.val ok unwrapOk repeater)

/-- HDCP_RETRY (R320).
    Log 34 (DESIGN CHOICE, unsafe). -/
def hdcpRetry (s : Nat) (d : Dev) : Dev :=
  if d.rg (F.DP_HDCP_STATE.i s) = 3 ∧ d.fl (F.DP_STATUS_TRAINED.i s) ∧ !d.hearth.stopped then d.hdcpTo s 1 else d

/-- HDCP_RETRY. -/
def execHdcpRetry (port : Fin 4) (s : State) : Host.Outcome State Fault Refusal := s.run (hdcpRetry port.val)

/-! ### The steps of a class B sequence -/

/-- R306 step 4: the new raster of pipe `p` starts at line VACTIVE and opens a black frame; a genlock member starts in
    ACQUIRE. -/
def Dev.rasterStart (d : Dev) (p : Nat) : Dev :=
  let d1 := ((d.setStep p 4).up (F.PIPE_TG_STATUS_RUNNING.i p)).openFrame p true []
  let d2 := d1.putPst p { d1.pst p with line0 := false, teGo := false, lastSwap := d1.now }
  let d3 := if genLocking d2.acV p then d2.genEnter p 1 else d2
  d3.sg (F.PIPE_CUTOFF_EFFECTIVE.i p) (d3.cutoffLines p)

/-- TRAINED of a DisplayPort port, READY of a DSI port. -/
def trainedFld (s : Nat) : Fld := if s < 4 then F.DP_STATUS_TRAINED.i s else F.DSI_STATUS_READY.i (s - 4)

/-- R306, R318: port `s` begins link training; not in HOLD, whose lanes are off (R483).  It ends an authenticated session
    (R320). -/
def Dev.train (d : Dev) (s : Nat) : Dev :=
  if d.inHold then d
  else
    let d1 := { d with training := if d.training.contains s then d.training else s :: d.training }.dn (trainedFld s)
    if s < 4 then d1.hdcpAgain s else d1

/-- R306: the pipe whose sequence waits for port `s` in step 3.
    Log 34 (DESIGN CHOICE, unsafe). -/
def Dev.stepPipe (d : Dev) (s : Nat) : Option Nat :=
  firstWith (fun p => d.fl (F.PIPE_COMMIT_STATUS_CLASS_B.i p) && d.rg (F.PIPE_TG_STATUS_STEP.i p) == 3
    && portSel d.acV p == s) pipes

/-- R306 step 3: the port of pipe `p` trains; skipped when nothing of the link changes, when no port is selected, and
    when no sink is plugged.
    Log 34 (DESIGN CHOICE, unsafe). -/
def Dev.trainStep (d : Dev) (p : Nat) : Dev :=
  let s := portSel d.acV p
  if (d.pst p).retrain && decide (s < 6) && (decide (4 ≤ s) || d.fl (F.DP_STATUS_PLUGGED.i s)) then
    (d.train s).setStep p 3
  else d.rasterStart p

/-- R306: the link settings of the port of pipe `p` in a view: port, rate and lanes. -/
def linkOf (v : View) (p : Nat) : Nat × Nat × Nat :=
  let s := portSel v p
  if s < 4 then (s, v.g (F.DP_CTRL_RATE.i s), v.g (F.DP_CTRL_LANES.i s))
  else if s < 6 then (s, v.g (F.DSI_CTRL_RATE_MBPS.i (s - 4)), v.g (F.DSI_CTRL_LANES.i (s - 4)))
  else (6, 0, 0)

/-- R307: the raster of pipe `p` has stopped for good: everything armed becomes active, nothing holds it.
    Log 33 (DESIGN CHOICE, unsafe). -/
def Dev.stopTake (d : Dev) (p : Nat) : Dev :=
  let old := d.acV
  let go := fun (d : Dev) => ((d.swapping p).foldl (fun r s => Dev.takeOne p s r) (d, {})).1
  let d1 := go ((go d).lateArm p)
  let d2 := ((((d1.dn (F.PIPE_COMMIT_STATUS_CLASS_B.i p)).setStep p 0).clearOutRun p).genSync p old).surfStop
  let d3 := ((d2.dn (F.PIPE_REST_STATUS_STATE.i p)).ownerStep true p).armShow.poolShow
  (Dev.each (fun q d => d.needShowPipe q) pipes d3).headroom.overClear

/-- CLASS_B_RASTER_STOP (R306, R307): after two black frames the old raster stops; a pipe that is being stopped takes
    the rest of its commit, any other goes on to step 2, 3 or 4 in its new timing. -/
def classBRasterStop (p : Nat) (d : Dev) : Dev :=
  if !d.running p || !d.fl (F.PIPE_COMMIT_STATUS_CLASS_B.i p) || d.rg (F.PIPE_TG_STATUS_STEP.i p) != 1
      || decide ((d.pst p).steps < 2) then d
  else
    let new := d.arV
    let d1 := (((d.guardClear p).putPst p { d.pst p with
      frame := {}, frozen := false, sample := [], retrain := linkOf d.acV p != linkOf new p }).dn
      (F.PIPE_TG_STATUS_RUNNING.i p)).dn (F.PIPE_CUTOFF_EFFECTIVE.i p)
    if !tgEn new p then d1.stopTake p
    else
      let a := rasterOf d.acV p
      let b := rasterOf new p
      let d2 := (d1.timingActive p).surfStop
      if a.khz == b.khz && a.m1001 == b.m1001 then d2.trainStep p else d2.setStep p 2

/-- CLASS_B_RASTER_STOP. -/
def execClassBRasterStop (pipe : Fin 4) (s : State) : Host.Outcome State Fault Refusal :=
  s.run (classBRasterStop pipe.val)

/-- PIXEL_PLL_LOCK (R306): step 2 ends; no PLL locks while the reference clock is absent (R543). -/
def pixelPllLock (p : Nat) (d : Dev) : Dev :=
  if d.fl F.IO_STATUS_HOLDOVER then d
  else if d.fl (F.PIPE_COMMIT_STATUS_CLASS_B.i p) && d.rg (F.PIPE_TG_STATUS_STEP.i p) == 2 then d.trainStep p else d

/-- PIXEL_PLL_LOCK. -/
def execPixelPllLock (pipe : Fin 4) (s : State) : Host.Outcome State Fault Refusal := s.run (pixelPllLock pipe.val)

/-! ### Training and hot-plug -/

/-- R327: the result of training on a lane of DP_n is a value the spec does not state. -/
def Dev.lanes (d : Dev) (s : Nat) : Dev :=
  Dev.each (fun k d =>
      let r := d.draw
      (r.2.sg (F.DP_PHY_LANE_SWING.ij s k) (r.1 % 4)).sg (F.DP_PHY_LANE_PREEMPH.ij s k) (r.1 / 4 % 4))
    (List.range (min 4 (d.ac (F.DP_CTRL_LANES.i s)))) d

/-- The training of port `s` is over. -/
def Dev.trainDone (d : Dev) (s : Nat) : Dev := { d with training := d.training.filter (· != s) }

/-- R306: step 3 of the pipe that waits for port `s` is over. -/
def Dev.stepDone (d : Dev) (s : Nat) : Dev :=
  match d.stepPipe s with
  | some p => d.rasterStart p
  | none => d

/-- LINK_TRAINING_COMPLETE (R306, R318, R322). -/
def linkTrainingComplete (s : Nat) (d : Dev) : Dev :=
  if !d.training.contains s then d
  else
    let d1 := (d.trainDone s).up (trainedFld s)
    (if s < 4 then ((d1.lanes s).hdcpAgain s).hdcpEnable s else d1).stepDone s

/-- LINK_TRAINING_COMPLETE. -/
def execLinkTrainingComplete (port : Fin 6) (s : State) : Host.Outcome State Fault Refusal :=
  s.run (linkTrainingComplete port.val)

/-- TRAIN_FAIL (R306, R318): the port is idle; a waiting sequence goes on. -/
def trainFail (s : Nat) (d : Dev) : Dev :=
  if !d.training.contains s then d
  else (((d.trainDone s).up (F.DP_STATUS_TRAIN_FAIL.i s)).attn .link).stepDone s

/-- TRAIN_FAIL. -/
def execTrainFail (port : Fin 4) (s : State) : Host.Outcome State Fault Refusal := s.run (trainFail port.val)

/-- R318: a running pipe selects port `s`. -/
def Dev.portRuns (d : Dev) (s : Nat) : Bool := pipes.any (fun p => d.running p && portSel d.acV p == s)

/-- RETRAIN_TIMER (R318): a plugged port without a link is trained again. -/
def retrainTimer (s : Nat) (d : Dev) : Dev :=
  if d.fl (F.DP_STATUS_PLUGGED.i s) && !d.fl (F.DP_STATUS_TRAINED.i s) && d.portRuns s && !d.hearth.stopped then d.train s
  else d

/-- RETRAIN_TIMER. -/
def execRetrainTimer (port : Fin 4) (s : State) : Host.Outcome State Fault Refusal := s.run (retrainTimer port.val)

/-- A word of RO fields written by the device itself. -/
def Dev.fillWord (d : Dev) (off : Nat) (w : Word) : Dev :=
  match findReg off with
  | some (r, k) => d.sgWord off (w &&& maskOf r k (fun _ => true))
  | none => d

/-- R318: Hearth firmware reads the sink of DP_n. -/
def Dev.readSink (d : Dev) (s : Nat) (sink : Sink) : Dev :=
  let d1 := (d.fillWord (F.DP_SINK_A_MAX_RATE.i s).off sink.wordA).fillWord (F.DP_SINK_B_DSC_MAX_SLICES.i s).off sink.wordB
  Dev.each (fun p d => if d.running p && portSel d.acV p == s then (d.underMode p).2 else d) pipes d1

/-- HPD_PLUG (R318): the sink is read and, when a running pipe selects the port, the link is trained. -/
def hpdPlug (s : Nat) (sink : Sink) (d : Dev) : Dev :=
  if d.fl (F.DP_STATUS_PLUGGED.i s) then d
  else
    let d1 := (((d.up (F.DP_STATUS_PLUGGED.i s)).up (F.DP_STATUS_HOTPLUG.i s)).attn .hotplug).readSink s sink
    if d1.portRuns s then d1.train s else d1

/-- HPD_UNPLUG (R318, R324): a training is abandoned, and a sequence that waited for it goes on.
    Log 34 (DESIGN CHOICE, unsafe). -/
def hpdUnplug (s : Nat) (d : Dev) : Dev :=
  if !d.fl (F.DP_STATUS_PLUGGED.i s) then d
  else
    let d1 := (((d.dn (F.DP_STATUS_PLUGGED.i s)).dn (F.DP_STATUS_TRAINED.i s)).up (F.DP_STATUS_HOTPLUG.i s)).attn .hotplug
    ((d1.hdcpTo s 0).trainDone s).stepDone s

/-- IRQ_HPD (R318, R320): on link loss the link is trained again; on an HDCP request authentication starts again.
    Log 45 (DESIGN CHOICE, unsafe). -/
def irqHpd (s : Nat) (linkLost hdcpReq : Bool) (d : Dev) : Dev :=
  if !d.fl (F.DP_STATUS_PLUGGED.i s) then d
  else
    let d1 := d.up (F.DP_STATUS_IRQ_HPD.i s)
    let d2 := if linkLost then
        (((d1.up (F.DP_STATUS_LINK_LOST.i s)).incSat (F.DP_STATUS_RETRAIN_COUNT.i s)).dn (F.DP_STATUS_TRAINED.i s)).train s
      else d1
    if hdcpReq then d2.hdcpAgain s else d2

/-- DSI_ERROR_REPORT (R322). -/
def dsiErrorReport (k : Nat) (d : Dev) : Dev :=
  (d.up (F.DSI_STATUS_ERR_REPORT.i k)).incSat (F.DSI_STATUS_ERR_COUNT.i k)

/-- DSI_ERROR_REPORT. -/
def execDsiErrorReport (dsi : Fin 2) (s : State) : Host.Outcome State Fault Refusal := s.run (dsiErrorReport dsi.val)

/-! ### Line 0 and TE -/

/-- R308: pipe `p` is paced by its TE input and holds before line 0.
    Log 44 (DESIGN CHOICE, unsafe). -/
def Dev.teHold (d : Dev) (p : Nat) : Bool :=
  d.running p && (d.frame p).live && !(d.pst p).line0 && d.acOn (F.PIPE_TE_EN.i p)
    && !d.fl (F.PIPE_TE_STATUS_LOST_ACTIVE.i p)

/-- R321: the port of pipe `p` may carry no protected content: a DSI port, or a DisplayPort port that does not encrypt.
    Log 45 (DESIGN CHOICE, unsafe). -/
def Dev.protBlocked (d : Dev) (p : Nat) : Bool :=
  let s := portSel d.acV p
  decide (s < 6) && (decide (4 ≤ s) || !d.fl (F.DP_HDCP_ENCRYPTING.i s))

/-- LINE_ZERO: a frame starts; under TE pacing only after an edge or while the edges are lost (R308, R309); encryption
    starts (R320); the port is tested for protected content (R321).
    Log 34 (DESIGN CHOICE, unsafe). -/
def lineZero (p : Nat) (d : Dev) : Dev :=
  let x := d.pst p
  if !d.running p || !x.frame.live || x.line0 || (d.teHold p && !x.teGo) then d
  else
    let s := portSel d.acV p
    let d1 := d.putPst p { x with line0 := true, teGo := false }
    let d2 := if d1.acOn (F.PIPE_TE_EN.i p) && d1.fl (F.PIPE_TE_STATUS_LOST_ACTIVE.i p) then
      d1.incSat (F.PIPE_TE_STATUS_LOST_FRAMES.i p) else d1
    let d3 := if s < 4 then
        let d := d2.hdcpEnable s
        if d.rg (F.DP_HDCP_STATE.i s) = 2 then d.up (F.DP_HDCP_ENCRYPTING.i s) else d
      else d2
    if !d3.protBlocked p then d3
    else (d3.up (if s < 4 then F.DP_HDCP_PROT_BLOCKED.i s else F.DSI_STATUS_PROT_BLOCKED.i (s - 4))).putFrame p
      { d3.frame p with prot := true }

/-- LINE_ZERO. -/
def execLineZero (pipe : Fin 4) (s : State) : Host.Outcome State Fault Refusal := s.run (lineZero pipe.val)

/-- R308, R312: the last line of pipe `p`'s frame has ended: its blanking lines have passed since its swap point.
    Log 44 (DESIGN CHOICE, unsafe). -/
def Dev.blankingOver (d : Dev) (p : Nat) : Bool :=
  let r := rasterOf d.acV p
  decide ((d.frameLines p - r.vact) * r.htot * r.fDen * 1000 ≤ (d.now - (d.pst p).lastSwap) * r.khz)

/-- TE_EDGE (R308, R309): an active edge, `dt` ns after the last event, ends the hold; at any time it ends the loss of
    edges.
    Log 44 (DESIGN CHOICE, unsafe). -/
def teEdge (p dt : Nat) (d : Dev) : Dev :=
  let d := d.advance dt
  if !d.running p || !d.acOn (F.PIPE_TE_EN.i p) then d
  else
    let d1 := if d.teHold p && d.blankingOver p then d.putPst p { d.pst p with teGo := true } else d
    d1.dn (F.PIPE_TE_STATUS_LOST_ACTIVE.i p)

/-- TE_EDGE. -/
def execTeEdge (pipe : TeSeen) (s : State) : Host.Outcome State Fault Refusal := s.run (teEdge pipe.pipe.val pipe.dt)

/-- TE_TIMEOUT (R309): the hold ends without an edge; the next LINE_ZERO follows at once.
    Log 44 (DESIGN CHOICE, unsafe). -/
def teTimeout (p : Nat) (d : Dev) : Dev :=
  if !d.teHold p || (d.pst p).teGo then d
  else ((d.up (F.PIPE_TE_STATUS_TE_LOST.i p)).up (F.PIPE_TE_STATUS_LOST_ACTIVE.i p)).attn .link

/-- TE_TIMEOUT. -/
def execTeTimeout (pipe : Fin 4) (s : State) : Host.Outcome State Fault Refusal := s.run (teTimeout pipe.val)

/-- REPLAY_ABORT (R313): the rest of the frame is black and the pipe leaves Rest.
    Log 44 (DESIGN CHOICE, unsafe). -/
def replayAbort (p line : Nat) (d : Dev) : Dev :=
  if d.rest p < 2 || !(d.frame p).live then d
  else (((d.mark p .replayAbort [] (·.blackOn line)).up (F.PIPE_REST_STATUS_REPLAY_ABORT.i p)).dn (F.PIPE_REST_STATUS_STATE.i p)).restShow

/-- REPLAY_ABORT. -/
def execReplayAbort (pipe : Fin 4) (line : BitVec 14) (s : State) : Host.Outcome State Fault Refusal :=
  s.run (replayAbort pipe.val line.toNat)

end Sys2Proof.Machine
end

