-- ==== Sys2Proof/Machine/Scraper.lean ====
section
/-! DEFINITION.  The Scraper: queues, descriptors, the tests of a job start, the pixel rules, rows, the beam and the end of
    a job (R349 to R374). -/

namespace Sys2Proof.Machine

/-! ### Descriptors (R354) -/

/-- A field of a job's descriptor. -/
def ScJob.f (j : ScJob) (w lo len : Nat) : Nat := bits (j.words.getD w 0) lo len

/-- OP. -/
def ScJob.op (j : ScJob) : Nat := j.f 0 0 4

/-- ANGLE. -/
def ScJob.angle (j : ScJob) : Nat := if j.op = 5 then j.f 0 6 2 else 0

/-- XDIR = 1: right to left. -/
def ScJob.xdir (j : ScJob) : Bool := bit (j.words.getD 0 0) 4

/-- YDIR = 1: bottom to top. -/
def ScJob.ydir (j : ScJob) : Bool := bit (j.words.getD 0 0) 5

/-- DST_SID. -/
def ScJob.dstSid (j : ScJob) : Nat := j.f 1 16 14

/-- SRC_SID. -/
def ScJob.srcSid (j : ScJob) : Nat := j.f 1 0 14

/-- The destination rectangle. -/
def ScJob.dstRect (j : ScJob) : Rect := ⟨(j.f 3 0 14 : Nat), (j.f 3 16 14 : Nat), j.f 4 0 14, j.f 4 16 14⟩

/-- R355: the source rectangle. -/
def ScJob.srcRect (j : ScJob) : Rect :=
  let t := j.dstRect
  if j.angle = 1 ∨ j.angle = 3 then ⟨(j.f 2 0 14 : Nat), (j.f 2 16 14 : Nat), t.h, t.w⟩
  else ⟨(j.f 2 0 14 : Nat), (j.f 2 16 14 : Nat), t.w, t.h⟩

/-- R361: bits per mask pixel. -/
def ScJob.maskBits (j : ScJob) : Nat := 2 ^ j.f 0 10 2

/-- R355: the operation reads a source. -/
def ScJob.readsSrc (j : ScJob) : Bool := j.op != 1 && decide (j.op < 6)

/-- R354: a 64-bit field of two words. -/
def ScJob.wide (j : ScJob) (w : Nat) : Nat := j.words.getD w 0 + j.words.getD (w + 1) 0 * 2 ^ 32

/-- R365: the rows a job completes; a job without a pixel and a FENCE job have none.
    Log 47 (DESIGN CHOICE, unsafe). -/
def ScJob.total (j : ScJob) : Nat := if j.op = 6 ∨ j.dstRect.isEmpty then 0 else j.dstRect.h

/-! ### Tests (R356) -/

/-- R356: the range of a rectangle of packed pixels: first byte and length. -/
def rectRange (s : Surf) (r : Rect) : Nat × Nat :=
  let n := lineBytes s.fmt 1
  let row := s.pitch.getD 0 0 * 64
  if r.isEmpty then (s.base.getD 0 0, 0)
  else (s.base.getD 0 0 + r.y.toNat * row + n * r.x.toNat, (r.h - 1) * row + n * r.w)

/-- R356, R361: the range of a mask rectangle. -/
def maskRange (s : Surf) (b : Nat) (r : Rect) : Nat × Nat :=
  let row := s.pitch.getD 0 0 * 64
  if r.isEmpty then (s.base.getD 0 0, 0)
  else
    let lo := r.x.toNat * b / 8
    let hi := ((r.x.toNat + r.w) * b + 7) / 8
    (s.base.getD 0 0 + r.y.toNat * row + lo, (r.h - 1) * row + hi - lo)

/-- The destination's range. -/
def ScJob.dstRange (j : ScJob) : Nat × Nat := rectRange j.dst j.dstRect

/-- The source's range, empty when nothing is read. -/
def ScJob.srcRange (j : ScJob) : Nat × Nat :=
  if !j.readsSrc then (0, 0)
  else if j.op = 4 then maskRange j.src j.maskBits j.srcRect else rectRange j.src j.srcRect

/-- A rectangle lies within a surface. -/
def Surf.holds (s : Surf) (r : Rect) : Bool := decide (r.x.toNat + r.w ≤ s.w) && decide (r.y.toNat + r.h ≤ s.h)

/-- R356: the job's source rectangle lies within its source. -/
def ScJob.srcInside (j : ScJob) : Bool :=
  let r := j.srcRect
  if j.op = 4 then
    decide ((r.x.toNat + r.w) * j.maskBits ≤ 8 * lineBytes j.src.fmt j.src.w) && decide (r.y.toNat + r.h ≤ j.src.h)
  else j.src.holds r

/-- R363: source and destination are the same surface and share a pixel. -/
def ScJob.overlapped (j : ScJob) : Bool :=
  j.readsSrc && j.srcSid == j.dstSid && !(j.srcRect.meet j.dstRect).isEmpty

/-- R363, R364: XDIR or YDIR departs from the safe order. -/
def ScJob.unsafeOrder (j : ScJob) : Bool :=
  let s := j.srcRect
  let t := j.dstRect
  j.overlapped && ((s.x != t.x && j.xdir != decide (s.x < t.x)) || (s.y != t.y && j.ydir != decide (s.y < t.y)))

/-- R132, R356: the SID names a surface. -/
def Dev.surfThere (d : Dev) (sid : Nat) : Bool := (d.surfAt sid).st != .free

/-- R231: a range shares a byte with the store; R314: with a replay region. -/
def Dev.hidden (d : Dev) (r : Nat × Nat) : Bool := d.inStore r.1 r.2 || pipes.any (fun p => d.inReplay p r.1 r.2)

/-- R142: reading `s` into `t` would expose a protected range. -/
def Dev.exposes (d : Dev) (s t : Nat × Nat) : Bool := (d.protHit s.1 s.2).isSome && !d.protInside t.1 t.2

/-- R142, R157, R231, R314: an engine's job is refused with PROTECTED: the flags of the grounds that hold; the
    lowest protected surface read is captured in SURF_ERR_SID.
    Log 32 (DESIGN CHOICE, unsafe). -/
def Dev.protFlags (d : Dev) (s t : Nat × Nat) : Dev :=
  let d1 := d.onlyIf (d.exposes s t) (fun d => (d.up F.SURF_STATUS_PROT_COPY).surfErr ((d.protHit s.1 s.2).getD 0))
  let d2 := d1.onlyIf (d.inStore s.1 s.2 || d.inStore t.1 t.2) (·.up F.CRUST_STATUS_STORE_ACCESS)
  Dev.each (fun p d => d.onlyIf (d.inReplay p s.1 s.2 || d.inReplay p t.1 t.2)
    (·.up (F.PIPE_REST_STATUS_REPLAY_ACCESS.i p))) pipes d2

/-- R142, R231, R314: the grounds for PROTECTED. -/
def Dev.protRefused (d : Dev) (s t : Nat × Nat) : Bool := d.exposes s t || d.hidden s || d.hidden t

/-- R356: the first test a job fails. -/
def Dev.scTest (d : Dev) (j : ScJob) : Option Nat :=
  if 7 ≤ j.op then some 0x12
  else if j.op = 6 then none
  else if !d.surfThere j.dstSid || (j.readsSrc && !d.surfThere j.srcSid) then some 0x13
  else if !fmtPacked j.dst.fmt || (j.readsSrc && j.op != 4 && !fmtPacked j.src.fmt) then some 0x14
  else if !j.dst.holds j.dstRect || (j.readsSrc && !j.srcInside) then some 0x15
  else if (j.op == 4 || j.angle != 0) && j.overlapped then some 0x16
  else if bit (j.words.getD 0 0) 14 && (j.ydir || (j.overlapped && decide (j.srcRect.y < j.dstRect.y))) then some 0x17
  else if d.protRefused j.srcRange j.dstRange then some 0x11
  else if d.guardHit j.dstRange.1 j.dstRange.2 then some 0x10
  else none

/-! ### Queues -/

/-- R350: pending descriptors of queue `q`. -/
def Dev.sqPending (d : Dev) (q : Nat) : Nat := subMod 11 (d.rg (F.SQ_TAIL_TAIL.i q)) (d.rg (F.SQ_HEAD_HEAD.i q))

/-- R378: IDLE of queue `q`. -/
def Dev.sqIdle (d : Dev) (q : Nat) : Dev :=
  d.sg (F.SQ_STATUS_IDLE.i q) (b2n (d.sqPending q == 0 && !d.scJob.any (fun j => j.q == q)))

/-- R352: queue `q` may be served. -/
def Dev.sqReady (d : Dev) (q : Nat) : Bool :=
  d.fl (F.SQ_CTRL_EN.i q) && !d.fl (F.SQ_STATUS_STOPPED.i q) && d.sqPending q != 0

/-- R352: the queue served next. -/
def Dev.sqNext (d : Dev) : Option Nat :=
  let ready := ((List.range 4).map (fun k => (d.scLast + 1 + k) % 4)).filter d.sqReady
  let top := maxOf (fun q => d.rg (F.SQ_CTRL_PRIO.i q)) ready
  firstWith (fun q => d.rg (F.SQ_CTRL_PRIO.i q) == top) ready

/-- SCRAPER_JOB_START (R352, R356): at a job boundary one job starts; a job that fails a test ends with its result. -/
def scraperJobStart (d : Dev) : Dev :=
  if d.scJob.isSome then d
  else match d.sqNext with
    | none => d
    | some q =>
      let slot := d.rg (F.SQ_HEAD_HEAD.i q) % 1024
      let a := d.rg (F.SQ_BASE_BASE.i q) * 65536 + 64 * slot
      let words := (List.range 16).map (fun k => d.leAt (a + 4 * k) 4)
      let j0 : ScJob := { q := q, slot := slot, words := words, src := {}, dst := {} }
      let j : ScJob := { j0 with src := d.surfAt j0.srcSid, dst := d.surfAt j0.dstSid }
      let bad := d.scTest j
      let d1 := if bad == some 0x11 then d.protFlags j.srcRange j.dstRange else d
      let d2 : Dev := { d1 with scJob := some { j with bad := bad }, scLast := q }
      (((((d2.up (F.SQ_STATUS_RUNNING.i q)).up (F.SQ_DONE_LINE_ACTIVE.i q)).sg (F.SQ_DONE_LINE_SLOT.i q) slot).dn
        (F.SQ_DONE_LINE_DONE_LINE.i q)).sqIdle q).restShow

/-- SCRAPER_JOB_START. -/
def execScraperJobStart (s : State) : Host.Outcome State Fault Refusal := s.run (Dev.engine scraperJobStart)

/-! ### Pixel rules (R357 to R362) -/

/-- R127: the bits of the components of a packed format: red, green, blue, alpha; 16 stands for binary16, 0 for none. -/
def compBits (f : Nat) : List Nat :=
  match f with
  | 0x10 => [5, 6, 5, 0] | 0x11 => [8, 8, 8, 0] | 0x12 => [8, 8, 8, 8] | 0x13 => [10, 10, 10, 2] | _ => [16, 16, 16, 16]

/-- R127: a raw pixel of components. -/
def packRaw (f : Nat) (c : List Nat) : Nat :=
  let r := c.getD 0 0
  let g := c.getD 1 0
  let b := c.getD 2 0
  let a := c.getD 3 0
  match f with
  | 0x10 => r * 2048 + g * 32 + b
  | 0x11 => r + g * 2 ^ 8 + b * 2 ^ 16
  | 0x12 => r + g * 2 ^ 8 + b * 2 ^ 16 + a * 2 ^ 24
  | 0x13 => r + g * 2 ^ 10 + b * 2 ^ 20 + a * 2 ^ 30
  | _ => r + g * 2 ^ 16 + b * 2 ^ 32 + a * 2 ^ 48

/-- The components of a raw pixel, alpha 0 where the format has none. -/
def compsOf (f raw : Nat) : List Nat :=
  let p := unpack f raw
  [p.c0.toNat, p.c1.toNat, p.c2.toNat, if (compBits f).getD 3 0 = 0 then 0 else p.a.toNat]

/-- R357: a floating-point number clamped to 0.0 to 1.0 as a code of `n` bits, rounded half up; what is not a number
    becomes 0. -/
def toCode (f : Fmt) (n code : Nat) : Nat :=
  let full := 2 ^ n - 1
  match f.val code with
  | .nan => 0
  | .inf neg => if neg then 0 else full
  | .fin neg m e =>
    if neg then 0
    else if 0 ≤ e then (if m = 0 then 0 else full)
    else
      let den := 2 ^ (-e).toNat
      min full ((2 * m * full + den) / (2 * den))

/-- R357: a component of `s` bits as one of `t` bits; 16 stands for binary16. -/
def convComp (s t v : Nat) : Nat :=
  if s = 0 then (if t = 16 then 0x3C00 else 2 ^ t - 1)
  else if t = 0 then 0
  else if s = 16 ∧ t = 16 then v
  else if s = 16 then toCode f16 t v
  else if t = 16 then f16.round false v (2 ^ s - 1)
  else (2 * v * (2 ^ t - 1) + (2 ^ s - 1)) / (2 * (2 ^ s - 1))

/-- R357: a raw pixel of one format as one of another. -/
def convRaw (f g raw : Nat) : Nat :=
  if f = g then raw
  else packRaw g (((compsOf f raw).zip ((compBits f).zip (compBits g))).map (fun x => convComp x.2.1 x.2.2 x.1))

/-- R359: a component as binary32. -/
def norm32 (s v : Nat) : Nat := if s = 0 then one32 else if s = 16 then fConv f16 f32 v else q32 v (2 ^ s - 1)

/-- R359: the components of a raw pixel as binary32. -/
def normPx (f raw : Nat) : List Nat := ((compsOf f raw).zip (compBits f)).map (fun x => norm32 x.2 x.1)

/-- R359 step 4: binary32 components in a format. -/
def packNorm (f : Nat) (c : List Nat) : Nat :=
  packRaw f ((c.zip (compBits f)).map (fun x =>
    if x.2 = 0 then 0 else if x.2 = 16 then fConv f32 f16 x.1 else toCode f32 x.2 x.1))

/-- R359 step 3: source-over on a destination pixel. -/
def overDst (f : Nat) (src : List Nat) (raw : Nat) : Nat :=
  let k := sub32 one32 (src.getD 3 0)
  packNorm f ((src.zip (normPx f raw)).map (fun x => add32 x.1 (mul32 x.2 k)))

/-- R354: GLOBAL_ALPHA as binary32. -/
def ScJob.galpha (j : ScJob) : Nat := q32 (j.f 0 24 8) 255

/-- R359 steps 1 and 2: the source of a BLEND. -/
def ScJob.blendSrc (j : ScJob) (raw : Nat) : List Nat :=
  let c := normPx j.src.fmt raw
  let a := c.getD 3 0
  let pre := fun v => if bit (j.words.getD 0 0) 8 then v else mul32 v a
  (c.take 3).map (fun v => mul32 (pre v) j.galpha) ++ [mul32 a j.galpha]

/-- R361: the binary16 components of COLOUR0 or COLOUR1 as binary32. -/
def ScJob.colour (j : ScJob) (w : Nat) : List Nat := normPx 0x14 (j.wide w)

/-- R361: a mask value. -/
def ScJob.mask (d : Dev) (j : ScJob) (x y : Nat) : Nat :=
  let r := j.srcRect
  let at' := (r.x.toNat + x) * j.maskBits
  bits (d.byteAt (j.src.base.getD 0 0 + (r.y.toNat + y) * (j.src.pitch.getD 0 0 * 64) + at' / 8)).toNat (at' % 8) j.maskBits

/-- R361: a GLYPH pixel over a destination pixel.
    Log 47 (DESIGN CHOICE, unsafe). -/
def ScJob.glyph (d : Dev) (j : ScJob) (x y raw : Nat) : Nat :=
  let c := mul32 (q32 (j.mask d x y) (2 ^ j.maskBits - 1)) j.galpha
  let c0 := j.colour 8
  if bit (j.words.getD 0 0) 9 then
    let k := sub32 one32 c
    packNorm j.dst.fmt ((c0.zip (j.colour 10)).map (fun x => add32 (mul32 x.1 c) (mul32 x.2 k)))
  else
    let a := c0.getD 3 0
    overDst j.dst.fmt ((c0.take 3).map (fun v => mul32 (mul32 v a) c) ++ [mul32 a c]) raw

/-- R362: the source pixel of destination pixel (x, y). -/
def ScJob.from (j : ScJob) (x y : Nat) : Nat × Nat :=
  let s := j.srcRect
  let t := j.dstRect
  match j.angle with
  | 1 => (y, s.h - 1 - x)
  | 2 => (t.w - 1 - x, t.h - 1 - y)
  | 3 => (s.w - 1 - y, x)
  | _ => (x, y)

/-- R355 to R362: the raw pixel written at (x, y) of the destination rectangle; none leaves it. -/
def ScJob.pixel (d : Dev) (j : ScJob) (x y : Nat) : Option Nat :=
  let t := j.dstRect
  let dst := rawPixel d j.dst (t.x.toNat + x) (t.y.toNat + y)
  let f := j.from x y
  let src := rawPixel d j.src (j.srcRect.x.toNat + f.1) (j.srcRect.y.toNat + f.2)
  match j.op with
  | 1 => some (j.wide 8 % 2 ^ (8 * lineBytes j.dst.fmt 1))
  | 2 => some (overDst j.dst.fmt (j.blendSrc src) dst)
  | 3 =>
    if keyMatch j.src.fmt (unpack j.src.fmt src) (j.f 8 0 30) (j.f 10 0 30) then none
    else some (convRaw j.src.fmt j.dst.fmt src)
  | 4 => some (j.glyph d x y dst)
  | _ => some (convRaw j.src.fmt j.dst.fmt src)

/-- R363: one destination pixel is processed. -/
def ScJob.put (j : ScJob) (y x : Nat) (d : Dev) : Dev :=
  let n := lineBytes j.dst.fmt 1
  let t := j.dstRect
  match j.pixel d x y with
  | some v => d.store (j.dst.base.getD 0 0 + (t.y.toNat + y) * (j.dst.pitch.getD 0 0 * 64) + n * (t.x.toNat + x))
      (leBytes n v)
  | none => d

/-- A row of the job is under way. -/
def ScJob.inRow (j : ScJob) : Bool := j.bad.isNone && decide (j.rows < j.total)

/-- R363: the pixels of the job's row under way, in the order of the job. -/
def Dev.scRow (d : Dev) (j : ScJob) : Dev :=
  let t := j.dstRect
  let y := if j.ydir then t.h - 1 - j.rows else j.rows
  let xs := if j.xdir then (List.range t.w).reverse else List.range t.w
  let r := rectRange j.dst { t with y := t.y + (y : Nat), h := 1 }
  (Dev.each (j.put y) xs d).noteWrite true r.1 r.2

/-- SCRAPER_ROW_COMPLETE (R363, R365, R366): the next row is written; DONE_LINE advances and the watermark interrupt is sent
    once. -/
def scraperRowComplete (d : Dev) : Dev :=
  match d.scJob with
  | none => d
  | some j =>
    if !j.inRow then d
    else
      let d1 := d.scRow j
      let n := j.rows + 1
      let wm := j.f 5 0 14
      let hit := wm != 0 && decide (wm ≤ n) && !j.wmSent
      let d2 := { d1 with scJob := some { j with rows := n, wmSent := j.wmSent || hit } }.sg
        (F.SQ_DONE_LINE_DONE_LINE.i j.q) n
      d2.onlyIf hit (fun d => d.msix (d.rg (F.SQ_CTRL_WM_VECTOR.i j.q)))

/-- SCRAPER_ROW_COMPLETE. -/
def execScraperRowComplete (s : State) : Host.Outcome State Fault Refusal := s.run (Dev.engine scraperRowComplete)

/-- R371: the completion record. -/
def ScJob.record (j : ScJob) (res : Nat) (fenced order : Bool) (jobs : Nat) : List Byte :=
  leBytes 4 (j.words.getD 12 0) ++ leBytes 4 (j.slot * 2 ^ 20 + j.q * 2 ^ 16 + b2n fenced * 2 ^ 10
    + b2n j.overtaken * 2 ^ 9 + b2n order * 2 ^ 8 + res) ++ leBytes 4 j.rows ++ leBytes 4 jobs

/-- R369, R370: the steps of the end of a job with a result.
    Log 47 (DESIGN CHOICE, unsafe). -/
def Dev.scEnd (d : Dev) (j : ScJob) (res : Nat) : Dev :=
  let q := j.q
  let fid := j.f 5 16 12
  let sig := res == 0 && bit (j.words.getD 0 0) 12
  let fenced := sig && (d.fenceAt fid).alloc
  let d1 := d.onlyIf sig (fun d => d.signalSet fid (j.wide 6))
  let order := res == 0 && j.unsafeOrder
  let d2 := d1.onlyIf order (·.up (F.SQ_STATUS_OVERLAP_ORDER.i q))
  let d3 := (d2.inc (F.SQ_JOBS_JOBS.i q)).inc (F.SQ_HEAD_HEAD.i q)
  let a := d3.rg (F.SQ_CPL_BASE_BASE.i q) * 16384 + 16 * j.slot
  let d4 := (d3.store a (j.record res fenced order (d3.rg (F.SQ_JOBS_JOBS.i q)))).noteWrite true a 16
  let d5 := d4.onlyIf (bit (j.words.getD 0 0) 13) (fun d => d.msix (d.rg (F.SQ_CTRL_DONE_VECTOR.i q)))
  let d6 := if res = 0 then d5
    else (((d5.up (F.SQ_STATUS_ERR.i q)).incSat (F.SQ_STATUS_ERR_COUNT.i q)).sg (F.SQ_STATUS_LAST_RESULT.i q) res).onlyIf
      (d5.fl (F.SQ_CTRL_STOP_ON_ERR.i q)) (·.up (F.SQ_STATUS_STOPPED.i q))
  let d7 := ({ d6 with scJob := none }.dn (F.SQ_STATUS_RUNNING.i q)).dn (F.SQ_DONE_LINE_ACTIVE.i q)
  (d7.sqIdle q).sq3Show.restShow

/-- SCRAPER_JOB_END (R369, R370).
    Log 47 (DESIGN CHOICE, unsafe). -/
def scraperJobEnd (d : Dev) : Dev :=
  match d.scJob with
  | none => d
  | some j =>
    match j.bad with
    | some c => d.scEnd j c
    | none => if j.rows = j.total then d.scEnd j 0 else d

/-- SCRAPER_JOB_END. -/
def execScraperJobEnd (s : State) : Host.Outcome State Fault Refusal := s.run (Dev.engine scraperJobEnd)

/-- R370: an uncorrectable error on a read of the running job. -/
def Dev.scDramError (d : Dev) : Dev :=
  { d with scJob := d.scJob.map (fun (j : ScJob) => if j.inRow then { j with bad := some 0x18 } else j) }

/-- R373: the running job is stopped by a reset at its next row boundary: the row under way is finished, and nothing else
    of it follows.
    Log 47 (DESIGN CHOICE, unsafe). -/
def Dev.scStop (d : Dev) : Dev :=
  match d.scJob with
  | none => d
  | some j => { (if j.inRow then Dev.engine (·.scRow j) d else d) with scJob := none }

/-- R373: a per-pipe reset of pipe `p` ends the beam test of the running job for it. -/
def Dev.raceEnd (d : Dev) (p : Nat) : Dev :=
  { d with scJob := d.scJob.map (fun (j : ScJob) => if j.f 0 15 2 == p then { j with raceOff := true } else j) }

/-! ### Register writes -/

/-- R353: SQ_3 belongs to Hearth firmware. -/
def sqOwned (rq : Rq) (q : Nat) (d : Dev) (f : Dev → Dev) : Dev :=
  if rq == .host && q == 3 && d.fl F.SCRAPER_CFG_SQ3_SERVICE then d.up F.SCRAPER_STATUS_QUEUE_OWNED else f d

/-- R350: a write of TAIL. -/
def sqTailWrite (q : Nat) (w : Word) (d : Dev) : Dev :=
  let t := View.g (fun _ => w) F.SQ_TAIL_TAIL
  if 1024 < subMod 11 t (d.rg (F.SQ_HEAD_HEAD.i q)) then d.up (F.SQ_STATUS_TAIL_BAD.i q)
  else (d.sg (F.SQ_TAIL_TAIL.i q) t).sqIdle q

/-- R351: the rings of queue `q` lie below the usable size. -/
def Dev.sqRings (d : Dev) (q : Nat) : Bool :=
  decide (d.rg (F.SQ_BASE_BASE.i q) * 65536 + 65536 ≤ d.usableBytes)
    && decide (d.rg (F.SQ_CPL_BASE_BASE.i q) * 16384 + 16384 ≤ d.usableBytes)

/-- R351: a write of SQ_q_CTRL.
    Log 47 (DESIGN CHOICE, unsafe). -/
def sqCtrlWrite (q : Nat) (w : Word) (d : Dev) (plain : Dev → Dev) : Dev :=
  if View.on (fun _ => w) F.SQ_CTRL_EN && !d.sqRings q then d.up (F.SQ_STATUS_CFG_BAD.i q) else plain d

/-- R351: a write of SQ_q_BASE or SQ_q_CPL_BASE. -/
def sqBaseWrite (q : Nat) (d : Dev) (plain : Dev → Dev) : Dev :=
  if d.fl (F.SQ_CTRL_EN.i q) then d.up (F.SQ_STATUS_CFG_BAD.i q) else plain d

/-! ### The beam (R368) -/

/-- R167 to R172: the surface lines that line `y` of the unclipped destination of layer `l` reads. -/
def Dev.layerRows (d : Dev) (v : View) (l y : Nat) : List Nat :=
  let s := d.surfAt (lySid v l)
  if l < 64 then
    let r := fmtRect s.fmt (srcRect v l)
    let t := dstRect v l
    let dv := 2 ^ (d.usedDecim l).2
    let hd := ceilDiv r.h dv
    let js := if hd = t.h then [y]
      else
        let pos := scalePos hd t.h (toInt 12 (v.g (F.VL_OFFSET_OFFSET_V.i l))) y
        (List.range 6).map (fun k => clampIx hd (pos.1 - 2 + (k : Nat)))
    (js.flatMap (fun j => (List.range dv).map (fun i => min (min (j * dv + i) (r.h - 1) + r.y.toNat) (s.h - 1)))).eraseDups
  else
    let r := srcRect v l
    [min (r.y.toNat + (if v.on (F.GL_CTRL_MIRROR_V.i (l - 64)) then r.h - 1 - y else y)) (s.h - 1)]

/-- R368: the surface lines fetched for output line `line` of pipe `p` by layer `l`: those its filter reads there and not
    on the line above.
    Log 47 (DESIGN CHOICE, unsafe). -/
def Dev.fetchRows (d : Dev) (p l line : Nat) : List Nat :=
  let v := d.acV
  let c := clipDst v p l
  let y := ((line : Int) - (dstRect v l).y).toNat
  if (line : Int) < c.y ∨ c.y + c.h ≤ line ∨ c.isEmpty then []
  else if (line : Int) = c.y then d.layerRows v l y
  else (d.layerRows v l y).filter (fun r => !(d.layerRows v l (y - 1)).contains r)

/-- R368: a fetch of layer `l` overtakes the job.
    Log 47 (DESIGN CHOICE, unsafe). -/
def Dev.overtakes (d : Dev) (j : ScJob) (p l line : Nat) : Bool :=
  let t := j.dstRect
  let s := srcRect d.acV l
  d.live p l && !d.guardOff l && !d.layerEmpty d.acV p l && lySid d.acV l == j.dstSid && overlaps s.x.toNat s.w t.x.toNat t.w
    && (d.fetchRows p l line).any (fun r => decide (t.y.toNat + j.rows ≤ r) && decide (r < t.y.toNat + t.h))

/-- SCAN_OUT_FETCH_ISSUE (R263, R368): the fetches for an output line are tested against a raced job; an aborted frame has
    none left (R282). -/
def scanOutFetchIssue (p line : Nat) (d : Dev) : Dev :=
  let f := d.frame p
  match d.scJob with
  | none => d
  | some j =>
    if d.running p && f.live && !f.blanked && !f.replay && !f.notSent && !bit f.cause 0 && !f.overtook && j.bad.isNone
        && !j.raceOff && bit (j.words.getD 0 0) 14
        && j.f 0 15 2 == p && allLayers.any (fun l => d.overtakes j p l line) then
      let d1 := (d.putFrame p { f with overtook := true })
      let d2 : Dev := { d1 with scJob := some { j with overtaken := true } }
      (((d2.up (F.SCRAPER_BEAM_OVERTAKE.i p)).incSat (F.SCRAPER_BEAM_COUNT.i p)).sg (F.SCRAPER_BEAM_QUEUE.i p) j.q).sg
        (F.SCRAPER_BEAM_SLOT.i p) j.slot
    else d

/-- SCAN_OUT_FETCH_ISSUE. -/
def execScanOutFetchIssue (pipe : Fin 4) (line : BitVec 14) (s : State) : Host.Outcome State Fault Refusal :=
  s.run (scanOutFetchIssue pipe.val line.toNat)

end Sys2Proof.Machine
end

