-- ==== Sys2Proof/Machine/Dma.lean ====
section
/-! DEFINITION.  The copy engine: chains, descriptors and their tests, completion, the halt (R379 to R390), and the readers
    of an uncorrectable DRAM error (R262). -/

namespace Sys2Proof.Machine

/-- STATE of channel `c`. -/
def Dev.dmaState (d : Dev) (c : Nat) : Nat := d.rg (F.DMA_CH_STATUS_STATE.i c)

/-- R392: DMA_ENGINE_ACTIVE shows the channels. -/
def Dev.dmaShow (d : Dev) : Dev :=
  let in' := fun (st : Nat) => sumOf (fun c => if d.dmaState c = st then 2 ^ c else 0) (List.range 16)
  ((d.sg F.DMA_ENGINE_ACTIVE_RUNNING (in' 1)).sg F.DMA_ENGINE_ACTIVE_HALTED (in' 3)).restShow

/-- Channel `c` takes a state. -/
def Dev.dmaTo (d : Dev) (c st : Nat) : Dev := (d.sg (F.DMA_CH_STATUS_STATE.i c) st).dmaShow

/-- R380: the words of the descriptor that channel `c` has read. -/
def Dev.dmaDesc (d : Dev) (c : Nat) : List Nat := Tab.get (fun _ => []) d.dmaWords c

/-- R380: a descriptor field of two words. -/
def wide (ws : List Nat) (k : Nat) : Nat := ws.getD k 0 + ws.getD (k + 1) 0 * 2 ^ 32

/-- R380: a flag of W0. -/
def descBit (ws : List Nat) (k : Nat) : Bool := bit (ws.getD 0 0) k

/-- LENGTH. -/
def descLen (ws : List Nat) : Nat := ws.getD 1 0

/-- R379: the part of the source or destination still to copy from byte `b`: host space, first byte, length. -/
def descRange (ws : List Nat) (dst : Bool) (b : Nat) : Bool × Nat × Nat :=
  (descBit ws (if dst then 1 else 0), wide ws (if dst then 4 else 2) + b, descLen ws - b)

/-- The DRAM part of a range, empty for host space. -/
def dramPart (r : Bool × Nat × Nat) : Nat × Nat := if r.1 then (0, 0) else r.2

/-- R382: a range that may not be copied. -/
def Dev.badRange (d : Dev) (r : Bool × Nat × Nat) : Bool :=
  if r.1 then decide (2 ^ 64 < r.2.1 + r.2.2) || Config.barHit r.2.1 r.2.2
  else decide (2 ^ 40 < r.2.1 + r.2.2) || decide (d.usableBytes < r.2.1 + r.2.2)

/-- R382: the first test a descriptor fails from byte `b` on. -/
def Dev.dmaTest (d : Dev) (ws : List Nat) (b : Nat) : Option Nat :=
  let s := descRange ws false b
  let t := descRange ws true b
  let next := wide ws 8
  if !descBit ws 4 && (next % 64 != 0 || decide (d.usableBytes < next + 64)) then some 0x1C
  else if descLen ws = 0 then none
  else if d.badRange s || d.badRange t then some 0x19
  else if s.1 == t.1 && overlaps s.2.1 s.2.2 t.2.1 t.2.2 then some 0x16
  else if d.protRefused (dramPart s) (dramPart t) then some 0x11
  else if !t.1 && d.guardHit t.2.1 t.2.2 then some 0x10
  else none

/-- R386: the completion record of the descriptor channel `c` runs. -/
def Dev.dmaRecord (d : Dev) (c res done count : Nat) (fenced : Bool) : Dev :=
  let a := d.rg (F.DMA_CH_CUR_ADDR.i c) * 64 + 48
  (d.store a (leBytes 4 (2 ^ 31 + b2n fenced * 256 + res) ++ leBytes 4 done ++ leBytes 4 c
    ++ leBytes 4 count)).noteWrite true a 16

/-- R382: a descriptor has failed with a result: the chain stops. -/
def Dev.dmaFail (d : Dev) (c st res : Nat) (ws : List Nat) (irq : Bool) : Dev :=
  let d1 := d.dmaRecord c res (d.rg (F.DMA_CH_BYTES_BYTES.i c)) (d.rg (F.DMA_CH_COUNT_COUNT.i c)) false
  let d2 := ((d1.up (F.DMA_CH_STATUS_ERR.i c)).sg (F.DMA_CH_STATUS_LAST_RESULT.i c) res).dmaTo c st
  d2.onlyIf (irq && descBit ws 3) (fun d => d.msix (d.rg (F.DMA_CH_CTRL_VECTOR.i c)))

/-- R379, R383: bytes `b` to `e - 1` of the descriptor channel `c` runs are copied, and BYTES counts them.
    Log 48 (DESIGN CHOICE, unsafe). -/
def Dev.dmaMove (d : Dev) (c e : Nat) : Dev :=
  let ws := d.dmaDesc c
  let b := d.rg (F.DMA_CH_BYTES_BYTES.i c)
  let s := descRange ws false b
  let t := descRange ws true b
  let n := e - b
  let bs := if s.1 then d.hostBytes s.2.1 n else d.bytesAt s.2.1 n
  (if t.1 then d.hostStore t.2.1 bs else (d.store t.2.1 bs).noteWrite true t.2.1 n).sg (F.DMA_CH_BYTES_BYTES.i c) e

/-- R383: the end of whole bursts that lies at or below byte `e` of the descriptor channel `c` runs.
    Log 48 (DESIGN CHOICE, unsafe). -/
def Dev.dmaEdge (d : Dev) (c e : Nat) : Nat :=
  let ws := d.dmaDesc c
  if descLen ws ≤ e then descLen ws else max (d.rg (F.DMA_CH_BYTES_BYTES.i c)) (e - (wide ws 4 + e) % 256)

/-- What host memory holds where the descriptor of channel `c` reads next. -/
def Dev.hostSource (d : Dev) (c : Nat) (data : List Byte) : Dev :=
  let s := descRange (d.dmaDesc c) false (d.rg (F.DMA_CH_BYTES_BYTES.i c))
  if s.1 then d.hostStore s.2.1 data else d

/-- R387, R389: how far channel `c` has come when a halt or a reset stops it is open, but that it is whole bursts; what it
    has read of host memory is open with it.
    Log 48 (DESIGN CHOICE, unsafe). -/
def Dev.dmaFar (d : Dev) (c : Nat) : Nat × Dev :=
  let b := d.rg (F.DMA_CH_BYTES_BYTES.i c)
  let e := d.dmaEdge c (b + d.draw.1 % (descLen (d.dmaDesc c) - b + 1))
  let f := d.draw.2.freeBytes (e - b)
  (e, f.2.hostSource c f.1)

/-- R385 steps 1 to 4: the descriptor channel `c` runs has ended with OK. -/
def Dev.dmaFinish (d : Dev) (c : Nat) : Dev :=
  let ws := d.dmaDesc c
  let fid := bits (ws.getD 0 0) 16 12
  let fenced := descBit ws 2 && (d.fenceAt fid).alloc
  let d1 := d.onlyIf (descBit ws 2) (fun d => d.signalSet fid (wide ws 6))
  let d2 := (d1.dmaRecord c 0 (descLen ws) ((d1.rg (F.DMA_CH_COUNT_COUNT.i c) + 1) % 2 ^ 32) fenced).inc (F.DMA_CH_COUNT_COUNT.i c)
  d2.onlyIf (descBit ws 3) (fun d => d.msix (d.rg (F.DMA_CH_CTRL_VECTOR.i c)))

/-! ### The halt (R387) -/

/-- R387 steps 2 and 3: a RUNNING channel writes its prefix of whole bursts, up to byte `e`, and is HALTED; a descriptor
    whose last byte that writes has ended with OK, and the next does not start (R390).
    Log 48 (DESIGN CHOICE, unsafe). -/
def Dev.dmaHalt (d : Dev) (c e : Nat) : Dev :=
  let ws := d.dmaDesc c
  let n := descLen ws
  let far := d.dmaEdge c (max (d.rg (F.DMA_CH_BYTES_BYTES.i c)) e)
  let d1 := d.dmaMove c far
  if n = 0 ∨ far ≠ n then d1.dmaFail c 3 0x1B ws false
  else if descBit ws 4 then (d1.dmaFinish c).dmaTo c 0
  else (((d1.dmaFinish c).sg (F.DMA_CH_CUR_ADDR.i c) (wide ws 8 / 64)).dn (F.DMA_CH_BYTES_BYTES.i c)).dmaTo c 3

/-- R387 steps 1 and 4: the engine halts on a failed read at `addr`; `stop` halts its channels.
    Log 48 (DESIGN CHOICE, unsafe). -/
def Dev.dmaHaltAll (d : Dev) (host : Bool) (addr : Nat) (stop : Nat → Dev → Dev) : Dev :=
  let d1 := ((((d.up F.DMA_ENGINE_STATUS_HALT).sg F.DMA_ENGINE_STATUS_CAUSE (if host then 0x1A else 0x18)).sg
    F.DMA_ENGINE_STATUS_SPACE (b2n host)).sg F.DMA_HALT_ADDR_ADDR addr).incSat F.DMA_ENGINE_STATUS_HALT_COUNT
  let d2 := ((Dev.each (fun c d => if d.dmaState c = 1 then stop c d else d) (List.range 16) d1).faultSum
    F.SYS_FAULT_SUMMARY_ENGINE_HALT).attn .fault
  (d2.logE 4 0xA 1 (d2.unV F.DMA_ENGINE_STATUS_HALT.off).toNat).msix (d2.rg F.DMA_ENGINE_CTRL_HALT_VECTOR)

/-- R387: channel `c` halts with a prefix that nothing gives. -/
def Dev.dmaHaltFree (c : Nat) (d : Dev) : Dev := (d.dmaFar c).2.dmaHalt c (d.dmaFar c).1

/-! ### Descriptors -/

/-- R381, R382, R387: channel `c` starts the descriptor at address `a` from byte `b`: it is read, which may fail, and
    tested.
    Log 48 (DESIGN CHOICE, unsafe). -/
def Dev.dmaStart (d : Dev) (c a b : Nat) : Dev :=
  let ws := (List.range 12).map (fun k => d.leAt (a + 4 * k) 4)
  let d1 := (({ d with dmaWords := Tab.put (fun _ => []) d.dmaWords c ws }.sg (F.DMA_CH_CUR_ADDR.i c) (a / 64)).sg
    (F.DMA_CH_BYTES_BYTES.i c) b).dmaTo c 1
  let hit := fun (x : Nat × Nat) => x.1 == c && overlaps x.2 8 a 64
  if d.descBad.any hit then
    ({ d1 with descBad := d.descBad.filter (fun x => !hit x) } : Dev).dmaHaltAll false a (fun k d =>
      if k = c then d.dmaFail c 3 0x1B [] false else Dev.dmaHaltFree k d)
  else match d1.dmaTest ws b with
  | none => d1
  | some res =>
    let d2 := if res = 0x11 then d1.protFlags (dramPart (descRange ws false b)) (dramPart (descRange ws true b)) else d1
    d2.dmaFail c 2 res ws true

/-- R381: a write to DMA_CH_n_GO. -/
def dmaGoWrite (c : Nat) (w : Word) (d : Dev) : Dev :=
  let v : View := fun _ => w
  let resume := v.on F.DMA_CH_GO_RESUME
  let st := d.dmaState c
  if !v.on F.DMA_CH_GO_GO then d
  else if st = 1 ∨ (st = 0 ∧ resume) ∨ (st = 3 ∧ d.fl F.DMA_ENGINE_STATUS_HALT) then d.up (F.DMA_CH_STATUS_GO_REFUSED.i c)
  else if resume then d.dmaStart c (d.rg (F.DMA_CH_CUR_ADDR.i c) * 64) (d.rg (F.DMA_CH_BYTES_BYTES.i c))
  else d.dmaStart c (d.rg (F.DMA_CH_DESC_ADDR.i c) * 64) 0

/-- R381: a write to DMA_CH_n_DESC. -/
def dmaDescWrite (c : Nat) (d : Dev) (plain : Dev → Dev) : Dev :=
  if d.dmaState c = 1 ∨ d.dmaState c = 3 then d.up (F.DMA_CH_STATUS_CFG_BUSY.i c) else plain d

/-! ### Bursts (R383, R384) -/

/-- R384: channel `c` has a burst ready. -/
def Dev.dmaReady (d : Dev) (c : Nat) : Bool :=
  d.dmaState c == 1 && !d.fl F.DMA_ENGINE_STATUS_HALT
    && decide (d.rg (F.DMA_CH_BYTES_BYTES.i c) < descLen (d.dmaDesc c))

/-- R384: the channel served last at a priority; before any, the round begins at channel 0.
    Log 48 (DESIGN CHOICE, unsafe). -/
def Dev.dmaServedAt (d : Dev) (prio : Nat) : Nat := Tab.get (fun _ => 15) d.dmaServed prio

/-- R384: the channel whose burst is issued next: of the highest priority, round-robin. -/
def Dev.dmaNext (d : Dev) : Option Nat :=
  let prio := fun (c : Nat) => d.rg (F.DMA_CH_CTRL_PRIO.i c)
  let ready := (List.range 16).filter d.dmaReady
  let top := maxOf prio ready
  let best := ready.filter (fun c => prio c == top)
  firstWith (fun c => best.contains c) ((List.range 16).map (fun k => (d.dmaServedAt top + 1 + k) % 16))

/-- R383, R384: one burst is issued and written: up to the next multiple of 256 of the destination address.
    Log 1 (DESIGN CHOICE, unsafe), 48 (DESIGN CHOICE, unsafe). -/
def Dev.dmaBurst (d : Dev) : Dev :=
  match d.dmaNext with
  | none => d
  | some c =>
    let ws := d.dmaDesc c
    let b := d.rg (F.DMA_CH_BYTES_BYTES.i c)
    let d1 := d.dmaMove c (min (descLen ws) (b + 256 - (wide ws 4 + b) % 256))
    { d1 with dmaServed := Tab.put (fun _ => 15) d1.dmaServed (d.rg (F.DMA_CH_CTRL_PRIO.i c)) c }

/-- R384: bursts are issued until the descriptor of channel `c` has moved; `n` bounds them. -/
def Dev.dmaServe (c : Nat) : Nat → Dev → Dev
  | 0, d => d
  | n + 1, d => if d.dmaReady c then Dev.dmaServe c n d.dmaBurst else d

/-- R383: at most as many bursts as the running descriptors still have. -/
def Dev.dmaLeft (d : Dev) : Nat :=
  sumOf (fun c => if d.dmaReady c then (descLen (d.dmaDesc c) - d.rg (F.DMA_CH_BYTES_BYTES.i c)) / 256 + 2 else 0) (List.range 16)

/-- DMA_DESC_COMPLETE (R385): bursts are served until the last byte of the channel's descriptor is written; fence, record,
    count and interrupt follow, then the next descriptor.
    Log 48 (DESIGN CHOICE, unsafe). -/
def dmaDescComplete (c : Nat) (data : List Byte) (d : Dev) : Dev :=
  if d.dmaState c ≠ 1 ∨ d.fl F.DMA_ENGINE_STATUS_HALT then d
  else
    let d0 := d.hostSource c data
    let d1 := Dev.dmaServe c d0.dmaLeft d0
    let d2 := d1.dmaFinish c
    let ws := d.dmaDesc c
    if descBit ws 4 then d2.dmaTo c 0 else d2.dmaStart c (wide ws 8) 0

/-- DMA_DESC_COMPLETE. -/
def execDmaDescComplete (ch : Fin 16) (hostData : List Byte) (s : State) : Host.Outcome State Fault Refusal :=
  s.run (Dev.engine (dmaDescComplete ch.val hostData))

/-- DMA_BUS_ERROR (R387): the engine halts; the operands say how far each channel has come.
    Log 48 (DESIGN CHOICE, unsafe). -/
def dmaBusError (kind : BusError) (addr : Nat) (ends : List (Fin 16 × Word)) (data : List (Fin 16 × List Byte))
    (d : Dev) : Dev :=
  if d.fl F.DMA_ENGINE_STATUS_HALT then d
  else d.dmaHaltAll kind.host addr (fun c d => (d.hostSource c (forChannel c [] data)).dmaHalt c (forChannel c 0 ends).toNat)

/-- DMA_BUS_ERROR. -/
def execDmaBusError (kind : BusError) (addr : Word64) (ends : List (Fin 16 × Word)) (data : List (Fin 16 × List Byte))
    (dt : Nat) (s : State) : Host.Outcome State Fault Refusal :=
  s.run (fun d => dmaBusError kind addr.toNat ends data (d.advance dt))

/-- DMA_HALT_SETTLED (R387): no request is outstanding any more.
    Log 48 (DESIGN CHOICE, unsafe). -/
def dmaHaltSettled (d : Dev) : Dev := if d.fl F.DMA_ENGINE_STATUS_HALT then d.up F.DMA_ENGINE_STATUS_SETTLED else d

/-- DMA_HALT_SETTLED. -/
def execDmaHaltSettled (s : State) : Host.Outcome State Fault Refusal := s.run dmaHaltSettled

/-- R388: a write to DMA_ENGINE_CTRL.
    Log 48 (DESIGN CHOICE, unsafe). -/
def dmaEngineCtrl (w : Word) (d : Dev) : Dev :=
  let v : View := fun _ => w
  let d1 := d.sg F.DMA_ENGINE_CTRL_HALT_VECTOR (v.g F.DMA_ENGINE_CTRL_HALT_VECTOR)
  if !v.on F.DMA_ENGINE_CTRL_CLEAR_HALT then d1
  else if !d1.fl F.DMA_ENGINE_STATUS_SETTLED then d1.up F.DMA_ENGINE_STATUS_CLEAR_EARLY
  else ((((d1.dn F.DMA_ENGINE_STATUS_HALT).dn F.DMA_ENGINE_STATUS_SETTLED).dn F.DMA_ENGINE_STATUS_CAUSE).dn
    F.DMA_ENGINE_STATUS_SPACE).dn F.DMA_ENGINE_STATUS_WRITE

/-! ### Who reads a word in error (R262) -/

/-- R262: a load of a curve or LUT ends without a usable RAM.
    Log 39 (DESIGN CHOICE, unsafe). -/
def Dev.loadError (d : Dev) (key : Nat) (st : Nat → Fld) : Dev :=
  match Tab.get (fun _ => (none : Option RamLoad)) d.loads key with
  | some x => { d with loads := Tab.put (fun _ => none) d.loads key none }.sg (st x.ram) 0
  | none => d

/-- R262, R387: an uncorrectable error on a read of copy-engine channel `c`: of its running descriptor's source, which halts
    the engine, or of a descriptor that it reads next.
    Log 48 (DESIGN CHOICE, unsafe). -/
def Dev.dmaEcc (d : Dev) (c addr : Nat) : Dev :=
  let s := descRange (d.dmaDesc c) false (d.rg (F.DMA_CH_BYTES_BYTES.i c))
  if d.fl F.DMA_ENGINE_STATUS_HALT then d
  else if d.dmaState c = 1 ∧ !s.1 ∧ overlaps (addr / 8 * 8) 8 s.2.1 s.2.2 then d.dmaHaltAll false addr Dev.dmaHaltFree
  else { d with descBad := (c, addr / 8 * 8) :: d.descBad }

/-- R230, R262: the lines of crust plane `q` whose tiles the store unit at `addr` holds; what the eight bytes show there is
    internal. -/
def Dev.storeLines (d : Dev) (q addr : Nat) : List Nat :=
  ((d.planeTiles q).filter (fun e => e.2.shown.unitList.contains ((addr - d.storeBase) / 16384))).flatMap (fun e =>
    (List.range 64).map (fun j => e.1 % 8192 / tileCols d.acV (planePipe q) * 64 + j))

/-- R262: what an uncorrectable error at `addr` does to its reader: scan-out reads 0, a window read is poisoned.
    Log 39 (DESIGN CHOICE, unsafe). -/
def Dev.eccReader (d : Dev) (r : Reader) (addr : Nat) : Dev :=
  match r with
  | .layer l => d.layerData l.val (fun f => { f with zeros := (l.val, addr / 8 * 8) :: f.zeros })
  | .crust q => d.crustData q.val (fun f => { f with openLines := d.storeLines q.val addr ++ f.openLines })
  | .scraper => d.scDramError
  | .dma c => d.dmaEcc c.val addr
  | .composer p =>
    let c := d.crustAt p.val
    d.putCrust p.val { c with item := c.item.map (fun (i : CrustItem) => { i with obsolete := true }) }
  | .curve l => d.loadError l.val (fun k => if k = 0 then lf F.VL_TM_STATUS_RAM0_STATE F.GL_TM_STATUS_RAM0_STATE l.val
      else lf F.VL_TM_STATUS_RAM1_STATE F.GL_TM_STATUS_RAM1_STATE l.val)
  | .lut p => d.loadError (128 + p.val) (fun k =>
      if k = 0 then F.PIPE_LUT_STATUS_RAM0_STATE.i p.val else F.PIPE_LUT_STATUS_RAM1_STATE.i p.val)
  | .window => { d with poison := addr / 8 * 8 :: d.poison }

/-- DRAM_ECC_ERROR (R262): with inline ECC on, an error of a channel is corrected or reported. -/
def dramEccError (ch : Nat) (unc : Bool) (r : Reader) (addr : Nat) (d : Dev) : Dev :=
  if !d.fl F.FETCH_DRAM_ECC_EN then d
  else if unc then (d.uncorrected ch).eccReader r addr else d.corrected ch

/-- DRAM_ECC_ERROR. -/
def execDramEccError (ch : Fin 16) (uncorrectable : Bool) (reader : EccRead) (dt : Nat) (s : State) :
    Host.Outcome State Fault Refusal :=
  s.run (fun d => dramEccError ch.val uncorrectable reader.reader reader.addr.toNat (d.advance dt))

end Sys2Proof.Machine
end

