-- ==== Sys2Proof/Machine/Loads.lean ====
section
/-! DEFINITION.  Curve and LUT RAMs: loads, their ends and parity errors (R204, R205, R212). -/

namespace Sys2Proof.Machine

/-- The registers of a RAM pair and where it loads from: a layer's curves (R225) or a pipe's LUTs (R226). -/
structure RamPair where
  key : Nat
  st0 : Fld
  st1 : Fld
  inUse : Fld
  busy : Fld
  badAddr : Fld
  prot : Fld
  parity : Fld
  lo : Fld
  hi : Fld
  bytes : Nat

/-- R204: the curve RAMs of layer `l`. -/
def curvePair (l : Nat) : RamPair :=
  { key := l
    st0 := lf F.VL_TM_STATUS_RAM0_STATE F.GL_TM_STATUS_RAM0_STATE l
    st1 := lf F.VL_TM_STATUS_RAM1_STATE F.GL_TM_STATUS_RAM1_STATE l
    inUse := lf F.VL_TM_STATUS_IN_USE F.GL_TM_STATUS_IN_USE l
    busy := lf F.VL_TM_STATUS_LOAD_BUSY F.GL_TM_STATUS_LOAD_BUSY l
    badAddr := lf F.VL_TM_STATUS_BAD_ADDR F.GL_TM_STATUS_BAD_ADDR l
    prot := lf F.VL_TM_STATUS_PROT F.GL_TM_STATUS_PROT l
    parity := lf F.VL_TM_STATUS_PARITY F.GL_TM_STATUS_PARITY l
    lo := lf F.VL_TM_ADDR_ADDR_LO F.GL_TM_ADDR_ADDR_LO l
    hi := lf F.VL_TM_ADDR_ADDR_HI F.GL_TM_ADDR_ADDR_HI l
    bytes := 2048 }

/-- R212: the LUT RAMs of pipe `p`. -/
def lutPair (p : Nat) : RamPair :=
  { key := 128 + p
    st0 := F.PIPE_LUT_STATUS_RAM0_STATE.i p
    st1 := F.PIPE_LUT_STATUS_RAM1_STATE.i p
    inUse := F.PIPE_LUT_STATUS_IN_USE.i p
    busy := F.PIPE_LUT_STATUS_LOAD_BUSY.i p
    badAddr := F.PIPE_LUT_STATUS_BAD_ADDR.i p
    prot := F.PIPE_LUT_STATUS_PROT.i p
    parity := F.PIPE_LUT_STATUS_PARITY.i p
    lo := F.PIPE_LUT_ADDR_ADDR_LO.i p
    hi := F.PIPE_LUT_ADDR_ADDR_HI.i p
    bytes := 287496 }

/-- STATE of RAM `k` of a pair. -/
def RamPair.st (r : RamPair) (k : Nat) : Fld := if k = 0 then r.st0 else r.st1

/-- No load of either RAM. -/
def dfltLoad : Nat → Option RamLoad := fun _ => none

/-- R204: a block's enable bit is set and its RAM bit names RAM `k` in the active bank, the armed bank (held values with
    it) or the late store. -/
def Dev.ramUsed (d : Dev) (b : BlkId) (en ram : Fld) (k : Nat) : Bool :=
  let at' := fun (v : View) => v.on en && v.g ram == k
  at' d.acV || (d.armed ++ d.late).any (fun s => s.id == b && at' s.view)

/-- R204: a load is asked for: refused with every flag whose case applies, or the RAM becomes LOADING. -/
def Dev.ramLoad (d : Dev) (r : RamPair) (used : Bool) (k : Nat) : Dev :=
  let a := d.rg r.lo * 64 + d.rg r.hi * 2 ^ 32
  let busy := (Tab.get dfltLoad d.loads r.key).isSome
  let bad := decide (d.usableBytes < a + r.bytes)
  let prot := (d.protHit a r.bytes).isSome
  if used || busy || bad || prot then
    (((d.onlyIf used (·.up r.inUse)).onlyIf busy (·.up r.busy)).onlyIf bad (·.up r.badAddr)).onlyIf prot (·.up r.prot)
  else { d with loads := Tab.put dfltLoad d.loads r.key (some ⟨k, a⟩) }.sg (r.st k) 1

/-- R204, R212: entries of two bytes (curves) or eight (LUT nodes), little-endian. -/
def entriesOf (n : Nat) : Nat → List Byte → List Nat
  | 0, _ => []
  | k + 1, bs => ofLe (bs.take n) :: entriesOf n k (bs.drop n)

/-- TM_LOAD (R204).
    Log 39 (DESIGN CHOICE, unsafe). -/
def tmLoad (l : Nat) (w : Word) (d : Dev) : Dev :=
  let v : View := fun _ => w
  let k := v.g F.VL_TM_LOAD_RAM
  if v.on F.VL_TM_LOAD_GO then
    d.ramLoad (curvePair l)
      (d.ramUsed (.layer l) (lf F.VL_CSC_CTRL_TM_EN F.GL_CSC_CTRL_TM_EN l) (lf F.VL_CSC_CTRL_TM_RAM F.GL_CSC_CTRL_TM_RAM l) k) k
  else d

/-- LUT_LOAD (R212).
    Log 39 (DESIGN CHOICE, unsafe). -/
def lutLoad (p : Nat) (w : Word) (d : Dev) : Dev :=
  let v : View := fun _ => w
  let k := v.g F.PIPE_LUT_LOAD_RAM
  if v.on F.PIPE_LUT_LOAD_GO then
    d.ramLoad (lutPair p) (d.ramUsed (.pipe p) (F.PIPE_OUT_CTRL_LUT_EN.i p) (F.PIPE_OUT_CTRL_LUT_RAM.i p) k) k
  else d

/-- TM_LOAD_COMPLETE (R204): the RAM holds what the 2,048 bytes held. -/
def tmLoadComplete (l : Nat) (d : Dev) : Dev :=
  match Tab.get dfltLoad d.loads l with
  | none => d
  | some x =>
    { d with
      loads := Tab.put dfltLoad d.loads l none
      tmRam := Tab.put dfltRam d.tmRam (2 * l + x.ram) (entriesOf 2 1024 (d.bytesAt x.addr 2048)) }.sg
      ((curvePair l).st x.ram) 2

/-- TM_LOAD_COMPLETE. -/
def execTmLoadComplete (layer : Fin 128) (s : State) : Host.Outcome State Fault Refusal :=
  s.run (tmLoadComplete layer.val)

/-- LUT_LOAD_COMPLETE (R212): the RAM holds what the 287,496 bytes held. -/
def lutLoadComplete (p : Nat) (d : Dev) : Dev :=
  match Tab.get dfltLoad d.loads (128 + p) with
  | none => d
  | some x =>
    { d with
      loads := Tab.put dfltLoad d.loads (128 + p) none
      lutRam := Tab.put dfltRam d.lutRam (2 * p + x.ram) (entriesOf 8 35937 (d.bytesAt x.addr 287496)) }.sg
      ((lutPair p).st x.ram) 2

/-- LUT_LOAD_COMPLETE. -/
def execLutLoadComplete (pipe : Fin 4) (s : State) : Host.Outcome State Fault Refusal :=
  s.run (lutLoadComplete pipe.val)

/-- R205, R212: a parity error in RAM `k` of a pair. -/
def Dev.ramParity (d : Dev) (r : RamPair) (k : Nat) : Dev := ((d.sg (r.st k) 0).up r.parity).logOpen

/-- TM_PARITY (R205): the curve RAM that layer `l` reads from fails in line `line`, which shows what the spec does not give;
    from the next line on the layer is composed without tone mapping. -/
def tmParity (l line : Nat) (d : Dev) : Dev :=
  let k := d.ac (lf F.VL_CSC_CTRL_TM_RAM F.GL_CSC_CTRL_TM_RAM l)
  match pipeOf d.acV l with
  | some p =>
    if d.acOn (lf F.VL_CSC_CTRL_TM_EN F.GL_CSC_CTRL_TM_EN l) && d.rg ((curvePair l).st k) == 2 then
      (d.ramParity (curvePair l) k).mark p .ram [] (fun f =>
        { f with openLines := line :: f.openLines, noTm := (l, line + 1) :: f.noTm })
    else d
  | none => d

/-- TM_PARITY. -/
def execTmParity (layer : OnLine 128) (s : State) : Host.Outcome State Fault Refusal :=
  s.run (tmParity layer.index.val layer.line.toNat)

/-- LUT_PARITY (R212): as TM_PARITY; from the next line on the LUT is bypassed. -/
def lutParity (p line : Nat) (d : Dev) : Dev :=
  let k := d.ac (F.PIPE_OUT_CTRL_LUT_RAM.i p)
  if d.acOn (F.PIPE_OUT_CTRL_LUT_EN.i p) && d.lutState p k == 2 then
    (d.ramParity (lutPair p) k).mark p .ram [] (fun f =>
      { f with openLines := line :: f.openLines, noLut := some (min (f.noLut.getD (line + 1)) (line + 1)) })
  else d

/-- LUT_PARITY. -/
def execLutParity (pipe : OnLine 4) (s : State) : Host.Outcome State Fault Refusal :=
  s.run (lutParity pipe.index.val pipe.line.toNat)

end Sys2Proof.Machine
end

