-- ==== Sys2Proof/Machine/Scrub.lean ====
section
/-! DEFINITION.  The configuration scrubber and safe black (R65 to R67), and the scrubbers and checks of the surface and
    fence tables (R125, R136, R138, R153). -/

namespace Sys2Proof.Machine

/-- R64: a field with a parity bit.
    Log 26 (DESIGN CHOICE, unsafe). -/
def Fld.guarded (f : Fld) : Bool :=
  match f.acc with
  | .rw => true | .rws => true | .rwp => true | .rwk => true | .w1 => true
  | _ => false

/-- R64: the bank holds a configuration register at the offset; the FENCE block has its own protection. -/
def Dev.parityHere (d : Dev) (b : Bank) (off : Nat) : Bool :=
  match findReg off with
  | some (r, k) =>
    let has := fun (p : Fld → Bool) => r.flds.any (fun f => f.guarded && p f && (f.part r k).isSome)
    (match b with
      | .unbanked => has (fun f => !f.banked) && off / 65536 != 14
      | .armed => has Fld.banked && (match blkOf off with
        | some x => (snapOf x d.armed).isSome
        | none => false)
      | _ => has Fld.banked)
  | none => false

/-- R63, R66: SYS_LOCKDOWN is kept in two copies, one of which restores the other. -/
def twoCopies (off : Nat) : Bool := off == F.SYS_LOCKDOWN_UNLOCK_DISABLE.off

/-- R66: the pipe a block of the active bank belongs to. -/
def Dev.parityPipe (d : Dev) (off : Nat) : Option Nat :=
  match blkOf off with
  | some b => blkPipe d.acV b
  | none => none

/-- R67: pipe `p` enters safe black from the first line that starts after detection.
    Log 26 (DESIGN CHOICE, unsafe). -/
def Dev.enterSafeBlack (d : Dev) (p : Nat) : Dev :=
  if d.safeBlack p then d
  else
    let d1 := (d.orBits F.SYS_PARITY_STATUS_SAFE_BLACK (2 ^ p)).faultSum F.SYS_FAULT_SUMMARY_SAFE_BLACK
    let n := (d1.putPst p { d1.pst p with reloaded := false, reloadFail := false }).nextLine p
    (n.2.mark p .safeBlack (layersOf d1.acV p) (·.blackOn n.1)).logE 4 1 2 p

/-- R65, R66: a new mismatch is found: it is reported, and its outcome follows.
    Log 26 (DESIGN CHOICE, unsafe). -/
def Dev.parityAct (m : Mismatch) (d : Dev) : Dev :=
  let d1 := d.parityReport m
  let stays := { d1 with mismatches := m :: d1.mismatches }
  match m.bank with
  | .armed => d1.armedParity m.off
  | .unbanked => if twoCopies m.off then d1 else stays
  | .proof => stays
  | .active =>
    match stays.parityPipe m.off with
    | some p => stays.enterSafeBlack p
    | none => stays

/-- R64, R65: a mismatch that may arise at the word, and has not been found there. -/
def Dev.parityNew (d : Dev) (m : Mismatch) : Bool := d.parityHere m.bank m.off && !d.mismatches.contains m

/-- R65, R66: what a pass finds, or a mismatch that arises behind it and waits for the next check.
    Log 26 (DESIGN CHOICE, unsafe). -/
def Dev.parityFound (h : ScrubHit) (d : Dev) : Dev :=
  let m : Mismatch := ⟨h.bank, h.off.toNat / 4 * 4⟩
  if !d.parityNew m then d
  else if h.latent then (if d.latent.contains m then d else { d with latent := d.latent ++ [m] })
  else d.parityAct m

/-- CONFIG_SCRUB_PASS (R65): a pass ends and reports what waited for it and what it found.
    Log 26 (DESIGN CHOICE, unsafe). -/
def configScrubPass (found : List ScrubHit) (d : Dev) : Dev :=
  (Dev.each Dev.parityFound found
    (Dev.each (fun m d => if d.parityNew m then d.parityAct m else d) d.latent d)).inc F.SYS_SCRUB_COUNT_PASSES

/-- CONFIG_SCRUB_PASS. -/
def execConfigScrubPass (found : List ScrubHit) (s : State) : Host.Outcome State Fault Refusal :=
  s.run (configScrubPass found)

/-- SAFE_BLACK_RELOAD (R67): Hearth firmware has rewritten the active bank of pipe `p` with the values that last became
    active; a running pipe shows them from its next swap point, a stopped one at once.
    Log 26 (DESIGN CHOICE, unsafe). -/
def safeBlackReload (p : Nat) (d : Dev) : Dev :=
  if !d.safeBlack p || (d.pst p).reloadFail || d.hearth.stopped then d
  else
    let keep := fun (m : Mismatch) => !(m.bank == Bank.active && d.parityPipe m.off == some p)
    let d1 : Dev := { d with mismatches := d.mismatches.filter keep }
    if d1.running p then d1.putPst p { d1.pst p with reloaded := true } else d1.safeBlackOff p

/-- SAFE_BLACK_RELOAD. -/
def execSafeBlackReload (pipe : Fin 4) (s : State) : Host.Outcome State Fault Refusal :=
  s.run (safeBlackReload pipe.val)

/-- RELOAD_FAIL (R67): no reload came in time; the pipe stays in safe black until a commit swaps.
    Log 26 (DESIGN CHOICE, unsafe). -/
def reloadFail (p : Nat) (d : Dev) : Dev :=
  if !d.safeBlack p || (d.pst p).reloaded || (d.pst p).reloadFail then d
  else ((d.putPst p { d.pst p with reloadFail := true }).up F.SYS_PARITY_STATUS_RELOAD_FAIL).logE 4 1 2 (p + 256)

/-- RELOAD_FAIL. -/
def execReloadFail (pipe : Fin 4) (s : State) : Host.Outcome State Fault Refusal := s.run (reloadFail pipe.val)

/-- DESC_SCRUB (R125). -/
def execDescScrub (hits : List Upset) (s : State) : Host.Outcome State Fault Refusal :=
  s.run (Dev.each descUpset hits)

/-- SEAL_CHECK_END (R136). -/
def execSealCheckEnd (s : State) : Host.Outcome State Fault Refusal := s.run sealCheckEnd

/-- SURFACE_RETIRE_DRAIN (R138). -/
def execSurfaceRetireDrain (sid : BitVec 14) (s : State) : Host.Outcome State Fault Refusal :=
  s.run (surfaceRetireDrain sid.toNat)

/-- FENCE_SCRUB (R153). -/
def execFenceScrub (hits : List Upset) (s : State) : Host.Outcome State Fault Refusal :=
  s.run (Dev.each fenceUpset hits)

end Sys2Proof.Machine
end

