-- ==== Sys2Proof/Machine/Resets.lean ====
section
/-! DEFINITION.  Resets: what each reaches and what survives it (R13, R14, R492): the per-pipe reset (R43, R113, R479), the
    function-level reset (R69, R117, R155, R373, R389, R417, R477), and the warm reset, DEEP exit and cold power-on (R472 to
    R476). -/

namespace Sys2Proof.Machine

/-- R13: the unbanked registers that an event of rank `e` reaches return to their reset values, field by field.
    Log 11 (DEDUCED, unsafe). -/
def Dev.resetRegs (d : Dev) (e : Nat) (reach : Nat → Bool) : Dev :=
  { d with regs := Tab.mapEntries dfltU (fun k w => if reach k then resetWord false e k w else w) d.regs }

/-- Standing brownout warnings, and the sampled straps, which hold until the next reset release (R524).
    Log 12 (DEDUCED, unsafe). -/
def liveFlds : List Fld :=
  [F.POWER_BROWNOUT_ACTIVE, F.IO_STRAPS_EDP, F.IO_STRAPS_STARTER, F.IO_STRAPS_I2C_ADDR, F.IO_STRAPS_TEST_MODE]

/-- Those indicators, and the HDCP state UNAVAILABLE, which lasts until cold power-on (R512), as they stood in `old`.
    Log 12 (DEDUCED, unsafe). -/
def Dev.keepLive (d old : Dev) : Dev :=
  Dev.each (fun s d => if old.rg (F.DP_HDCP_STATE.i s) = 4 then d.sg (F.DP_HDCP_STATE.i s) 4 else d) [0, 1, 2, 3]
    (Dev.each (fun f d => d.sg f (old.rg f)) liveFlds d)

/-- R524: with STRAP_EDP, DP_0_CTRL.MODE resets to 1.
    Log 12 (DEDUCED, unsafe). -/
def Dev.edpStrap (d : Dev) : Dev :=
  if d.fl F.IO_STRAPS_EDP then
    { d with proof := (F.DP_CTRL_MODE.i 0).set dfltB d.proof 1, active := (F.DP_CTRL_MODE.i 0).set dfltB d.active 1 }
  else d

/-- R58, R69: SYS_POSTED_BUSY.BUSY shows the areas with a write in flight, but for writes it was reset under.
    Log 14 (DESIGN CHOICE, unsafe). -/
def Dev.postedShow (d : Dev) : Dev :=
  d.sg F.SYS_POSTED_BUSY_BUSY (sumOf (fun a => if d.posted.any (fun w => w.area == a && w.shown) then 2 ^ a else 0) (List.range 12))

/-! ### Per-pipe reset -/

/-- R14, R88: the layers assigned to pipe `p`: active on it, or active nowhere and waiting for it.
    Log 13 (DESIGN CHOICE, unsafe). -/
def Dev.resetLayers (d : Dev) (p : Nat) : List Nat :=
  allLayers.filter (fun l => match pipeOf d.acV l with
    | some q => q == p
    | none => match snapOf (.layer l) (d.armed ++ d.late) with
      | some s => d.snapPipe s == some p
      | none => false)

/-- R14: the frame-banked blocks a per-pipe reset of `p` reaches.
    Log 13 (DESIGN CHOICE, unsafe). -/
def Dev.resetBlks (d : Dev) (p : Nat) : List BlkId :=
  [.pipe p, .wb p, .crust (2 * p), .crust (2 * p + 1)] ++ (d.resetLayers p).map .layer
    ++ ((List.range 6).filter (fun s => portPipe d.acV s == some p)).map .port

/-- R14, R345: the unbanked registers a per-pipe reset of `p` reaches, by offset.
    Log 13 (DESIGN CHOICE, unsafe). -/
def resetReach (blks : List BlkId) (p k : Nat) : Bool :=
  (match blkOf k with
    | some b => blks.contains b
    | none => false)
  || within (0x70200 + p * 0x20) (0x7021F + p * 0x20) k || within (0xA0100 + p * 0x10) (0xA010F + p * 0x10) k
  || (within 0xA0400 0xA07FF k && blks.contains (.layer ((k - 0xA0400) / 16)))

/-- R113, R180: the waiting values of a discarded snapshot go, with their grants. -/
def Dev.dropWaiting (s : Snap) (d : Dev) : Dev :=
  match s.id with
  | .layer l => (if l < 64 then (d.release l 1).release l 2 else d).unhold l
  | _ => d

/-- R14: the banks of the listed blocks return to their reset values, and their mismatches go. -/
def Dev.resetBanks (d : Dev) (blks : List BlkId) : Dev :=
  let clear := fun (t : Tab Word) => blks.foldl (fun t b => blkReplace b [] t) t
  let kept := fun (m : Mismatch) => m.bank == .unbanked || !(blkOf m.off).any blks.contains
  { d with
    proof := clear d.proof
    active := clear d.active
    mismatches := d.mismatches.filter kept
    latent := d.latent.filter kept }

/-- R121, R194, R456: what is shown of all pipes after a per-pipe reset.  The FETCH registers of R279 and R291 do not
    change here: they change at the next swap point, acceptance or re-plan. -/
def Dev.showAll (d : Dev) : Dev := d.armShow.poolShow.capShow

/-- R43, R113, R138, R180, R251, R336, R343, R425, R479: a reset of pipe `p` with fields of ranks below `e` cleared: 1 for
    a per-pipe reset, 3 for an ICP soft reset (R480).  It completes at once.
    Log 13 (DESIGN CHOICE, unsafe). -/
def Dev.pipeReset (d : Dev) (e p : Nat) : Dev :=
  let v := d.acV
  let ls := d.resetLayers p
  let blks := d.resetBlks p
  let ports := (List.range 6).filter (fun s => portPipe v s == some p)
  let mine := fun (s : Snap) => blks.contains s.id || (d.snapPipes s).contains p
  let gone := (d.armed ++ d.late).filter mine
  let d1 := (Dev.each (fun l d => (d.clearRuns l).clearHist (histKey l)) ls ((((d.guardClear p).raceEnd p).wbReset p).clearHist p)).clearOutRun p
  let d2 := Dev.each Dev.dropWaiting gone
    { d1 with armed := d1.armed.filter (fun s => !mine s), late := d1.late.filter (fun s => !mine s) }
  let d3 := Dev.each (fun l d => if l < 64 then d.releaseAll l else d.quietReset l) ls d2
  let d4 := (((d3.dissolve true p).holdOff p).ownerStep true p).putSvc p { (d3.svcOf p) with staged := none }
  let d5 := ((d4.putPst p { wbEnd := (d4.pst p).wbEnd }).resetBanks blks).safeBlackOff p
  let d6 := ({ d5 with
    training := d5.training.filter (fun s => !ports.contains s)
    dirty := d5.dirty.filter (fun l => !ls.contains l)
    hinted := d5.hinted.filter (fun l => !ls.contains l)
    changed := d5.changed.filter (· != p) }.resetRegs e (resetReach blks p)).keepLive d
  let d7 := ((d6.edpStrap.surfReset).discarded gone).genSync p v
  ((((d7.crustShow p).planeShow (2 * p)).planeShow (2 * p + 1)).storeShow).showAll

/-! ### Function-level reset -/

/-- R14, R69, R117, R155, R253, R345, R373, R389, R417: the registers that a function-level reset reaches: host interface
    state, the copy engine, the Scraper queues it reaches and CHK_4 to CHK_7.
    Log 14 (DESIGN CHOICE, unsafe). -/
def hostReach (sq3 : Bool) (k : Nat) : Bool :=
  k < 0x20000 || within 0x70020 0x70043 k || within 0xA0000 0xA00FF k || within 0xE0000 0xE7FFF k
    || within 0xB0004 0xB0007 k || within 0xB0100 (if sq3 then 0xB01FF else 0xB01BF) k || within 0xC0000 0xCFFFF k
    || within 0xD0000 0xD0003 k || within 0xD0200 0xD02FF k || within 0x2008000 0x200BFFF k

/-- R389: a RUNNING channel stops at a burst boundary (R383); how far it has come is open, but in HOLD it is paused.
    Log 14 (DESIGN CHOICE, unsafe). -/
def Dev.dmaCut (c : Nat) (d : Dev) : Dev :=
  if d.dmaState c = 1 ∧ !d.fl F.DMA_ENGINE_STATUS_HALT then
    Dev.engine (fun d => (d.dmaFar c).2.dmaMove c (d.dmaFar c).1) d
  else d

/-- R389: the copy engine stops. -/
def Dev.dmaOff (d : Dev) : Dev := { Dev.each Dev.dmaCut (List.range 16) d with dmaWords := [], dmaServed := [], descBad := [] }

/-- R373, R389: the engines that a reset of the host interface stops, with the queues it reaches.
    Log 14 (DESIGN CHOICE, unsafe). -/
def Dev.enginesStop (d : Dev) (sq3 : Bool) : Dev :=
  let d1 := d.dmaOff
  if d1.scJob.any (fun j => j.q == 3 && !sq3) then d1 else d1.scStop

/-- FUNCTION_LEVEL_RESET, PERST_ASSERT (R477, R478): host interface state and the engines are reset; outputs continue.
    Log 14 (DESIGN CHOICE, unsafe). -/
def functionLevelReset (d : Dev) : Dev :=
  let sq3 := !d.fl F.SCRAPER_CFG_SQ3_SERVICE
  let d1 := d.enginesStop sq3
  let host := fun {α : Type} (t : Tab α) => Tab.keep (fun k => decide (fwCopy ≤ k)) t
  let d2 := { d1 with
    strobes := d1.strobes.map (fun (s : Strobe) => if s.rq == Rq.host then { s with lost := true } else s)
    heldReads := d1.heldReads.filter (fun r => r.rq != Rq.host)
    posted := d1.posted.map (fun (w : PostedWr) => { w with shown := false })
    cmdAt := Tab.put (fun _ => none) d1.cmdAt 0 none
    latch := host d1.latch
    heldLo := host d1.heldLo
    watchArmed := 0xFFFF
    hints := d1.hints.filter (fun h => h.rq != Rq.host)
    icp := { d1.icp with
      slots := []
      svc := d1.icp.svc.map (fun (s : SvcStep) => if s.tr == Tr.pcie then { s with lost := true } else s) } }
  (((d2.resetRegs 2 (hostReach sq3)).hintCount).postedShow).restShow

/-- FUNCTION_LEVEL_RESET. -/
def execFunctionLevelReset (s : State) : Host.Outcome State Fault Refusal := s.run functionLevelReset

/-- PERST_ASSERT (R478): as a function-level reset; the PCIe link goes down. -/
def perstAssert (d : Dev) : Dev :=
  let d1 := if d.deep then d else functionLevelReset d
  { d1 with power := { d1.power with perst := true, pcie := false } }

/-- PERST_ASSERT. -/
def execPerstAssert (s : State) : Host.Outcome State Fault Refusal := s.runAon perstAssert

/-! ### Warm reset, DEEP exit, cold power-on -/

/-- R74: causes, by bit of SYS_RESET_CAUSE. -/
inductive ResetCause where
  | cold | pin | watchdog | brownout | software | deepExit
  deriving DecidableEq, Repr

/-- R74: the bit of a cause. -/
def ResetCause.bit : ResetCause → Nat
  | .cold => 0 | .pin => 1 | .watchdog => 2 | .brownout => 3 | .software => 4 | .deepExit => 5

/-- R13: the rank of the reset with a cause.
    Log 11 (DEDUCED, unsafe). -/
def ResetCause.rank : ResetCause → Nat
  | .cold => 5 | .deepExit => 4 | _ => 3

/-- R430: what the AON record keeps of a service-owned pipe. -/
def Service.kept (x : Service) : Service := { base := x.base, size := x.size, timing := x.timing }

/-- R430: the kept records of the pipes that stay service-owned through a warm reset. -/
def Dev.keptServices (d : Dev) : Tab Service :=
  pipes.foldl (fun t p => if d.fl (F.PIPE_OWNER_OWNER.i p) then Tab.put dfltService t p (d.svcOf p).kept else t) []

/-- R475: DRAM contents are kept through a warm reset with RETAIN_DRAM, but not for a brownout of DDR_PHY. -/
def Dev.dramKept (d : Dev) (c : ResetCause) (island : Nat) : Bool :=
  c.rank == 3 && d.fl F.SYS_RESET_CTRL_RETAIN_DRAM && !(c == .brownout && island == 3)

/-- R448: how the open attempt ends: 2 failed, 0 not judged. -/
def Dev.attemptEnd (d : Dev) (c : ResetCause) : Nat :=
  if c = .cold then 0
  else if d.hearth.attempt = 1 ∧ (c = .watchdog ∨ c = .brownout) then 2
  else if d.hearth.attempt = 2 then 2 else 0

/-- R14, R373, R389, R472, R492: the engines stop and the whole device is reset; what survives is what the always-on island (but for a cold power-on), the
    MRAM and, under R475, the DRAM hold.  The device is then held in reset.
    Log 15 (DESIGN CHOICE, unsafe). -/
def Dev.restart (d0 : Dev) (c : ResetCause) (island : Nat) : Dev :=
  let e := c.rank
  let d := if e = 5 then d0 else d0.enginesStop true
  let keep := d0.dramKept c island
  let h : Hearth := {
    mram := d.hearth.mram
    slotState := d.hearth.slotState
    selected := d.hearth.selected
    attempt := d.attemptEnd c
    minutes := d.hearth.minutes
    service := if e = 3 then d.keptServices else [] }
  let x : Dev := {
    now := d.now
    free := d.free
    out := d.out
    regs := d.regs
    log := d.log
    logNext := d.logNext
    logOverwritten := if e = 5 then 0 else d.logOverwritten
    startAt := d.now
    tickSrc := if e = 3 then d.tickSrc else 0
    mem := if keep then d.mem else []
    hostMem := d.hostMem
    hearth := h
    icp := if e = 3 then { wasLost := d.icp.wasLost } else {}
    power := { boot := if e = 4 then .rails else if e = 5 then .aonReset else .inReset,
               kept := if keep then some (d.unV F.FETCH_DRAM_RATE.off) else none
               perst := d.power.perst
               wasOpen := d.hearth.attempt == 1 } }
  let y := (x.resetRegs e (fun _ => true)).sgWord F.SYS_RESET_CAUSE_COLD.off (BitVec.ofNat 32 (2 ^ c.bit))
  let z := if e = 5 then y else y.keepLive d0
  z.edpStrap.targets

/-- R473: which of two causes of one cycle is recorded: the lower one. -/
def ResetCause.order : ResetCause → Nat
  | .cold => 0 | .deepExit => 0 | .brownout => 1 | .pin => 2 | .watchdog => 3 | .software => 4

/-- R475: DRAM that a reset had kept is lost. -/
def Dev.dramGone (d : Dev) : Dev := { d with mem := [], power := { d.power with kept := none } }

/-- R473: a second cause arises with the reset that another has just brought: one reset occurs, and the cause of the two that
    comes first is recorded and judged (R448); a brownout of DDR_PHY loses the DRAM (R475).
    Log 15 (DESIGN CHOICE, unsafe). -/
def Dev.alsoCause (d : Dev) (c : ResetCause) (island : Nat) : Dev :=
  let first := [ResetCause.brownout, .pin, .watchdog, .software].any (fun x =>
    x.order ≤ c.order && bit (d.unV F.SYS_RESET_CAUSE_COLD.off).toNat x.bit)
  let d1 := if c = .brownout ∧ island = 3 then d.dramGone else d
  if first then d1
  else
    let judged := if d1.power.wasOpen then (if c = .watchdog ∨ c = .brownout then 2 else 0) else d1.hearth.attempt
    { d1 with hearth := { d1.hearth with attempt := judged } }.sgWord F.SYS_RESET_CAUSE_COLD.off (BitVec.ofNat 32 (2 ^ c.bit))

/-- R470, R472, R473: a warm reset of a cause, for a brownout with its island.
    Log 15 (DESIGN CHOICE, unsafe). -/
def Dev.warmBy (d : Dev) (c : ResetCause) (island : Nat) : Dev :=
  if d.power.boot == .inReset && d.now == d.startAt then d.alsoCause c island else d.restart c island

/-- R472: a warm reset of a cause.
    Log 15 (DESIGN CHOICE, unsafe). -/
def Dev.warmReset (d : Dev) (c : ResetCause) : Dev := d.warmBy c 15

end Sys2Proof.Machine
end

