-- ==== Sys2Proof/Machine/SelfTest.lean ====
section
/-! DEFINITION.  Self-test: the slices, their results and budgets (R498 to R500), recording them (R501, R505, R508, R510),
    the start-up test (R504), and fencing off failed blocks (R509). -/

namespace Sys2Proof.Machine

/-- R498, R501: every slice but PCIE_PHY, in ascending ID. -/
def slices : List Nat :=
  List.range 6 ++ (List.range 16).map (· + 0x10) ++ [0x20, 0x21, 0x22, 0x24, 0x25, 0x26, 0x27, 0x30, 0x31, 0x32]

/-- R498: an ID names a slice. -/
def isSlice (s : Nat) : Bool := s == pcieSlice || slices.contains s

/-- R499: the result and cause of a slice. -/
def verdict (x : SliceSeen) : Nat × Nat :=
  if x.expCount.toNat < x.count.toNat then (2, 1)
  else if x.count.toNat < x.expCount.toNat then (3, 0)
  else if x.signature != x.expSignature then (2, 2)
  else if x.elementFail then (2, 3)
  else (1, 0)

/-- R508: DETAIL of a slice: PHY margins, or failing elements.
    Log 52 (DESIGN CHOICE, unsafe). -/
def detailWord (s : Nat) (w : Word) : Nat :=
  if s < 0x20 then (w &&& 0xFFFF).toNat else if s < 0x30 then 0 else (w &&& 0xFFFF00FF).toNat

/-- R510: the exclusion words of a slice's kind: the first word of the record and how many elements it has. -/
def exclusions (s : Nat) : Option (Nat × Nat) :=
  if s = 0x30 then some (8, 16) else if s = 0x31 then some (9, 24) else if s = 0x32 then some (10, 48) else none

/-- R510: a FAIL excludes the failing elements of the slice, a PASS clears every exclusion of its kind.
    Log 50 (DESIGN CHOICE, unsafe). -/
def exclude (s res : Nat) (mask : Nat) (ws : List Nat) : List Nat :=
  match exclusions s with
  | none => ws
  | some (k, n) =>
    let old := ws.getD k 0 + (if 32 < n then ws.getD (k + 1) 0 * 2 ^ 32 else 0)
    let new := if res = 1 then 0 else if res = 2 then old ||| (mask % 2 ^ n) else old
    let ws1 := ws.set k (new % 2 ^ 32)
    if 32 < n then ws1.set (k + 1) (new / 2 ^ 32) else ws1

/-- R508: the record's words with the entry of a slice written. -/
def sliceWords (ctx s : Nat) (x : SliceSeen) (ws : List Nat) : List Nat :=
  let r := verdict x
  let k := 16 + 4 * s
  exclude s r.1 x.exclude.toNat
    ((((ws.set k (r.1 + ctx * 4 + r.2 * 256)).set (k + 1) x.count.toNat).set (k + 2) x.signature.toNat).set (k + 3)
      (detailWord s x.detail))

/-- R437, R510: the registers of the sensors, monitors and pairs that the record excludes read VALID = 0. -/
def Dev.exclShow (s : Nat) (d : Dev) : Dev :=
  let off := fun (f : Nat → Fld) (w n : Nat) (d : Dev) =>
    Dev.each (fun k d => if bit (d.healthWord (w + k / 32)) (k % 32) then d.sg (f k) 0 else d) (List.range n) d
  match s with
  | 0x30 => off F.SENSOR_THERM_WORD.i 8 16 d
  | 0x31 => off F.SENSOR_DROOP_WORD.i 9 24 d
  | 0x32 => off F.SENSOR_AGE_WORD.i 10 48 d
  | _ => d

/-- R501, R505, R508, R510: a result is written to the health record; SELFTEST rises for a FAIL or an INCOMPLETE. -/
def Dev.recordSlice (d : Dev) (ctx s : Nat) (x : SliceSeen) : Dev :=
  ((d.healthUpdate (sliceWords ctx s x)).exclShow s).onlyIf (decide (2 ≤ (verdict x).1)) (·.attn .selftest)

/-- R500, R519: a slice starts. -/
def Dev.sliceStart (d : Dev) (onDemand : Bool) (s : Nat) : Dev :=
  ((({ d with test := { d.test with began := d.now } }.up F.SECURE_ST_STATUS_RUNNING).sg F.SECURE_ST_STATUS_ON_DEMAND
    (b2n onDemand)).sg F.SECURE_ST_STATUS_SLICE s).sg F.SECURE_ST_STATUS_REMAINING (d.budgetUs s)

/-- R519: no slice runs. -/
def Dev.sliceOff (d : Dev) : Dev :=
  ((d.dn F.SECURE_ST_STATUS_RUNNING).dn F.SECURE_ST_STATUS_ON_DEMAND).dn F.SECURE_ST_STATUS_REMAINING

/-! ### The start-up test (R504) -/

/-- R501, R504: the slices of a start-up test in order, under the skip rule: what each of them observed goes into the new
    record, every other entry reads NOT_RUN. -/
def Dev.startTestGo (d : Dev) : List Nat → List SliceSeen → Nat → List Nat → List Nat
  | s :: t, x :: xs, elapsed, ws =>
    if 250000 < elapsed + d.budgetUs s then ws
    else Dev.startTestGo d t xs (elapsed + min x.micros (d.budgetUs s)) (sliceWords 1 s x ws)
  | _, _, _, ws => ws

/-- R504: the start-up test forms a new health record. -/
def Dev.startTest (d : Dev) (seen : List SliceSeen) : Dev :=
  let ws := d.startTestGo slices seen 0 (0x97648EA1 :: List.replicate 220 0)
  let bad := slices.any (fun s => decide (2 ≤ ws.getD (16 + 4 * s) 0 % 4))
  (d.healthUpdate (fun _ => ws)).onlyIf bad (·.attn .selftest)

/-! ### Fencing off (R509) -/

/-- R509: the latest recorded result of a slice is FAIL. -/
def Dev.sliceFailed (d : Dev) (s : Nat) : Bool := (d.sliceEntry s).getD 0 0 % 4 == 2

/-- R509: a mask of failed slices `first ..`. -/
def Dev.failMask (d : Dev) (first n : Nat) : Nat := sumOf (fun k => if d.sliceFailed (first + k) then 2 ^ k else 0) (List.range n)

/-- R509: at step 1 of a start every block whose slice failed is fenced off; a FAIL of PCIE_PHY or of a core PLL is
    logged. -/
def Dev.fenceOff (d : Dev) : Dev :=
  let pairs := sumOf (fun k => if d.sliceFailed (0x10 + 2 * k) || d.sliceFailed (0x11 + 2 * k) then 2 ^ k else 0) (List.range 8)
  let d1 := (((d.sg F.SECURE_FENCED_DP (d.failMask 0 4)).sg F.SECURE_FENCED_DSI (d.failMask 4 2)).sg F.SECURE_FENCED_PAIRS
    pairs).sg F.SECURE_FENCED_PIPES (d.failMask 0x24 4)
  let d2 := d1.onlyIf (d1.unV F.SECURE_FENCED_DP.off != 0) (·.attn .selftest)
  Dev.each (fun s d => if d.sliceFailed s then d.logSev 5 else d) [pcieSlice, 0x20, 0x21, 0x22] d2

/-! ### The shut-down test (R501) -/

/-- R501: the next slice of the shut-down test starts, under the skip rule, PCIE_PHY with the PCIe link released; none is
    left when the answer is false.
    Log 56 (DESIGN CHOICE, unsafe). -/
def Dev.testNext (d : Dev) : Dev × Bool :=
  match d.test.queue with
  | [] => (d, false)
  | s :: t =>
    if 250000 < d.test.elapsed + d.budgetUs s then ({ d with test := { d.test with queue := [] } }, false)
    else
      let link := d.power.pcie && s != pcieSlice
      ({ d with test := { d.test with queue := t }, power := { d.power with pcie := link } }.sliceStart false s, true)

/-- R501: the shut-down test begins with the slices SHUTDOWN's P0 asks for. -/
def Dev.testBegin (d : Dev) (p0 : Nat) : Dev × Bool :=
  ({ d with test := { d.test with elapsed := 0, queue := slices ++ (if bit p0 1 then [] else [pcieSlice]) } }.sg
    F.HEARTH_STATE_STATE 3).testNext

/-- R499 to R501: the running slice of the shut-down test ends: its result is recorded and the next one starts. -/
def Dev.testSlice (d : Dev) (x : SliceSeen) : Dev × Bool :=
  let s := d.rg F.SECURE_ST_STATUS_SLICE
  let d1 := (d.recordSlice 0 s x).sliceOff
  { d1 with test := { d1.test with elapsed := d1.test.elapsed + min x.micros (d1.budgetUs s) } }.testNext

/-- R501: the shut-down test runs. -/
def Dev.testing (d : Dev) : Bool :=
  d.fl F.SECURE_ST_STATUS_RUNNING && !d.fl F.SECURE_ST_STATUS_ON_DEMAND && d.power.shut.isSome

/-- R506: port `s` is under an on-demand slice. -/
def Dev.underTest (d : Dev) (s : Nat) : Bool := d.onDemand s

end Sys2Proof.Machine
end

