-- ==== Sys2Proof/Machine/Sha.lean ====
section
/-! DEFINITION.  SHA-384, which an image's BODY_HASH and signature use (R440). -/

namespace Sys2Proof.Machine

/-- The round constants of SHA-512 and SHA-384. -/
def shaK : List Nat :=
  [0x428A2F98D728AE22, 0x7137449123EF65CD, 0xB5C0FBCFEC4D3B2F, 0xE9B5DBA58189DBBC,
    0x3956C25BF348B538, 0x59F111F1B605D019, 0x923F82A4AF194F9B, 0xAB1C5ED5DA6D8118,
    0xD807AA98A3030242, 0x12835B0145706FBE, 0x243185BE4EE4B28C, 0x550C7DC3D5FFB4E2,
    0x72BE5D74F27B896F, 0x80DEB1FE3B1696B1, 0x9BDC06A725C71235, 0xC19BF174CF692694,
    0xE49B69C19EF14AD2, 0xEFBE4786384F25E3, 0x0FC19DC68B8CD5B5, 0x240CA1CC77AC9C65]
  ++ [0x2DE92C6F592B0275, 0x4A7484AA6EA6E483, 0x5CB0A9DCBD41FBD4, 0x76F988DA831153B5,
    0x983E5152EE66DFAB, 0xA831C66D2DB43210, 0xB00327C898FB213F, 0xBF597FC7BEEF0EE4,
    0xC6E00BF33DA88FC2, 0xD5A79147930AA725, 0x06CA6351E003826F, 0x142929670A0E6E70,
    0x27B70A8546D22FFC, 0x2E1B21385C26C926, 0x4D2C6DFC5AC42AED, 0x53380D139D95B3DF,
    0x650A73548BAF63DE, 0x766A0ABB3C77B2A8, 0x81C2C92E47EDAEE6, 0x92722C851482353B]
  ++ [0xA2BFE8A14CF10364, 0xA81A664BBC423001, 0xC24B8B70D0F89791, 0xC76C51A30654BE30,
    0xD192E819D6EF5218, 0xD69906245565A910, 0xF40E35855771202A, 0x106AA07032BBD1B8,
    0x19A4C116B8D2D0C8, 0x1E376C085141AB53, 0x2748774CDF8EEB99, 0x34B0BCB5E19B48A8,
    0x391C0CB3C5C95A63, 0x4ED8AA4AE3418ACB, 0x5B9CCA4F7763E373, 0x682E6FF3D6B2B8A3,
    0x748F82EE5DEFB2FC, 0x78A5636F43172F60, 0x84C87814A1F0AB72, 0x8CC702081A6439EC]
  ++ [0x90BEFFFA23631E28, 0xA4506CEBDE82BDE9, 0xBEF9A3F7B2C67915, 0xC67178F2E372532B,
    0xCA273ECEEA26619C, 0xD186B8C721C0C207, 0xEADA7DD6CDE0EB1E, 0xF57D4F7FEE6ED178,
    0x06F067AA72176FBA, 0x0A637DC5A2C898A6, 0x113F9804BEF90DAE, 0x1B710B35131C471B,
    0x28DB77F523047D84, 0x32CAAB7B40C72493, 0x3C9EBE0A15C9BEBC, 0x431D67C49C100D4C,
    0x4CC5D4BECB3E42B6, 0x597F299CFC657E2A, 0x5FCB6FAB3AD6FAEC, 0x6C44198C4A475817]

/-- The initial hash value of SHA-384. -/
def shaInit : List Nat :=
  [0xCBBB9D5DC1059ED8, 0x629A292A367CD507, 0x9159015A3070DD17, 0x152FECD8F70E5939,
    0x67332667FFC00B31, 0x8EB44A8768581511, 0xDB0C2E0D64F98FA7, 0x47B5481DBEFA4FA4]

/-- A 64-bit word rotated right. -/
def rotr64 (n x : Nat) : Nat := x / 2 ^ n + x % 2 ^ n * 2 ^ (64 - n)

/-- Sum modulo 2⁶⁴. -/
def sum64 (xs : List Nat) : Nat := sumOf id xs % 2 ^ 64

/-- One more word of the message schedule; the words are held newest first. -/
def shaExtend (ws : List Nat) : Nat :=
  let g := fun k => ws.getD k 0
  let s0 := rotr64 1 (g 14) ^^^ rotr64 8 (g 14) ^^^ g 14 / 2 ^ 7
  let s1 := rotr64 19 (g 1) ^^^ rotr64 61 (g 1) ^^^ g 1 / 2 ^ 6
  sum64 [s1, g 6, s0, g 15]

/-- The message schedule, newest first. -/
def shaSchedule : Nat → List Nat → List Nat
  | 0, ws => ws
  | n + 1, ws => shaSchedule n (shaExtend ws :: ws)

/-- One round on the working variables. -/
def shaRound (h : List Nat) (kw : Nat × Nat) : List Nat :=
  let v := fun k => h.getD k 0
  let e := v 4
  let a := v 0
  let not64 := 2 ^ 64 - 1 - e
  let t1 := sum64 [v 7, rotr64 14 e ^^^ rotr64 18 e ^^^ rotr64 41 e, (e &&& v 5) ^^^ (not64 &&& v 6), kw.1, kw.2]
  let t2 := sum64 [rotr64 28 a ^^^ rotr64 34 a ^^^ rotr64 39 a, (a &&& v 1) ^^^ (a &&& v 2) ^^^ (v 1 &&& v 2)]
  [sum64 [t1, t2], a, v 1, v 2, sum64 [v 3, t1], e, v 5, v 6]

/-- A number from big-endian bytes. -/
def ofBe (bs : List Byte) : Nat := bs.foldl (fun n b => n * 256 + b.toNat) 0

/-- Big-endian bytes of a number. -/
def beBytes (n v : Nat) : List Byte := (leBytes n v).reverse

/-- One 128-byte block is hashed. -/
def shaBlock (h : List Nat) (block : List Byte) : List Nat :=
  let ws := (List.range 16).map (fun k => ofBe ((block.drop (8 * k)).take 8))
  let sched := (shaSchedule 64 ws.reverse).reverse
  let r := (shaK.zip sched).foldl shaRound h
  (List.range 8).map (fun k => sum64 [h.getD k 0, r.getD k 0])

/-- The padded message. -/
def shaPad (bs : List Byte) : List Byte :=
  let n := bs.length
  bs ++ [0x80] ++ List.replicate ((239 - n % 128) % 128) 0 ++ beBytes 16 (8 * n)

/-- The blocks of a message of `n` blocks. -/
def shaBlocks : Nat → List Byte → List Nat → List Nat
  | 0, _, h => h
  | n + 1, bs, h => shaBlocks n (bs.drop 128) (shaBlock h (bs.take 128))

/-- SHA-384: 48 bytes. -/
def sha384 (bs : List Byte) : List Byte :=
  let m := shaPad bs
  ((shaBlocks (m.length / 128) m shaInit).take 6).flatMap (beBytes 8)

end Sys2Proof.Machine
end

