-- ==== Sys2Proof/Machine/Start.lean ====
section
/-! DEFINITION.  The start of the device (R447): the straps (R524, R525), the judgement of the previous start (R448), the choice
    of what to run (R442 to R444), the persistent configuration (R445), DRAM (R260, R261, R476), and Starter mode (R449 to
    R451). -/

namespace Sys2Proof.Machine

/-! ### What step 1 reads (R434, R440, R445) -/

/-- R434: the MRAM offset of a firmware slot. -/
def slotBase (slot : Nat) : Nat := slot * 0x200000

/-- R440: ROLLBACK of the image in a slot. -/
def Dev.slotRollback (d : Dev) (slot : Nat) : Nat := d.mramWord (slotBase slot + 8) % 64

/-- R441: the state of a slot: 0 EMPTY, 1 WRITING, 2 VERIFIED, 3 INVALID. -/
def Dev.slotSt (d : Dev) (slot : Nat) : Nat := Tab.get (fun _ => 0) d.hearth.slotState slot

/-- R441: a slot takes a state. -/
def Dev.slotTo (d : Dev) (slot st : Nat) : Dev :=
  { d with hearth := { d.hearth with slotState := Tab.put (fun _ => 0) d.hearth.slotState slot st } }

/-- R442, R511: the checks of an image in a slot, 0 when it passes.
    Log 51 (DESIGN CHOICE, unsafe). -/
def Dev.imageCode (d : Dev) (slot size : Nat) : Nat :=
  let at_ := fun (k n : Nat) => d.mramBytes (slotBase slot + k) n
  if ofLe (at_ 0 4) ≠ 0x9764F1A0 ∨ sha384 (at_ 0x200 (size - 0x200)) ≠ at_ 0x10 48 then 0x52
  else if !Config.verifyImage (d.fl F.SECURE_KEYS_KEY_A_REVOKED) (sha384 (at_ 0 0x100)) (at_ 0x100 96) then 0x52
  else if d.slotRollback slot < d.rg F.SECURE_KEYS_ROLLBACK then 0x53 else 0

/-- R434: the MRAM of a slot has been written since manufacture. -/
def Dev.slotWritten (d : Dev) (slot : Nat) : Bool :=
  (d.hearth.mramWait.foldl mramPut d.hearth.mram).any (fun e => within (slotBase slot) (slotBase slot + 0x1FFFFF) e.1)

/-- R442, R443: a slot passes the start check: the checks of the image in it; what they find in the image of manufacture,
    whose bytes the spec does not give, comes from outside.
    Log 51 (DESIGN CHOICE, unsafe). -/
def Dev.slotPasses (d : Dev) (pass : BitVec 2) (slot : Nat) : Bool :=
  if d.slotWritten slot then d.imageCode slot (d.mramWord (slotBase slot + 12)) == 0
  else d.slotSt slot == 2 && bit pass.toNat slot

/-- R442, R444: the first slot of a list that passes runs; a slot that fails becomes INVALID. -/
def Dev.slotChoose (pass : BitVec 2) : List Nat → Dev → Dev × Option Nat
  | [], d => (d, none)
  | s :: t, d =>
    if d.slotPasses pass s then (d, some s)
    else Dev.slotChoose pass t (((d.slotTo s 3).logE 4 9 1 s).attn .fw)

/-- R444: the slots in the order in which they are tried. -/
def Dev.slotOrder (d : Dev) : List Nat :=
  let sel := d.hearth.selected
  if d.rg F.SYS_BOOT_COUNT_FAILED_RUN = 2 ∧ d.slotSt (1 - sel) = 2 then [1 - sel, sel] else [sel, 1 - sel]

/-- R434, R445: the MRAM offset of a copy of the configuration record; its generation word follows the record.
    Log 51 (DESIGN CHOICE, unsafe). -/
def cfgBase (copy : Nat) : Nat := 0x620000 + copy * 0x8000

/-- R445: the generation word of a copy.
    Log 51 (DESIGN CHOICE, unsafe). -/
def Dev.cfgGen (d : Dev) (copy : Nat) : Nat := d.mramWord (cfgBase copy + 64)

/-- R445: 64 bytes are a valid record. -/
def cfgRecordOk (bs : List Byte) : Bool :=
  ofLe (bs.take 4) == 0x9764C0F9 && ofLe (bs.drop 60) == Alg.crc32c.crc (bs.take 60)

/-- R445: a copy holds a valid record. -/
def Dev.cfgValid (d : Dev) (copy : Nat) : Bool := d.cfgGen copy != 0 && cfgRecordOk (d.mramBytes (cfgBase copy) 64)

/-- R445: the copy that applies.
    Log 51 (DESIGN CHOICE, unsafe). -/
def Dev.cfgPick (d : Dev) : Option Nat :=
  match d.cfgValid 0, d.cfgValid 1 with
  | true, true => some (if newerMod 32 (d.cfgGen 1) (d.cfgGen 0) then 1 else 0)
  | true, false => some 0
  | false, true => some 1
  | false, false => none

/-- R445, R538: the record of a start: its state is shown, an invalid copy is logged, and RATE, ECC_EN and SPREAD are
    selected. -/
def Dev.cfgApply (d : Dev) : Dev :=
  let st := if d.cfgPick.isSome then 2 else if d.cfgGen 0 = 0 ∧ d.cfgGen 1 = 0 then 0 else 3
  let bad := st != 0 && !(d.cfgValid 0 && d.cfgValid 1)
  let d1 := { d with hearth := { d.hearth with cfgState := st } }.onlyIf bad (fun d => (d.logE 4 9 1 2).attn .fw)
  let byte := fun (k dflt : Nat) => match d.cfgPick with
    | some c => ofLe (d.mramBytes (cfgBase c + k) 1)
    | none => dflt
  ({ d1 with hearth := { d1.hearth with spread := byte 6 3 } }.sg F.FETCH_DRAM_RATE (byte 4 2)).sg F.FETCH_DRAM_ECC_EN (byte 5 0)

/-- R448: the previous start is judged, the new attempt opens, and STARTS advances. -/
def Dev.judge (d : Dev) : Dev :=
  let d1 := if d.hearth.attempt = 2 then d.incSat F.SYS_BOOT_COUNT_FAILED_RUN else d
  { d1 with hearth := { d1.hearth with attempt := 1 } }.incSat F.SYS_BOOT_COUNT_STARTS

/-- R447, R507: the health record in use, and what Leaven left in it; without one, Leaven starts from TRIM 0. -/
def Dev.healthApply (d : Dev) : Dev :=
  let d1 := { d with hearth := { d.hearth with healthCopy := d.healthPick } }
  match d1.hearth.healthCopy with
  | none => { d1 with hearth := { d1.hearth with minutes := 0 } }.sg F.LEAVEN_TRIM_TRIM 0
  | some _ =>
    let w := d1.healthWord
    let d2 := { d1 with hearth := { d1.hearth with minutes := w 2, capLow := bit (w 6) 0 } }
    (((d2.sg F.LEAVEN_TRIM_TRIM (w 4)).sg F.FETCH_EFF_CEILING (bits (w 5) 0 14)).sg F.FETCH_DERATE_TRAIN_MS
      (w 5 / 65536)).sg F.FETCH_EFF_EFF (min 7200 (bits (w 5) 0 14))

/-- R452: minutes of ACTIVE or REST left before the next periodic run. -/
def Dev.minToRun (d : Dev) : Dev := d.sg F.LEAVEN_STATUS_MIN_TO_RUN (360 - d.hearth.minutes % 360)

/-! ### DRAM (R260, R261, R476) -/

/-- R260: a pair is healthy: not fenced off, both channels trained. -/
def Dev.pairOk (d : Dev) (trained : BitVec 16) (k : Nat) : Bool :=
  !bit (d.rg F.SECURE_FENCED_PAIRS) k && bit trained.toNat (2 * k) && bit trained.toNat (2 * k + 1)

/-- R447 step 5: the healthy pairs and the usable size; retained contents are kept when nothing differs (R476). -/
def Dev.dramStart (d : Dev) (seen : StartSeen) : Dev :=
  let ok := (List.range 8).filter (d.pairOk seen.trained)
  let size := min 2 seen.chSize.toNat
  let d1 := (d.sg F.FETCH_DRAM_PAIRS_OK (sumOf (fun k => 2 ^ k) ok)).sg F.FETCH_DRAM_CH_SIZE size
  let raw := ok.length * 2 * (512 * 2 ^ size)
  let d2 := d1.sg F.FETCH_USABLE_MIB (if d1.fl F.FETCH_DRAM_ECC_EN then raw * 7 / 8 else raw)
  let d3 := Dev.each (fun c d => (d.sg (F.CH_STATUS_TRAINED.i c) (b2n (ok.contains (c / 2)))).sg (F.CH_STATUS_FENCED.i c)
    (b2n (bit (d.rg F.SECURE_FENCED_PAIRS) (c / 2)))) (List.range 16) d2
  let kept := d3.power.kept == some (d3.unV F.FETCH_DRAM_RATE.off) && !seen.dramLost
  ({ d3 with mem := if kept then d3.mem else [], power := { d3.power with kept := none } }).sg F.POWER_STATUS_DRAM_KEPT
    (b2n kept)

/-! ### Starter mode (R449 to R451) -/

/-- R450: the timing of a pipe that a panel's EDID gives. -/
def nativeTiming : List Fld :=
  [F.PIPE_HTIMING_A_HACTIVE, F.PIPE_HTIMING_A_HFP, F.PIPE_HTIMING_B_HSYNC, F.PIPE_HTIMING_B_HBP, F.PIPE_VTIMING_A_VACTIVE,
   F.PIPE_VTIMING_A_VFP, F.PIPE_VTIMING_B_VSYNC, F.PIPE_VTIMING_B_VBP, F.PIPE_PCLK_KHZ, F.PIPE_PCLK_M1001,
   F.PIPE_TG_CTRL_HSYNC_POL, F.PIPE_TG_CTRL_VSYNC_POL]

/-- R450, R524: with STRAP_EDP the status picture runs at the panel's native timing, which comes from the panel: free values.
    Log 52 (DESIGN CHOICE, unsafe). -/
def Dev.panelTiming (d : Dev) : Dev :=
  if d.fl F.IO_STRAPS_EDP then
    Dev.each (fun (f : Fld) d =>
      { d with free := d.free + 1, active := (f.i 0).set dfltB d.active (d.draw.1 % 2 ^ f.len) }) nativeTiming d
  else d

/-- R450: PIPE_0 shows the status picture on DP_0: GL_0, centred, from the Starter frame store; DP_0 is trained at the
    lowest rate that carries the stream. -/
def Dev.statusPicture (d0 : Dev) : Dev :=
  let d := d0.panelTiming
  let put := fun (f : Fld) (v : Nat) (d : Dev) => { d with active := f.set dfltB d.active v }
  let a := activeArea d.acV 0
  let lanes := if d.rg (F.DP_SINK_A_MAX_LANES.i 0) = 0 then 4 else d.rg (F.DP_SINK_A_MAX_LANES.i 0)
  let fs : List (Fld × Nat) :=
    [(F.PIPE_TG_CTRL_EN.i 0, 1), (F.PIPE_TG_CTRL_PORT_SEL.i 0, 0), (F.GL_CTRL_EN.i 0, 1), (F.GL_CTRL_PIPE.i 0, 0),
     (F.GL_SRC_RECT_W.i 0, 1280), (F.GL_SRC_RECT_H.i 0, 720),
     (F.GL_DST_POS_X.i 0, ofInt 14 (((a.w : Int) - 1280) / 2)), (F.GL_DST_POS_Y.i 0, ofInt 14 (((a.h : Int) - 720) / 2)),
     (F.DP_CTRL_LANES.i 0, lanes)]
  let d1 := fs.foldl (fun d x => put x.1 x.2 d) d
  let at_ := fun (r : Nat) => put (F.DP_CTRL_RATE.i 0) r d1
  let rate := (firstWith (fun r => decide (streamNeed (at_ r).acV 0 ≤ linkCapacity (at_ r).acV 0)) [0, 1, 2, 3]).getD 3
  let d2 := ((at_ rate).up (F.DP_STATUS_PLUGGED.i 0)).up (F.DP_STATUS_TRAINED.i 0)
  let d3 := { (d2.up (F.PIPE_TG_STATUS_RUNNING.i 0)) with dirty := [64] }.openFrame 0 false []
  d3.sg (F.PIPE_CUTOFF_EFFECTIVE.i 0) (d3.cutoffLines 0)

/-- R449: STARTER_REASON in HEARTH_STATE and ICP_ATTENTION.
    Log 52 (DESIGN CHOICE, unsafe). -/
def Dev.starterReason (d : Dev) (r : Nat) : Dev :=
  (d.sg F.HEARTH_STATE_STARTER_REASON r).sg F.ICP_ATTENTION_STARTER_REASON r

/-- R449, R451: Starter mode begins.
    Log 52 (DESIGN CHOICE, unsafe). -/
def Dev.starterEnter (d : Dev) (reason : Nat) (sink : Bool) : Dev :=
  let d1 := (((d.sg F.HEARTH_STATE_STATE 2).starterReason reason).dn F.FETCH_USABLE_MIB).attn .starter
  (if sink then d1.statusPicture else d1).poolShow

/-! ### The start (R447) -/

/-- R175: the words of coefficient sets 0 to 3. -/
def coefTab : Tab Word := (List.range 0x400).map (fun k => (0x68000 + 4 * k, builtinCoef (4 * k)))

/-- R175, R447 step 5: coefficient sets 0 to 3 are loaded. -/
def Dev.coefLoad (d : Dev) : Dev := { d with regs := Tab.merge dfltU d.regs coefTab }

/-- R447 step 6: normal service begins. -/
def Dev.serviceBegin (d : Dev) : Dev :=
  let d1 := ((((d.sg F.HEARTH_STATE_STATE 1).starterReason 0).dn F.LINESTORE_POOL_RESERVED).poolShow).capShow
  (Dev.each (fun p d => d.serviceRestart p) pipes (d1.targets.planBudget.storeShow)).sq3Show

/-- R447 step 5: DRAM, and Leaven's start run, whose plan is applied at once.
    Log 52 (DESIGN CHOICE, unsafe). -/
def Dev.startDram (d : Dev) (seen : StartSeen) : Dev :=
  ((d.dramStart seen).leavenMeasure seen.degrade false).leavenTick.minToRun.coefLoad

/-- R447 steps 3 to 6.
    Log 52 (DESIGN CHOICE, unsafe). -/
def Dev.startRun (d : Dev) (reason : Nat) (seen : StartSeen) : Dev :=
  let d := { d with power := { d.power with pcie := !d.power.perst } }
  let d1 := (d.attn .resetSeen).logE 2 0 1 (d.unV F.SYS_BOOT_COUNT_FAILED_RUN.off).toNat
  let d2 := if d1.hearth.healthCopy.isNone then d1.startTest seen.tests else d1
  let d3 := d2.sg F.SECURE_KEYS_HDCP_KEYS (if d2.fl F.SECURE_KEYS_FUSE_PATH_OFF ∨ d2.rg (F.DP_HDCP_STATE.i 0) = 4 then 3 else 1)
  if seen.stall then d3
  else if reason ≠ 0 then d3.starterEnter reason seen.sinkOnDp0
  else
    let d4 := d3.startDram seen
    if d4.rg F.FETCH_DRAM_PAIRS_OK = 0 then d4.starterEnter 3 seen.sinkOnDp0 else d4.serviceBegin

/-- R511: firmware that runs from a VERIFIED image with header bit 0 at 0x040 blows the revocation fuse of key A.
    Log 52 (DESIGN CHOICE, unsafe). -/
def Dev.keyStep (d : Dev) (slot : Nat) : Dev :=
  if d.slotSt slot = 2 ∧ bit (d.mramWord (slotBase slot + 0x40)) 0 then d.up F.SECURE_KEYS_KEY_A_REVOKED else d

/-- R447 steps 1 and 2: judgement, records, fencing, and the choice of what to run.
    Log 52 (DESIGN CHOICE, unsafe). -/
def Dev.startBoot (d : Dev) (seen : StartSeen) : Dev × Nat :=
  let d1 := (d.judge.healthApply.fenceOff).cfgApply
  if 3 ≤ d1.rg F.SYS_BOOT_COUNT_FAILED_RUN then (d1.up F.HEARTH_STATE_RECOVERY_IMAGE, 1)
  else if seen.straps.starter then (d1.up F.HEARTH_STATE_RECOVERY_IMAGE, 4)
  else
    let r := Dev.slotChoose seen.slotPass d1.slotOrder d1
    match r.2 with
    | some s => ((r.1.sg F.HEARTH_STATE_SLOT s).keyStep s, 0)
    | none => (r.1.up F.HEARTH_STATE_RECOVERY_IMAGE, 2)

/-- R524: the straps as sampled. -/
def Dev.straps (d : Dev) (s : Straps) : Dev :=
  (((d.sg F.IO_STRAPS_EDP (b2n s.edp)).sg F.IO_STRAPS_STARTER (b2n s.starter)).sg F.IO_STRAPS_I2C_ADDR (b2n s.i2cAddr)).sg
    F.IO_STRAPS_TEST_MODE (b2n s.testMode)

/-- R524, R542: a strap ball that is found changed since it was sampled before a warm reset.
    Log 52 (DESIGN CHOICE, unsafe). -/
def Dev.strapSeen (d : Dev) (s : Straps) : Dev :=
  let held := d.fl F.IO_STRAPS_EDP == s.edp && d.fl F.IO_STRAPS_STARTER == s.starter && d.fl F.IO_STRAPS_I2C_ADDR == s.i2cAddr
    && d.fl F.IO_STRAPS_TEST_MODE == s.testMode
  d.onlyIf (d.power.boot == .inReset && !held) (·.up F.IO_STATUS_STRAP_CHANGED)

/-- R464, R470: the device may leave reset. -/
def Dev.mayRelease (d : Dev) : Bool :=
  (d.power.boot == .rails || d.power.boot == .inReset)
    && !(d.fl F.SYS_RESET_CAUSE_BROWNOUT && d.rg F.POWER_BROWNOUT_ACTIVE != 0)

/-- RESET_RELEASE (R447, R464, R524, R525): the straps are sampled and the start runs.
    Log 15 (DESIGN CHOICE, unsafe). -/
def resetRelease (seen : StartSeen) (d : Dev) : Dev :=
  if !d.mayRelease then d
  else
    let d1 := (d.strapSeen seen.straps).straps seen.straps
    if seen.straps.testMode then d1.up F.IO_STATUS_TEST_STRAP
    else
      let d2 := ({ d1 with startAt := d1.now, power := { d1.power with boot := .released } }.dn
        F.IO_STATUS_TEST_STRAP).edpStrap.sg F.LINESTORE_POOL_RESERVED 900
      let r := d2.startBoot seen
      r.1.startRun r.2 seen

/-- START_TIMEOUT (R448): normal service has not begun in time; Starter mode is not a late start.
    Log 15 (DESIGN CHOICE, unsafe). -/
def startTimeout (d : Dev) : Dev :=
  if d.power.boot == .released && d.rg F.HEARTH_STATE_STATE == 0 then d.warmReset .watchdog else d

/-- START_TIMEOUT. -/
def execStartTimeout (s : State) : Host.Outcome State Fault Refusal := s.run startTimeout

/-- START_SUCCESS (R443, R448): the open attempt is successful. -/
def startSuccess (d : Dev) : Dev :=
  if d.hearth.attempt = 1 ∧ d.rg F.HEARTH_STATE_STATE = 1 then
    let d1 := { d with hearth := { d.hearth with attempt := 0 } }.dn F.SYS_BOOT_COUNT_FAILED_RUN
    if d1.fl F.HEARTH_STATE_RECOVERY_IMAGE then d1
    else d1.sg F.SECURE_KEYS_ROLLBACK (max (d1.rg F.SECURE_KEYS_ROLLBACK) (d1.slotRollback (d1.rg F.HEARTH_STATE_SLOT)))
  else d

/-- START_SUCCESS. -/
def execStartSuccess (s : State) : Host.Outcome State Fault Refusal := s.run startSuccess

end Sys2Proof.Machine
end

