-- ==== Sys2Proof/Machine/Power.lean ====
section
/-! DEFINITION.  Power: rails and brownouts (R464 to R471), resets from outside (R472, R473), HOLD (R483 to R485), DEEP and
    wake sources (R486 to R488), SHUTDOWN and its test (R490, R501, R502), refused requests (R491), the reference clock (R537),
    and the HPD events with the power state and self-test around them (R318, R488, R506, R509). -/

namespace Sys2Proof.Machine

/-- The device moves between power states. -/
def Dev.moveTo (d : Dev) (m : Moving) : Dev := { d with power := { d.power with moving := m } }

/-- R442: an open firmware transfer is abandoned; its slot stays as it is. -/
def Dev.abandon (d : Dev) : Dev := { d with hearth := { d.hearth with transfer := none } }

/-! ### Outputs stop (R483 steps 1 and 2) -/

/-- R483, R484: pipe `p` stops and waits to start at the exit when its EN is 1; a frame open for writeback is dropped, and
    `cut` says that lines of it had been written. -/
def Dev.holdStop (cut : Bool) (p : Nat) (d : Dev) : Dev :=
  let d1 := if cut then d.wbReset p else d
  let x := d1.pst p
  let d2 := d1.putPst p { x with
    frame := {}, frozen := false, sample := [], steps := 0, line0 := false, teGo := false
    wb := none
    held := tgEn d1.acV p }
  let d3 := ((d2.dn (F.PIPE_TG_STATUS_RUNNING.i p)).dn (F.PIPE_COMMIT_STATUS_CLASS_B.i p)).setStep p 0
  ((d3.dn (F.PIPE_CUTOFF_EFFECTIVE.i p)).dn (F.PIPE_REST_STATUS_STATE.i p)).restShow

/-- Pipes that run, or wait inside a sequence. -/
def Dev.busyPipes (d : Dev) : List Nat :=
  pipes.filter (fun p => d.running p || d.fl (F.PIPE_COMMIT_STATUS_CLASS_B.i p))

/-- R483 step 1: pipes whose sequence waits with the raster stopped have no swap point to wait for. -/
def Dev.waitStop (d : Dev) : Dev := Dev.each (Dev.holdStop false) (d.busyPipes.filter (fun p => !d.running p)) d

/-- R483: after 50 ms every pipe stops. -/
def Dev.cutAll (d : Dev) : Dev := Dev.each (Dev.holdStop true) d.busyPipes d

/-- R483 step 2: what each port is left as. -/
def Dev.portsOff (d : Dev) : Dev :=
  let dp := fun (s : Nat) (d : Dev) =>
    if d.acOn (F.DP_CTRL_MODE.i s) && d.acOn (F.DP_CTRL_PSR_EN.i s) then
      if d.fl (F.DP_STATUS_TRAINED.i s) then d.up (F.DP_STATUS_PSR_ACTIVE.i s) else d
    else (d.dn (F.DP_STATUS_TRAINED.i s)).hdcpTo s 0
  let dsi := fun (s : Nat) (d : Dev) => d.dn (F.DSI_STATUS_READY.i s)
  { Dev.each dsi [0, 1] (Dev.each dp [0, 1, 2, 3] d) with training := [] }

/-! ### HOLD -/

/-- R483: entry to HOLD begins. -/
def Dev.holdBegin (d : Dev) (thermal : Bool) : Dev :=
  let d1 := ((d.moveTo .toHold).up F.POWER_STATUS_TRANSITION).onlyIf thermal (·.up F.POWER_STATUS_HOLD_THERMAL)
  d1.waitStop

/-- R485 step 4, R502: pipes with EN = 1 restart; one whose armed EN is 0 takes its commit.
    Log 34 (DESIGN CHOICE, unsafe). -/
def Dev.resume (d : Dev) : Dev :=
  Dev.each (fun p d =>
      if (d.pst p).held || tgEn d.acV p then
        let d1 := d.putPst p { d.pst p with held := false }
        if tgEn d1.arV p then d1.startPipe p else d1.stopTake p
      else d) pipes d |>.armShow

/-- R485: exit from HOLD begins; the source is recorded. -/
def Dev.holdExit (d : Dev) (src : Nat) : Dev :=
  ((d.moveTo .fromHold).up F.POWER_STATUS_TRANSITION).sg F.POWER_WAKE_LAST_SRC src

/-- R487: a wake from DEEP: the main rails come up, and a start follows. -/
def Dev.deepWake (d : Dev) (src : Nat) : Dev := (d.restart .deepExit 15).sg F.POWER_WAKE_LAST_SRC src

/-- R485, R488, R493: an enabled wake event; during an entry it waits for the entry's end.
    Log 55 (DESIGN CHOICE, unsafe). -/
def Dev.wakeEvent (d : Dev) (src : Nat) : Dev :=
  if d.deep then d.deepWake src
  else if d.fl F.POWER_STATUS_HOLD_THERMAL then d
  else match d.power.moving with
    | .none => if d.inHold then d.holdExit src else d
    | .fromHold => d
    | _ => { d with power := { d.power with wake := some src } }

/-- R493: a wake event that waited acts at the end of the entry.
    Log 55 (DESIGN CHOICE, unsafe). -/
def Dev.wakePending (d : Dev) : Dev :=
  match d.power.wake with
  | some src => { d with power := { d.power with wake := none } }.wakeEvent src
  | none => d

/-! ### DEEP and SHUTDOWN -/

/-- R486 step 2: deferred log entries are written to the MRAM. -/
def Dev.logAll (d : Dev) : Dev :=
  if d.mramHeld then d
  else { Dev.each (fun e d => d.logWrite e) d.logDeferred d with logDeferred := [] }

/-- R486: entry to DEEP begins; `now` says that outputs stop at once. -/
def Dev.deepBegin (d : Dev) (now : Bool) : Dev :=
  let d1 := if now then d.cutAll.portsOff else d.waitStop
  (d1.abandon.logAll).moveTo .toDeep

/-- R490 step 3: the end state of SHUTDOWN. -/
def Dev.shutEnd (d : Dev) : Dev := if bit (d.power.shut.getD 0) 1 then d.holdBegin false else d.deepBegin false

/-- R501: the shut-down test is over.
    Log 15 (DESIGN CHOICE, unsafe). -/
def Dev.testOver (d : Dev) : Dev :=
  (d.sg F.HEARTH_STATE_STATE (if d.rg F.HEARTH_STATE_STARTER_REASON = 0 then 1 else 2)).shutEnd

/-- R490 steps 1 and 2: the test begins when every pipe has stopped and no slice runs.
    Log 15 (DESIGN CHOICE, unsafe). -/
def Dev.shutGo (d : Dev) : Dev :=
  if d.power.moving == .toShut && d.rg F.HEARTH_STATE_STATE != 3 && d.busyPipes.isEmpty
      && !d.fl F.SECURE_ST_STATUS_RUNNING then
    let r := d.portsOff.testBegin (d.power.shut.getD 0)
    if r.2 then r.1 else r.1.testOver
  else d

/-- R452, R490: SHUTDOWN begins; a Leaven run in progress is abandoned.
    Log 15 (DESIGN CHOICE, unsafe). -/
def Dev.shutBegin (d : Dev) (p0 : Nat) : Dev :=
  let d1 := { d with power := { d.power with shut := some p0 }, hearth := { d.hearth with measuring := false } }
  if bit p0 0 then (d1.waitStop.moveTo .toShut).shutGo else d1.shutEnd

/-- R502: the shut-down test is stopped, SHUTDOWN is abandoned, and the device returns to ACTIVE. -/
def Dev.testStop (d : Dev) : Dev :=
  let d1 := (d.sliceOff.up F.SECURE_ST_STATUS_INTERRUPTED).sg F.HEARTH_STATE_STATE 1
  { d1 with
    test := { d1.test with queue := [] }
    power := { d1.power with shut := none, moving := .none, wake := none, pcie := !d1.power.perst } }.resume

/-! ### Requests (R491) -/

/-- R491: a request for power state `t` is refused.
    Log 55 (DESIGN CHOICE, unsafe). -/
def Dev.powerRefused (d : Dev) (t : Nat) : Bool :=
  d.power.moving != .none || t == 1 || (t == 0 && d.fl F.POWER_STATUS_HOLD_THERMAL) || (t == 2 && d.inHold)
    || (t == 3 && (d.rg F.HEARTH_STATE_STATE == 2 || d.rg F.HEARTH_STATE_STATE == 4))

/-- R483, R485, R486: an accepted request for power state `t`. -/
def Dev.powerTake (d : Dev) (t : Nat) : Dev :=
  let d1 := d.sg F.POWER_CTRL_TARGET t
  if t = 2 then d1.holdBegin false
  else if t = 3 then d1.deepBegin true
  else if d1.inHold then d1.holdExit 9 else d1

/-- R491: a write of POWER_CTRL reaches the register. -/
def powerCtrlWrite (w : Word) (d : Dev) : Dev :=
  let t := View.g (fun _ => w) F.POWER_CTRL_TARGET
  if d.powerRefused t then d.up F.POWER_STATUS_REFUSED else d.powerTake t

/-- R479: a write of POWER_PIPE_RESET reaches the register; bits of service-owned pipes are discarded from a host write. -/
def powerPipeReset (q : Rq) (w : Word) (d : Dev) : Dev :=
  Dev.each (fun p d =>
      if !bit (View.g (fun _ => w) F.POWER_PIPE_RESET_PIPE) p then d
      else if q == .host && d.svcOwned p then d.ownViolation p
      else d.pipeReset 1 p) pipes d

/-! ### Entry and exit complete -/

/-- HOLD_ENTRY_COMPLETE (R483, R490, R493): pipes that still run are cut; under SHUTDOWN the wait for their swap points
    ends and the test begins.
    Log 55 (DESIGN CHOICE, unsafe). -/
def holdEntryComplete (d : Dev) : Dev :=
  match d.power.moving with
  | .toHold =>
    let d1 := (((d.cutAll.portsOff).sg F.POWER_STATUS_STATE 2).dn F.POWER_STATUS_TRANSITION).incSat F.POWER_STATUS_HOLD_COUNT
    let d2 := if d1.power.shut.isSome then (d1.up F.POWER_STATUS_SHUTDOWN).up F.SYS_RESET_CTRL_RETAIN_DRAM else d1
    { d2 with power := { d2.power with shut := none, moving := .none } }.wakePending
  | .toShut => if d.rg F.HEARTH_STATE_STATE = 3 then d else d.cutAll.shutGo
  | _ => d

/-- HOLD_EXIT_COMPLETE (R485): the device is in ACTIVE, and pipes restart. -/
def holdExitComplete (d : Dev) : Dev :=
  if d.power.moving == .fromHold then
    ((Dev.each (fun f d => d.dn f) [F.POWER_STATUS_STATE, F.POWER_STATUS_TRANSITION, F.POWER_STATUS_HOLD_THERMAL,
      F.POWER_STATUS_SHUTDOWN] d).moveTo .none).resume
  else d

/-- DEEP_ENTRY_COMPLETE (R486, R487, R493): every island but AON is off; what they held is lost with the exit. -/
def deepEntryComplete (d : Dev) : Dev :=
  if d.power.moving == .toDeep then
    let d1 := ((d.enginesStop true).cutAll.portsOff).sg F.POWER_STATUS_STATE 3
    { d1 with mem := [], power := { d1.power with shut := none, moving := .none, pcie := false } }.wakePending
  else d

/-- THERMAL_HOLD_EXIT (R485): every island has stayed below Tj max − 5 °C for 10 s. -/
def thermalHoldExit (d : Dev) : Dev :=
  let cool := match d.power.coolSince with
    | some t => decide (t + 10000000000 ≤ d.now)
    | none => false
  if d.inHold && d.fl F.POWER_STATUS_HOLD_THERMAL && d.power.moving == .none && cool then d.holdExit 8 else d

/-! ### Wake sources -/

/-- WAKE_N_FALL (R488, R502): stops a running shut-down test, or wakes the device. -/
def wakeNFall (d : Dev) : Dev :=
  if d.testing then d.testStop.sg F.POWER_WAKE_LAST_SRC 1
  else d.onlyIf (d.fl F.POWER_WAKE_WAKE_N) (·.wakeEvent 1)

/-- PERST_DEASSERT (R478, R488): the PCIe link trains; the device wakes. -/
def perstDeassert (d : Dev) : Dev :=
  let link := d.power.pcie || (d.power.boot == Boot.released && !d.deep)
  let d1 := { d with power := { d.power with perst := false, pcie := link } }
  d1.onlyIf (d.fl F.POWER_WAKE_PERST) (·.wakeEvent 2)

/-- SIDEBAND_WAKE (R487): the transaction is not answered; it wakes the device when enabled. -/
def sidebandWake (tr : Tr) (d : Dev) : Dev :=
  if d.deep then (d.send (.nack tr)).onlyIf (d.fl F.POWER_WAKE_SIDEBAND) (·.wakeEvent 3) else d

/-! ### Power-up, brownout, reset pins -/

/-- AON_POWER_ON (R464): cold power-on; EN_MAIN goes high. -/
def aonPowerOn (d : Dev) : Dev :=
  let d1 := d.restart .cold 15
  { d1 with power := { d1.power with boot := .rails } }

/-- R464, R465: the islands fed from a rail.
    Log 54 (DESIGN CHOICE, unsafe). -/
def railIslands : Rail → List Nat
  | .vddIn => [0, 1, 2, 5]
  | .vddPhy => [3, 4]
  | _ => []

/-- RAIL_TIMEOUT (R464): a rail is not within tolerance; where it feeds several islands, which of them is recorded is
    open.
    Log 54 (DESIGN CHOICE, unsafe). -/
def railTimeout (rail : Rail) (d : Dev) : Dev :=
  if d.power.boot != .rails then d
  else
    let d1 := { d with power := { d.power with boot := .railWait } }
    match railIslands rail with
    | [] => d1
    | l =>
      let r := d1.draw
      r.2.sg F.POWER_BROWNOUT_RESET_ISLAND (l.getD (r.1 % l.length) 0)

/-- RAIL_RETRY (R464): EN_MAIN has been low for 100 ms. -/
def railRetry (d : Dev) : Dev :=
  if d.power.boot == .railWait then { d with power := { d.power with boot := .rails } } else d

/-- R464: a warm reset finds the device past its power-up. -/
def Dev.poweredUp (d : Dev) : Bool := d.power.boot == .inReset || d.power.boot == .released

/-- RESET_N_ASSERT (R472).
    Log 15 (DESIGN CHOICE, unsafe). -/
def resetNAssert (d : Dev) : Dev := if d.poweredUp then d.warmReset .pin else d

/-- R486: in DEEP only the always-on island has a supply. -/
def Dev.supplied (d : Dev) (island : Nat) : Bool := island == 6 || !d.deep

/-- BROWNOUT_WARN (R468).
    Log 54 (DESIGN CHOICE, unsafe). -/
def brownoutWarn (island : Nat) (d : Dev) : Dev :=
  if bit (d.rg F.POWER_BROWNOUT_ACTIVE) island || !d.supplied island then d
  else (((d.orBits F.POWER_BROWNOUT_BROWNOUT_WARN (2 ^ island)).orBits F.POWER_BROWNOUT_ACTIVE (2 ^ island)).incSat
    F.POWER_BROWNOUT_WARN_COUNT).attn .power

/-- BROWNOUT_RECOVERY (R469): MRAM writes resume once no warning stands, and the warning is logged.
    Log 54 (DESIGN CHOICE, unsafe). -/
def brownoutRecovery (island minMv micros : Nat) (d : Dev) : Dev :=
  if !bit (d.rg F.POWER_BROWNOUT_ACTIVE) island then d
  else
    let d1 := ((d.clrBits F.POWER_BROWNOUT_ACTIVE (2 ^ island)).mramFlush).logFlush
    d1.logE 4 7 1 (island * 2 ^ 28 + minMv * 2 ^ 16 + min micros 65535)

/-- BROWNOUT_RESET (R470): an island other than AON has reached its reset level, past its warning level.
    Log 15 (DESIGN CHOICE, unsafe). -/
def brownoutReset (island : Nat) (d : Dev) : Dev :=
  if island = 6 ∨ !d.poweredUp then d
  else ((brownoutWarn island d).sg F.POWER_BROWNOUT_RESET_ISLAND island).warmBy .brownout island

/-- AON_BROWNOUT (R471): a cold power-on that keeps the MRAM. -/
def aonBrownout (d : Dev) : Dev := d.restart .cold 15

/-! ### The reference clock -/

/-- REFCLK_LOST (R537); an entry is added where Hearth firmware runs.
    Log 54 (DESIGN CHOICE, unsafe). -/
def refclkLost (d : Dev) : Dev :=
  if d.fl F.IO_STATUS_HOLDOVER then d
  else (((d.up F.IO_STATUS_REFCLK_LOST).up F.IO_STATUS_HOLDOVER).attn .fault).onlyIf (!d.deep) (·.logOpen)

/-- REFCLK_RETURN (R537): HOLDOVER clears. -/
def refclkReturn (d : Dev) : Dev := d.dn F.IO_STATUS_HOLDOVER

/-! ### HPD -/

/-- R318, R450: a plug is answered; in Starter mode DP_0 shows the status picture. -/
def Dev.plugDone (d : Dev) (s : Nat) (sink : Sink) : Dev :=
  let d1 := hpdPlug s sink d
  d1.onlyIf (s == 0 && (d1.rg F.HEARTH_STATE_STATE == 2 || d1.rg F.HEARTH_STATE_STATE == 4) && !d1.running 0
    && !d.fl (F.DP_STATUS_PLUGGED.i 0)) (·.statusPicture)

/-- R318, R320: an HPD event is answered. -/
def hpdAnswer (i : Instr) (d : Dev) : Dev :=
  match i with
  | .hpdPlug p sink => d.plugDone p.val sink
  | .hpdUnplug p => hpdUnplug p.val d
  | .irqHpd p l h => irqHpd p.val l h d
  | _ => d

/-- R506: an HPD event of port `s` that Hearth firmware has seen: on a port under test it waits for the slice. -/
def Dev.hpdSeen (d : Dev) (s : Nat) (i : Instr) : Dev :=
  if d.underTest s then { d with test := { d.test with hpd := d.test.hpd ++ [i] } } else hpdAnswer i d

/-- R323, R506, R509: what an HPD event of port `s` does: nothing on a fenced port; before a start and while Hearth firmware is
    stopped it waits.
    Log 56 (DESIGN CHOICE, unsafe). -/
def Dev.hpdGuard (d : Dev) (s : Nat) (i : Instr) : Dev :=
  if bit (d.rg F.SECURE_FENCED_DP) s then d
  else if d.hearth.stopped || d.power.boot != .released then
    { d with hearth := { d.hearth with queued := d.hearth.queued ++ [i] } }
  else d.hpdSeen s i

/-- The port of an HPD event. -/
def hpdPort : Instr → Nat
  | .hpdPlug p _ => p.val
  | .hpdUnplug p => p.val
  | .irqHpd p _ _ => p.val
  | _ => 0

/-- R323: the HPD events that waited for Hearth firmware are answered in their order. -/
def Dev.hpdServe (d : Dev) : Dev :=
  Dev.each (fun i d => d.hpdSeen (hpdPort i) i) d.hearth.queued { d with hearth := { d.hearth with stopped := false, queued := [] } }

/-- R323, R435: Hearth firmware runs again.
    Log 49 (DESIGN CHOICE, unsafe). -/
def Dev.fwResume (d : Dev) : Dev := if d.hearth.stopped then d.hpdServe else d

/-- RESET_RELEASE (R447): the start, at which Hearth firmware answers the HPD events that waited for it.
    Log 49 (DESIGN CHOICE, unsafe). -/
def resetReleaseEvent (seen : StartSeen) (d : Dev) : Dev :=
  let d1 := resetRelease seen d
  if d.power.boot != .released && d1.power.boot == .released then d1.hpdServe else d1

/-- HPD_PLUG (R318, R488, R543): the plug is answered, in DEEP only noted for the start that reads the sink; it may wake the
    device.
    Log 45 (DESIGN CHOICE, unsafe). -/
def hpdPlugEvent (s : Nat) (i : Instr) (d : Dev) : Dev :=
  if bit (d.rg F.SECURE_FENCED_DP) s || d.power.boot == .aonReset then d
  else
    let d1 := if d.deep then d.up (F.DP_STATUS_PLUGGED.i s) else d.hpdGuard s i
    d1.onlyIf (bit (d.rg F.POWER_WAKE_HPD) s && !d.fl (F.DP_STATUS_PLUGGED.i s)) (·.wakeEvent (4 + s))

/-- HPD_UNPLUG (R318). -/
def hpdUnplugEvent (s : Nat) (i : Instr) (d : Dev) : Dev :=
  if d.deep then d.dn (F.DP_STATUS_PLUGGED.i s) else d.onlyIf (d.power.boot != .aonReset) (·.hpdGuard s i)

/-- IRQ_HPD (R318, R320). -/
def irqHpdEvent (s : Nat) (i : Instr) (d : Dev) : Dev := d.onlyIf (!d.deep && d.power.boot != .aonReset) (·.hpdGuard s i)

/-- R506: the HPD events that waited for a slice are answered. -/
def Dev.hpdFlush (d : Dev) : Dev :=
  Dev.each hpdAnswer d.test.hpd { d with test := { d.test with hpd := [] } }

/-! ### The swap point with the power states around it -/

/-- SWAP_POINT (R82, R483, R490): while outputs are being stopped the pipe stops at this swap point. -/
def swapPointEvent (p dt : Nat) (d : Dev) : Dev :=
  let d1 := swapPoint p dt d
  if d.running p && (d.power.moving == .toHold || d.power.moving == .toShut || d.power.moving == .toDeep) then
    (Dev.holdStop false p d1).shutGo
  else d1

/-! ### The commands -/

/-- SWAP_POINT. -/
def execSwapPoint (pipe : Fin 4) (dt : Nat) (s : State) : Host.Outcome State Fault Refusal :=
  s.run (swapPointEvent pipe.val dt)

/-- HPD_PLUG. -/
def execHpdPlug (port : Fin 4) (sink : Sink) (s : State) : Host.Outcome State Fault Refusal :=
  s.runAon (hpdPlugEvent port.val (.hpdPlug port sink))

/-- HPD_UNPLUG. -/
def execHpdUnplug (port : Fin 4) (s : State) : Host.Outcome State Fault Refusal :=
  s.runAon (hpdUnplugEvent port.val (.hpdUnplug port))

/-- IRQ_HPD. -/
def execIrqHpd (port : Fin 4) (linkLost hdcpReq : Bool) (s : State) : Host.Outcome State Fault Refusal :=
  s.run (irqHpdEvent port.val (.irqHpd port linkLost hdcpReq))

/-- RESET_RELEASE. -/
def execResetRelease (seen : StartSeen) (s : State) : Host.Outcome State Fault Refusal := s.run (resetReleaseEvent seen)

/-- AON_POWER_ON. -/
def execAonPowerOn (s : State) : Host.Outcome State Fault Refusal := s.runCold aonPowerOn

/-- RAIL_TIMEOUT. -/
def execRailTimeout (rail : Rail) (s : State) : Host.Outcome State Fault Refusal := s.run (railTimeout rail)

/-- RAIL_RETRY. -/
def execRailRetry (s : State) : Host.Outcome State Fault Refusal := s.run railRetry

/-- RESET_N_ASSERT. -/
def execResetNAssert (s : State) : Host.Outcome State Fault Refusal := s.run resetNAssert

/-- BROWNOUT_WARN. -/
def execBrownoutWarn (island : Fin 7) (s : State) : Host.Outcome State Fault Refusal :=
  s.runAon (brownoutWarn island.val)

/-- BROWNOUT_RECOVERY. -/
def execBrownoutRecovery (island : Fin 7) (minMv : BitVec 12) (micros : Nat) (s : State) :
    Host.Outcome State Fault Refusal := s.runAon (brownoutRecovery island.val minMv.toNat micros)

/-- BROWNOUT_RESET. -/
def execBrownoutReset (island : Fin 7) (s : State) : Host.Outcome State Fault Refusal := s.run (brownoutReset island.val)

/-- AON_BROWNOUT. -/
def execAonBrownout (s : State) : Host.Outcome State Fault Refusal := s.runCold aonBrownout

/-- PERST_DEASSERT. -/
def execPerstDeassert (s : State) : Host.Outcome State Fault Refusal := s.runAon perstDeassert

/-- POWER_CTRL_HOLD: the write of TARGET reaches the register. -/
def execPowerCtrlHold (_rq : Rq) (data : Word) (s : State) : Host.Outcome State Fault Refusal :=
  s.run (powerCtrlWrite data)

/-- POWER_CTRL_DEEP: the write of TARGET reaches the register. -/
def execPowerCtrlDeep (_rq : Rq) (data : Word) (s : State) : Host.Outcome State Fault Refusal :=
  s.run (powerCtrlWrite data)

/-- POWER_CTRL_ACTIVE: the write of TARGET reaches the register. -/
def execPowerCtrlActive (_rq : Rq) (data : Word) (s : State) : Host.Outcome State Fault Refusal :=
  s.run (powerCtrlWrite data)

/-- POWER_PIPE_RESET: the write reaches the register. -/
def execPowerPipeReset (rq : Rq) (data : Word) (s : State) : Host.Outcome State Fault Refusal :=
  s.run (powerPipeReset rq data)

/-- THERMAL_HOLD_EXIT. -/
def execThermalHoldExit (s : State) : Host.Outcome State Fault Refusal := s.run thermalHoldExit

/-- WAKE_N_FALL. -/
def execWakeNFall (s : State) : Host.Outcome State Fault Refusal := s.runAon wakeNFall

/-- SIDEBAND_WAKE. -/
def execSidebandWake (tr : Tr) (s : State) : Host.Outcome State Fault Refusal := s.runAon (sidebandWake tr)

/-- REFCLK_LOST. -/
def execRefclkLost (s : State) : Host.Outcome State Fault Refusal := s.runAon refclkLost

/-- REFCLK_RETURN. -/
def execRefclkReturn (s : State) : Host.Outcome State Fault Refusal := s.runAon refclkReturn

/-- HOLD_ENTRY_COMPLETE. -/
def execHoldEntryComplete (s : State) : Host.Outcome State Fault Refusal := s.run holdEntryComplete

/-- HOLD_EXIT_COMPLETE. -/
def execHoldExitComplete (s : State) : Host.Outcome State Fault Refusal := s.run holdExitComplete

/-- DEEP_ENTRY_COMPLETE. -/
def execDeepEntryComplete (s : State) : Host.Outcome State Fault Refusal := s.run deepEntryComplete

end Sys2Proof.Machine
end

