-- ==== Sys2Proof/Machine/Hearth.lean ====
section
/-! DEFINITION.  Hearth: the watchdog (R435), the sensors and what is watched with them (R436, R437, R455, R510), the hours of
    the health record (R507), and firmware update (R440 to R445, R511). -/

namespace Sys2Proof.Machine

/-! ### The watchdog -/

/-- R323, R425, R435, R442: Hearth firmware stops and restarts: it discards staged layouts and abandons an open transfer. -/
def Dev.hearthRestart (d : Dev) : Dev :=
  let d1 := Dev.each (fun p d => d.putSvc p { d.svcOf p with staged := none }) pipes d.abandon
  { d1 with hearth := { d1.hearth with stopped := true } }

/-- R323, R384: what happens while no command waits: Hearth firmware that was stopped runs again, and the copy engine issues a
    burst.
    Log 1 (DESIGN CHOICE, unsafe), 49 (DESIGN CHOICE, unsafe). -/
def idle (s : State) : Host.Outcome State Fault Refusal := s.run (fun d => Dev.engine Dev.dmaBurst d.fwResume)

/-- WATCHDOG_EXPIRY (R435): Hearth firmware restarts; the third expiry within 60 s of the first is a warm reset.
    Log 49 (DESIGN CHOICE, unsafe). -/
def watchdogExpiry (dt : Nat) (d : Dev) : Dev :=
  let d1 := d.advance dt
  if d1.power.boot != .released then d1
  else if 2 ≤ d1.hearth.expiries.length then (d1.faultSum F.SYS_FAULT_SUMMARY_WATCHDOG).warmReset .watchdog
  else
    let d2 := ({ d1 with hearth := { d1.hearth with expiries := d1.now :: d1.hearth.expiries } }.hearthRestart).incSat
      F.HEARTH_WDOG_RESTARTS
    let d3 := (d2.sg F.HEARTH_WDOG_RECENT d2.hearth.expiries.length).faultSum F.SYS_FAULT_SUMMARY_WATCHDOG
    (d3.attn .resetSeen).logE 4 0 3 (d3.rg F.HEARTH_WDOG_RESTARTS)

/-- WATCHDOG_EXPIRY. -/
def execWatchdogExpiry (dt : Nat) (s : State) : Host.Outcome State Fault Refusal := s.run (watchdogExpiry dt)

/-! ### Sensors -/

/-- R436: thermal sensors of an island, first and number. -/
def thermRange : Nat → Nat × Nat
  | 0 => (0, 5) | 1 => (5, 3) | 2 => (8, 2) | 3 => (10, 2) | 4 => (12, 2) | 5 => (14, 1) | 6 => (15, 1) | _ => (0, 0)

/-- R436: droop monitors of an island, first and number. -/
def droopRange : Nat → Nat × Nat
  | 0 => (0, 8) | 1 => (8, 5) | 2 => (13, 3) | 3 => (16, 3) | 4 => (19, 2) | 5 => (21, 2) | 6 => (23, 1) | _ => (0, 0)

/-- The elements of a range. -/
def rangeOf (r : Nat × Nat) : List Nat := (List.range r.2).map (r.1 + ·)

/-- R436: the island of an element. -/
def islandOf (f : Nat → Nat × Nat) (k : Nat) : Nat := (firstWith (fun i => (rangeOf (f i)).contains k) islands).getD 0

/-- R510: thermal sensor `k` is excluded by the health record. -/
def Dev.thermExcluded (d : Dev) (k : Nat) : Bool := bit (d.healthWord 8) k

/-- R510: droop monitor `k` is excluded by the health record. -/
def Dev.droopExcluded (d : Dev) (k : Nat) : Bool := bit (d.healthWord 9) k

/-- R437: a sensor word with VALID. -/
def sensorWord (island v : Nat) : Nat := 2 ^ 31 + island * 65536 + v

/-- R436, R437, R505, R510: the sensor words; sensors under an on-demand slice hold their last readings, an excluded one
    reads VALID = 0. -/
def Dev.sampleWords (d : Dev) (therm droop : List (BitVec 16)) : Dev :=
  let d1 := if d.onDemand 0x30 then d else
    Dev.each (fun (x : BitVec 16 × Nat) d => d.sg (F.SENSOR_THERM_WORD.i x.2)
      (if d.thermExcluded x.2 then 0 else sensorWord (islandOf thermRange x.2) x.1.toNat)) (therm.zip (List.range 16)) d
  if d1.onDemand 0x31 then d1 else
    Dev.each (fun (x : BitVec 16 × Nat) d => d.sg (F.SENSOR_DROOP_WORD.i x.2)
      (if d.droopExcluded x.2 then 0 else sensorWord (islandOf droopRange x.2) x.1.toNat)) (droop.zip (List.range 24)) d1

/-- The larger of two readings. -/
def maxReading (a : Option Int) (t : Int) : Option Int := some (match a with
  | some x => max x t
  | none => t)

/-- R436: the highest reading of an island's usable thermal sensors, in 1/16 °C. -/
def Dev.ownTemp (d : Dev) (i : Nat) : Option Int :=
  (rangeOf (thermRange i)).foldl (fun a k =>
    let w := d.rg (F.SENSOR_THERM_WORD.i k)
    if bit w 31 then maxReading a (toInt 16 (bits w 0 16)) else a) none

/-- R455: the pairs of adjacent islands. -/
def adjacent : List (Nat × Nat) := [(0, 1), (0, 2), (1, 2), (2, 3), (0, 4), (1, 4), (1, 5), (5, 6)]

/-- R455, R510: an island's temperature: without a usable sensor, the highest of its adjacent islands plus 12 °C. -/
def Dev.temp (d : Dev) (i : Nat) : Option Int :=
  match d.ownTemp i with
  | some t => some t
  | none =>
    let near := adjacent.filterMap (fun x => if x.1 = i then some x.2 else if x.2 = i then some x.1 else none)
    (near.foldl (fun a j => match d.ownTemp j with
      | some t => maxReading a t
      | none => a) none).map (· + 192)

/-- R455: the supply of an island as its usable droop monitors measure it, the lowest reading.
    Log 50 (DESIGN CHOICE, unsafe). -/
def Dev.supply (d : Dev) (i : Nat) : Option Nat :=
  (rangeOf (droopRange i)).foldl (fun a k =>
    let w := d.rg (F.SENSOR_DROOP_WORD.i k)
    if bit w 31 then some (match a with
      | some x => min x (bits w 0 16)
      | none => bits w 0 16)
    else a) none

/-- R455: Tj max in 1/16 °C. -/
def tjMax : Int := if Config.gradeE then 1760 else 1680

/-- R455: the watched difference `q` and its lower side: 0 to 7 the temperature of adjacent islands in 1/16 °C with the
    colder one, 8 the supply of CORE_A against CORE_B in mV with the lower one. -/
def Dev.difference (d : Dev) (q : Nat) : Option (Nat × Nat) :=
  if q = 8 then
    match d.supply 0, d.supply 1 with
    | some a, some b => some ((a - b) + (b - a), if a ≤ b then 0 else 1)
    | _, _ => none
  else
    let x := adjacent.getD q (0, 0)
    match d.temp x.1, d.temp x.2 with
    | some a, some b => some ((a - b).natAbs, if a ≤ b then x.1 else x.2)
    | _, _ => none

/-- R455: the permitted difference, and the one that degrades. -/
def diffLimits (q : Nat) : Nat × Nat := if q = 8 then (60, 90) else (192, 320)

/-- R455: watched difference `q` after a sample: a bump for the lower side within its headroom, since when it has been
    permitted, and a bump that is removed after 60 s.
    Log 50 (DESIGN CHOICE, unsafe). -/
def Dev.watchDiff (q : Nat) (d : Dev) : Dev :=
  let put := fun (t : Option Nat) (d : Dev) =>
    { d with hearth := { d.hearth with calmSince := Tab.put (fun _ => none) d.hearth.calmSince q t } }
  match d.difference q with
  | none => d
  | some (n, i) =>
    if (diffLimits q).1 < n then
      let room := 12 - (d.trim i + d.bump i)
      let k := q * 8 + i
      let d1 := put none d
      if Tab.get (fun _ => 0) d1.hearth.bumps k = 0 ∧ 0 < room then
        { d1 with hearth := { d1.hearth with bumps := Tab.put (fun _ => 0) d1.hearth.bumps k (min 2 room) } }.targets
      else d1
    else
      let t := (Tab.get (fun _ => none) d.hearth.calmSince q).getD d.now
      let d1 := put (some t) d
      if t + 60000000000 ≤ d1.now then
        { d1 with hearth := { d1.hearth with bumps := Tab.keep (fun k => k / 8 != q) d1.hearth.bumps } }.targets
      else d1

/-- R455: difference `q` has been permitted for 60 s.
    Log 50 (DESIGN CHOICE, unsafe). -/
def Dev.calm (d : Dev) (q : Nat) : Bool :=
  match Tab.get (fun _ => none) d.hearth.calmSince q with
  | some t => decide (t + 60000000000 ≤ d.now)
  | none => false

/-- R455: a difference beyond the permitted one. -/
def Dev.beyond (d : Dev) (q : Nat) : Bool :=
  match d.difference q with
  | some (n, _) => decide ((diffLimits q).1 < n)
  | none => false

/-- R455: a difference that degrades.
    Log 50 (DESIGN CHOICE, unsafe). -/
def Dev.degrades (d : Dev) (q : Nat) : Bool :=
  match d.difference q with
  | some (n, _) => decide ((diffLimits q).2 ≤ n)
  | none => false

/-- R436: the highest island temperature and its island. -/
def Dev.hottest (d : Dev) : Option (Int × Nat) :=
  islands.foldl (fun (a : Option (Int × Nat)) i => match d.temp i, a with
    | some t, some x => if x.1 < t then some (t, i) else a
    | some t, none => some (t, i)
    | none, _ => a) none

/-- R455: the highest temperature satisfies `f`. -/
def Dev.hotIs (d : Dev) (f : Int → Bool) : Bool :=
  match d.hottest with
  | some x => f x.1
  | none => false

/-- R461: SENSOR_ISLAND_i after a sample. -/
def Dev.islandShow (i : Nat) (d : Dev) : Dev :=
  match d.temp i with
  | none => d.dn (F.SENSOR_ISLAND_VALID.i i)
  | some t =>
    let near := fun (n : Nat) => (List.range 8).any (fun q =>
      ((adjacent.getD q (0, 0)).1 == i || (adjacent.getD q (0, 0)).2 == i) && (match d.difference q with
        | some (x, _) => decide (n < x)
        | none => false))
    let above := b2n (decide (tjMax - 80 < t)) + 2 * b2n (decide (tjMax < t)) + 4 * b2n (near 192) + 8 * b2n (near 320)
    ((d.sg (F.SENSOR_ISLAND_TEMP.i i) (ofInt 16 t)).up (F.SENSOR_ISLAND_VALID.i i)).orBits (F.SENSOR_ISLAND_ABOVE.i i) above

/-- R455: the attention bits, which rise when a quantity leaves what is permitted.
    Log 49 (DESIGN CHOICE, unsafe). -/
def Dev.sampleAttn (d old : Dev) : Dev :=
  let hot := fun (x : Dev) => x.hotIs (fun t => decide (tjMax - 80 < t))
  let rise := (hot d && !hot old) || (List.range 8).any (fun q => d.beyond q && !old.beyond q)
  (d.onlyIf rise (·.attn .thermal)).onlyIf (d.beyond 8 && !old.beyond 8) (·.attn .power)

/-- R455: the degraded causes after a sample. -/
def Dev.sampleCauses (d : Dev) : Dev :=
  let d1 := if d.hotIs (fun t => decide (tjMax ≤ t)) then d.causeSet 0
    else if d.hotIs (fun t => decide (t < tjMax - 48)) then d.causeClear 0 else d
  let d2 := if (List.range 8).any d1.degrades then d1.causeSet 1
    else if (List.range 8).all d1.calm then d1.causeClear 1 else d1
  if d2.degrades 8 then d2.causeSet 2 else if d2.calm 8 then d2.causeClear 2 else d2

/-- R455, R483, R493: at Tj max + 10 °C the device enters HOLD by hardware and logs THERMAL.
    Log 50 (DESIGN CHOICE, unsafe). -/
def Dev.thermalHold (d : Dev) : Dev :=
  match d.hottest with
  | some (t, i) =>
    if decide (t < tjMax + 160) || d.fl F.POWER_STATUS_HOLD_THERMAL then d
    else
      let log := fun (d : Dev) => d.logE 4 8 1 (i * 2 ^ 28 + ofInt 16 t)
      match d.power.moving with
      | .none => if d.inHold then d else (log d).holdBegin true
      | .toHold => (log d).up F.POWER_STATUS_HOLD_THERMAL
      | _ => d
  | none => d

/-- R485: since when every island has been below Tj max − 5 °C. -/
def Dev.coolShow (d : Dev) : Dev :=
  let cool := d.hotIs (fun t => decide (t < tjMax - 80))
  { d with power := { d.power with coolSince := if cool then some (d.power.coolSince.getD d.now) else none } }

/-- SENSOR_SAMPLE (R436, R437, R455, R456, R485, R510). -/
def sensorSample (therm droop : List (BitVec 16)) (dt : Nat) (d : Dev) : Dev :=
  let d0 := (d.advance dt).fwResume
  let d1 := d0.sampleWords therm droop
  let d2 := Dev.each Dev.islandShow islands d1
  let d3 := Dev.each Dev.watchDiff (List.range 9) (d2.sampleAttn d0)
  d3.sampleCauses.coolShow.thermalHold

/-- SENSOR_SAMPLE. -/
def execSensorSample (therm droop : List (BitVec 16)) (dt : Nat) (s : State) : Host.Outcome State Fault Refusal :=
  s.run (sensorSample therm droop dt)

/-- HEALTH_RECORD_MINUTES (R452, R507): 60 minutes more in ACTIVE or REST. -/
def healthRecordMinutes (d : Dev) : Dev :=
  if 2 ≤ d.rg F.POWER_STATUS_STATE then d
  else
    let d1 := { d with hearth := { d.hearth with minutes := d.hearth.minutes + 60 } }
    (d1.healthUpdate (·.set 2 (d1.hearth.minutes % 2 ^ 32))).minToRun

/-- HEALTH_RECORD_MINUTES. -/
def execHealthRecordMinutes (s : State) : Host.Outcome State Fault Refusal := s.run healthRecordMinutes

/-! ### Firmware update (R442, R445) -/

/-- R441, R445: the slot a command names takes a state; slot 2 is the configuration record. -/
def Dev.fwState (d : Dev) (slot st : Nat) : Dev :=
  if slot = 2 then { d with hearth := { d.hearth with cfgState := st } } else d.slotTo slot st

/-- R441: the running slot, when no recovery image runs. -/
def Dev.runningSlot (d : Dev) : Option Nat :=
  if d.fl F.HEARTH_STATE_RECOVERY_IMAGE then none else some (d.rg F.HEARTH_STATE_SLOT)

/-- R442: FW_BEGIN's result code, 0 when accepted. -/
def Dev.fwBeginCode (d : Dev) (slot size : Nat) : Nat :=
  if slot = 2 then (if size = 64 then 0 else 0x43)
  else if 2 < slot then 0x43
  else if d.runningSlot = some slot then 0x54
  else if 4096 ≤ size ∧ size ≤ 2097152 then 0 else 0x43

/-- R442, R446: FW_BEGIN is accepted; in Starter mode the service state becomes RECOVERY. -/
def Dev.fwBeginDo (d : Dev) (slot size : Nat) : Dev :=
  let d1 := { d with hearth := { d.hearth with transfer := some ⟨slot, size, 0, []⟩ } }.fwState slot 1
  if d1.rg F.HEARTH_STATE_STATE = 2 then d1.sg F.HEARTH_STATE_STATE 4 else d1

/-- R442: FW_CHUNK: bytes inside the slot's region are written; none when it is out of order.
    Log 51 (DESIGN CHOICE, unsafe). -/
def Dev.fwChunkDo (d : Dev) (off : Nat) (bs : List Byte) : Option Dev :=
  match d.hearth.transfer with
  | none => none
  | some t =>
    if off ≠ t.next then none
    else
      let t1 : Transfer := { t with next := t.next + bs.length, data := if t.slot = 2 then t.data ++ bs else [] }
      let d1 := if t.slot = 2 then d else d.mramStore (slotBase t.slot + off) (bs.take (2097152 - off))
      some { d1 with hearth := { d1.hearth with transfer := some t1 } }

/-- R442: the signature is the check that failed: the ones before it have passed.
    Log 51 (DESIGN CHOICE, unsafe). -/
def Dev.imageSigFail (d : Dev) (slot size : Nat) : Bool :=
  let at_ := fun (k n : Nat) => d.mramBytes (slotBase slot + k) n
  ofLe (at_ 0 4) == 0x9764F1A0 && sha384 (at_ 0x200 (size - 0x200)) == at_ 0x10 48
    && !Config.verifyImage (d.fl F.SECURE_KEYS_KEY_A_REVOKED) (sha384 (at_ 0 0x100)) (at_ 0x100 96)

/-- R445: the copy of the configuration record in use. -/
def Dev.cfgUse (d : Dev) : Option Nat := d.cfgPick

/-- R445: an accepted record goes into the copy not in use, with its generation word.
    Log 51 (DESIGN CHOICE, unsafe). -/
def Dev.cfgStore (d : Dev) (bs : List Byte) : Dev :=
  let other := match d.cfgUse with
    | some 0 => 1
    | _ => 0
  let gen := match d.cfgUse with
    | some c => (d.cfgGen c + 1) % 2 ^ 32
    | none => (max (d.cfgGen 0) (d.cfgGen 1) + 1) % 2 ^ 32
  d.mramStore (cfgBase other) (bs ++ leBytes 4 gen)

/-- R445: the state of the configuration record as the MRAM holds it.
    Log 51 (DESIGN CHOICE, unsafe). -/
def Dev.cfgStateNow (d : Dev) : Nat :=
  if d.cfgPick.isSome then 2 else if d.cfgGen 0 = 0 ∧ d.cfgGen 1 = 0 then 0 else 3

/-- R442, R445, R446: FW_COMMIT: the result code and the effect; it returns RECOVERY to STARTER. -/
def Dev.fwCommitDo (d : Dev) (slot : Nat) : Nat × Dev :=
  match d.hearth.transfer with
  | none => (0x51, d)
  | some t =>
    if t.slot ≠ slot ∨ t.next ≠ t.size then (0x51, d)
    else
      let d1 := d.abandon
      let d2 := if d1.rg F.HEARTH_STATE_STATE = 4 then d1.sg F.HEARTH_STATE_STATE 2 else d1
      if slot = 2 then
        let ok := cfgRecordOk t.data
        let d3 := if ok then d2.cfgStore t.data else d2
        (if ok then 0 else 0x52, d3.fwState 2 d3.cfgStateNow)
      else
        let c := d2.imageCode slot t.size
        if c = 0 then (0, (d2.fwState slot 2).attn .fw)
        else (c, ((d2.fwState slot 3).attn .fw).onlyIf (d2.imageSigFail slot t.size) (·.attn .security))

/-- R442: FW_ACTIVATE: the result code and the effect. -/
def Dev.fwActivateDo (d : Dev) (slot : Nat) : Nat × Dev :=
  if slot < 2 ∧ d.slotSt slot = 2 then
    (0, ({ d with hearth := { d.hearth with selected := slot } } : Dev).attn .fw)
  else (0x51, d)

end Sys2Proof.Machine
end

