-- ==== Sys2Proof/Machine/Icp.lean ====
section
/-! DEFINITION.  The command protocol: opcodes and who may send them (R413, R423, R451, R489), replies (R404, R405, R407, R408),
    the tests of a received packet (R406), the ring (R415 to R417), the side-band transports (R419 to R422), the controller
    and its heartbeat (R412, R414). -/

namespace Sys2Proof.Machine

/-! ### Opcodes -/

/-- R418: a transport's code in CONTROLLER. -/
def trCode : Tr → Nat
  | .pcie => 1 | .spi => 2 | .i2c => 3

/-- R423: an opcode: fewest and most parameter words, accepted from any transport, accepted in Starter mode. -/
structure OpRow where
  op : Nat
  lo : Nat
  hi : Nat
  any : Bool := false
  starter : Bool := false

/-- R423: groups 0x00 and 0x01. -/
def opRowsA : List OpRow :=
  [⟨0x0000, 0, 0, true, true⟩, ⟨0x0001, 1, 1, false, true⟩, ⟨0x0002, 1, 1, false, true⟩, ⟨0x0003, 0, 0, true, true⟩,
   ⟨0x0004, 0, 0, true, true⟩, ⟨0x0005, 0, 0, false, true⟩, ⟨0x0006, 1, 1, false, true⟩, ⟨0x0007, 1, 1, false, false⟩,
   ⟨0x0008, 1, 1, false, false⟩, ⟨0x0100, 9, 9, false, false⟩, ⟨0x0101, 1, 1, false, false⟩, ⟨0x0102, 1, 1, false, false⟩,
   ⟨0x0103, 1, 1, false, false⟩, ⟨0x0104, 0, 0, false, false⟩, ⟨0x0110, 3, 3, false, false⟩, ⟨0x0111, 1, 1, false, false⟩,
   ⟨0x0112, 3, 3, false, false⟩, ⟨0x0113, 1, 1, false, false⟩]

/-- R423: groups 0x02 and 0x03. -/
def opRowsB : List OpRow :=
  [⟨0x0200, 4, 4, false, false⟩, ⟨0x0201, 1, 1, false, false⟩, ⟨0x0202, 1, 1, false, false⟩, ⟨0x0203, 30, 30, false, false⟩,
   ⟨0x0204, 1, 1, false, false⟩, ⟨0x0205, 2, 2, false, false⟩, ⟨0x0210, 3, 3, false, false⟩, ⟨0x0211, 7, 7, false, false⟩,
   ⟨0x0212, 2, 57, false, false⟩, ⟨0x0300, 1, 1, true, false⟩, ⟨0x0301, 1, 1, true, false⟩, ⟨0x0302, 3, 3, false, false⟩,
   ⟨0x0303, 3, 6, false, false⟩, ⟨0x0304, 1, 1, false, false⟩, ⟨0x0305, 1, 1, false, false⟩, ⟨0x0306, 2, 6, false, false⟩,
   ⟨0x0307, 8, 8, false, false⟩]

/-- R423: groups 0x04 to 0x06. -/
def opRowsC : List OpRow :=
  [⟨0x0400, 1, 1, true, true⟩, ⟨0x0401, 0, 0, true, true⟩, ⟨0x0402, 2, 2, true, true⟩, ⟨0x0403, 2, 2, true, true⟩,
   ⟨0x0404, 0, 0, true, true⟩, ⟨0x0500, 0, 0, true, true⟩, ⟨0x0501, 2, 2, false, true⟩, ⟨0x0502, 2, 57, false, true⟩,
   ⟨0x0503, 1, 1, false, true⟩, ⟨0x0504, 1, 1, false, true⟩, ⟨0x0600, 1, 1, false, false⟩, ⟨0x0601, 1, 1, true, true⟩,
   ⟨0x0610, 0, 0, false, false⟩, ⟨0x0611, 24, 24, false, false⟩]

/-- R423: the row of an opcode. -/
def opRow (op : Nat) : Option OpRow := firstWith (fun r => r.op == op) (opRowsA ++ opRowsB ++ opRowsC)

/-- R489: the opcode is executed in HOLD.
    Log 27 (DESIGN CHOICE, unsafe). -/
def holdOp (op : Nat) : Bool :=
  op / 256 == 0 || op / 256 == 1 || op / 256 == 4 || op / 256 == 5 || op == 0x300 || op == 0x301 || op == 0x601

/-- R451: Starter mode, the recovery of a slot included. -/
def Dev.starter (d : Dev) : Bool := d.rg F.HEARTH_STATE_STATE == 2 || d.rg F.HEARTH_STATE_STATE == 4

/-- R506: the self-test slices of the blocks a command names. -/
def namedSlices (op : Nat) (p : List Nat) : List Nat :=
  let a := p.getD 0 0
  if op = 0x301 ∨ op = 0x302 ∨ op = 0x303 ∨ op = 0x304 ∨ op = 0x306 then [a]
  else if op = 0x202 ∨ op = 0x203 then [0x24 + (if op = 0x202 then a % 4 else bits a 8 2)]
  else if (0x200 ≤ op ∧ op ≤ 0x205) ∨ op = 0x300 ∨ op = 0x305 then [0x24 + a]
  else if op = 0x307 then
    let s := View.g (fun _ => BitVec.ofNat 32 (p.getD 1 0)) (F.PIPE_TG_CTRL_PORT_SEL.i 0)
    [0x24 + a, s]
  else if op = 0x006 then (List.range 4).filterMap (fun n => if bit a n then some (0x24 + n) else none)
  else if op = 0x400 then [0x30 + bits a 0 8]
  else if op = 0x600 then [a]
  else []

/-! ### Transports' buffers -/

/-- A side-band transport after reset. -/
def dfltSide : Nat → SideBand := fun _ => {}

/-- R421: the buffers of a side-band transport. -/
def Dev.side (d : Dev) (tr : Tr) : SideBand := Tab.get dfltSide d.icp.sb (trCode tr)

/-- Replace them. -/
def Dev.putSide (d : Dev) (tr : Tr) (x : SideBand) : Dev :=
  { d with icp := { d.icp with sb := Tab.put dfltSide d.icp.sb (trCode tr) x } }

/-- R415: `n` bytes of the slot areas. -/
def Dev.slotBytes (d : Dev) (a n : Nat) : List Byte := Tab.getList dfltMem d.icp.slots a n

/-- R415: bytes are written into the slot areas. -/
def Dev.slotStore (d : Dev) (a : Nat) (bs : List Byte) : Dev :=
  { d with icp := { d.icp with slots := Tab.putList dfltMem d.icp.slots a bs } }

/-- Words from bytes, least significant byte first. -/
def wordsLe (n : Nat) (bs : List Byte) : List Nat := (List.range n).map (fun k => ofLe ((bs.drop (4 * k)).take 4))

/-- R398, R405: the trailer of a list of words, as CHK_0 forms it.
    Log 36 (DESIGN CHOICE, unsafe). -/
def Dev.trailer (d : Dev) (ws : List Nat) : Nat × Dev := d.chkRun 0 .crc32c (ws.flatMap (leBytes 4))

/-! ### Replies -/

/-- R404, R408: the words of a reply before its trailer. -/
def Dev.replyWords (d : Dev) (repeated : Bool) (op seq code : Nat) (pay : List Nat) : List Nat :=
  [op * 65536 + b2n repeated * 512 + 256 + seq,
    d.rg F.HEARTH_STATE_STARTER_REASON * 65536 + (pay.length + 4),
    d.rg F.ICP_ATTENTION_ATTENTION * 65536 + code] ++ pay.map (· % 2 ^ 32)

/-- R405, R416, R417, R421: a reply gets its trailer and goes to its transport; on the ring it is discarded when its command
    was taken before a function-level reset. -/
def Dev.post (d : Dev) (tr : Tr) (lost : Bool) (ws : List Nat) : Dev :=
  let r := d.trailer ws
  let d := r.2
  let bytes := (ws ++ [r.1]).flatMap (leBytes 4)
  match tr with
  | .pcie =>
    if lost then d
    else
      let t := d.rg F.ICP_RPL_TAIL_TAIL
      (((d.slotStore (0x4000 + t % 64 * 256) bytes).sg F.ICP_RPL_TAIL_TAIL ((t + 1) % 128))).msix (d.rg F.ICP_RING_CTRL_VECTOR)
  | _ => d.putSide tr { d.side tr with busy := false, reply := bytes }

/-- A waiting command, past its tests, is the one with these words. -/
def SvcStep.isCmd (s : SvcStep) (tr : Tr) (op seq : Nat) (ps : List Word) : Bool :=
  s.tr == tr && (s.words.getD 0 0).toNat / 65536 == op && (s.words.getD 0 0).toNat % 256 == seq
    && (s.words.drop 2).dropLast == ps && s.stage == .passed

/-- The first element that satisfies `p` is taken out of a list. -/
def dropOne {α : Type} (p : α → Bool) : List α → List α
  | [] => []
  | a :: t => if p a then t else a :: dropOne p t

/-- R411: the waiting command is answered: whether its reply is lost, and the queue without it.
    Log 28 (DESIGN CHOICE, unsafe). -/
def Dev.svcTake (d : Dev) (p : SvcStep → Bool) : Bool × Dev :=
  let lost := match firstWith p d.icp.svc with
    | some s => s.lost
    | none => false
  (lost, { d with icp := { d.icp with svc := dropOne p d.icp.svc } })

/-- R404: the results that carry a payload. -/
def hasPayload (code : Nat) : Bool := code == 0 || code == 8 || code == 0x47 || code == 0x4B

/-- R407: the reply to an executed command is stored. -/
def Dev.storeReply (d : Dev) (tr : Tr) (ws : List Nat) : Dev :=
  { d with icp := { d.icp with
      stored := Tab.put (fun _ => []) d.icp.stored (trCode tr) (ws.map (BitVec.ofNat 32)) } }

/-- R408, R416: a command gets its reply; the reply to an executed one is stored. -/
def Dev.reply (d : Dev) (tr : Tr) (op seq : Nat) (ps : List Word) (executed : Bool) (code : Nat) (pay : List Nat) : Dev :=
  let pay := if hasPayload code then pay else []
  let r := d.svcTake (fun s => s.isCmd tr op seq ps)
  let d1 := if executed then r.2.storeReply tr ([op, seq, code] ++ pay) else r.2
  d1.post tr r.1 (d1.replyWords false op seq code pay)

/-! ### Packets -/

/-- R406 tests 7 to 10: the first that fails: its code and payload.
    Log 27 (DESIGN CHOICE, unsafe). -/
def Dev.cmdTest (d : Dev) (tr : Tr) (r : OpRow) (ps : List Nat) : Option (Nat × List Nat) :=
  if !r.any && d.rg F.ICP_ATTENTION_CONTROLLER != (trCode tr) then some (0x44, [])
  else if d.starter && (!r.starter || (r.op == 0x0006 && !bit (ps.getD 0 0) 31)) then some (0x46, [])
  else if (namedSlices r.op ps).any d.onDemand then some (0x47, [d.sliceLeft])
  else if !within r.lo r.hi ps.length then some (0x43, [])
  else none

/-- R414: a HEARTBEAT of the controller has arrived.
    Log 30 (DESIGN CHOICE, unsafe). -/
def Dev.beat (d : Dev) (tr : Tr) : Dev :=
  if d.rg F.ICP_ATTENTION_CONTROLLER = (trCode tr) then
    { d with icp := { d.icp with beatAt := some d.now } }.dn F.ICP_RING_STATUS_HOST_LOST
  else d

/-- A packet that waits is the one with these words. -/
def SvcStep.isPacket (s : SvcStep) (tr : Tr) (ws : List Nat) : Bool := s.tr == tr && s.words.map (·.toNat) == ws

/-- R406: a packet is refused with a reply of its own, which is not stored. -/
def Dev.refusePacket (d : Dev) (tr : Tr) (ws : List Nat) (op seq code : Nat) (pay : List Nat) : Dev :=
  let r := d.svcTake (fun s => s.isPacket tr ws)
  r.2.post tr r.1 (r.2.replyWords false op seq code (if hasPayload code then pay else []))

/-- R407: the stored reply is sent again. -/
def Dev.resend (d : Dev) (tr : Tr) (ws : List Nat) (st : List Nat) : Dev :=
  let r := d.svcTake (fun s => s.isPacket tr ws)
  r.2.post tr r.1 (r.2.replyWords true (st.getD 0 0) (st.getD 1 0) (st.getD 2 0) (st.drop 3))

/-- R411: a command joins those that wait. -/
def Dev.svcQueue (d : Dev) (x : SvcStep) : Dev := { d with icp := { d.icp with svc := d.icp.svc ++ [x] } }

/-- The first waiting step that satisfies `p` comes to stage `g`. -/
def stageOne (p : SvcStep → Bool) (g : Stage) : List SvcStep → List SvcStep
  | [] => []
  | s :: t => if p s then { s with stage := g } :: t else s :: stageOne p g t

/-- R406: the first waiting step that satisfies `p` comes to stage `g`. -/
def Dev.svcStage (d : Dev) (p : SvcStep → Bool) (g : Stage) : Dev :=
  { d with icp := { d.icp with svc := stageOne p g d.icp.svc } }

/-- R25, R416: a packet taken from its buffer before is now received; another joins those that wait.
    Log 28 (DESIGN CHOICE, unsafe). -/
def Dev.svcAdd (d : Dev) (tr : Tr) (ws : List Nat) : Dev :=
  let mine := fun (s : SvcStep) => s.isPacket tr ws && s.stage == .taken
  if d.icp.svc.any mine then d.svcStage mine .received
  else d.svcQueue { tr := tr, words := ws.map (BitVec.ofNat 32), stage := .received }

/-- R406 tests 2 to 10 on the words of a packet, R407.
    Log 27 (DESIGN CHOICE, unsafe). -/
def Dev.packetTests (d : Dev) (tr : Tr) (ws : List Nat) : Dev :=
  let w := fun k => ws.getD k 0
  let op := w 0 / 65536
  let seq := w 0 % 256
  let len := w 1 % 65536
  let no := fun (d : Dev) (code : Nat) (pay : List Nat) => d.refusePacket tr ws op seq code pay
  if tr == .pcie && !within 3 64 len then no d 0x41 []
  else
    let r := d.trailer ws.dropLast
    let d := r.2
    if r.1 ≠ ws.getLastD 0 then no d 0x40 []
    else if len ≠ ws.length then no d 0x41 []
    else if bits (w 0) 10 6 ≠ 0 ∨ bits (w 0) 8 1 ≠ 0 ∨ w 1 / 65536 ≠ 0 then no d 0x43 []
    else match opRow op with
      | none => no d 0x42 []
      | some r =>
        let st := (Tab.get (fun _ => []) d.icp.stored (trCode tr)).map (·.toNat)
        if bit (w 0) 9 && !st.isEmpty && st.getD 0 0 == op && st.getD 1 0 == seq then d.resend tr ws st
        else match d.cmdTest tr r (ws.drop 2).dropLast with
          | some x => no d x.1 x.2
          | none => d.svcStage (fun s => s.isPacket tr ws) .passed

/-- R406, R411, R416: the packets of a transport are tested in the order they were taken, each once those before it are
    answered: at most `n` are refused or answered from the stored reply before one waits to execute.
    Log 27 (DESIGN CHOICE, unsafe). -/
def Dev.settle (d : Dev) (tr : Tr) : Nat → Dev
  | 0 => d
  | n + 1 =>
    match firstWith (fun (s : SvcStep) => s.tr == tr) d.icp.svc with
    | some s => if s.stage = .received then (d.packetTests tr (s.words.map (·.toNat))).settle tr n else d
    | none => d

/-- R406, R411: the packets that wait behind an answered command are tested. -/
def Dev.settleAll (d : Dev) (tr : Tr) : Dev := d.settle tr d.icp.svc.length

/-- R414, R502: what a packet past test 3 does on its arrival: a HEARTBEAT of the controller ends host-lost, and any stops a
    shut-down test.
    Log 30 (DESIGN CHOICE, unsafe). -/
def Dev.arrive (d : Dev) (tr : Tr) (ws : List Nat) : Dev :=
  if (d.trailer ws.dropLast).1 ≠ ws.getLastD 0 then d
  else
    let d1 := if d.testing then d.testStop else d
    if ws.getD 0 0 / 65536 = 1 then d1.beat tr else d1

/-- R406 test 1: a side-band packet of this many bytes is a framing error. -/
def badFrame (n : Nat) : Bool := n % 4 != 0 || n < 12 || 256 < n

/-- R406: the words of a packet received: on the ring those its LENGTH counts, or the whole slot where LENGTH is out of
    range. -/
def packetWords (tr : Tr) (bs : List Byte) : List Nat :=
  let n := match tr with
    | .pcie => ofLe ((bs.drop 4).take 2)
    | _ => bs.length / 4
  wordsLe (if within 3 64 n then n else 64) bs

/-- R406 test 2: the received length of a packet is 3 to 64. -/
def lengthOk (tr : Tr) (bs : List Byte) : Bool := tr != .pcie || within 3 64 (ofLe ((bs.drop 4).take 2))

/-- ICP_PACKET_RECEIVED (R406): the packet is received whole, and tested once those before it on its transport are answered.
    Log 27 (DESIGN CHOICE, unsafe), 28 (DESIGN CHOICE, unsafe). -/
def icpPacketReceived (tr : Tr) (packet : List Byte) (d : Dev) : Dev :=
  let ws := packetWords tr packet
  if tr != .pcie && badFrame packet.length then d.putSide tr { d.side tr with busy := false, framing := true }
  else ((if lengthOk tr packet then d.arrive tr ws else d).svcAdd tr ws).settleAll tr

/-- ICP_PACKET_RECEIVED. -/
def execIcpPacketReceived (tr : Tr) (packet : List Byte) (s : State) : Host.Outcome State Fault Refusal :=
  s.run (icpPacketReceived tr packet)

/-- R408, R411: a command is answered, and the packets that wait behind it on its transport are tested. -/
def Dev.answer (d : Dev) (tr : Tr) (op seq : Nat) (ps : List Word) (executed : Bool) (code : Nat) (pay : List Nat) : Dev :=
  (d.reply tr op seq ps executed code pay).settleAll tr

/-! ### Executing a command -/

/-- What a command answers: its result code, its payload, the device, and what begins after the reply is posted (R411).
    `later` says that the reply is posted when the command's slice ends (R505). -/
structure Ans where
  code : Nat := 0
  pay : List Nat := []
  dev : Dev
  after : Dev → Dev := id
  later : Bool := false

/-- R26, R411: a command is next when it is the first of those that wait, a tick has listed it, and no command that has
    started still runs.
    Log 19 (DESIGN CHOICE, unsafe). -/
def Dev.svcNext (d : Dev) (tr : Tr) (op seq : Nat) (ps : List Word) : Bool :=
  d.test.asker.isNone && (match d.icp.svc with
    | s :: _ => s.listed && s.isCmd tr op seq ps
    | [] => false)

/-- R26, R323, R406, R489, R502: the command that is next is executed: it stops a shut-down test, is tested, and answered.
    Log 27 (DESIGN CHOICE, unsafe), 59 (DESIGN CHOICE, safe). -/
def icpRun (op : Nat) (bad : List Nat → Bool) (f : List Nat → Dev → Ans) (tr : Tr) (seq : BitVec 16) (ps : List Word) (d : Dev) :
    Dev :=
  let q := seq.toNat % 256
  if !d.svcNext tr op q ps then d
  else
    let d := d.fwResume
    let d := if d.testing then d.testStop else d
    let p := ps.map (·.toNat)
    match opRow op with
    | none => d
    | some r =>
      match d.cmdTest tr r p with
      | some x => d.answer tr op q ps false x.1 x.2
      | none =>
        if bad p then d.answer tr op q ps false 0x43 []
        else if d.inHold && !holdOp op then d.answer tr op q ps true 0x57 []
        else
          let a := f p d
          if a.code = 0x43 then a.dev.answer tr op q ps false 0x43 []
          else if a.later then { a.dev with test := { a.dev.test with asker := some (tr, op, q) } }
          else a.after (a.dev.answer tr op q ps true a.code a.pay)

/-! ### The ring -/

/-- R416: a write of ICP_CMD_TAIL.
    Log 28 (DESIGN CHOICE, unsafe). -/
def icpCmdTailWrite (w : Word) (d : Dev) : Dev :=
  let t := w.toNat % 128
  if 64 < subMod 7 t (d.rg F.ICP_CMD_HEAD_HEAD) then d.up F.ICP_RING_STATUS_TAIL_BAD else d.sg F.ICP_CMD_TAIL_TAIL t

/-- R416: a write of ICP_RPL_HEAD. -/
def icpRplHeadWrite (w : Word) (d : Dev) : Dev :=
  let h := w.toNat % 128
  if 64 < subMod 7 (d.rg F.ICP_RPL_TAIL_TAIL) h then d.up F.ICP_RING_STATUS_HEAD_BAD else d.sg F.ICP_RPL_HEAD_HEAD h

/-- ICP_RING_TAKE (R416): the command in slot CMD_HEAD is taken while a reply slot is left for it.
    Log 28 (DESIGN CHOICE, unsafe). -/
def icpRingTake (d : Dev) : Dev :=
  let h := d.rg F.ICP_CMD_HEAD_HEAD
  let taken := countP (fun (s : SvcStep) => s.tr == Tr.pcie && !s.lost) d.icp.svc
  if d.fl F.ICP_RING_CTRL_EN && h != d.rg F.ICP_CMD_TAIL_TAIL
      && decide (subMod 7 (d.rg F.ICP_RPL_TAIL_TAIL) (d.rg F.ICP_RPL_HEAD_HEAD) + taken < 64) then
    let bs := d.slotBytes (h % 64 * 256) 256
    (d.svcQueue { tr := .pcie, words := (packetWords .pcie bs).map (BitVec.ofNat 32) }).sg F.ICP_CMD_HEAD_HEAD ((h + 1) % 128)
  else d

/-- ICP_RING_TAKE. -/
def execIcpRingTake (s : State) : Host.Outcome State Fault Refusal := s.run icpRingTake

/-! ### SPI and I²C -/

/-- R419, R420: the packet of a WRITE_PACKET and whether it fell short: SPI sends its length first, I²C ends it with a STOP. -/
def sidePacket (tr : Tr) (bytes : List Byte) : List Byte × Bool :=
  match tr with
  | .spi =>
    let n := ofLe (bytes.take 2)
    let p := (bytes.drop 2).take n
    (p, decide (bytes.length < 2) || decide (p.length < n))
  | _ => (bytes, false)

/-- WRITE_PACKET (R419 to R421).
    Log 28 (DESIGN CHOICE, unsafe). -/
def writePacket (tr : Tr) (bytes : List Byte) (d : Dev) : Dev :=
  let x := d.side tr
  let p := sidePacket tr bytes
  if tr == .pcie then d
  else if x.busy || !x.reply.isEmpty then d.putSide tr { x with overrun := true }
  else if p.2 || badFrame p.1.length then d.putSide tr { x with framing := true }
  else (d.putSide tr { x with busy := true }).svcQueue { tr := tr, words := (packetWords tr p.1).map (BitVec.ofNat 32) }

/-- WRITE_PACKET. -/
def execWritePacket (tr : Tr) (bytes : List Byte) (s : State) : Host.Outcome State Fault Refusal := s.run (writePacket tr bytes)

/-- READ_REPLY (R419, R420): a reply read to its end is consumed; SPI sends one turnaround byte first.
    Log 28 (DESIGN CHOICE, unsafe). -/
def readReply (tr : Tr) (n : Nat) (d : Dev) : Dev :=
  let x := d.side tr
  if tr == .pcie then d
  else
    let out := (x.reply ++ List.replicate n 0xFF).take n
    let d1 := d.send (.sideband tr (if tr == .spi then 0 :: out else out))
    if x.reply.length ≤ n then d1.putSide tr { x with reply := [] } else d1

/-- READ_REPLY. -/
def execReadReply (tr : Tr) (len : BitVec 9) (s : State) : Host.Outcome State Fault Refusal := s.run (readReply tr len.toNat)

/-- R422: the status bytes of a side-band transport. -/
def Dev.sideStatus (d : Dev) (tr : Tr) : List Byte :=
  let x := d.side tr
  let b0 := b2n (!x.reply.isEmpty) + 2 * b2n x.busy + 4 * b2n x.overrun + 8 * b2n x.framing
    + 16 * b2n (d.rg F.ICP_ATTENTION_CONTROLLER == (trCode tr))
  [BitVec.ofNat 8 b0, BitVec.ofNat 8 (x.reply.length / 4)] ++ leBytes 2 (d.rg F.ICP_ATTENTION_ATTENTION)

/-- READ_STATUS (R422): OVERRUN and FRAMING clear. -/
def readStatus (tr : Tr) (d : Dev) : Dev :=
  if tr == .pcie then d
  else
    let bs := d.sideStatus tr
    (d.send (.sideband tr (if tr == .spi then 0 :: bs else bs))).putSide tr
      { d.side tr with overrun := false, framing := false }

/-- READ_STATUS. -/
def execReadStatus (tr : Tr) (s : State) : Host.Outcome State Fault Refusal := s.run (readStatus tr)

/-- SIDEBAND_BAD_COMMAND (R419, R420). -/
def sidebandBadCommand (tr : Tr) (d : Dev) : Dev :=
  if tr == .pcie then d else d.putSide tr { d.side tr with framing := true }

/-- SIDEBAND_BAD_COMMAND. -/
def execSidebandBadCommand (tr : Tr) (s : State) : Host.Outcome State Fault Refusal := s.run (sidebandBadCommand tr)

/-- HOST_LOST (R414): HOST_LOST_MS has passed without a HEARTBEAT of the controller; the event itself says so, and one that
    has arrived in its cycle counts (R432).
    Log 19 (DESIGN CHOICE, unsafe). -/
def hostLost (d : Dev) : Dev :=
  if d.rg F.ICP_ATTENTION_CONTROLLER = 0 ∨ d.fl F.ICP_RING_STATUS_HOST_LOST ∨ d.icp.beatAt = some d.now then d
  else
    ({ d with icp := { d.icp with lostCount := satAdd 16 d.icp.lostCount 1, wasLost := true } }.up
      F.ICP_RING_STATUS_HOST_LOST).logE 4 5 1 d.icp.lostMs

/-- HOST_LOST. -/
def execHostLost (s : State) : Host.Outcome State Fault Refusal := s.run hostLost

end Sys2Proof.Machine
end

