-- ==== Sys2Proof/Machine/IcpOps.lean ====
section
/-! DEFINITION.  The opcodes of groups 0x00 to 0x03 (R423): the device and its control (R410, R412, R414, R424, R490, R491),
    surfaces and fences (R132 to R134, R147 to R149), the layout service (R41, R42, R425 to R429), pipes, ports and sinks. -/

namespace Sys2Proof.Machine

/-- No parameter value is refused. -/
def noBad : List Nat → Bool := fun _ => false

/-- Parameter `k`. -/
def prm (p : List Nat) (k : Nat) : Nat := p.getD k 0

/-- A parameter pair, low word first. -/
def prm2 (p : List Nat) (k : Nat) : Nat := prm p k + prm p (k + 1) * 2 ^ 32

/-- An unbanked register word as a payload word. -/
def Dev.payWord (d : Dev) (f : Fld) : Nat := (d.unV f.off).toNat

/-! ### Group 0x00 -/

/-- DEVICE_INFO (R423, R440). -/
def opDeviceInfo (_ : List Nat) (d : Dev) : Ans :=
  let ver := match d.runningSlot with
    | some s => d.mramWord (slotBase s + 4)
    | none => d.mramWord 0x500004
  { pay := [d.payWord F.SYS_ID_GRADE, ver, d.rg F.HEARTH_STATE_SLOT, d.rg F.FETCH_USABLE_MIB, d.rg F.ICP_ATTENTION_CONTROLLER],
    dev := d }

/-- HEARTBEAT (R414, R423): the episode is reported once.
    Log 30 (DESIGN CHOICE, unsafe). -/
def opHeartbeat (p : List Nat) (d : Dev) : Ans :=
  let ms := if prm p 0 = 0 then d.icp.lostMs else prm p 0
  { pay := [b2n d.icp.wasLost * 2 ^ 31 + d.icp.lostCount],
    dev := { d with icp := { d.icp with lostMs := ms, wasLost := false } } }

/-- R423: HOST_LOST_MS is 0 or 200 to 60,000. -/
def badHeartbeat (p : List Nat) : Bool := prm p 0 != 0 && !within 200 60000 (prm p 0)

/-- ACK_ATTENTION (R410): STARTER stays in Starter mode. -/
def opAckAttention (p : List Nat) (d : Dev) : Ans :=
  let m := prm p 0 % 65536
  let m := if d.starter then m - (m &&& 2 ^ Att.starter.bit) else m
  let d1 := d.clrBits F.ICP_ATTENTION_ATTENTION m
  { pay := [d1.rg F.ICP_ATTENTION_ATTENTION], dev := d1 }

/-- GET_STATUS (R423, R481). -/
def opGetStatus (_ : List Nat) (d : Dev) : Ans :=
  let own := sumOf (fun n => (d.rg (F.PIPE_OWNER_OWNER.i n) + 2 * d.rg (F.PIPE_OWNER_PENDING.i n)) * 2 ^ (8 * n)) pipes
  { pay := [d.payWord F.SYS_FAULT_SUMMARY_CFG_PARITY, d.payWord F.SYS_RESET_CAUSE_COLD, d.payWord F.SYS_BOOT_COUNT_STARTS, own,
      d.rg F.POWER_STATUS_STATE], dev := d }

/-- CLAIM_CONTROL (R412, R414). -/
def opClaimControl (tr : Tr) (_ : List Nat) (d : Dev) : Ans :=
  let c := d.rg F.ICP_ATTENTION_CONTROLLER
  if c = trCode tr then { pay := [c], dev := d }
  else if c = 0 ∨ d.fl F.ICP_RING_STATUS_HOST_LOST then
    { pay := [trCode tr], dev := (d.sg F.ICP_ATTENTION_CONTROLLER (trCode tr)).dn F.ICP_RING_STATUS_HOST_LOST }
  else { code := 0x45, dev := d }

/-- RELEASE_CONTROL (R412, R414). -/
def opReleaseControl (_ : List Nat) (d : Dev) : Ans :=
  { dev := (d.dn F.ICP_ATTENTION_CONTROLLER).dn F.ICP_RING_STATUS_HOST_LOST }

/-- R424: the Scraper, all queues, is reset. -/
def Dev.scraperReset (d : Dev) : Dev :=
  ({ d.scStop with scLast := 3 }.resetRegs 3 (fun k => within 0xB0000 0xBFFFF (k % fwCopy))).sq3Show.restShow

/-- R424: the copy engine is reset. -/
def Dev.dmaReset (d : Dev) : Dev :=
  (d.dmaOff.resetRegs 3
    (fun k => within 0xC0000 0xCFFFF (k % fwCopy))).restShow

/-- R424: CHK_4 to CHK_7 are reset. -/
def Dev.chkReset (d : Dev) : Dev := d.resetRegs 3 (fun k => within 0xD0200 0xD02FF (k % fwCopy))

/-- R424: the surface and fence tables are reset: every descriptor and fence is FREE. -/
def Dev.tablesReset (d : Dev) : Dev :=
  { d with surf := [], fence := [], watchArmed := 0xFFFF }.resetRegs 3 (fun k => within 0xE0000 0xEFFFF (k % fwCopy))

/-- R424: a surface is IN_SCAN or RETIRING on a pipe whose bit is not in the mask; a RETIRING surface may be on any pipe
    that runs. -/
def Dev.tablesInUse (d : Dev) (m : Nat) : Bool :=
  d.surf.any (fun e =>
    (e.2.st == .inScan && pipes.any (fun p => !bit m p && d.shownByPipe e.1 p))
      || (e.2.st == .retiring && pipes.any (fun p => !bit m p && d.running p)))

/-- SOFT_RESET (R424, R451). -/
def opSoftReset (p : List Nat) (d : Dev) : Ans :=
  let m := prm p 0
  if bit m 31 then
    { dev := if d.starter then d.dn F.SYS_BOOT_COUNT_FAILED_RUN else d, after := fun d => d.warmReset .software }
  else if m = 0 ∨ m &&& 0xF0F ≠ m then { code := 0x43, dev := d }
  else if bit m 11 && d.tablesInUse m then { code := 0x04, dev := d }
  else
    let d1 := Dev.each (fun p d => if bit m p then d.pipeReset 3 p else d) pipes d
    { dev := (((d1.onlyIf (bit m 8) (·.scraperReset)).onlyIf (bit m 9) (·.dmaReset)).onlyIf (bit m 10) (·.chkReset)).onlyIf
        (bit m 11) (·.tablesReset) }

/-- SHUTDOWN (R490, R491). -/
def opShutdown (p : List Nat) (d : Dev) : Ans :=
  if d.power.moving != .none || d.inHold then { code := 0x57, dev := d }
  else { dev := d, after := fun d => d.shutBegin (prm p 0) }

/-- POWER_STATE (R491): the state entered is the target.
    Log 30 (DESIGN CHOICE, unsafe). -/
def opPowerState (p : List Nat) (d : Dev) : Ans :=
  if 3 < prm p 0 then { code := 0x43, dev := d }
  else if d.powerRefused (prm p 0) then { code := 0x57, dev := d }
  else { pay := [prm p 0], dev := d, after := fun d => d.powerTake (prm p 0) }

/-! ### Group 0x01 -/

/-- P0 is a SID. -/
def badSid (p : List Nat) : Bool := 16384 ≤ prm p 0

/-- P0 is a FID. -/
def badFid (p : List Nat) : Bool := 4096 ≤ prm p 0

/-- SURF_REGISTER (R132). -/
def opSurfRegister (p : List Nat) (d : Dev) : Ans :=
  let r := d.register (surfOfWords (prm p)) (bit (prm p 8) 16) (prm p 8 % 16384)
  { code := r.1.num, pay := [r.2.1], dev := r.2.2 }

/-- SURF_UNREGISTER (R134). -/
def opSurfUnregister (p : List Nat) (d : Dev) : Ans :=
  let r := d.unregister (prm p 0)
  { code := r.1.num, dev := r.2 }

/-- SURF_CLEAR_TORN (R134). -/
def opSurfClearTorn (p : List Nat) (d : Dev) : Ans :=
  let r := d.clearTorn (prm p 0)
  { code := r.1.num, dev := r.2 }

/-- SURF_QUERY (R124, R423). -/
def opSurfQuery (p : List Nat) (d : Dev) : Ans :=
  { pay := (List.range 8).map (d.surfAt (prm p 0)).word, dev := d }

/-- SURF_SEAL_STATUS (R423). -/
def opSurfSealStatus (_ : List Nat) (d : Dev) : Ans := { pay := [d.payWord F.SURF_SEAL_SID], dev := d }

/-- FENCE_ALLOC (R147). -/
def opFenceAlloc (p : List Nat) (d : Dev) : Ans :=
  let r := d.fenceAllocate (bit (prm p 0) 16) (prm p 0 % 4096) (prm2 p 1)
  { code := r.1.num, pay := [r.2.1], dev := r.2.2 }

/-- FENCE_FREE (R148). -/
def opFenceFree (p : List Nat) (d : Dev) : Ans :=
  let r := d.fenceRelease (prm p 0)
  { code := r.1.num, dev := r.2 }

/-- FENCE_SIGNAL (R149): a doorbell write of Hearth firmware. -/
def opFenceSignal (p : List Nat) (d : Dev) : Ans :=
  let f := d.fenceAt (prm p 0)
  { code := if !f.alloc then 0x03 else if prm2 p 1 < d.bellBase (prm p 0) then 0x50 else 0, dev := d.doorbell (prm p 0) (prm2 p 1) }

/-- FENCE_READ (R423). -/
def opFenceRead (p : List Nat) (d : Dev) : Ans :=
  let f := d.fenceAt (prm p 0)
  if !f.alloc then { code := 0x03, dev := d }
  else { pay := [f.val.toNat % 2 ^ 32, f.val.toNat / 2 ^ 32], dev := d }

/-! ### Group 0x02 -/

/-- P0 is a pipe. -/
def badPipe (p : List Nat) : Bool := 4 ≤ prm p 0

/-- R41 to R43: a change of owner begins; a stopped pipe completes it at once.
    Log 17 (DEDUCED, unsafe). -/
def Dev.ownerBegin (d : Dev) (p : Nat) : Dev :=
  let d1 := d.up (F.PIPE_OWNER_PENDING.i p)
  if d1.stopped p then d1.ownerStep true p else d1

/-- R423: a pipe, and a base aligned to 4 KiB below 2⁴⁰.
    Log 29 (DESIGN CHOICE, unsafe). -/
def badHandover (p : List Nat) : Bool := badPipe p || prm p 1 % 4096 != 0 || 256 ≤ prm p 2

/-- PIPE_HANDOVER (R41, R427, R430).
    Log 17 (DEDUCED, unsafe). -/
def opPipeHandover (p : List Nat) (d : Dev) : Ans :=
  let n := prm p 0
  let size := prm p 3 * 4096
  if d.fl (F.PIPE_OWNER_PENDING.i n) then { code := 0x48, dev := d }
  else if d.fl (F.PIPE_OWNER_OWNER.i n) then { code := 0x4A, dev := d }
  else if !d.regionOk d.acV n (prm2 p 1) size then { code := 0x07, dev := d }
  else if d.topSids.length < 4 then { code := 0x01, dev := d }
  else
    let d1 := d.putSvc n { base := prm2 p 1, size := size, timing := timingWords d.acV n }
    { dev := (d1.overlaysOn d1.acV n).ownerBegin n }

/-- PIPE_RECLAIM (R42, R425). -/
def opPipeReclaim (p : List Nat) (d : Dev) : Ans :=
  let n := prm p 0
  if d.fl (F.PIPE_OWNER_PENDING.i n) then { code := 0x48, dev := d }
  else if !d.fl (F.PIPE_OWNER_OWNER.i n) then { code := 0x49, dev := d }
  else { dev := (d.putSvc n { d.svcOf n with staged := none }).ownerBegin n }

/-- R43, R431: why a layout or timing command for pipe `n` is refused. -/
def Dev.serviceRefused (d : Dev) (n : Nat) : Option Nat :=
  if d.fl (F.PIPE_OWNER_PENDING.i n) then some 0x48
  else if !d.fl (F.PIPE_OWNER_OWNER.i n) then some 0x49 else none

/-- LAYOUT_BEGIN (R425). -/
def opLayoutBegin (p : List Nat) (d : Dev) : Ans :=
  let n := prm p 0 % 4
  match d.serviceRefused n with
  | some c => { code := c, dev := d }
  | none =>
    let x := d.svcOf n
    { dev := d.putSvc n { x with staged := some (if bit (prm p 0) 8 && !x.layout.isEmpty then x.layout else emptyLayout) } }

/-- R426: the ranges of an enabled window entry.
    Log 29 (DESIGN CHOICE, unsafe). -/
def badWindow (p : List Nat) : Bool :=
  bit (prm p 0) 16 && !(within 1 8192 (bits (prm p 3) 0 16) && within 1 8192 (bits (prm p 3) 16 16)
    && decide (bits (prm p 6) 8 5 ≤ 16) && decide (bits (prm p 8) 8 6 ≤ 40))

/-- LAYOUT_WINDOW (R425, R426). -/
def opLayoutWindow (p : List Nat) (d : Dev) : Ans :=
  let n := bits (prm p 0) 8 2
  match (d.svcOf n).staged with
  | none => { code := 0x4C, dev := d }
  | some st =>
    let w := if bit (prm p 0) 16 then p.map (BitVec.ofNat 32) else []
    { dev := d.putSvc n { d.svcOf n with staged := some (st.set (prm p 0 % 64) w) } }

/-- R428: the window of a refused target. -/
def limitWindow (map : Tab Nat) (e : Result) : Nat :=
  let l := if e.kind = 1 then some e.index else if e.kind = 2 then some (64 + e.index) else none
  match l with
  | some l => (firstWith (fun k => Tab.get noLayer map k == l + 1) (List.range 64)).getD 0xFF
  | none => 0xFF

/-- R123, R427: the overlay buffers that a new layout draws have the pipe's active size: one of another geometry is
    unregistered and registered again.
    Log 16 (DESIGN CHOICE, unsafe). -/
def Dev.overlayFit (d : Dev) (n : Nat) (front : Bool) : Dev :=
  Dev.each (fun j d =>
    let sid := (d.svcOf n).overlays.getD j 0
    let x := overlaySurf d.acV n (d.svcOf n).base j
    let y := d.surfAt sid
    if y.st != .free && { x with st := y.st, torn := y.torn, lost := y.lost } == y then d
    else ((d.unregister sid).2.register x false sid).2.2) [b2n front, 2 + b2n front] d

/-- LAYOUT_SET (R425, R427, R428).
    Log 16 (DESIGN CHOICE, unsafe). -/
def opLayoutSet (p : List Nat) (d : Dev) : Ans :=
  let n := prm p 0
  let x := d.svcOf n
  match d.fl (F.PIPE_OWNER_PENDING.i n), x.staged with
  | true, _ => { code := 0x48, dev := d }
  | false, none => { code := 0x4C, dev := d }
  | false, some lay =>
    let a := d.layoutAlloc n lay
    match d.layoutLimit n lay a with
    | some (c, w, need, have_) => { code := 0x4B, pay := [c + w * 256, need, have_], dev := d }
    | none =>
      let front := !x.front
      let used := (a.map.filter (fun e => e.2 != 0)).map (fun e => e.2 - 1)
      let gone := allLayers.filter (fun l => !used.contains l && d.svcLayer n l)
      let d1 := ((d.overlayFit n front).layoutProof n lay a.map front)
      let r := d1.fwCommit (.pipe n :: (allLayers.filter (fun l => used.contains l || gone.contains l)).map BlkId.layer)
      match r.1 with
      | some e => { code := 0x4B, pay := [e.code + limitWindow a.map e * 256, e.needed, e.avail], dev := r.2.2 }
      | none =>
        let d2 := r.2.2.putSvc n { r.2.2.svcOf n with staged := none, layout := lay, layers := a.map, front := front,
                                                         bars := [] }
        let d3 := d2.drawLayout n lay front
        { pay := [r.2.1, d3.rg F.FETCH_HEADROOM_MBPS, d3.freeBlocks.length, used.length + (lay.filter winEn).length * 256],
          dev := d3 }

/-- R423: a pipe and a window. -/
def badGet (p : List Nat) : Bool := badPipe p || 64 ≤ prm p 1

/-- LAYOUT_GET (R423): an empty entry reads as a removed window.
    Log 16 (DESIGN CHOICE, unsafe). -/
def opLayoutGet (p : List Nat) (d : Dev) : Ans :=
  let n := prm p 0
  if !d.fl (F.PIPE_OWNER_OWNER.i n) then { code := 0x49, dev := d }
  else
    let w := (d.svcOf n).layout.getD (prm p 1) []
    { pay := if w.isEmpty then (prm p 1 + n * 256) :: List.replicate 29 0 else w.map (·.toNat), dev := d }

/-- R423: an atlas and a SID.
    Log 29 (DESIGN CHOICE, unsafe). -/
def badAtlas (p : List Nat) : Bool := 4 ≤ prm p 0 || 16384 ≤ prm p 1

/-- ATLAS_SET (R423, R431). -/
def opAtlasSet (p : List Nat) (d : Dev) : Ans :=
  if (d.surfAt (prm p 1)).st = .free then { code := 0x03, dev := d }
  else
    let a : Atlas := ⟨prm p 1, bits (prm p 2) 0 8, bits (prm p 2) 8 8, bits (prm p 2) 16 8, bits (prm p 2) 24 2⟩
    { dev := { d with hearth := { d.hearth with atlases := Tab.put (fun _ => none) d.hearth.atlases (prm p 0) (some a) } } }

/-- R423: an address aligned to 4 bytes below 2⁴⁰, and 1 to 1,024 entries.
    Log 29 (DESIGN CHOICE, unsafe). -/
def badMeters (p : List Nat) : Bool := prm p 0 % 4 != 0 || 256 ≤ prm p 1 || !within 1 1024 (prm p 2)

/-- METER_TABLE_SET (R429, R431). -/
def opMeterTableSet (p : List Nat) (d : Dev) : Ans :=
  let m : Meters := {
    addr := prm2 p 0, entries := prm p 2, colours := [prm p 3, prm p 4, prm p 5].map (BitVec.ofNat 32)
    mid := prm p 6 % 65536, high := prm p 6 / 65536 }
  if d.usableBytes < m.addr + 4 * m.entries then { code := 0x07, dev := d }
  else { dev := { d with hearth := { d.hearth with meters := m } } }

/-- R423: 1 to 56 entries, as many as the packet carries.
    Log 29 (DESIGN CHOICE, unsafe). -/
def badMeterWrite (p : List Nat) : Bool := !within 1 56 (bits (prm p 0) 16 6) || p.length != bits (prm p 0) 16 6 + 1

/-- METER_WRITE (R429): entries of the table are written; words beyond it are not entries.
    Log 16 (DESIGN CHOICE, unsafe). -/
def opMeterWrite (p : List Nat) (d : Dev) : Ans :=
  let first := prm p 0 % 1024
  let m := d.hearth.meters
  { dev := Dev.each (fun (x : Nat × Nat) d =>
      if first + x.2 < m.entries then
        (d.store (m.addr + 4 * (first + x.2)) (leBytes 4 x.1)).noteWrite true (m.addr + 4 * (first + x.2)) 4
      else d) ((p.drop 1).zip (List.range 56)) d }

/-! ### Group 0x03 -/

/-- PIPE_STATUS (R423): the line a running raster is at is open. -/
def opPipeStatus (p : List Nat) (d : Dev) : Ans :=
  let n := prm p 0
  let e := d.lineShow n
  { pay := [e.payWord (F.PIPE_TG_STATUS_RUNNING.i n), d.payWord (F.PIPE_COMMIT_STATUS_ARMED.i n), d.payWord (F.PIPE_OWNER_OWNER.i n),
      d.payWord (F.PIPE_REST_STATUS_STATE.i n), d.payWord (F.PIPE_GENLOCK_STATUS_STATE.i n),
      d.payWord (F.PIPE_COMMIT_SEQ_ACTIVE_SEQ.i n)], dev := e }

/-- P0 is a port. -/
def badPort (p : List Nat) : Bool := 6 ≤ prm p 0

/-- P0 is a DisplayPort port. -/
def badDp (p : List Nat) : Bool := 4 ≤ prm p 0

/-- PORT_STATUS (R423); a DSI port has no sink or HDCP register. -/
def opPortStatus (p : List Nat) (d : Dev) : Ans :=
  let s := prm p 0
  { pay := if s < 4 then [d.payWord (F.DP_STATUS_PLUGGED.i s), d.payWord (F.DP_SINK_A_MAX_RATE.i s),
        d.payWord (F.DP_SINK_B_DSC_MAX_SLICES.i s), d.payWord (F.DP_HDCP_STATE.i s)]
      else [d.payWord (F.DSI_STATUS_READY.i (s - 4)), 0, 0, 0], dev := d }

/-- Bytes as payload words, padded with 0. -/
def padWords (bs : List Byte) : List Nat := wordsLe ((bs.length + 3) / 4) bs

/-- R423: a DisplayPort port, a space, and 1 to 224 bytes.
    Log 29 (DESIGN CHOICE, unsafe). -/
def badSinkRead (p : List Nat) : Bool := badDp p || bits (prm p 1) 0 2 == 3 || !within 1 224 (bits (prm p 1) 16 8)

/-- SINK_READ (R423): what the sink answered comes from outside. -/
def opSinkRead (seen : Option (List Byte)) (p : List Nat) (d : Dev) : Ans :=
  if !d.fl (F.DP_STATUS_PLUGGED.i (prm p 0)) then { code := 0x4D, dev := d }
  else match seen with
    | none => { code := 0x4E, dev := d }
    | some bs =>
      let n := bits (prm p 1) 16 8
      { pay := padWords ((bs ++ List.replicate n 0).take n), dev := d }

/-- R423: a DisplayPort port, 1 to 16 bytes, as many words as they need.
    Log 29 (DESIGN CHOICE, unsafe). -/
def badDpcdWrite (p : List Nat) : Bool :=
  badDp p || !within 1 16 (bits (prm p 1) 16 8) || p.length != 2 + ceilDiv (bits (prm p 1) 16 8) 4

/-- DPCD_WRITE (R423): the write goes to the sink. -/
def opDpcdWrite (acked : Bool) (p : List Nat) (d : Dev) : Ans :=
  { code := if !d.fl (F.DP_STATUS_PLUGGED.i (prm p 0)) then 0x4D else if acked then 0 else 0x4E, dev := d }

/-- HDCP_TOPOLOGY (R423, R431).
    Log 30 (DESIGN CHOICE, unsafe). -/
def opHdcpTopology (seen : Option (List Word)) (p : List Nat) (d : Dev) : Ans :=
  if !d.fl (F.DP_STATUS_PLUGGED.i (prm p 0)) then { code := 0x4D, dev := d }
  else if d.rg (F.DP_HDCP_STATE.i (prm p 0)) ≠ 2 then { code := 0x4F, dev := d }
  else match seen with
    | none => { code := 0x4F, dev := d }
    | some ws => { pay := (ws.map (·.toNat)).take 60, dev := d }

/-- PIPE_RESET (R423, R472). -/
def opPipeReset (p : List Nat) (d : Dev) : Ans := { dev := d.pipeReset 1 (prm p 0) }

/-- R423: DSI_0 or DSI_1, at most 16 bytes; a write carries them.
    Log 29 (DESIGN CHOICE, unsafe). -/
def badDsiDcs (p : List Nat) : Bool :=
  !within 4 5 (prm p 0) || 16 < bits (prm p 1) 16 8
    || p.length != 2 + (if bit (prm p 1) 31 then 0 else ceilDiv (bits (prm p 1) 16 8) 4)

/-- DSI_DCS (R423): what the panel answered comes from outside. -/
def opDsiDcs (seen : Option (List Byte)) (p : List Nat) (d : Dev) : Ans :=
  if !d.fl (F.DSI_STATUS_READY.i (prm p 0 - 4)) then { code := 0x4D, dev := d }
  else match seen with
    | none => { code := 0x4E, dev := d }
    | some bs =>
      let n := bits (prm p 1) 16 8
      { pay := if bit (prm p 1) 31 then padWords ((bs ++ List.replicate n 0).take n) else [], dev := d }

/-- PIPE_TIMING_SET (R427, R428, R430). -/
def opPipeTimingSet (p : List Nat) (d : Dev) : Ans :=
  let n := prm p 0
  let word := fun (k : Nat) (f : Fld) => View.g (fun _ => BitVec.ofNat 32 (prm p k)) (f.i n)
  let ws := (p.drop 1).map (BitVec.ofNat 32)
  match d.serviceRefused n with
  | some c => { code := c, dev := d }
  | none =>
    if (d.svcOf n).size < 16 * word 2 F.PIPE_HTIMING_A_HACTIVE * word 4 F.PIPE_VTIMING_A_VACTIVE then { code := 0x07, dev := d }
    else
      let d1 := d.timingProof n ws
      let r := d1.fwCommit (d1.timingBlocks n)
      match r.1 with
      | some e => { code := 0x4B, pay := [e.code + 0xFF00, e.needed, e.avail], dev := r.2.2 }
      | none => { pay := [r.2.1], dev := r.2.2.putSvc n { r.2.2.svcOf n with timing := ws } }

/-! ### The commands -/

/-- DEVICE_INFO. -/
def execDeviceInfo (tr : Tr) (seq : BitVec 16) (ps : List Word) (s : State) : Host.Outcome State Fault Refusal :=
  s.run (icpRun 0x0000 noBad opDeviceInfo tr seq ps)

/-- HEARTBEAT. -/
def execHeartbeat (tr : Tr) (seq : BitVec 16) (ps : List Word) (s : State) : Host.Outcome State Fault Refusal :=
  s.run (icpRun 0x0001 badHeartbeat opHeartbeat tr seq ps)

/-- ACK_ATTENTION. -/
def execAckAttention (tr : Tr) (seq : BitVec 16) (ps : List Word) (s : State) : Host.Outcome State Fault Refusal :=
  s.run (icpRun 0x0002 noBad opAckAttention tr seq ps)

/-- GET_STATUS. -/
def execGetStatus (tr : Tr) (seq : BitVec 16) (ps : List Word) (s : State) : Host.Outcome State Fault Refusal :=
  s.run (icpRun 0x0003 noBad opGetStatus tr seq ps)

/-- CLAIM_CONTROL. -/
def execClaimControl (tr : Tr) (seq : BitVec 16) (ps : List Word) (s : State) : Host.Outcome State Fault Refusal :=
  s.run (icpRun 0x0004 noBad (opClaimControl tr) tr seq ps)

/-- RELEASE_CONTROL. -/
def execReleaseControl (tr : Tr) (seq : BitVec 16) (ps : List Word) (s : State) : Host.Outcome State Fault Refusal :=
  s.run (icpRun 0x0005 noBad opReleaseControl tr seq ps)

/-- SOFT_RESET. -/
def execSoftReset (tr : Tr) (seq : BitVec 16) (ps : List Word) (s : State) : Host.Outcome State Fault Refusal :=
  s.run (icpRun 0x0006 noBad opSoftReset tr seq ps)

/-- SHUTDOWN. -/
def execShutdown (tr : Tr) (seq : BitVec 16) (ps : List Word) (s : State) : Host.Outcome State Fault Refusal :=
  s.run (icpRun 0x0007 noBad opShutdown tr seq ps)

/-- POWER_STATE. -/
def execPowerState (tr : Tr) (seq : BitVec 16) (ps : List Word) (s : State) : Host.Outcome State Fault Refusal :=
  s.run (icpRun 0x0008 noBad opPowerState tr seq ps)

/-- SURF_REGISTER. -/
def execSurfRegister (tr : Tr) (seq : BitVec 16) (ps : List Word) (s : State) : Host.Outcome State Fault Refusal :=
  s.run (icpRun 0x0100 noBad opSurfRegister tr seq ps)

/-- SURF_UNREGISTER. -/
def execSurfUnregister (tr : Tr) (seq : BitVec 16) (ps : List Word) (s : State) : Host.Outcome State Fault Refusal :=
  s.run (icpRun 0x0101 badSid opSurfUnregister tr seq ps)

/-- SURF_CLEAR_TORN. -/
def execSurfClearTorn (tr : Tr) (seq : BitVec 16) (ps : List Word) (s : State) : Host.Outcome State Fault Refusal :=
  s.run (icpRun 0x0102 badSid opSurfClearTorn tr seq ps)

/-- SURF_QUERY. -/
def execSurfQuery (tr : Tr) (seq : BitVec 16) (ps : List Word) (s : State) : Host.Outcome State Fault Refusal :=
  s.run (icpRun 0x0103 badSid opSurfQuery tr seq ps)

/-- SURF_SEAL_STATUS. -/
def execSurfSealStatus (tr : Tr) (seq : BitVec 16) (ps : List Word) (s : State) : Host.Outcome State Fault Refusal :=
  s.run (icpRun 0x0104 noBad opSurfSealStatus tr seq ps)

/-- FENCE_ALLOC. -/
def execFenceAlloc (tr : Tr) (seq : BitVec 16) (ps : List Word) (s : State) : Host.Outcome State Fault Refusal :=
  s.run (icpRun 0x0110 noBad opFenceAlloc tr seq ps)

/-- FENCE_FREE. -/
def execFenceFree (tr : Tr) (seq : BitVec 16) (ps : List Word) (s : State) : Host.Outcome State Fault Refusal :=
  s.run (icpRun 0x0111 badFid opFenceFree tr seq ps)

/-- FENCE_SIGNAL. -/
def execFenceSignal (tr : Tr) (seq : BitVec 16) (ps : List Word) (s : State) : Host.Outcome State Fault Refusal :=
  s.run (icpRun 0x0112 badFid opFenceSignal tr seq ps)

/-- FENCE_READ. -/
def execFenceRead (tr : Tr) (seq : BitVec 16) (ps : List Word) (s : State) : Host.Outcome State Fault Refusal :=
  s.run (icpRun 0x0113 badFid opFenceRead tr seq ps)

/-- PIPE_HANDOVER. -/
def execPipeHandover (tr : Tr) (seq : BitVec 16) (ps : List Word) (s : State) : Host.Outcome State Fault Refusal :=
  s.run (icpRun 0x0200 badHandover opPipeHandover tr seq ps)

/-- PIPE_RECLAIM. -/
def execPipeReclaim (tr : Tr) (seq : BitVec 16) (ps : List Word) (s : State) : Host.Outcome State Fault Refusal :=
  s.run (icpRun 0x0201 badPipe opPipeReclaim tr seq ps)

/-- LAYOUT_BEGIN. -/
def execLayoutBegin (tr : Tr) (seq : BitVec 16) (ps : List Word) (s : State) : Host.Outcome State Fault Refusal :=
  s.run (icpRun 0x0202 noBad opLayoutBegin tr seq ps)

/-- LAYOUT_WINDOW. -/
def execLayoutWindow (tr : Tr) (seq : BitVec 16) (ps : List Word) (s : State) : Host.Outcome State Fault Refusal :=
  s.run (icpRun 0x0203 badWindow opLayoutWindow tr seq ps)

/-- LAYOUT_SET. -/
def execLayoutSet (tr : Tr) (seq : BitVec 16) (ps : List Word) (s : State) : Host.Outcome State Fault Refusal :=
  s.run (icpRun 0x0204 badPipe opLayoutSet tr seq ps)

/-- LAYOUT_GET. -/
def execLayoutGet (tr : Tr) (seq : BitVec 16) (ps : List Word) (s : State) : Host.Outcome State Fault Refusal :=
  s.run (icpRun 0x0205 badGet opLayoutGet tr seq ps)

/-- ATLAS_SET. -/
def execAtlasSet (tr : Tr) (seq : BitVec 16) (ps : List Word) (s : State) : Host.Outcome State Fault Refusal :=
  s.run (icpRun 0x0210 badAtlas opAtlasSet tr seq ps)

/-- METER_TABLE_SET. -/
def execMeterTableSet (tr : Tr) (seq : BitVec 16) (ps : List Word) (s : State) : Host.Outcome State Fault Refusal :=
  s.run (icpRun 0x0211 badMeters opMeterTableSet tr seq ps)

/-- METER_WRITE. -/
def execMeterWrite (tr : Tr) (seq : BitVec 16) (ps : List Word) (s : State) : Host.Outcome State Fault Refusal :=
  s.run (icpRun 0x0212 badMeterWrite opMeterWrite tr seq ps)

/-- PIPE_STATUS. -/
def execPipeStatus (tr : Tr) (seq : BitVec 16) (ps : List Word) (s : State) : Host.Outcome State Fault Refusal :=
  s.run (icpRun 0x0300 badPipe opPipeStatus tr seq ps)

/-- PORT_STATUS. -/
def execPortStatus (tr : Tr) (seq : BitVec 16) (ps : List Word) (s : State) : Host.Outcome State Fault Refusal :=
  s.run (icpRun 0x0301 badPort opPortStatus tr seq ps)

/-- SINK_READ. -/
def execSinkRead (tr : Tr) (seq : BitVec 16) (ps : List Word) (seen : Option (List Byte)) (s : State) :
    Host.Outcome State Fault Refusal := s.run (icpRun 0x0302 badSinkRead (opSinkRead seen) tr seq ps)

/-- DPCD_WRITE. -/
def execDpcdWrite (tr : Tr) (seq : BitVec 16) (ps : List Word) (acked : Bool) (s : State) :
    Host.Outcome State Fault Refusal := s.run (icpRun 0x0303 badDpcdWrite (opDpcdWrite acked) tr seq ps)

/-- HDCP_TOPOLOGY. -/
def execHdcpTopology (tr : Tr) (seq : BitVec 16) (ps : List Word) (seen : Option (List Word)) (s : State) :
    Host.Outcome State Fault Refusal := s.run (icpRun 0x0304 badDp (opHdcpTopology seen) tr seq ps)

/-- PIPE_RESET. -/
def execPipeReset (tr : Tr) (seq : BitVec 16) (ps : List Word) (s : State) : Host.Outcome State Fault Refusal :=
  s.run (icpRun 0x0305 badPipe opPipeReset tr seq ps)

/-- DSI_DCS. -/
def execDsiDcs (tr : Tr) (seq : BitVec 16) (ps : List Word) (seen : Option (List Byte)) (s : State) :
    Host.Outcome State Fault Refusal := s.run (icpRun 0x0306 badDsiDcs (opDsiDcs seen) tr seq ps)

/-- PIPE_TIMING_SET. -/
def execPipeTimingSet (tr : Tr) (seq : BitVec 16) (ps : List Word) (s : State) : Host.Outcome State Fault Refusal :=
  s.run (icpRun 0x0307 badPipe opPipeTimingSet tr seq ps)

end Sys2Proof.Machine
end

