-- ==== Sys2Proof/Machine/Security.lean ====
section
/-! DEFINITION.  The opcodes of groups 0x04 to 0x06 (R423): sensors, the log, the health record, margins, firmware update and
    self-test; the ends of slices (R499 to R501, R505, R506); the debug port and structural scan (R513 to R516). -/

namespace Sys2Proof.Machine

/-! ### Group 0x04 -/

/-- R436, R437: how many sensors a kind has. -/
def sensorCount : Nat → Nat
  | 0 => 16 | 1 => 24 | 2 => 48 | 3 => 16 | _ => 0

/-- R437: the word of a DRAM channel: VALID once a report has come since the start, and not for a fenced channel.
    Log 50 (DESIGN CHOICE, unsafe). -/
def Dev.dramWord (d : Dev) (n : Nat) : Nat :=
  let seen := (List.range 4).any (fun m => (Tab.get (fun _ => none) d.hearth.refSeen m).isSome)
  if seen && !d.fl (F.CH_STATUS_FENCED.i n) then 2 ^ 31 + n * 65536 + d.rg (F.CH_STATUS_TEMP.i n) else 0

/-- R437: a sensor word. -/
def Dev.sensorAt (d : Dev) (kind k : Nat) : Nat :=
  match kind with
  | 0 => d.rg (F.SENSOR_THERM_WORD.i k)
  | 1 => d.rg (F.SENSOR_DROOP_WORD.i k)
  | 2 => d.rg (F.SENSOR_AGE_WORD.i k)
  | _ => d.dramWord k

/-- R423, R437: a kind, 1 to 48 sensors, none beyond the last. -/
def badSensorRead (p : List Nat) : Bool :=
  let n := bits (prm p 0) 16 8
  !within 1 48 n || sensorCount (bits (prm p 0) 0 8) < bits (prm p 0) 8 8 + n

/-- SENSOR_READ (R437). -/
def opSensorRead (p : List Nat) (d : Dev) : Ans :=
  { pay := (List.range (bits (prm p 0) 16 8)).map (fun k => d.sensorAt (bits (prm p 0) 0 8) (bits (prm p 0) 8 8 + k)), dev := d }

/-- The entry of the log ring with an index. -/
def Dev.logAt (d : Dev) (index : Nat) : Option LogEntry := Tab.get (fun _ => none) d.log (index % 65536)

/-- R438: the index of the newest entry. -/
def Dev.logNewest (d : Dev) : Nat := subMod 32 d.logNext 1

/-- R438: the index of the oldest entry in the ring. -/
def Dev.logOldest (d : Dev) : Nat := if (d.logAt d.logNext).isSome then subMod 32 d.logNext 65536 else 0

/-- LOG_INFO (R423).
    Log 30 (DESIGN CHOICE, unsafe). -/
def opLogInfo (_ : List Nat) (d : Dev) : Ans := { pay := [d.logOldest, d.logNewest, d.logOverwritten], dev := d }

/-- R438: the words of an entry. -/
def LogEntry.words (e : LogEntry) (index : Nat) : List Nat :=
  [index, e.time % 2 ^ 32, e.severity * 2 ^ 28 + e.source * 2 ^ 16 + e.event, e.detail.toNat]

/-- R423: 1 to 14 entries. -/
def badLogRead (p : List Nat) : Bool := !within 1 14 (prm p 1)

/-- LOG_READ (R438): entries from the first on, as far as there are any.
    Log 30 (DESIGN CHOICE, unsafe). -/
def opLogRead (p : List Nat) (d : Dev) : Ans :=
  let back := subMod 32 d.logNewest (prm p 0)
  match d.logAt (prm p 0) with
  | none => { code := 0x03, dev := d }
  | some _ =>
    if 65535 < back then { code := 0x03, dev := d }
    else
      { pay := (List.range (min (prm p 1) (back + 1))).flatMap (fun k =>
          let i := (prm p 0 + k) % 2 ^ 32
          match d.logAt i with
          | some e => e.words i
          | none => []), dev := d }

/-- R423, R507: 1 to 56 words of the 221. -/
def badHealthRead (p : List Nat) : Bool := !within 1 56 (prm p 1) || 221 < prm p 0 + prm p 1

/-- HEALTH_READ (R507): words of the copy in use.
    Log 30 (DESIGN CHOICE, unsafe). -/
def opHealthRead (p : List Nat) (d : Dev) : Ans :=
  let c := d.hearth.healthCopy.getD 0
  { pay := (List.range (prm p 1)).map (fun k => d.mramWord (healthBase c + 4 * (prm p 0 + k))), dev := d }

/-- MARGIN_READ (R454, R460). -/
def opMarginRead (_ : List Nat) (d : Dev) : Ans :=
  { pay := (List.range 4).map (fun k => (d.unV (F.LEAVEN_MARGIN_MARGIN_LO.i k).off).toNat) ++ [d.rg F.LEAVEN_STATUS_REPLANS],
    dev := d }

/-! ### Group 0x05 -/

/-- FW_INFO (R441, R443). -/
def opFwInfo (_ : List Nat) (d : Dev) : Ans :=
  let run := match d.runningSlot with
    | some s => s * 512
    | none => 1024
  { pay := [d.mramWord (slotBase 0 + 4), d.mramWord (slotBase 1 + 4),
      d.slotSt 0 + d.slotSt 1 * 16 + d.hearth.selected * 256 + run + d.hearth.cfgState * 4096, d.rg F.SECURE_KEYS_ROLLBACK],
    dev := d }

/-- FW_BEGIN (R442, R445). -/
def opFwBegin (p : List Nat) (d : Dev) : Ans :=
  let c := d.fwBeginCode (prm p 0) (prm p 1)
  { code := c, dev := if c = 0 then d.fwBeginDo (prm p 0) (prm p 1) else d }

/-- FW_CHUNK (R442). -/
def opFwChunk (p : List Nat) (d : Dev) : Ans :=
  match d.fwChunkDo (prm p 0) ((p.drop 1).flatMap (leBytes 4)) with
  | some x => { dev := x }
  | none => { code := 0x51, dev := d }

/-- P0 is a slot. -/
def badSlot (p : List Nat) : Bool := 3 ≤ prm p 0

/-- FW_COMMIT (R442, R445, R511). -/
def opFwCommit (p : List Nat) (d : Dev) : Ans :=
  let r := d.fwCommitDo (prm p 0)
  { code := r.1, dev := r.2 }

/-- FW_ACTIVATE (R442). -/
def opFwActivate (p : List Nat) (d : Dev) : Ans :=
  let r := d.fwActivateDo (prm p 0)
  { code := r.1, dev := r.2 }

/-! ### Group 0x06: self-test -/

/-- P0 names a slice. -/
def badSlice (p : List Nat) : Bool := !isSlice (prm p 0)

/-- R505: a slice that may not run on demand now. -/
def Dev.sliceRefused (d : Dev) (s : Nat) : Bool :=
  let busy := fun (v : View) => if s ≤ 5 then pipes.any (fun p => tgEn v p && portSel v p == s)
    else within 0x24 0x27 s && tgEn v (s - 0x24)
  d.rg F.HEARTH_STATE_STATE != 1 || d.fl F.SECURE_ST_STATUS_RUNNING || s == pcieSlice || within 0x10 0x22 s
    || busy d.acV || busy d.arV

/-- SELFTEST_RUN (R505): the slice starts; the reply follows at its end.
    Log 30 (DESIGN CHOICE, unsafe). -/
def opSelftestRun (p : List Nat) (d : Dev) : Ans :=
  if d.sliceRefused (prm p 0) then { code := 0x57, dev := d }
  else { dev := d.sliceStart true (prm p 0), later := true }

/-- SELFTEST_RESULT (R508).
    Log 30 (DESIGN CHOICE, unsafe). -/
def opSelftestResult (p : List Nat) (d : Dev) : Ans := { pay := (d.sliceEntry (prm p 0)).take 3, dev := d }

/-- R505, R506: the slice on demand ends: its result is recorded and answered, and HPD events that waited follow. -/
def Dev.demandEnd (d : Dev) (x : SliceSeen) : Dev :=
  let s := d.rg F.SECURE_ST_STATUS_SLICE
  let d1 := (d.recordSlice 2 s x).sliceOff
  let asker := d1.test.asker
  let d2 := { d1 with test := { d1.test with asker := none } }
  let d3 := match asker with
    | some (tr, op, q) => d2.answer tr op q [BitVec.ofNat 32 s] true 0 [(verdict x).1, x.count.toNat, x.signature.toNat]
    | none => d2
  d3.hpdFlush.shutGo

/-- R500, R501: a slice of the shut-down test ends; after the last SHUTDOWN goes on. -/
def Dev.testEnd (d : Dev) (x : SliceSeen) : Dev :=
  let r := d.testSlice x
  if r.2 then r.1 else r.1.testOver

/-- The running slice ends. -/
def Dev.sliceOver (d : Dev) (x : SliceSeen) : Dev :=
  if d.testing then d.testEnd x
  else if d.fl F.SECURE_ST_STATUS_RUNNING then d.demandEnd x
  else d

/-- SLICE_END (R499). -/
def sliceEnd (x : SliceSeen) (d : Dev) : Dev := d.sliceOver x

/-- SLICE_BUDGET_EXPIRY (R500): the budget ends before the slice has completed its count.
    Log 56 (DESIGN CHOICE, unsafe). -/
def sliceBudgetExpiry (x : SliceSeen) (d : Dev) : Dev :=
  if x.count.toNat < x.expCount.toNat then
    d.sliceOver { x with micros := d.budgetUs (d.rg F.SECURE_ST_STATUS_SLICE) }
  else d

/-! ### The debug port -/

/-- R513: requests to open the debug port are disabled. -/
def Dev.debugOff (d : Dev) : Bool := d.fl F.SYS_LOCKDOWN_DEBUG_REQ_DISABLE || 3 ≤ d.rg F.SECURE_DEBUG_DENIED_COUNT

/-- DEBUG_CHALLENGE (R513): the nonce is random.
    Log 57 (DESIGN CHOICE, unsafe). -/
def opDebugChallenge (_ : List Nat) (d : Dev) : Ans :=
  if d.debugOff then { code := 0x55, dev := d }
  else
    let nonce := (List.range 8).map (fun k => Config.freeNat (d.free + k) % 2 ^ 32)
    let c := nonce ++ [d.payWord F.SYS_ID_GRADE, (Config.deviceId 0).toNat, (Config.deviceId 1).toNat,
      d.rg F.SECURE_DEBUG_DENIED_COUNT]
    { pay := c, dev := { d with free := d.free + 8, challenge := some (c.map (BitVec.ofNat 32)) } }

/-- R514 steps 1 to 4: what an opening takes away from the keys. -/
def Dev.keysOff (d : Dev) : Dev :=
  let d1 := Dev.each (fun s d => (d.dn (F.DP_HDCP_ENCRYPTING.i s)).hdcpTo s 4) [0, 1, 2, 3] d
  ((d1.sg F.SECURE_KEYS_HDCP_KEYS 3).up F.SECURE_KEYS_FUSE_PATH_OFF).up F.SECURE_DEBUG_OPENED

/-- R514: an accepted opening.
    Log 57 (DESIGN CHOICE, unsafe). -/
def Dev.debugOpen (d : Dev) : Dev := ((d.keysOff.up F.SECURE_DEBUG_PORT_OPEN).logSev 5).attn .security

/-- DEBUG_OPEN (R513, R514). -/
def opDebugOpen (p : List Nat) (d : Dev) : Ans :=
  if d.debugOff then { code := 0x55, dev := d }
  else
    let d1 := { d with challenge := none }
    let ok : Bool := match d.challenge with
      | some c => Config.verifyDebug (sha384 (c.flatMap (fun w => leBytes 4 w.toNat))) (p.flatMap (leBytes 4))
      | none => false
    if ok then { dev := d1.debugOpen }
    else { code := 0x56, dev := (d1.incSat F.SECURE_DEBUG_DENIED_COUNT).attn .security }

/-- DEBUG_CHALLENGE_EXPIRY (R513): 60 s after the challenge.
    Log 57 (DESIGN CHOICE, unsafe). -/
def debugChallengeExpiry (d : Dev) : Dev := { d with challenge := none }

/-- R515: structural scan: every port stops, the pixel SRAMs clear, and nothing but a cold power-on follows.
    Log 57 (DESIGN CHOICE, unsafe). -/
def Dev.scanEnter (d : Dev) : Dev :=
  let d1 := d.keysOff.cutAll.portsOff
  let zero := fun (l : List Nat) => l.map (fun _ => 0)
  { d1 with
    tmRam := Tab.mapEntries (fun _ => []) (fun _ l => zero l) d1.tmRam
    lutRam := Tab.mapEntries (fun _ => []) (fun _ l => zero l) d1.lutRam
    power := { d1.power with scan := true } }

/-- R515: a write of SECURE_DEBUG reaches the register. -/
def scanReq (w : Word) (d : Dev) : Dev :=
  if !View.on (fun _ => w) F.SECURE_DEBUG_SCAN_REQ then d
  else if d.fl F.SECURE_DEBUG_PORT_OPEN then d.scanEnter
  else d.up F.SECURE_DEBUG_SCAN_REFUSED

/-! ### The commands -/

/-- SENSOR_READ. -/
def execSensorRead (tr : Tr) (seq : BitVec 16) (ps : List Word) (s : State) : Host.Outcome State Fault Refusal :=
  s.run (icpRun 0x0400 badSensorRead opSensorRead tr seq ps)

/-- LOG_INFO. -/
def execLogInfo (tr : Tr) (seq : BitVec 16) (ps : List Word) (s : State) : Host.Outcome State Fault Refusal :=
  s.run (icpRun 0x0401 noBad opLogInfo tr seq ps)

/-- LOG_READ. -/
def execLogRead (tr : Tr) (seq : BitVec 16) (ps : List Word) (s : State) : Host.Outcome State Fault Refusal :=
  s.run (icpRun 0x0402 badLogRead opLogRead tr seq ps)

/-- HEALTH_READ. -/
def execHealthRead (tr : Tr) (seq : BitVec 16) (ps : List Word) (s : State) : Host.Outcome State Fault Refusal :=
  s.run (icpRun 0x0403 badHealthRead opHealthRead tr seq ps)

/-- MARGIN_READ. -/
def execMarginRead (tr : Tr) (seq : BitVec 16) (ps : List Word) (s : State) : Host.Outcome State Fault Refusal :=
  s.run (icpRun 0x0404 noBad opMarginRead tr seq ps)

/-- FW_INFO. -/
def execFwInfo (tr : Tr) (seq : BitVec 16) (ps : List Word) (s : State) : Host.Outcome State Fault Refusal :=
  s.run (icpRun 0x0500 noBad opFwInfo tr seq ps)

/-- FW_BEGIN. -/
def execFwBegin (tr : Tr) (seq : BitVec 16) (ps : List Word) (s : State) : Host.Outcome State Fault Refusal :=
  s.run (icpRun 0x0501 noBad opFwBegin tr seq ps)

/-- FW_CHUNK. -/
def execFwChunk (tr : Tr) (seq : BitVec 16) (ps : List Word) (s : State) : Host.Outcome State Fault Refusal :=
  s.run (icpRun 0x0502 noBad opFwChunk tr seq ps)

/-- FW_COMMIT. -/
def execFwCommit (tr : Tr) (seq : BitVec 16) (ps : List Word) (s : State) : Host.Outcome State Fault Refusal :=
  s.run (icpRun 0x0503 badSlot opFwCommit tr seq ps)

/-- FW_ACTIVATE. -/
def execFwActivate (tr : Tr) (seq : BitVec 16) (ps : List Word) (s : State) : Host.Outcome State Fault Refusal :=
  s.run (icpRun 0x0504 badSlot opFwActivate tr seq ps)

/-- SELFTEST_RUN. -/
def execSelftestRun (tr : Tr) (seq : BitVec 16) (ps : List Word) (s : State) : Host.Outcome State Fault Refusal :=
  s.run (icpRun 0x0600 badSlice opSelftestRun tr seq ps)

/-- SELFTEST_RESULT. -/
def execSelftestResult (tr : Tr) (seq : BitVec 16) (ps : List Word) (s : State) : Host.Outcome State Fault Refusal :=
  s.run (icpRun 0x0601 badSlice opSelftestResult tr seq ps)

/-- DEBUG_CHALLENGE. -/
def execDebugChallenge (tr : Tr) (seq : BitVec 16) (ps : List Word) (s : State) : Host.Outcome State Fault Refusal :=
  s.run (icpRun 0x0610 noBad opDebugChallenge tr seq ps)

/-- DEBUG_OPEN. -/
def execDebugOpen (tr : Tr) (seq : BitVec 16) (ps : List Word) (s : State) : Host.Outcome State Fault Refusal :=
  s.run (icpRun 0x0611 noBad opDebugOpen tr seq ps)

/-- DEBUG_CHALLENGE_EXPIRY. -/
def execDebugChallengeExpiry (s : State) : Host.Outcome State Fault Refusal := s.run debugChallengeExpiry

/-- SLICE_END. -/
def execSliceEnd (seen : SliceSeen) (s : State) : Host.Outcome State Fault Refusal := s.run (sliceEnd seen)

/-- SLICE_BUDGET_EXPIRY. -/
def execSliceBudgetExpiry (seen : SliceSeen) (s : State) : Host.Outcome State Fault Refusal := s.run (sliceBudgetExpiry seen)

end Sys2Proof.Machine
end

