-- ==== Sys2Proof/Machine/Access.lean ====
section
/-! DEFINITION.  Register accesses: the window and its maps (R47, R48), unmapped offsets (R49), widths and alignment (R52),
    register pairs (R53), aliases (R54 to R57), posted areas (R58 to R60), key-guarded and write-once registers (R61 to
    R63), the bank views and ownership of frame-banked fields (R36, R84), captures and counts that clear (R544), the ring
    window (R415), and every command that is a register access. -/

namespace Sys2Proof.Machine

/-! ### Where and how wide (R47 to R52) -/

/-- R48: the primary-map ranges that hold registers. -/
def mapped (off : Nat) : Bool :=
  off < 0x30000 || within 0x40000 0x57FFF off || within 0x60000 0x9BFFF off || within 0xA0000 0x10FFFF off
    || within 0x800000 0x87FFFF off

/-- R52: how an access to a doubleword is classed by its byte enables. -/
inductive Width where
  | none | full | narrow | unaligned
  deriving DecidableEq, Repr

/-- R51, R52: the class of a pattern of byte enables. -/
def widthOf (be : Nat) : Width :=
  if be % 16 = 0 then .none
  else if be % 16 = 15 then .full
  else if [1, 2, 4, 8, 3, 12].contains (be % 16) then .narrow
  else .unaligned

/-- The bytes an access enables, lowest first. -/
def enabled (be : Nat) : List Nat := (List.range 4).filter (bit be)

/-- The window offset of the first enabled byte of the doubleword at `win`. -/
def firstByte (win be : Nat) : Nat := win / 4 * 4 + (enabled be).headD 0

/-- R47: the map a window offset lies in: 0 primary, 1 set, 2 clear, 3 toggle. -/
def mapOf (win : Nat) : Nat := win / 2 ^ 24 % 4

/-- R47: the primary-map offset of the doubleword at a window offset. -/
def primOf (win : Nat) : Nat := win % 2 ^ 24 / 4 * 4

/-- R47: what a write through a map makes of a value. -/
def combine (map : Nat) (old data : Word) : Word :=
  match map with
  | 0 => data
  | 1 => old ||| data
  | 2 => old &&& ~~~data
  | _ => old ^^^ data

/-- R53, R61, R117, R131, R241, R335: the registers that exist once per requester.
    Log 58 (DESIGN CHOICE, unsafe). -/
def perRequester (off : Nat) : Bool :=
  within 0x10 0x13 off || within 0x10000 0x1FFFF off || within 0x70020 0x70043 off || within 0xA0000 0xA003F off
    || within 0xE0000 0xE0027 off || within 0xE0040 0xE004F off

/-- The key of a register word as a requester reaches it.
    Log 58 (DESIGN CHOICE, unsafe). -/
def keyFor (q : Rq) (off : Nat) : Nat := if perRequester off then rqKey q off else off

/-! ### Posted areas (R58 to R60) -/

/-- R59: the posted area a primary-map offset lies in. -/
def areaOf (off : Nat) : Option Nat :=
  if within 0xF0000 0xF4FFF off then some ((off - 0xF0000) / 0x1000)
  else if within 0x88000 0x88FFF off then some 5
  else if within 0x90000 0x9BFFF off && (off - 0x90000) % 0x2000 / 0x1000 == 1 then some (6 + (off - 0x90000) / 0x2000)
  else none

/-- R60, R509: the area's port or the offset's channel is fenced off.
    Log 24 (DESIGN CHOICE, unsafe). -/
def Dev.areaOff (d : Dev) (a off : Nat) : Bool :=
  if a = 5 then bit (d.rg F.SECURE_FENCED_PAIRS) ((off - 0x88000) / 0x200)
  else if 6 ≤ a ∧ a < 10 then bit (d.rg F.SECURE_FENCED_DP) (a - 6)
  else if 10 ≤ a then bit (d.rg F.SECURE_FENCED_DSI) (a - 10)
  else false

/-- R58: a write to the area is in flight.
    Log 24 (DESIGN CHOICE, unsafe). -/
def Dev.areaBusy (d : Dev) (a : Nat) : Bool := d.posted.any (fun w => w.area == a && w.shown)

/-- R58, R60: a posted write is dropped.
    Log 24 (DESIGN CHOICE, unsafe). -/
def Dev.postedDrop (d : Dev) (q : Rq) (a : Nat) (off : Bool) (win : Nat) : Dev :=
  ((d.accErr q .postedDrop true win).sg F.SYS_POSTED_BUSY_DROP_AREA a).sg F.SYS_POSTED_BUSY_DROP_OFF (b2n off)

/-! ### Reading -/

/-- R84: the frame-banked fields of a word as a requester reads them. -/
def Dev.bankWord (d : Dev) (q : Rq) (off : Nat) : Word :=
  match d.rg (F.COMMIT_VIEW_BANK.rq q) with
  | 1 => d.arV off
  | 2 => d.acV off
  | _ => d.pfV off

/-- R194: a claim-table entry. -/
def Claim.word : Claim → Nat
  | .none => 0
  | .grant l s => l + s * 2 ^ 16 + 2 ^ 31
  | .quarantined => 2 ^ 30

/-- The word at a mapped primary-map offset: registers, and tables shown through registers (R123, R149, R194, R397). -/
def Dev.word (d : Dev) (q : Rq) (off : Nat) : Word :=
  if within 0x800000 0x87FFFF off then
    BitVec.ofNat 32 ((d.surfAt ((off - 0x800000) / 32)).word ((off - 0x800000) % 32 / 4))
  else if within 0xE8000 0xEFFFF off then
    let x := d.fenceAt ((off - 0xE8000) / 8)
    if x.alloc then BitVec.ofNat 32 (x.val.toNat / 2 ^ (if off % 8 = 4 then 32 else 0)) else 0
  else if within 0x61000 0x61FFF off then
    let b := (off - 0x61000) / 4
    BitVec.ofNat 32 (if b < d.rg F.LINESTORE_POOL_RESERVED && d.claimAt b == .none then 2 ^ 29 else (d.claimAt b).word)
  else if within 0xD0100 0xD02FF off && (off - 0xD0100) % 0x40 == 0x18 then
    BitVec.ofNat 32 (d.chk ((off - 0xD0100) / 0x40)).result
  else if within 0xD0100 0xD02FF off && (off - 0xD0100) % 0x40 == 0x10 then
    BitVec.ofNat 32 ((d.chk ((off - 0xD0100) / 0x40)).state % 2 ^ (d.chk ((off - 0xD0100) / 0x40)).alg.width)
  else d.unV (keyFor q off) ||| d.bankWord q off

/-- No latch, no held word.
    Log 22 (DESIGN CHOICE, unsafe). -/
def dfltLatch : Nat → Option Word := fun _ => none

/-- R53: the requester's latch of an upper word. -/
def Dev.setLatch (d : Dev) (q : Rq) (off : Nat) (u : Option Word) : Dev :=
  { d with latch := Tab.put dfltLatch d.latch (rqKey q off) u }

/-- R53: a read of a register word by a requester; through the primary map it takes or leaves a latch.
    Log 22 (DESIGN CHOICE, unsafe), 23 (DESIGN CHOICE, unsafe). -/
def Dev.readWord (d : Dev) (q : Rq) (al : Bool) (off : Nat) : Word × Dev :=
  let w := d.word q off
  match findReg off with
  | some (_, 1) =>
    (match Tab.get dfltLatch d.latch (rqKey q off) with
      | some u => if al then (u, d) else (u, d.setLatch q off none)
      | none => (w, d))
  | some (r, _) =>
    if r.pair && !al then
      (w, d.setLatch q (off + 4) (some (d.word q (off + 4))))
    else (w, d)
  | none => (w, d)

/-- The enabled bytes of a word. -/
def laneBytes (be : Nat) (w : Word) : List Byte := (enabled be).map (fun k => BitVec.ofNat 8 (w.toNat / 2 ^ (8 * k)))

/-- R49, R52, R57, R60: a read of the REG window whose posted area, if any, has nothing in flight. -/
def readNow (q : Rq) (win be : Nat) (d : Dev) : Dev :=
  let off := primOf win
  if !mapped off then (d.accErr q .unmapped false (firstByte win be)).send (.read q (laneBytes be 0))
  else if widthOf be = .unaligned then
    (d.accErr q .align false (firstByte win be)).send (.read q (laneBytes be (BitVec.allOnes 32)))
  else if (areaOf off).any (fun a => d.areaOff a off) then d.send (.read q (laneBytes be (BitVec.allOnes 32)))
  else
    let d := match firstWith (fun p => (F.PIPE_TG_STATUS_LINE.i p).off == off) pipes with
      | some p => d.lineShow p
      | none => d
    let r := d.readWord q (mapOf win != 0) off
    r.2.send (.read q (laneBytes be r.1))

/-- R58: a read of the REG window waits for its posted area.
    Log 21 (DESIGN CHOICE, unsafe). -/
def regRead (q : Rq) (win be : Nat) (d : Dev) : Dev :=
  if widthOf be = .none then d
  else
    match areaOf (primOf win) with
    | some a => if d.areaBusy a then { d with heldReads := d.heldReads ++ [⟨a, q, win, be⟩] } else readNow q win be d
    | none => readNow q win be d

/-! ### Writing the fields of a word -/

/-- The bits of a word that hold alias-writable fields (R54). -/
def aliasMask (r : Reg) (k : Nat) : Word := maskOf r k (fun f => f.acc == .rw || f.acc == .rws)

/-- The unbanked bits that a write stores: RW through any map, RWP, RWK and W1 by a direct write that reached them. -/
def storeMask (al : Bool) (r : Reg) (k : Nat) : Word :=
  maskOf r k (fun f => f.acc == .rw || (!al && (f.acc == .rwp || f.acc == .rwk || f.acc == .w1)))

/-- Flags with what a write of 1 to them clears besides: counts and captured fields. -/
def clearsWith : List (Fld × Fld) :=
  [(F.SYS_ACCESS_ERR_LOCK_VIOLATION, F.SYS_ACCESS_COUNT_LOCK_VIOLATIONS),
   (F.SYS_ACCESS_ADDR_VALID, F.SYS_ACCESS_ADDR_OFFSET), (F.SYS_ACCESS_ADDR_VALID, F.SYS_ACCESS_ADDR_CAUSE),
   (F.SYS_ACCESS_ADDR_VALID, F.SYS_ACCESS_ADDR_WRITE), (F.SYS_ACCESS_ADDR_VALID, F.SYS_ACCESS_COUNT_ERRORS),
   (F.SYS_PARITY_ADDR_VALID, F.SYS_PARITY_ADDR_OFFSET), (F.SYS_PARITY_ADDR_VALID, F.SYS_PARITY_ADDR_BANK),
   (F.SURF_ERR_SID_VALID, F.SURF_ERR_SID_SID), (F.FENCE_ERR_FID_VALID, F.FENCE_ERR_FID_FID),
   (F.PIPE_OWNER_OWNERSHIP_VIOLATION, F.PIPE_OWNER_VIOLATION_COUNT),
   (F.PIPE_COMMIT_STATUS_LATE, F.PIPE_COMMIT_COUNTS_LATE_COUNT),
   (F.PIPE_COMMIT_STATUS_SUPERSEDED, F.PIPE_COMMIT_COUNTS_SUPERSEDED_COUNT),
   (F.PIPE_COMMIT_STATUS_FLIP_HELD, F.PIPE_HOLD_COUNTS_HELD_COUNT),
   (F.PIPE_COMMIT_STATUS_FENCE_TIMEOUT, F.PIPE_HOLD_COUNTS_TIMEOUT_COUNT),
   (F.PIPE_GENLOCK_STATUS_REF_LOST, F.PIPE_GENLOCK_STATUS_LOSS_COUNT),
   (F.PIPE_TE_STATUS_TE_LOST, F.PIPE_TE_STATUS_LOST_FRAMES),
   (F.PIPE_WB_STATUS_DEST_FREE, F.PIPE_WB_STATUS_SKIP_COUNT),
   (F.PIPE_WB_STATUS_DEST_FREE, F.PIPE_WB_STATUS_LAST_RESULT),
   (F.PIPE_WB_STATUS_GUARD, F.PIPE_WB_STATUS_SKIP_COUNT),
   (F.PIPE_WB_STATUS_GUARD, F.PIPE_WB_STATUS_LAST_RESULT),
   (F.PIPE_WB_STATUS_PROT, F.PIPE_WB_STATUS_SKIP_COUNT),
   (F.PIPE_WB_STATUS_PROT, F.PIPE_WB_STATUS_LAST_RESULT),
   (F.PIPE_WB_STATUS_OVERFLOW, F.PIPE_WB_STATUS_SKIP_COUNT),
   (F.PIPE_WB_STATUS_OVERFLOW, F.PIPE_WB_STATUS_LAST_RESULT),
   (F.PIPE_UNDERRUN_STATUS_UNDERRUN, F.PIPE_UNDERRUN_STATUS_COUNT),
   (F.VL_FAULT_LAYER_FAULT, F.VL_FAULT_FAULT_COUNT), (F.VL_FAULT_LS_PARITY, F.VL_FAULT_PARITY_COUNT),
   (F.DP_STATUS_LINK_LOST, F.DP_STATUS_RETRAIN_COUNT), (F.DSI_STATUS_ERR_REPORT, F.DSI_STATUS_ERR_COUNT),
   (F.SCRAPER_BEAM_OVERTAKE, F.SCRAPER_BEAM_COUNT), (F.SQ_STATUS_ERR, F.SQ_STATUS_ERR_COUNT),
   (F.POWER_BROWNOUT_BROWNOUT_WARN, F.POWER_BROWNOUT_WARN_COUNT)]

/-- R11: a direct write of 1 clears W1C bits, with the counts and captured fields that go with them. -/
def Dev.w1c (d : Dev) (key off : Nat) (r : Reg) (k : Nat) (w : Word) : Dev :=
  let m := maskOf r k (fun f => f.acc == .w1c)
  let d1 := d.sgWord key (d.unV key &&& ~~~(m &&& w))
  Dev.each (fun (p : Fld × Fld) d =>
      if p.1.off == r.off + 4 * k && bits w.toNat p.1.lo p.1.len != 0 then d.dn { p.2 with off := p.2.off + (off - p.1.off) }
      else d) clearsWith d1

/-- R11: a direct write of a word's W1C bits alone. -/
def Dev.w1cAt (d : Dev) (off : Nat) (w : Word) : Dev :=
  match findReg off with
  | some (r, k) => d.w1c off off r k w
  | none => d

/-- R66: a 32-bit write restores the parity of a word.
    Log 26 (DESIGN CHOICE, unsafe). -/
def Dev.restore (d : Dev) (b : Bank) (off : Nat) : Dev :=
  { d with
    mismatches := d.mismatches.filter (fun m => !(m.bank == b && m.off == off))
    latent := d.latent.filter (fun m => !(m.bank == b && m.off == off)) }

/-- R36, R35: the service-owned pipes on which a host write to a frame-banked field of a block is counted.
    Log 18 (DESIGN CHOICE, unsafe). -/
def Dev.hostBarred (d : Dev) (q : Rq) (off : Nat) : List Nat :=
  match q, blkOf off with
  | .host, some b => ((d.ownerPipes b).filter d.svcOwned).eraseDups
  | _, _ => []

/-- R36, R84: may the requester change frame-banked fields at an offset?  If not, the flags that say so.
    Log 21 (DESIGN CHOICE, unsafe). -/
def Dev.bankGate (d : Dev) (q : Rq) (off : Nat) : Option Dev :=
  if within 1 2 (d.rg (F.COMMIT_VIEW_BANK.rq q)) then some (d.up (F.COMMIT_ERR_VIEW_WRITE.rq q))
  else
    match d.hostBarred q off with
    | [] => none
    | ps => some (Dev.each (fun p d => d.ownViolation p) ps d)

/-- The unbanked fields of one word: RW, RWP, RWK and W1 bits are stored, W1C bits cleared. -/
def Dev.putUnbanked (d : Dev) (q : Rq) (al : Bool) (off : Nat) (w : Word) : Dev :=
  match findReg off with
  | none => d
  | some (r, k) =>
    let key := keyFor q off
    let m := storeMask al r k
    let d1 := if m = 0 then d else (d.sgWord key ((d.unV key &&& ~~~m) ||| (w &&& m))).restore .unbanked off
    if al then d1 else d1.w1c key off r k w

/-- The frame-banked fields of one word (R82). -/
def Dev.putBanked (d : Dev) (off : Nat) (w : Word) : Dev :=
  match findReg off with
  | none => d
  | some (r, k) =>
    let m := maskOf r k Fld.banked
    (d.spWord off ((d.pfV off &&& ~~~m) ||| (w &&& m))).restore .proof off

/-- Does the word hold frame-banked fields? -/
def hasBanked (off : Nat) : Bool :=
  match findReg off with
  | some (r, k) => maskOf r k Fld.banked != 0
  | none => false

/-- A write of one word, or of both words of a pair, as its field types define it. -/
def plainWrite (q : Rq) (al : Bool) (ws : List (Nat × Word)) (d : Dev) : Dev :=
  let d1 := Dev.each (fun (x : Nat × Word) d => d.putUnbanked q al x.1 x.2) ws d
  if ws.any (fun x => hasBanked x.1) then
    match d1.bankGate q ((ws.head?.map Prod.fst).getD 0) with
    | some d2 => d2
    | none => Dev.each (fun (x : Nat × Word) d => d.putBanked x.1 x.2) ws d1
  else d1

/-- R66: a write that a register's own rule handled restores parity when the register now holds what was written.
    Log 26 (DESIGN CHOICE, unsafe). -/
def Dev.restoreIf (d : Dev) (key off : Nat) (w : Word) : Dev :=
  match findReg off with
  | some (r, k) =>
    let m := storeMask false r k
    if (d.unV key &&& m) == (w &&& m) then d.restore .unbanked off else d
  | none => d

/-! ### Key-guarded and write-once registers (R61 to R63) -/

/-- R61: the RWK registers. -/
def rwkOffs : List Nat := [F.SYS_RESET_CTRL_WARM_RESET.off, F.FETCH_EFF_EFF.off, F.SECURE_DEBUG_SCAN_REQ.off]

/-- R61: bits [17:2] of an offset. -/
def unlockTarget (off : Nat) : Nat := off / 4 % 65536

/-- R62: the requester's unlock is cancelled or consumed.
    Log 25 (DESIGN CHOICE, unsafe). -/
def Dev.unlockOff (d : Dev) (q : Rq) : Dev := (d.dn (F.SYS_UNLOCK_ARMED.rq q)).dn (F.SYS_UNLOCK_TARGET.rq q)

/-- R62: a direct write of SYS_UNLOCK.
    Log 25 (DESIGN CHOICE, unsafe). -/
def unlockWrite (q : Rq) (w : Word) (win : Nat) (d : Dev) : Dev :=
  let t := w.toNat % 65536
  if w.toNat / 65536 = 0x6A3C ∧ rwkOffs.any (fun o => unlockTarget o == t) ∧ ¬ d.fl F.SYS_LOCKDOWN_UNLOCK_DISABLE then
    ((d.up (F.SYS_UNLOCK_ARMED.rq q)).sg (F.SYS_UNLOCK_TARGET.rq q) t).restore .unbanked 0x10
  else (d.unlockOff q).accErr q .keyBad true win

/-- R62: an unlock of the requester is armed for the register at `off`.
    Log 25 (DESIGN CHOICE, unsafe). -/
def Dev.unlocked (d : Dev) (q : Rq) (off : Nat) : Bool :=
  d.fl (F.SYS_UNLOCK_ARMED.rq q) && d.rg (F.SYS_UNLOCK_TARGET.rq q) == unlockTarget off

/-- R61, R62: a direct write of an RWK register.
    Log 25 (DESIGN CHOICE, unsafe). -/
def Dev.keyed (d : Dev) (q : Rq) (off win : Nat) (f : Dev → Dev) : Dev :=
  if d.unlocked q off then f (d.unlockOff q) else d.accErr q .lockedWrite true win

/-- R62: 10 ms have passed since the requester's unlock was armed.
    Log 25 (DESIGN CHOICE, unsafe). -/
def unlockTimeout (q : Rq) (d : Dev) : Dev := d.unlockOff q

/-- R63, R73: a direct write of SYS_LOCKDOWN.
    Log 21 (DESIGN CHOICE, unsafe). -/
def lockdownWrite (q : Rq) (w : Word) (win : Nat) (d : Dev) : Dev :=
  if d.locked then
    (d.accErr q .lockViolation true win).onlyIf (q == .host) (·.incSat F.SYS_ACCESS_COUNT_LOCK_VIOLATIONS)
  else { plainWrite q false [(F.SYS_LOCKDOWN_UNLOCK_DISABLE.off, w)] d with locked := true }

/-- R72: a write of SYS_RESET_CTRL that an unlock let through. -/
def resetCtrlWrite (w : Word) (d : Dev) : Dev :=
  let d1 := (d.sg F.SYS_RESET_CTRL_RETAIN_DRAM (b2n (View.on (fun _ => w) F.SYS_RESET_CTRL_RETAIN_DRAM))).restore .unbanked
    F.SYS_RESET_CTRL_WARM_RESET.off
  if View.on (fun _ => w) F.SYS_RESET_CTRL_WARM_RESET then d1.warmReset .software else d1

/-! ### Registers with a rule of their own -/

/-- R22: a write of SYS_TICK_CTRL.
    Log 20 (DEDUCED, unsafe). -/
def tickCtrlWrite (q : Rq) (al : Bool) (w : Word) (d : Dev) : Dev :=
  if 5 ≤ View.g (fun _ => w) F.SYS_TICK_CTRL_SRC then d.up F.SYS_TICK_STATUS_BAD_SRC
  else plainWrite q al [(F.SYS_TICK_CTRL_SRC.off, w)] d

/-- R30: a write of SYS_TICK_STATUS. -/
def tickStatusWrite (q : Rq) (w : Word) (d : Dev) : Dev :=
  let d1 := plainWrite q false [(F.SYS_TICK_STATUS_BAD_SRC.off, w)] d
  if View.on (fun _ => w) F.SYS_TICK_STATUS_CLR_COUNTS then
    (d1.dn F.SYS_TICK_STATUS_SKIPPED_COUNT).dn F.SYS_TICK_CARRY_COUNT
  else d1

/-- R231: a write of CRUST_STORE_BASE (both words) or CRUST_STORE_UNITS. -/
def storeWrite (q : Rq) (al : Bool) (ws : List (Nat × Word)) (d : Dev) : Dev :=
  let d1 := plainWrite q al ws d
  if d.storeRefused d1 then d.up F.CRUST_STATUS_CFG_REFUSED else d1.storeShow

/-- R257: a write of CRUST_PIPE_n_STATUS. -/
def crustStatusWrite (q : Rq) (p : Nat) (w : Word) (d : Dev) : Dev :=
  let d1 := plainWrite q false [((F.CRUST_PIPE_STATUS_CLR_COUNTS.i p).off, w)] d
  if View.on (fun _ => w) F.CRUST_PIPE_STATUS_CLR_COUNTS then
    (d1.dn (F.CRUST_PIPE_COUNTS_TILES_WRITTEN.i p)).dn (F.CRUST_PIPE_COUNTS_TILES_SKIPPED.i p)
  else d1

/-- R347: a write of SIG_PIPE_n_STATUS. -/
def sigStatusWrite (q : Rq) (p : Nat) (w : Word) (d : Dev) : Dev :=
  let d1 := plainWrite q false [((F.SIG_PIPE_STATUS_CLR_COUNTS.i p).off, w)] d
  if View.on (fun _ => w) F.SIG_PIPE_STATUS_CLR_COUNTS then
    (d1.dn (F.SIG_PIPE_COUNTS_TORN_FRAMES.i p)).dn (F.SIG_PIPE_COUNTS_INVALID_FRAMES.i p)
  else d1

/-- R131, R132, R134: a write of SURF_CMD. -/
def surfCmdWrite (q : Rq) (w : Word) (d : Dev) : Dev :=
  d.ifIdle q (fun d => match View.g (fun _ => w) F.SURF_CMD_OP with
    | 1 => surfCmdRegister q w d
    | 2 => surfCmdUnregister q w d
    | 3 => surfCmdClearTorn q w d
    | _ => surfCmdBadOp q w d)

/-- R131, R147, R148: a write of FENCE_CMD. -/
def fenceCmdWrite (q : Rq) (w : Word) (d : Dev) : Dev :=
  d.ifIdle q (fun d => match View.g (fun _ => w) F.FENCE_CMD_OP with
    | 1 => fenceCmdAlloc q w d
    | 2 => fenceCmdFree q w d
    | _ => fenceCmdBadOp q w d)

/-- R149: both words of a doorbell.
    Log 65 (DESIGN CHOICE, unsafe). -/
def doorbellWrite (ws : List (Nat × Word)) (d : Dev) : Dev :=
  match ws with
  | [(o, lo), (_, hi)] => d.doorbell ((o - 0xE8000) / 8) (lo.toNat + hi.toNat * 2 ^ 32)
  | _ => d

/-- R350, R351, R370: a write of a register of queue `n`. -/
def sqWrite (q : Rq) (al : Bool) (n reg : Nat) (ws : List (Nat × Word)) (w : Word) (d : Dev) : Dev :=
  sqOwned q n d (fun d =>
    match reg with
    | 0 => sqCtrlWrite n w d (plainWrite q al ws)
    | 8 => sqBaseWrite n d (plainWrite q al ws)
    | 0x10 => sqBaseWrite n d (plainWrite q al ws)
    | 0x18 => (sqTailWrite n w d).restoreIf (0xB0118 + 0x40 * n) (0xB0118 + 0x40 * n) w
    | _ => plainWrite q al ws d)

/-- R394 to R397: a write of a register of unit `n`. -/
def chkWrite (q : Rq) (al : Bool) (n reg off : Nat) (w : Word) (d : Dev) : Dev :=
  match reg with
  | 0 => chkOwned q n d (fun d => (chkCtrl q n w d).restoreIf off off w)
  | 4 => chkFeed 1 q n w d
  | 8 => chkFeed 2 q n w d
  | 0xC => chkFeed 4 q n w d
  | 0x10 => chkOwned q n d (fun d => (chkStateWrite q n w d).restoreIf off off w)
  | _ => chkOwned q n d (plainWrite q al [(off, w)])

/-- R381: a write of a register of channel `c`. -/
def dmaChWrite (q : Rq) (al : Bool) (c reg : Nat) (ws : List (Nat × Word)) (w : Word) (d : Dev) : Dev :=
  match reg with
  | 8 => dmaDescWrite c d (plainWrite q al ws)
  | 0x10 => dmaGoWrite c w d
  | _ => plainWrite q al ws d

/-- R267: a write of a declaration's registers. -/
def declWrite (q : Rq) (al : Bool) (k reg : Nat) (ws : List (Nat × Word)) (w : Word) (d : Dev) : Dev :=
  match reg with
  | 0 => (fetchDeclCtrl k w d).restoreIf (0x80040 + 0x10 * k) (0x80040 + 0x10 * k) w
  | _ => fetchDeclOther d (plainWrite q al ws)

/-- R80: a write of SYS_PARITY_STATUS: PROOF stays set while a mismatch of a proof bank refuses commits. -/
def parityStatusWrite (q : Rq) (al : Bool) (ws : List (Nat × Word)) (d : Dev) : Dev :=
  let d1 := plainWrite q al ws d
  d1.onlyIf (d1.mismatches.any (fun m => m.bank == .proof)) (·.up F.SYS_PARITY_STATUS_PROOF)

/-- R152: a write of a fence register other than a command or a doorbell. -/
def fenceRegWrite (q : Rq) (al : Bool) (off : Nat) (ws : List (Nat × Word)) (d : Dev) : Dev :=
  let d1 := plainWrite q al ws d
  if within 0xE0100 0xE01FF off then d1.watchWritten ((off - 0xE0100) / 0x10)
  else if off = F.FENCE_WATCH_HIT_HIT.off then d1.watch
  else d1

/-- What a write of a register that lies outside the posted areas and the ring does.  `ws` holds the word written, or both
    words of a pair, each as the write's map makes it; `w` is the word at `off`, the last of them. -/
def regBody (q : Rq) (al : Bool) (off win : Nat) (ws : List (Nat × Word)) (w : Word) (d : Dev) : Dev :=
  let plain := plainWrite q al ws
  match off / 65536 with
  | 0 =>
    if off = 0x10 then unlockWrite q w win d
    else if off = F.SYS_RESET_CTRL_WARM_RESET.off then d.keyed q off win (resetCtrlWrite w)
    else if off = F.SYS_LOCKDOWN_UNLOCK_DISABLE.off then lockdownWrite q w win d
    else if off = F.SYS_TICK_CTRL_SRC.off then tickCtrlWrite q al w d
    else if off = F.SYS_TICK_STATUS_CLR_COUNTS.off then tickStatusWrite q w d
    else if off = F.SYS_PARITY_STATUS_PROOF.off then parityStatusWrite q al ws d
    else plain d
  | 1 =>
    if off = F.COMMIT_STROBE_PIPE.off then commitStrobe q w d
    else if off = F.COMMIT_ERR_CLR_COUNTS.off then commitClrCounts q w (plain d)
    else plain d
  | 2 =>
    if off % 0x4000 = F.PIPE_LUT_LOAD_GO.off % 0x4000 then lutLoad ((off - 0x20000) / 0x4000) w d else plain d
  | 4 => if off % 0x400 = F.VL_TM_LOAD_GO.off % 0x400 then tmLoad ((off - 0x40000) / 0x400) w d else plain d
  | 5 => if off % 0x200 = F.GL_TM_LOAD_GO.off % 0x200 then tmLoad (64 + (off - 0x50000) / 0x200) w d else plain d
  | 6 => if 0x68000 ≤ off then (coefWrite q off w d).restoreIf off off w else plain d
  | 7 =>
    if within 0x70008 0x70010 off then storeWrite q al ws d
    else if off = F.CRUST_HINT_GO_GO.off then crustHintGo q w d
    else if off = F.CRUST_TILE_SEL_TILE.off then crustTileSelWrite w (plain d)
    else if within 0x70200 0x7027F off && off % 0x20 == 4 then crustStatusWrite q ((off - 0x70200) / 0x20) w d
    else plain d
  | 8 =>
    if off = F.FETCH_EFF_EFF.off then d.keyed q off win (fun d => (fetchEffWrite w d).restore .unbanked off)
    else if within 0x80040 0x800BF off then declWrite q al ((off - 0x80040) / 0x10) (off % 0x10) ws w d
    else plain d
  | 10 =>
    if off = F.SIG_SNAP_SEL_INDEX.off then sigSnapSelWrite q w (plain d)
    else if within 0xA0100 0xA013F off && off % 0x10 == 4 then sigStatusWrite q ((off - 0xA0100) / 0x10) w d
    else plain d
  | 11 =>
    if within 0xB0100 0xB01FF off then
      sqWrite q al ((off - 0xB0100) / 0x40) (if ws.length = 2 then off % 0x40 - 4 else off % 0x40) ws w d
    else plain d
  | 12 =>
    if off = F.DMA_ENGINE_CTRL_CLEAR_HALT.off then (dmaEngineCtrl w d).restore .unbanked off
    else if within 0xC0100 0xC04FF off then
      dmaChWrite q al ((off - 0xC0100) / 0x40) (if ws.length = 2 then off % 0x40 - 4 else off % 0x40) ws w d
    else plain d
  | 13 =>
    if within 0xD0100 0xD02FF off then chkWrite q al ((off - 0xD0100) / 0x40) (off % 0x40) off w d else plain d
  | 14 =>
    if off = F.SURF_CMD_OP.off then surfCmdWrite q w d
    else if off = F.FENCE_CMD_OP.off then fenceCmdWrite q w d
    else if 0xE8000 ≤ off then doorbellWrite ws d
    else fenceRegWrite q al off ws d
  | 15 =>
    if off = F.POWER_CTRL_TARGET.off then powerCtrlWrite w (d.restore .unbanked off)
    else if off = F.POWER_PIPE_RESET_PIPE.off then powerPipeReset q w (d.restore .unbanked off)
    else plain d
  | 16 =>
    if off = F.SECURE_DEBUG_SCAN_REQ.off then
      d.keyed q off win (fun d => scanReq w ((d.w1cAt off w).restore .unbanked off))
    else plain d
  | _ => plain d

/-! ### One 32-bit write (R52 to R56) -/

/-- R54, R55, R62: a write through an alias acts only on RW and RWS fields, SYS_UNLOCK apart.
    Log 23 (DESIGN CHOICE, unsafe). -/
def aliasBits (off : Nat) : Word :=
  if off = 0x10 then 0
  else match findReg off with
    | some (r, k) => aliasMask r k
    | none => 0

/-- R54: the word that a write through a map puts into a register: the data itself, or the alias result in the fields an
    alias acts on.
    Log 23 (DESIGN CHOICE, unsafe). -/
def Dev.wordThrough (d : Dev) (q : Rq) (map off : Nat) (w : Word) : Word :=
  if map = 0 then w
  else
    let cur := if 0xE8000 ≤ off ∧ off < 0xF0000 then d.word q off else d.unV (keyFor q off) ||| d.pfV off
    combine map cur w &&& aliasBits off

/-- R53: nothing is held.
    Log 22 (DESIGN CHOICE, unsafe). -/
def dfltHeld : Nat → Option (Nat × Word) := fun _ => none

/-- R53, R54: a 32-bit aligned write takes effect at its register.
    Log 22 (DESIGN CHOICE, unsafe), 23 (DESIGN CHOICE, unsafe). -/
def regApply (q : Rq) (map off win : Nat) (w : Word) (d : Dev) : Dev :=
  if map ≠ 0 ∧ aliasBits off = 0 then d
  else
    match findReg off with
    | none => d
    | some (r, k) =>
      if r.pair && k == 0 && within 0x80040 0x800BF off && d.fl F.FETCH_STATUS_DECL_PENDING then
        d.up F.FETCH_STATUS_DECL_BUSY
      else if r.pair && k == 0 then
        { d with heldLo := Tab.put dfltHeld d.heldLo (rqKey q off) (some (map, if map = 0 then w else w &&& aliasBits off)) }
      else if r.pair then
        let lo := off - 4
        let x := match Tab.get dfltHeld d.heldLo (rqKey q lo) with
          | some (m, v) => d.wordThrough q m lo v
          | none => d.wordThrough q 1 lo 0
        let hi := d.wordThrough q map off w
        regBody q (map != 0) off win [(lo, x), (off, hi)] hi
          { d with heldLo := Tab.put dfltHeld d.heldLo (rqKey q lo) none }
      else
        let v := d.wordThrough q map off w
        regBody q (map != 0) off win [(off, v)] v d

/-- R55: an alias write with a 1 outside the RW and RWS fields is flagged.
    Log 23 (DESIGN CHOICE, unsafe). -/
def Dev.aliasFlag (d : Dev) (q : Rq) (map off win : Nat) (w : Word) : Dev :=
  if map ≠ 0 ∧ w &&& ~~~aliasBits off ≠ 0 then d.accErr q .aliasIgnored true win else d

/-- R58, R60: a 32-bit aligned write to a mapped offset: at once, or posted.
    Log 21 (DESIGN CHOICE, unsafe). -/
def regFull (q : Rq) (win : Nat) (w : Word) (d : Dev) : Dev :=
  let map := mapOf win
  let off := primOf win
  match areaOf off with
  | some a =>
    if d.areaOff a off then d.postedDrop q a true win
    else if d.areaBusy a then d.postedDrop q a false win
    else ({ d with posted := d.posted ++ [({ area := a, rq := q, map := map, off := off, data := w } : PostedWr)] }.postedShow).aliasFlag q map off win w
  | none => regApply q map off win w (d.aliasFlag q map off win w)

/-- R451: in Starter mode host writes outside SYS are discarded without a flag.
    Log 21 (DESIGN CHOICE, unsafe). -/
def Dev.starterBars (d : Dev) (q : Rq) (off : Nat) : Bool :=
  q == .host && d.starter && decide (0x10000 ≤ off)

/-- A write of the doubleword at a REG window offset with byte enables `be`.
    Log 21 (DESIGN CHOICE, unsafe). -/
def regWrite (q : Rq) (win be : Nat) (w : Word) (d : Dev) : Dev :=
  let off := primOf win
  if widthOf be = .none || d.starterBars q off then d
  else if !mapped off then d.accErr q .unmapped true (firstByte win be)
  else
    match widthOf be with
    | .full => regFull q (win / 4 * 4) w d
    | .narrow => d.accErr q .width true (firstByte win be)
    | _ => d.accErr q .align true (firstByte win be)

/-- R58: the write in flight of an area lands; the reads held for it are answered.
    Log 24 (DESIGN CHOICE, unsafe). -/
def postedLanded (a : Nat) (d : Dev) : Dev :=
  match firstWith (fun (w : PostedWr) => w.area == a) d.posted with
  | none => d
  | some x =>
    let d1 := regApply x.rq x.map x.off x.off x.data ({ d with posted := d.posted.erase x }.postedShow)
    let due := fun (r : HeldRead) => r.area == a && x.shown
    Dev.each (fun (r : HeldRead) d => readNow r.rq r.off r.be d) (d1.heldReads.filter due)
      { d1 with heldReads := d1.heldReads.filter (fun r => !due r) }

/-! ### The ring window (R415, R418) -/

/-- R52, R415: a write of the doubleword at a BAR 2 offset.
    Log 28 (DESIGN CHOICE, unsafe). -/
def ringWrite (q : Rq) (off be : Nat) (w : Word) (d : Dev) : Dev :=
  let o := off / 4 * 4
  let key := ringBase + o
  if widthOf be = .none then d
  else if o < 0x4000 then Dev.each (fun k d => d.slotStore (o + k) [BitVec.ofNat 8 (w.toNat / 2 ^ (8 * k))]) (enabled be) d
  else if !within 0x8000 0x801F o then d.up F.ICP_RING_STATUS_ACCESS
  else if widthOf be == .narrow then (d.accErr q .width true (firstByte off be)).up F.ICP_RING_STATUS_ACCESS
  else if widthOf be != .full then (d.accErr q .align true (firstByte off be)).up F.ICP_RING_STATUS_ACCESS
  else if key = F.ICP_CMD_TAIL_TAIL.off then (icpCmdTailWrite w d).restoreIf key key w
  else if key = F.ICP_RPL_HEAD_HEAD.off then (icpRplHeadWrite w d).restoreIf key key w
  else plainWrite q false [(key, w)] d

/-- A 32-bit direct write at a primary-map offset.
    Log 21 (DESIGN CHOICE, unsafe). -/
def regAt (q : Rq) (off : Nat) (w : Word) : Dev → Dev := regWrite q off 15 w

/-- A 32-bit write of a ring register. -/
def ringAt (off : Nat) (w : Word) : Dev → Dev := ringWrite .host off 15 w

/-- R53: a 32-bit read of the lower word of a pair, or a 64-bit read of both. -/
def pairRead (q : Rq) (off : Nat) (both : Bool) (d : Dev) : Dev :=
  let d1 := regRead q off 15 d
  if both then regRead q (off + 4) 15 d1 else d1

/-! ### The commands -/

/-- A write of one doubleword of a window. -/
def winWrite (q : Rq) (win : Win) (off be : Nat) (w : Word) : Dev → Dev :=
  match win with
  | .reg => regWrite q off be w
  | .ring => ringWrite q off be w

/-- R51: a write request is decomposed into its doublewords, which act in ascending order. -/
def burstWrite (q : Rq) (win : Win) : Nat → List (BitVec 4 × Word) → Dev → Dev
  | _, [], d => d
  | off, x :: t, d => burstWrite q win (off + 4) t (winWrite q win off x.1.toNat x.2 d)

/-- REG_WRITE. -/
def execRegWrite (rq : Rq) (win : Win) (off : BitVec 26) (be : BitVec 4) (data : WriteData) (s : State) :
    Host.Outcome State Fault Refusal :=
  s.run (burstWrite rq win off.toNat ((be, data.word) :: data.more))

/-- R131, R151: a command that says when it arrives. -/
def timed (soon : Bool) (f : Dev → Dev) (d : Dev) : Dev :=
  { f { d with soon := soon } with soon := false }

/-- UNMAPPED_READ. -/
def execUnmappedRead (rq : Rq) (off : BitVec 26) (be : BitVec 4) (s : State) : Host.Outcome State Fault Refusal :=
  s.run (regRead rq off.toNat be.toNat)

/-- UNALIGNED_READ. -/
def execUnalignedRead (rq : Rq) (off : BitVec 26) (be : BitVec 4) (s : State) : Host.Outcome State Fault Refusal :=
  s.run (regRead rq off.toNat be.toNat)

/-- REGISTER_PAIR_LOWER_READ. -/
def execRegisterPairLowerRead (rq : Rq) (off : BitVec 24) (both : Bool) (s : State) : Host.Outcome State Fault Refusal :=
  s.run (pairRead rq off.toNat both)

/-- POSTED_WRITE. -/
def execPostedWrite (rq : Rq) (off : BitVec 24) (data : Word) (s : State) : Host.Outcome State Fault Refusal :=
  s.run (regAt rq off.toNat data)

/-- POSTED_WRITE_LANDED. -/
def execPostedWriteLanded (area : Fin 12) (s : State) : Host.Outcome State Fault Refusal := s.run (postedLanded area.val)

/-- SYS_UNLOCK_WRITE. -/
def execSysUnlockWrite (rq : Rq) (data : Word) (s : State) : Host.Outcome State Fault Refusal :=
  s.run (regAt rq F.SYS_UNLOCK_TARGET.off data)

/-- UNLOCK_TIMEOUT. -/
def execUnlockTimeout (rq : Rq) (s : State) : Host.Outcome State Fault Refusal := s.run (unlockTimeout rq)

/-- WARM_RESET_WRITE. -/
def execWarmResetWrite (rq : Rq) (data : Word) (s : State) : Host.Outcome State Fault Refusal :=
  s.run (regAt rq F.SYS_RESET_CTRL_WARM_RESET.off data)

/-- SYS_LOCKDOWN_WRITE. -/
def execSysLockdownWrite (rq : Rq) (data : Word) (s : State) : Host.Outcome State Fault Refusal :=
  s.run (regAt rq F.SYS_LOCKDOWN_UNLOCK_DISABLE.off data)

/-- R544: where a capture register stands. -/
def capOff : Cap → Nat
  | .accessAddr => F.SYS_ACCESS_ADDR_VALID.off
  | .parityAddr => F.SYS_PARITY_ADDR_VALID.off
  | .surfErrSid => F.SURF_ERR_SID_VALID.off
  | .fenceErrFid => F.FENCE_ERR_FID_VALID.off

/-- CAPTURE_REARM. -/
def execCaptureRearm (rq : Rq) (cap : Cap) (data : Word) (s : State) : Host.Outcome State Fault Refusal :=
  s.run (regAt rq (capOff cap) data)

/-- SYS_TICK_CTRL_WRITE. -/
def execSysTickCtrlWrite (rq : Rq) (data : Word) (s : State) : Host.Outcome State Fault Refusal :=
  s.run (regAt rq F.SYS_TICK_CTRL_SRC.off data)

/-- TICK_CLR_COUNTS. -/
def execTickClrCounts (rq : Rq) (data : Word) (s : State) : Host.Outcome State Fault Refusal :=
  s.run (regAt rq F.SYS_TICK_STATUS_CLR_COUNTS.off data)

/-- COMMIT_STROBE. -/
def execCommitStrobe (rq : Rq) (data : Word) (s : State) : Host.Outcome State Fault Refusal :=
  s.run (regAt rq F.COMMIT_STROBE_PIPE.off data)

/-- COMMIT_CLR_COUNTS. -/
def execCommitClrCounts (rq : Rq) (data : Word) (s : State) : Host.Outcome State Fault Refusal :=
  s.run (regAt rq F.COMMIT_ERR_CLR_COUNTS.off data)

/-- SURF_CMD_REGISTER. -/
def execSurfCmdRegister (rq : Rq) (data : CmdWord) (s : State) : Host.Outcome State Fault Refusal :=
  s.run (timed data.early (regAt rq F.SURF_CMD_OP.off data.word))

/-- SURF_CMD_BAD_OP. -/
def execSurfCmdBadOp (rq : Rq) (data : CmdWord) (s : State) : Host.Outcome State Fault Refusal :=
  s.run (timed data.early (regAt rq F.SURF_CMD_OP.off data.word))

/-- SURF_CMD_UNREGISTER. -/
def execSurfCmdUnregister (rq : Rq) (data : CmdWord) (s : State) : Host.Outcome State Fault Refusal :=
  s.run (timed data.early (regAt rq F.SURF_CMD_OP.off data.word))

/-- SURF_CMD_CLEAR_TORN. -/
def execSurfCmdClearTorn (rq : Rq) (data : CmdWord) (s : State) : Host.Outcome State Fault Refusal :=
  s.run (timed data.early (regAt rq F.SURF_CMD_OP.off data.word))

/-- FENCE_CMD_ALLOC. -/
def execFenceCmdAlloc (rq : Rq) (data : CmdWord) (s : State) : Host.Outcome State Fault Refusal :=
  s.run (timed data.early (regAt rq F.FENCE_CMD_OP.off data.word))

/-- FENCE_CMD_FREE. -/
def execFenceCmdFree (rq : Rq) (data : CmdWord) (s : State) : Host.Outcome State Fault Refusal :=
  s.run (timed data.early (regAt rq F.FENCE_CMD_OP.off data.word))

/-- FENCE_CMD_BAD_OP. -/
def execFenceCmdBadOp (rq : Rq) (data : CmdWord) (s : State) : Host.Outcome State Fault Refusal :=
  s.run (timed data.early (regAt rq F.FENCE_CMD_OP.off data.word))

/-- FENCE_DOORBELL: the upper word of a fence's doorbell. -/
def execFenceDoorbell (rq : Rq) (fid : BitVec 12) (data : BellWord) (s : State) : Host.Outcome State Fault Refusal :=
  s.run (timed data.second (regAt rq (0xE8004 + 8 * fid.toNat) data.word))

/-- COEF_WRITE. -/
def execCoefWrite (rq : Rq) (off : BitVec 24) (data : Word) (s : State) : Host.Outcome State Fault Refusal :=
  s.run (regAt rq off.toNat data)

/-- TM_LOAD. -/
def execTmLoad (rq : Rq) (layer : Fin 128) (data : Word) (s : State) : Host.Outcome State Fault Refusal :=
  s.run (regAt rq (lf F.VL_TM_LOAD_GO F.GL_TM_LOAD_GO layer.val).off data)

/-- LUT_LOAD. -/
def execLutLoad (rq : Rq) (pipe : Fin 4) (data : Word) (s : State) : Host.Outcome State Fault Refusal :=
  s.run (regAt rq (F.PIPE_LUT_LOAD_GO.i pipe.val).off data)

/-- CRUST_HINT_GO. -/
def execCrustHintGo (rq : Rq) (data : Word) (s : State) : Host.Outcome State Fault Refusal :=
  s.run (regAt rq F.CRUST_HINT_GO_GO.off data)

/-- CRUST_TILE_SEL_WRITE. -/
def execCrustTileSelWrite (rq : Rq) (data : Word) (s : State) : Host.Outcome State Fault Refusal :=
  s.run (regAt rq F.CRUST_TILE_SEL_TILE.off data)

/-- CRUST_CLR_COUNTS. -/
def execCrustClrCounts (rq : Rq) (pipe : Fin 4) (data : Word) (s : State) : Host.Outcome State Fault Refusal :=
  s.run (regAt rq (F.CRUST_PIPE_STATUS_CLR_COUNTS.i pipe.val).off data)

/-- FETCH_DECL_WRITE. -/
def execFetchDeclWrite (rq : Rq) (k : Fin 8) (data : Word) (s : State) : Host.Outcome State Fault Refusal :=
  s.run (regAt rq (F.FETCH_DECL_CTRL_EN.i k.val).off data)

/-- FETCH_EFF_WRITE. -/
def execFetchEffWrite (rq : Rq) (data : Word) (s : State) : Host.Outcome State Fault Refusal :=
  s.run (regAt rq F.FETCH_EFF_EFF.off data)

/-- SIG_SNAP_SEL_WRITE. -/
def execSigSnapSelWrite (rq : Rq) (data : Word) (s : State) : Host.Outcome State Fault Refusal :=
  s.run (regAt rq F.SIG_SNAP_SEL_INDEX.off data)

/-- SIG_CLR_COUNTS. -/
def execSigClrCounts (rq : Rq) (pipe : Fin 4) (data : Word) (s : State) : Host.Outcome State Fault Refusal :=
  s.run (regAt rq (F.SIG_PIPE_STATUS_CLR_COUNTS.i pipe.val).off data)

/-- SQ_TAIL_WRITE. -/
def execSqTailWrite (rq : Rq) (q : Fin 4) (data : Word) (s : State) : Host.Outcome State Fault Refusal :=
  s.run (regAt rq (F.SQ_TAIL_TAIL.i q.val).off data)

/-- SQ_RESUME. -/
def execSqResume (rq : Rq) (q : Fin 4) (data : Word) (s : State) : Host.Outcome State Fault Refusal :=
  s.run (regAt rq (F.SQ_STATUS_STOPPED.i q.val).off data)

/-- DMA_GO. -/
def execDmaGo (rq : Rq) (ch : Fin 16) (data : Word) (s : State) : Host.Outcome State Fault Refusal :=
  s.run (regAt rq (F.DMA_CH_GO_GO.i ch.val).off data)

/-- DMA_RESUME. -/
def execDmaResume (rq : Rq) (ch : Fin 16) (data : Word) (s : State) : Host.Outcome State Fault Refusal :=
  s.run (regAt rq (F.DMA_CH_GO_RESUME.i ch.val).off data)

/-- CLEAR_HALT. -/
def execClearHalt (rq : Rq) (data : Word) (s : State) : Host.Outcome State Fault Refusal :=
  s.run (regAt rq F.DMA_ENGINE_CTRL_CLEAR_HALT.off data)

/-- CHK_INIT. -/
def execChkInit (rq : Rq) (unit : Fin 8) (data : Word) (s : State) : Host.Outcome State Fault Refusal :=
  s.run (regAt rq (F.CHK_CTRL_INIT.i unit.val).off data)

/-- CHK_FEED8. -/
def execChkFeed8 (rq : Rq) (unit : Fin 8) (data : Word) (s : State) : Host.Outcome State Fault Refusal :=
  s.run (regAt rq (F.CHK_FEED8_DATA.i unit.val).off data)

/-- CHK_FEED16. -/
def execChkFeed16 (rq : Rq) (unit : Fin 8) (data : Word) (s : State) : Host.Outcome State Fault Refusal :=
  s.run (regAt rq (F.CHK_FEED16_DATA.i unit.val).off data)

/-- CHK_FEED32. -/
def execChkFeed32 (rq : Rq) (unit : Fin 8) (data : Word) (s : State) : Host.Outcome State Fault Refusal :=
  s.run (regAt rq (F.CHK_FEED32_DATA.i unit.val).off data)

/-- ICP_CMD_TAIL_WRITE. -/
def execIcpCmdTailWrite (data : Word) (s : State) : Host.Outcome State Fault Refusal :=
  s.run (ringAt (F.ICP_CMD_TAIL_TAIL.off - ringBase) data)

/-- ICP_RPL_HEAD_WRITE. -/
def execIcpRplHeadWrite (data : Word) (s : State) : Host.Outcome State Fault Refusal :=
  s.run (ringAt (F.ICP_RPL_HEAD_HEAD.off - ringBase) data)

/-- STRUCTURAL_SCAN_ENTRY. -/
def execStructuralScanEntry (rq : Rq) (data : Word) (s : State) : Host.Outcome State Fault Refusal :=
  s.run (regAt rq F.SECURE_DEBUG_SCAN_REQ.off data)

end Sys2Proof.Machine
end

