-- ==== Sys2Proof/Machine/Dispatch.lean ====
section
/-! DEFINITION.  One arm per command: each calls its own meaning. -/

namespace Sys2Proof.Machine

/-- The effect of a command on everything but the queue of waiting commands. -/
def exec (i : Instr) (s : State) : Host.Outcome State Fault Refusal :=
  match i with
  | .regWrite rq win off be data => Sys2Proof.Machine.execRegWrite rq win off be data s
  | .unmappedRead rq off be => Sys2Proof.Machine.execUnmappedRead rq off be s
  | .unalignedRead rq off be => Sys2Proof.Machine.execUnalignedRead rq off be s
  | .registerPairLowerRead rq off both => Sys2Proof.Machine.execRegisterPairLowerRead rq off both s
  | .postedWrite rq off data => Sys2Proof.Machine.execPostedWrite rq off data s
  | .postedWriteLanded area => Sys2Proof.Machine.execPostedWriteLanded area s
  | .sysUnlockWrite rq data => Sys2Proof.Machine.execSysUnlockWrite rq data s
  | .unlockTimeout rq => Sys2Proof.Machine.execUnlockTimeout rq s
  | .warmResetWrite rq data => Sys2Proof.Machine.execWarmResetWrite rq data s
  | .sysLockdownWrite rq data => Sys2Proof.Machine.execSysLockdownWrite rq data s
  | .captureRearm rq cap data => Sys2Proof.Machine.execCaptureRearm rq cap data s
  | .sysTickCtrlWrite rq data => Sys2Proof.Machine.execSysTickCtrlWrite rq data s
  | .tickClrCounts rq data => Sys2Proof.Machine.execTickClrCounts rq data s
  | .fallbackTick dt => Sys2Proof.Machine.execFallbackTick dt s
  | .fallbackTimerTick dt => Sys2Proof.Machine.execFallbackTimerTick dt s
  | .flattenItemComplete pipe => Sys2Proof.Machine.execFlattenItemComplete pipe s
  | .crustSlotDrain pipe => Sys2Proof.Machine.execCrustSlotDrain pipe s
  | .commitStrobe rq data => Sys2Proof.Machine.execCommitStrobe rq data s
  | .commitValidationEnd rq => Sys2Proof.Machine.execCommitValidationEnd rq s
  | .commitClrCounts rq data => Sys2Proof.Machine.execCommitClrCounts rq data s
  | .cutoff pipe => Sys2Proof.Machine.execCutoff pipe s
  | .swapPoint pipe dt => Sys2Proof.Machine.execSwapPoint pipe dt s
  | .surfaceRetireDrain sid => Sys2Proof.Machine.execSurfaceRetireDrain sid s
  | .lineZero pipe => Sys2Proof.Machine.execLineZero pipe s
  | .scanOutFetchIssue pipe line => Sys2Proof.Machine.execScanOutFetchIssue pipe line s
  | .underrun pipe line kind index => Sys2Proof.Machine.execUnderrun pipe line kind index s
  | .writebackLineOverflow pipe line => Sys2Proof.Machine.execWritebackLineOverflow pipe line s
  | .writebackFrameDone pipe => Sys2Proof.Machine.execWritebackFrameDone pipe s
  | .replayAbort pipe line => Sys2Proof.Machine.execReplayAbort pipe line s
  | .configScrubPass found => Sys2Proof.Machine.execConfigScrubPass found s
  | .safeBlackReload pipe => Sys2Proof.Machine.execSafeBlackReload pipe s
  | .reloadFail pipe => Sys2Proof.Machine.execReloadFail pipe s
  | .surfCmdRegister rq data => Sys2Proof.Machine.execSurfCmdRegister rq data s
  | .surfCmdUnregister rq data => Sys2Proof.Machine.execSurfCmdUnregister rq data s
  | .surfCmdClearTorn rq data => Sys2Proof.Machine.execSurfCmdClearTorn rq data s
  | .surfCmdBadOp rq data => Sys2Proof.Machine.execSurfCmdBadOp rq data s
  | .sealCheckEnd => Sys2Proof.Machine.execSealCheckEnd s
  | .descScrub hits => Sys2Proof.Machine.execDescScrub hits s
  | .dramWindowWrite addr data dt => Sys2Proof.Machine.execDramWindowWrite addr data dt s
  | .dramWindowRead addr len => Sys2Proof.Machine.execDramWindowRead addr len s
  | .fenceCmdAlloc rq data => Sys2Proof.Machine.execFenceCmdAlloc rq data s
  | .fenceCmdFree rq data => Sys2Proof.Machine.execFenceCmdFree rq data s
  | .fenceCmdBadOp rq data => Sys2Proof.Machine.execFenceCmdBadOp rq data s
  | .fenceDoorbell rq fid data => Sys2Proof.Machine.execFenceDoorbell rq fid data s
  | .fenceScrub hits => Sys2Proof.Machine.execFenceScrub hits s
  | .coefWrite rq off data => Sys2Proof.Machine.execCoefWrite rq off data s
  | .claimScrub blocks => Sys2Proof.Machine.execClaimScrub blocks s
  | .lsParity vl => Sys2Proof.Machine.execLsParity vl s
  | .tmLoad rq layer data => Sys2Proof.Machine.execTmLoad rq layer data s
  | .tmLoadComplete layer => Sys2Proof.Machine.execTmLoadComplete layer s
  | .tmParity layer => Sys2Proof.Machine.execTmParity layer s
  | .lutLoad rq pipe data => Sys2Proof.Machine.execLutLoad rq pipe data s
  | .lutLoadComplete pipe => Sys2Proof.Machine.execLutLoadComplete pipe s
  | .lutParity pipe => Sys2Proof.Machine.execLutParity pipe s
  | .crustHintGo rq data => Sys2Proof.Machine.execCrustHintGo rq data s
  | .crustTileSelWrite rq data => Sys2Proof.Machine.execCrustTileSelWrite rq data s
  | .crustClrCounts rq pipe data => Sys2Proof.Machine.execCrustClrCounts rq pipe data s
  | .tileScrub hits => Sys2Proof.Machine.execTileScrub hits s
  | .crustDataParity plane tile => Sys2Proof.Machine.execCrustDataParity plane tile s
  | .dramEccError ch uncorrectable reader dt => Sys2Proof.Machine.execDramEccError ch uncorrectable reader dt s
  | .storeParity src => Sys2Proof.Machine.execStoreParity src s
  | .refreshMultUpdate reports => Sys2Proof.Machine.execRefreshMultUpdate reports s
  | .dramRetrain ch => Sys2Proof.Machine.execDramRetrain ch s
  | .fetchDeclWrite rq k data => Sys2Proof.Machine.execFetchDeclWrite rq k data s
  | .declTestEnd => Sys2Proof.Machine.execDeclTestEnd s
  | .fetchEffWrite rq data => Sys2Proof.Machine.execFetchEffWrite rq data s
  | .classBRasterStop pipe => Sys2Proof.Machine.execClassBRasterStop pipe s
  | .pixelPllLock pipe => Sys2Proof.Machine.execPixelPllLock pipe s
  | .linkTrainingComplete port => Sys2Proof.Machine.execLinkTrainingComplete port s
  | .trainFail port => Sys2Proof.Machine.execTrainFail port s
  | .retrainTimer port => Sys2Proof.Machine.execRetrainTimer port s
  | .refInEdge dt => Sys2Proof.Machine.execRefInEdge dt s
  | .genlockRefLost pipe => Sys2Proof.Machine.execGenlockRefLost pipe s
  | .teEdge pipe => Sys2Proof.Machine.execTeEdge pipe s
  | .teTimeout pipe => Sys2Proof.Machine.execTeTimeout pipe s
  | .hpdPlug port sink => Sys2Proof.Machine.execHpdPlug port sink s
  | .hpdUnplug port => Sys2Proof.Machine.execHpdUnplug port s
  | .irqHpd port linkLost hdcpReq => Sys2Proof.Machine.execIrqHpd port linkLost hdcpReq s
  | .hdcpAuthComplete port ok unwrapOk repeater => Sys2Proof.Machine.execHdcpAuthComplete port ok unwrapOk repeater s
  | .hdcpRetry port => Sys2Proof.Machine.execHdcpRetry port s
  | .dsiErrorReport dsi => Sys2Proof.Machine.execDsiErrorReport dsi s
  | .sigSnapSelWrite rq data => Sys2Proof.Machine.execSigSnapSelWrite rq data s
  | .sigClrCounts rq pipe data => Sys2Proof.Machine.execSigClrCounts rq pipe data s
  | .sqTailWrite rq q data => Sys2Proof.Machine.execSqTailWrite rq q data s
  | .sqResume rq q data => Sys2Proof.Machine.execSqResume rq q data s
  | .scraperJobStart => Sys2Proof.Machine.execScraperJobStart s
  | .scraperRowComplete => Sys2Proof.Machine.execScraperRowComplete s
  | .scraperJobEnd => Sys2Proof.Machine.execScraperJobEnd s
  | .dmaGo rq ch data => Sys2Proof.Machine.execDmaGo rq ch data s
  | .dmaResume rq ch data => Sys2Proof.Machine.execDmaResume rq ch data s
  | .dmaDescComplete ch hostData => Sys2Proof.Machine.execDmaDescComplete ch hostData s
  | .dmaBusError kind addr ends data dt => Sys2Proof.Machine.execDmaBusError kind addr ends data dt s
  | .dmaHaltSettled => Sys2Proof.Machine.execDmaHaltSettled s
  | .clearHalt rq data => Sys2Proof.Machine.execClearHalt rq data s
  | .chkInit rq unit data => Sys2Proof.Machine.execChkInit rq unit data s
  | .chkFeed8 rq unit data => Sys2Proof.Machine.execChkFeed8 rq unit data s
  | .chkFeed16 rq unit data => Sys2Proof.Machine.execChkFeed16 rq unit data s
  | .chkFeed32 rq unit data => Sys2Proof.Machine.execChkFeed32 rq unit data s
  | .icpPacketReceived tr packet => Sys2Proof.Machine.execIcpPacketReceived tr packet s
  | .icpCmdTailWrite data => Sys2Proof.Machine.execIcpCmdTailWrite data s
  | .icpRplHeadWrite data => Sys2Proof.Machine.execIcpRplHeadWrite data s
  | .icpRingTake => Sys2Proof.Machine.execIcpRingTake s
  | .writePacket tr bytes => Sys2Proof.Machine.execWritePacket tr bytes s
  | .readReply tr len => Sys2Proof.Machine.execReadReply tr len s
  | .readStatus tr => Sys2Proof.Machine.execReadStatus tr s
  | .sidebandBadCommand tr => Sys2Proof.Machine.execSidebandBadCommand tr s
  | .hostLost => Sys2Proof.Machine.execHostLost s
  | .deviceInfo tr seq ps => Sys2Proof.Machine.execDeviceInfo tr seq ps s
  | .heartbeat tr seq ps => Sys2Proof.Machine.execHeartbeat tr seq ps s
  | .ackAttention tr seq ps => Sys2Proof.Machine.execAckAttention tr seq ps s
  | .getStatus tr seq ps => Sys2Proof.Machine.execGetStatus tr seq ps s
  | .claimControl tr seq ps => Sys2Proof.Machine.execClaimControl tr seq ps s
  | .releaseControl tr seq ps => Sys2Proof.Machine.execReleaseControl tr seq ps s
  | .softReset tr seq ps => Sys2Proof.Machine.execSoftReset tr seq ps s
  | .shutdown tr seq ps => Sys2Proof.Machine.execShutdown tr seq ps s
  | .powerState tr seq ps => Sys2Proof.Machine.execPowerState tr seq ps s
  | .surfRegister tr seq ps => Sys2Proof.Machine.execSurfRegister tr seq ps s
  | .surfUnregister tr seq ps => Sys2Proof.Machine.execSurfUnregister tr seq ps s
  | .surfClearTorn tr seq ps => Sys2Proof.Machine.execSurfClearTorn tr seq ps s
  | .surfQuery tr seq ps => Sys2Proof.Machine.execSurfQuery tr seq ps s
  | .surfSealStatus tr seq ps => Sys2Proof.Machine.execSurfSealStatus tr seq ps s
  | .fenceAlloc tr seq ps => Sys2Proof.Machine.execFenceAlloc tr seq ps s
  | .fenceFree tr seq ps => Sys2Proof.Machine.execFenceFree tr seq ps s
  | .fenceSignal tr seq ps => Sys2Proof.Machine.execFenceSignal tr seq ps s
  | .fenceRead tr seq ps => Sys2Proof.Machine.execFenceRead tr seq ps s
  | .pipeHandover tr seq ps => Sys2Proof.Machine.execPipeHandover tr seq ps s
  | .pipeReclaim tr seq ps => Sys2Proof.Machine.execPipeReclaim tr seq ps s
  | .layoutBegin tr seq ps => Sys2Proof.Machine.execLayoutBegin tr seq ps s
  | .layoutWindow tr seq ps => Sys2Proof.Machine.execLayoutWindow tr seq ps s
  | .layoutSet tr seq ps => Sys2Proof.Machine.execLayoutSet tr seq ps s
  | .layoutGet tr seq ps => Sys2Proof.Machine.execLayoutGet tr seq ps s
  | .atlasSet tr seq ps => Sys2Proof.Machine.execAtlasSet tr seq ps s
  | .meterTableSet tr seq ps => Sys2Proof.Machine.execMeterTableSet tr seq ps s
  | .meterWrite tr seq ps => Sys2Proof.Machine.execMeterWrite tr seq ps s
  | .pipeStatus tr seq ps => Sys2Proof.Machine.execPipeStatus tr seq ps s
  | .portStatus tr seq ps => Sys2Proof.Machine.execPortStatus tr seq ps s
  | .sinkRead tr seq ps seen => Sys2Proof.Machine.execSinkRead tr seq ps seen s
  | .dpcdWrite tr seq ps acked => Sys2Proof.Machine.execDpcdWrite tr seq ps acked s
  | .hdcpTopology tr seq ps seen => Sys2Proof.Machine.execHdcpTopology tr seq ps seen s
  | .pipeReset tr seq ps => Sys2Proof.Machine.execPipeReset tr seq ps s
  | .dsiDcs tr seq ps seen => Sys2Proof.Machine.execDsiDcs tr seq ps seen s
  | .pipeTimingSet tr seq ps => Sys2Proof.Machine.execPipeTimingSet tr seq ps s
  | .sensorRead tr seq ps => Sys2Proof.Machine.execSensorRead tr seq ps s
  | .logInfo tr seq ps => Sys2Proof.Machine.execLogInfo tr seq ps s
  | .logRead tr seq ps => Sys2Proof.Machine.execLogRead tr seq ps s
  | .healthRead tr seq ps => Sys2Proof.Machine.execHealthRead tr seq ps s
  | .marginRead tr seq ps => Sys2Proof.Machine.execMarginRead tr seq ps s
  | .fwInfo tr seq ps => Sys2Proof.Machine.execFwInfo tr seq ps s
  | .fwBegin tr seq ps => Sys2Proof.Machine.execFwBegin tr seq ps s
  | .fwChunk tr seq ps => Sys2Proof.Machine.execFwChunk tr seq ps s
  | .fwCommit tr seq ps => Sys2Proof.Machine.execFwCommit tr seq ps s
  | .fwActivate tr seq ps => Sys2Proof.Machine.execFwActivate tr seq ps s
  | .selftestRun tr seq ps => Sys2Proof.Machine.execSelftestRun tr seq ps s
  | .selftestResult tr seq ps => Sys2Proof.Machine.execSelftestResult tr seq ps s
  | .debugChallenge tr seq ps => Sys2Proof.Machine.execDebugChallenge tr seq ps s
  | .debugOpen tr seq ps => Sys2Proof.Machine.execDebugOpen tr seq ps s
  | .debugChallengeExpiry => Sys2Proof.Machine.execDebugChallengeExpiry s
  | .structuralScanEntry rq data => Sys2Proof.Machine.execStructuralScanEntry rq data s
  | .watchdogExpiry dt => Sys2Proof.Machine.execWatchdogExpiry dt s
  | .sensorSample therm droop dt => Sys2Proof.Machine.execSensorSample therm droop dt s
  | .leavenRun => Sys2Proof.Machine.execLeavenRun s
  | .leavenRunComplete degrade => Sys2Proof.Machine.execLeavenRunComplete degrade s
  | .aonPowerOn => Sys2Proof.Machine.execAonPowerOn s
  | .railTimeout rail => Sys2Proof.Machine.execRailTimeout rail s
  | .railRetry => Sys2Proof.Machine.execRailRetry s
  | .resetRelease seen => Sys2Proof.Machine.execResetRelease seen s
  | .startTimeout => Sys2Proof.Machine.execStartTimeout s
  | .startSuccess => Sys2Proof.Machine.execStartSuccess s
  | .resetNAssert => Sys2Proof.Machine.execResetNAssert s
  | .brownoutWarn island => Sys2Proof.Machine.execBrownoutWarn island s
  | .brownoutRecovery island minMv micros => Sys2Proof.Machine.execBrownoutRecovery island minMv micros s
  | .brownoutReset island => Sys2Proof.Machine.execBrownoutReset island s
  | .aonBrownout => Sys2Proof.Machine.execAonBrownout s
  | .functionLevelReset => Sys2Proof.Machine.execFunctionLevelReset s
  | .perstAssert => Sys2Proof.Machine.execPerstAssert s
  | .perstDeassert => Sys2Proof.Machine.execPerstDeassert s
  | .powerPipeReset rq data => Sys2Proof.Machine.execPowerPipeReset rq data s
  | .powerCtrlHold rq data => Sys2Proof.Machine.execPowerCtrlHold rq data s
  | .powerCtrlDeep rq data => Sys2Proof.Machine.execPowerCtrlDeep rq data s
  | .powerCtrlActive rq data => Sys2Proof.Machine.execPowerCtrlActive rq data s
  | .thermalHoldExit => Sys2Proof.Machine.execThermalHoldExit s
  | .wakeNFall => Sys2Proof.Machine.execWakeNFall s
  | .sidebandWake tr => Sys2Proof.Machine.execSidebandWake tr s
  | .sliceEnd seen => Sys2Proof.Machine.execSliceEnd seen s
  | .sliceBudgetExpiry seen => Sys2Proof.Machine.execSliceBudgetExpiry seen s
  | .refclkLost => Sys2Proof.Machine.execRefclkLost s
  | .refclkReturn => Sys2Proof.Machine.execRefclkReturn s
  | .holdEntryComplete => Sys2Proof.Machine.execHoldEntryComplete s
  | .holdExitComplete => Sys2Proof.Machine.execHoldExitComplete s
  | .deepEntryComplete => Sys2Proof.Machine.execDeepEntryComplete s
  | .healthRecordMinutes => Sys2Proof.Machine.execHealthRecordMinutes s

end Sys2Proof.Machine
end

