-- ==== Sys2Proof/Machine/Step.lean ====
section
/-! DEFINITION.  One step: the command at the front of the queue takes its effect. -/

namespace Sys2Proof.Machine

/-- The command at the front of the queue runs on the state with the queue's rest; with an empty queue the block does
    what happens while no command waits (log 1: DESIGN CHOICE). -/
def step (s : State) : Host.Outcome State Fault Refusal :=
  match s.pending with
  | [] => idle s
  | c :: rest => exec c { s with pending := rest }

/-- The state with the command that a word spells put at the front of the queue; no row of the table has bits, so no
    word spells a command and the state is unchanged.
    Log 2 (DESIGN CHOICE, safe). -/
def State.withFetchWord (s : State) (nbits w : Nat) : State :=
  match Sys2Proof.decodeTableWord nbits w with
  | some c => { s with pending := c :: s.pending }
  | none => s

end Sys2Proof.Machine
end

