-- ==== Sys2Proof/WellFormed.lean ====
section
/-! DEFINITION.  Well-formed commands: what the operands of a row keep to beyond their widths. -/

namespace Sys2Proof

/-- No number stands twice in a list. -/
def distinct : List Nat → Bool
  | [] => true
  | a :: t => !t.contains a && distinct t

/-- R403: SEQ has eight bits, and a packet of at most 64 words leaves 61 parameter words between header and trailer. -/
def icpOk (seq : BitVec 16) (ps : List Word) : Bool := decide (seq.toNat < 256) && decide (ps.length ≤ 61)

/-- The operands of a command keep to the rules of its row: offsets lie in the block the row names (R53, R58, R195,
    R415), a report has one entry for each channel, sensor or ageing pair (R271, R436, R452), a packet fits its
    transport (R403, R419, R420), a table index names an entry (R124, R147), and only SPI and I²C carry side-band
    transactions (R419, R420). -/
def wellFormed : Instr → Bool
  | .regWrite _ win off _ ⟨_, more⟩ => decide (off.toNat / 4 + more.length < (if win == .reg then 0x1000000 else 0x40000))
  | .unmappedRead _ _ _ => true
  | .unalignedRead _ _ _ => true
  | .registerPairLowerRead _ off _ => off.toNat % 8 == 0
  | .postedWrite _ off _ => off.toNat % 4 == 0
  | .postedWriteLanded _ => true
  | .sysUnlockWrite _ _ => true
  | .unlockTimeout _ => true
  | .warmResetWrite _ _ => true
  | .sysLockdownWrite _ _ => true
  | .captureRearm _ _ _ => true
  | .sysTickCtrlWrite _ _ => true
  | .tickClrCounts _ _ => true
  | .fallbackTick _ => true
  | .fallbackTimerTick _ => true
  | .flattenItemComplete _ => true
  | .crustSlotDrain _ => true
  | .commitStrobe _ _ => true
  | .commitValidationEnd _ => true
  | .commitClrCounts _ _ => true
  | .cutoff _ => true
  | .swapPoint _ _ => true
  | .surfaceRetireDrain _ => true
  | .lineZero _ => true
  | .scanOutFetchIssue _ _ => true
  | .underrun _ _ _ _ => true
  | .writebackLineOverflow _ _ => true
  | .writebackFrameDone _ => true
  | .replayAbort _ _ => true
  | .configScrubPass found => found.all (fun h => h.off.toNat % 4 == 0)
  | .safeBlackReload _ => true
  | .reloadFail _ => true
  | .surfCmdRegister _ _ => true
  | .surfCmdUnregister _ _ => true
  | .surfCmdClearTorn _ _ => true
  | .surfCmdBadOp _ _ => true
  | .sealCheckEnd => true
  | .descScrub hits => hits.all (fun h => decide (h.index.toNat < 16384))
  | .dramWindowWrite addr data _ => !data.isEmpty && decide (addr.toNat + data.length ≤ 2 ^ 40)
  | .dramWindowRead addr len => decide (addr.toNat + len.toNat ≤ 2 ^ 40)
  | .fenceCmdAlloc _ _ => true
  | .fenceCmdFree _ _ => true
  | .fenceCmdBadOp _ _ => true
  | .fenceDoorbell _ _ _ => true
  | .fenceScrub hits => hits.all (fun h => decide (h.index.toNat < 4096))
  | .coefWrite _ off _ => decide (0x68000 ≤ off.toNat) && decide (off.toNat < 0x70000) && off.toNat % 4 == 0
  | .claimScrub blocks => distinct (blocks.map (·.val))
  | .lsParity _ => true
  | .tmLoad _ _ _ => true
  | .tmLoadComplete _ => true
  | .tmParity _ => true
  | .lutLoad _ _ _ => true
  | .lutLoadComplete _ => true
  | .lutParity _ => true
  | .crustHintGo _ _ => true
  | .crustTileSelWrite _ _ => true
  | .crustClrCounts _ _ _ => true
  | .tileScrub _ => true
  | .crustDataParity _ _ => true
  | .dramEccError _ _ _ _ => true
  | .storeParity _ => true
  | .refreshMultUpdate reports => reports.length == 16
  | .dramRetrain _ => true
  | .fetchDeclWrite _ _ _ => true
  | .declTestEnd => true
  | .fetchEffWrite _ _ => true
  | .classBRasterStop _ => true
  | .pixelPllLock _ => true
  | .linkTrainingComplete _ => true
  | .trainFail _ => true
  | .retrainTimer _ => true
  | .refInEdge _ => true
  | .genlockRefLost _ => true
  | .teEdge _ => true
  | .teTimeout _ => true
  | .hpdPlug _ _ => true
  | .hpdUnplug _ => true
  | .irqHpd _ _ _ => true
  | .hdcpAuthComplete _ _ _ _ => true
  | .hdcpRetry _ => true
  | .dsiErrorReport _ => true
  | .sigSnapSelWrite _ _ => true
  | .sigClrCounts _ _ _ => true
  | .sqTailWrite _ _ _ => true
  | .sqResume _ _ _ => true
  | .scraperJobStart => true
  | .scraperRowComplete => true
  | .scraperJobEnd => true
  | .dmaGo _ _ _ => true
  | .dmaResume _ _ _ => true
  | .dmaDescComplete _ _ => true
  | .dmaBusError _ _ ends data _ => distinct (ends.map (·.1.val)) && distinct (data.map (·.1.val))
    && data.all (fun x => decide (x.2.length ≤ (forChannel x.1.val 0 ends).toNat))
  | .dmaHaltSettled => true
  | .clearHalt _ _ => true
  | .chkInit _ _ _ => true
  | .chkFeed8 _ _ _ => true
  | .chkFeed16 _ _ _ => true
  | .chkFeed32 _ _ _ => true
  | .icpPacketReceived _ packet => decide (packet.length ≤ 256)
  | .icpCmdTailWrite _ => true
  | .icpRplHeadWrite _ => true
  | .icpRingTake => true
  | .writePacket tr bytes => tr != .pcie && decide (bytes.length ≤ 258)
  | .readReply tr _ => tr != .pcie
  | .readStatus tr => tr != .pcie
  | .sidebandBadCommand tr => tr != .pcie
  | .hostLost => true
  | .deviceInfo _ seq ps => icpOk seq ps
  | .heartbeat _ seq ps => icpOk seq ps
  | .ackAttention _ seq ps => icpOk seq ps
  | .getStatus _ seq ps => icpOk seq ps
  | .claimControl _ seq ps => icpOk seq ps
  | .releaseControl _ seq ps => icpOk seq ps
  | .softReset _ seq ps => icpOk seq ps
  | .shutdown _ seq ps => icpOk seq ps
  | .powerState _ seq ps => icpOk seq ps
  | .surfRegister _ seq ps => icpOk seq ps
  | .surfUnregister _ seq ps => icpOk seq ps
  | .surfClearTorn _ seq ps => icpOk seq ps
  | .surfQuery _ seq ps => icpOk seq ps
  | .surfSealStatus _ seq ps => icpOk seq ps
  | .fenceAlloc _ seq ps => icpOk seq ps
  | .fenceFree _ seq ps => icpOk seq ps
  | .fenceSignal _ seq ps => icpOk seq ps
  | .fenceRead _ seq ps => icpOk seq ps
  | .pipeHandover _ seq ps => icpOk seq ps
  | .pipeReclaim _ seq ps => icpOk seq ps
  | .layoutBegin _ seq ps => icpOk seq ps
  | .layoutWindow _ seq ps => icpOk seq ps
  | .layoutSet _ seq ps => icpOk seq ps
  | .layoutGet _ seq ps => icpOk seq ps
  | .atlasSet _ seq ps => icpOk seq ps
  | .meterTableSet _ seq ps => icpOk seq ps
  | .meterWrite _ seq ps => icpOk seq ps
  | .pipeStatus _ seq ps => icpOk seq ps
  | .portStatus _ seq ps => icpOk seq ps
  | .sinkRead _ seq ps _ => icpOk seq ps
  | .dpcdWrite _ seq ps _ => icpOk seq ps
  | .hdcpTopology _ seq ps _ => icpOk seq ps
  | .pipeReset _ seq ps => icpOk seq ps
  | .dsiDcs _ seq ps _ => icpOk seq ps
  | .pipeTimingSet _ seq ps => icpOk seq ps
  | .sensorRead _ seq ps => icpOk seq ps
  | .logInfo _ seq ps => icpOk seq ps
  | .logRead _ seq ps => icpOk seq ps
  | .healthRead _ seq ps => icpOk seq ps
  | .marginRead _ seq ps => icpOk seq ps
  | .fwInfo _ seq ps => icpOk seq ps
  | .fwBegin _ seq ps => icpOk seq ps
  | .fwChunk _ seq ps => icpOk seq ps
  | .fwCommit _ seq ps => icpOk seq ps
  | .fwActivate _ seq ps => icpOk seq ps
  | .selftestRun _ seq ps => icpOk seq ps
  | .selftestResult _ seq ps => icpOk seq ps
  | .debugChallenge _ seq ps => icpOk seq ps
  | .debugOpen _ seq ps => icpOk seq ps
  | .debugChallengeExpiry => true
  | .structuralScanEntry _ _ => true
  | .watchdogExpiry _ => true
  | .sensorSample therm droop _ => therm.length == 16 && droop.length == 24
  | .leavenRun => true
  | .leavenRunComplete degrade => degrade.length == 48
  | .aonPowerOn => true
  | .railTimeout _ => true
  | .railRetry => true
  | .resetRelease seen => seen.degrade.length == 48
  | .startTimeout => true
  | .startSuccess => true
  | .resetNAssert => true
  | .brownoutWarn _ => true
  | .brownoutRecovery _ _ _ => true
  | .brownoutReset _ => true
  | .aonBrownout => true
  | .functionLevelReset => true
  | .perstAssert => true
  | .perstDeassert => true
  | .powerPipeReset _ _ => true
  | .powerCtrlHold _ _ => true
  | .powerCtrlDeep _ _ => true
  | .powerCtrlActive _ _ => true
  | .thermalHoldExit => true
  | .wakeNFall => true
  | .sidebandWake tr => tr != .pcie
  | .sliceEnd _ => true
  | .sliceBudgetExpiry _ => true
  | .refclkLost => true
  | .refclkReturn => true
  | .holdEntryComplete => true
  | .holdExitComplete => true
  | .deepEntryComplete => true
  | .healthRecordMinutes => true

end Sys2Proof
end

