-- ==== Sys2Proof/Safety.lean ====
section
/-! DEFINITION.  The terms in which statements about the block are made: a command that completes, the canonical form of
    the device's tables, a register that is left as it was, and an ICP command that passes its tests. -/

namespace Sys2Proof.Machine

/-- Command `c` completes at state `s`: it answers a next state whose queue is the queue of `s`, and whose device
    satisfies `P`. -/
def Completes (c : Instr) (s : State) (P : Dev → Prop) : Prop :=
  ∃ t, exec c s = .next t ∧ t.pending = s.pending ∧ P t.dev

/-- Command `c` completes at state `s` with device `e`, and nothing else changes. -/
def Gives (c : Instr) (s : State) (e : Dev) : Prop := exec c s = .next { s with dev := e }

/-- Command `c` completes at state `s` with device `e`, up to the parity mismatches, found (R66) or not yet found (R65), that a
    write may have repaired. -/
def Yields (c : Instr) (s : State) (e : Dev) : Prop :=
  ∃ ms ls, exec c s = .next { s with dev := { e with mismatches := ms, latent := ls } }

/-- R451, R486, R515: register writes of requester `q` outside SYS take effect: the device is not in DEEP or structural scan,
    and a host write does not meet Starter mode. -/
def Dev.reaches (d : Dev) (q : Rq) : Bool := !d.dark && !(q == .host && d.starter)

/-- R131: the device as requester `q`'s surface or fence command meets it: `early` says that it arrives within 1 µs of the
    requester's last one. -/
def Dev.meets (d : Dev) (early : Bool) : Dev := { d with soon := early }

/-- No command is under way: nothing has arrived early. -/
def Dev.alone (d : Dev) : Dev := { d with soon := false }

/-- Nothing differs between two devices but the unbanked register words at the keys `ks` and parity mismatches that a
    write has repaired. -/
def Dev.sameBut (d e : Dev) (ks : List Nat) : Prop :=
  (∀ k, k ∉ ks → e.unV k = d.unV k) ∧ { e with regs := d.regs, mismatches := d.mismatches, latent := d.latent } = d

/-- R11: the register offsets at which a write does more than store and clear bits: strobes, commands, keyed and owned
    registers, and the registers whose new value something else follows. -/
def strobed (off : Nat) : Bool :=
  match off / 65536 with
  | 0 => off == 0x10 || off == F.SYS_RESET_CTRL_WARM_RESET.off || off == F.SYS_LOCKDOWN_UNLOCK_DISABLE.off
      || off == F.SYS_TICK_CTRL_SRC.off || off == F.SYS_TICK_STATUS_CLR_COUNTS.off || off == F.SYS_PARITY_STATUS_PROOF.off
  | 1 => off == F.COMMIT_STROBE_PIPE.off || off == F.COMMIT_ERR_CLR_COUNTS.off
  | 2 => off % 0x4000 == F.PIPE_LUT_LOAD_GO.off % 0x4000
  | 4 => off % 0x400 == F.VL_TM_LOAD_GO.off % 0x400
  | 5 => off % 0x200 == F.GL_TM_LOAD_GO.off % 0x200
  | 6 => decide (0x68000 ≤ off)
  | 7 => within 0x70008 0x70010 off || off == F.CRUST_HINT_GO_GO.off || off == F.CRUST_TILE_SEL_TILE.off
      || within 0x70200 0x7027F off && off % 0x20 == 4
  | 8 => off == F.FETCH_EFF_EFF.off || within 0x80040 0x800BF off
  | 10 => off == F.SIG_SNAP_SEL_INDEX.off || within 0xA0100 0xA013F off && off % 0x10 == 4
  | 11 => within 0xB0100 0xB01FF off
  | 12 => off == F.DMA_ENGINE_CTRL_CLEAR_HALT.off || within 0xC0100 0xC04FF off
  | 13 => within 0xD0100 0xD02FF off
  | 14 => true
  | 15 => off == F.POWER_CTRL_TARGET.off || off == F.POWER_PIPE_RESET_PIPE.off
  | 16 => off == F.SECURE_DEBUG_SCAN_REQ.off
  | _ => false

/-- R11: the W1C bits `m` of the word at a key are cleared where `w` holds 1. -/
def Dev.ack (d : Dev) (key : Nat) (m w : Word) : Dev := d.sgWord key (d.unV key &&& ~~~(m &&& w))

/-- R53: the lower word that a write of the upper word of a pair takes with it: what is held for the requester, or the
    register's own word. -/
def Dev.lowWord (d : Dev) (q : Rq) (lo : Nat) : Word :=
  match Tab.get dfltHeld d.heldLo (rqKey q lo) with
  | some (m, w) => d.wordThrough q m lo w
  | none => d.wordThrough q 1 lo 0

/-- R53: nothing is held any more for the requester at the lower word of a pair. -/
def Dev.lowDone (d : Dev) (q : Rq) (lo : Nat) : Dev := { d with heldLo := Tab.put dfltHeld d.heldLo (rqKey q lo) none }

/-- The tables of the device are canonical: registers, proof bank, active bank, DRAM, host memory, surfaces, fences.  No
    key is listed twice, keys rise, and no entry equals what an unlisted key reads as. -/
def Dev.canon (d : Dev) : Bool :=
  Tab.wf dfltU d.regs && Tab.wf dfltB d.proof && Tab.wf dfltB d.active && Tab.wf dfltMem d.mem
    && Tab.wf dfltMem d.hostMem && Tab.wf dfltSurf d.surf && Tab.wf dfltFence d.fence

/-- Every command waiting in the queue is well formed. -/
def State.queueOk (s : State) : Bool := s.pending.all wellFormed

/-- The device memory's canonical form. -/
def Memory.wf (m : Tab Byte) : Bool := Tab.wf dfltMem m

/-- R26, R406, R489: an ICP command of opcode `op` is executed: it is the next step, Hearth firmware runs, no shut-down test
    runs, tests 7 to 10 pass, and in HOLD the opcode is one of R489. -/
def Dev.passes (d : Dev) (op : Nat) (tr : Tr) (seq : BitVec 16) (ps : List Word) : Bool :=
  d.svcNext tr op (seq.toNat % 256) ps && !d.hearth.stopped && !d.dark && !d.testing && (!d.inHold || holdOp op) && (match opRow op with
    | some r => (d.cmdTest tr r (ps.map (·.toNat))).isNone
    | none => false)

/-- R403, R408: the parameters as numbers. -/
def nums (ps : List Word) : List Nat := ps.map (·.toNat)

/-- R403, R408: a parameter word as a number, 0 when it is not sent. -/
def param (ps : List Word) (k : Nat) : Nat := prm (nums ps) k

/-- R406: the received length of a packet in words: word 1's LENGTH on the ring, the bytes received on SPI and I²C. -/
def receivedLength (tr : Tr) (packet : List Byte) : Nat :=
  match tr with
  | .pcie => ofLe ((packet.drop 4).take 2)
  | _ => packet.length / 4

/-- R408: ICP command `c` of opcode `op` completes at state `s`: device `d` answers it with a result code and a payload,
    and nothing else changes. -/
def Replies (c : Instr) (op : Nat) (tr : Tr) (seq : BitVec 16) (ps : List Word) (s : State) (code : Nat) (pay : List Nat)
    (d : Dev) : Prop :=
  Gives c s (d.answer tr op (seq.toNat % 256) ps true code pay)

end Sys2Proof.Machine

namespace Sys2Proof

/-- R486, R487, R515: when a command can act: whenever the device has power, in DEEP too, or only outside DEEP. -/
inductive Reach where
  | always
  | inDeep
  | awake
  deriving DecidableEq, Repr

/-- R487, R515: a cold power-on and the supply of the always-on island act always; wake sources, the pins and supplies of
    the always-on island act in DEEP too; every other command needs the main supply. -/
def Instr.reach : Instr → Reach
  | .aonPowerOn | .aonBrownout => .always
  | .hpdPlug .. | .hpdUnplug .. | .brownoutWarn .. | .brownoutRecovery .. | .perstAssert | .perstDeassert | .wakeNFall
  | .sidebandWake .. | .refclkLost | .refclkReturn => .inDeep
  | .regWrite .. | .unmappedRead .. | .unalignedRead .. | .registerPairLowerRead .. | .postedWrite ..
  | .postedWriteLanded .. | .sysUnlockWrite .. | .unlockTimeout .. | .warmResetWrite .. | .sysLockdownWrite ..
  | .captureRearm .. | .sysTickCtrlWrite .. | .tickClrCounts .. | .fallbackTick .. | .fallbackTimerTick ..
  | .flattenItemComplete .. | .crustSlotDrain .. | .commitStrobe .. | .commitValidationEnd ..
  | .commitClrCounts .. | .cutoff .. | .swapPoint .. | .surfaceRetireDrain .. | .lineZero ..
  | .scanOutFetchIssue .. | .underrun .. | .writebackLineOverflow .. | .writebackFrameDone .. | .replayAbort ..
  | .configScrubPass .. | .safeBlackReload .. | .reloadFail .. | .surfCmdRegister .. | .surfCmdUnregister ..
  | .surfCmdClearTorn .. | .surfCmdBadOp .. | .sealCheckEnd | .descScrub .. | .dramWindowWrite ..
  | .dramWindowRead .. | .fenceCmdAlloc .. | .fenceCmdFree .. | .fenceCmdBadOp .. | .fenceDoorbell ..
  | .fenceScrub .. | .coefWrite .. | .claimScrub .. | .lsParity .. | .tmLoad .. | .tmLoadComplete ..
  | .tmParity .. | .lutLoad .. | .lutLoadComplete .. | .lutParity .. | .crustHintGo .. | .crustTileSelWrite ..
  | .crustClrCounts .. | .tileScrub .. | .crustDataParity .. | .dramEccError .. | .storeParity ..
  | .refreshMultUpdate .. | .dramRetrain .. | .fetchDeclWrite .. | .declTestEnd | .fetchEffWrite ..
  | .classBRasterStop .. | .pixelPllLock .. | .linkTrainingComplete .. | .trainFail .. | .retrainTimer ..
  | .refInEdge .. | .genlockRefLost .. | .teEdge .. | .teTimeout .. | .irqHpd .. | .hdcpAuthComplete ..
  | .hdcpRetry .. | .dsiErrorReport .. | .sigSnapSelWrite .. | .sigClrCounts .. | .sqTailWrite .. | .sqResume ..
  | .scraperJobStart | .scraperRowComplete | .scraperJobEnd | .dmaGo .. | .dmaResume .. | .dmaDescComplete ..
  | .dmaBusError .. | .dmaHaltSettled | .clearHalt .. | .chkInit .. | .chkFeed8 .. | .chkFeed16 .. | .chkFeed32 ..
  | .icpPacketReceived .. | .icpCmdTailWrite .. | .icpRplHeadWrite .. | .icpRingTake | .writePacket ..
  | .readReply .. | .readStatus .. | .sidebandBadCommand .. | .hostLost | .deviceInfo .. | .heartbeat ..
  | .ackAttention .. | .getStatus .. | .claimControl .. | .releaseControl .. | .softReset .. | .shutdown ..
  | .powerState .. | .surfRegister .. | .surfUnregister .. | .surfClearTorn .. | .surfQuery ..
  | .surfSealStatus .. | .fenceAlloc .. | .fenceFree .. | .fenceSignal .. | .fenceRead .. | .pipeHandover ..
  | .pipeReclaim .. | .layoutBegin .. | .layoutWindow .. | .layoutSet .. | .layoutGet .. | .atlasSet ..
  | .meterTableSet .. | .meterWrite .. | .pipeStatus .. | .portStatus .. | .sinkRead .. | .dpcdWrite ..
  | .hdcpTopology .. | .pipeReset .. | .dsiDcs .. | .pipeTimingSet .. | .sensorRead .. | .logInfo .. | .logRead ..
  | .healthRead .. | .marginRead .. | .fwInfo .. | .fwBegin .. | .fwChunk .. | .fwCommit .. | .fwActivate ..
  | .selftestRun .. | .selftestResult .. | .debugChallenge .. | .debugOpen .. | .debugChallengeExpiry
  | .structuralScanEntry .. | .watchdogExpiry .. | .sensorSample .. | .leavenRun | .leavenRunComplete ..
  | .railTimeout .. | .railRetry | .resetRelease .. | .startTimeout | .startSuccess | .resetNAssert
  | .brownoutReset .. | .functionLevelReset | .powerPipeReset .. | .powerCtrlHold ..
  | .powerCtrlDeep .. | .powerCtrlActive .. | .thermalHoldExit | .sliceEnd .. | .sliceBudgetExpiry ..
  | .holdEntryComplete | .holdExitComplete | .deepEntryComplete | .healthRecordMinutes => .awake

/-- Commands that never store to DRAM and never lose it. -/
def Instr.sparesDram : Instr → Bool
  | .unmappedRead .. | .unalignedRead .. | .registerPairLowerRead .. | .unlockTimeout .. | .flattenItemComplete ..
  | .crustSlotDrain .. | .commitValidationEnd .. | .cutoff .. | .surfaceRetireDrain .. | .lineZero ..
  | .scanOutFetchIssue .. | .underrun .. | .writebackLineOverflow .. | .replayAbort .. | .configScrubPass ..
  | .safeBlackReload .. | .reloadFail .. | .descScrub .. | .dramWindowRead .. | .fenceScrub .. | .claimScrub ..
  | .lsParity .. | .tmLoadComplete .. | .tmParity .. | .lutLoadComplete .. | .lutParity .. | .tileScrub ..
  | .crustDataParity .. | .storeParity .. | .refreshMultUpdate .. | .dramRetrain .. | .declTestEnd
  | .classBRasterStop .. | .pixelPllLock .. | .linkTrainingComplete .. | .trainFail .. | .retrainTimer ..
  | .genlockRefLost .. | .teEdge .. | .teTimeout .. | .hpdUnplug .. | .irqHpd .. | .hdcpAuthComplete ..
  | .hdcpRetry .. | .dsiErrorReport .. | .scraperJobStart | .dmaHaltSettled | .icpPacketReceived ..
  | .icpCmdTailWrite .. | .icpRplHeadWrite .. | .icpRingTake | .writePacket .. | .readReply .. | .readStatus ..
  | .sidebandBadCommand .. | .hostLost | .deviceInfo .. | .heartbeat .. | .ackAttention .. | .getStatus ..
  | .claimControl .. | .releaseControl .. | .surfRegister .. | .surfUnregister .. | .surfClearTorn ..
  | .surfQuery .. | .surfSealStatus .. | .fenceAlloc .. | .fenceFree .. | .fenceSignal .. | .fenceRead ..
  | .pipeHandover .. | .pipeReclaim .. | .layoutBegin .. | .layoutWindow .. | .layoutGet .. | .atlasSet ..
  | .meterTableSet .. | .pipeStatus .. | .portStatus .. | .sinkRead .. | .dpcdWrite .. | .hdcpTopology ..
  | .dsiDcs .. | .pipeTimingSet .. | .sensorRead .. | .logInfo .. | .logRead .. | .healthRead .. | .marginRead ..
  | .fwInfo .. | .fwBegin .. | .fwChunk .. | .fwCommit .. | .fwActivate .. | .selftestRun .. | .selftestResult ..
  | .debugChallenge .. | .debugOpen .. | .debugChallengeExpiry | .leavenRun | .leavenRunComplete ..
  | .railTimeout .. | .railRetry | .startSuccess | .brownoutWarn .. | .brownoutRecovery .. | .thermalHoldExit
  | .refclkLost | .refclkReturn | .holdExitComplete | .healthRecordMinutes => true
  | .regWrite .. | .postedWrite .. | .postedWriteLanded .. | .sysUnlockWrite .. | .warmResetWrite ..
  | .sysLockdownWrite .. | .captureRearm .. | .sysTickCtrlWrite .. | .tickClrCounts .. | .fallbackTick ..
  | .fallbackTimerTick .. | .commitStrobe .. | .commitClrCounts .. | .swapPoint .. | .writebackFrameDone ..
  | .surfCmdRegister .. | .surfCmdUnregister .. | .surfCmdClearTorn .. | .surfCmdBadOp .. | .sealCheckEnd
  | .dramWindowWrite .. | .fenceCmdAlloc .. | .fenceCmdFree .. | .fenceCmdBadOp .. | .fenceDoorbell ..
  | .coefWrite .. | .tmLoad .. | .lutLoad .. | .crustHintGo .. | .crustTileSelWrite .. | .crustClrCounts ..
  | .dramEccError .. | .fetchDeclWrite .. | .fetchEffWrite .. | .refInEdge .. | .hpdPlug .. | .sigSnapSelWrite ..
  | .sigClrCounts .. | .sqTailWrite .. | .sqResume .. | .scraperRowComplete | .scraperJobEnd | .dmaGo ..
  | .dmaResume .. | .dmaDescComplete .. | .dmaBusError .. | .clearHalt .. | .chkInit .. | .chkFeed8 ..
  | .chkFeed16 .. | .chkFeed32 .. | .softReset .. | .shutdown .. | .powerState .. | .layoutSet .. | .meterWrite ..
  | .pipeReset .. | .structuralScanEntry .. | .watchdogExpiry .. | .sensorSample .. | .aonPowerOn
  | .resetRelease .. | .startTimeout | .resetNAssert | .brownoutReset .. | .aonBrownout | .functionLevelReset
  | .perstAssert | .perstDeassert | .powerPipeReset .. | .powerCtrlHold .. | .powerCtrlDeep ..
  | .powerCtrlActive .. | .wakeNFall | .sidebandWake .. | .sliceEnd .. | .sliceBudgetExpiry ..
  | .holdEntryComplete | .deepEntryComplete => false

/-- R403, R423: the opcode, transport, SEQ and parameters of a command that an ICP packet carries. -/
def Instr.icpRow : Instr → Option (Nat × Tr × BitVec 16 × List Word)
  | .deviceInfo tr seq ps => some (0x0000, tr, seq, ps)
  | .heartbeat tr seq ps => some (0x0001, tr, seq, ps)
  | .ackAttention tr seq ps => some (0x0002, tr, seq, ps)
  | .getStatus tr seq ps => some (0x0003, tr, seq, ps)
  | .claimControl tr seq ps => some (0x0004, tr, seq, ps)
  | .releaseControl tr seq ps => some (0x0005, tr, seq, ps)
  | .softReset tr seq ps => some (0x0006, tr, seq, ps)
  | .shutdown tr seq ps => some (0x0007, tr, seq, ps)
  | .powerState tr seq ps => some (0x0008, tr, seq, ps)
  | .surfRegister tr seq ps => some (0x0100, tr, seq, ps)
  | .surfUnregister tr seq ps => some (0x0101, tr, seq, ps)
  | .surfClearTorn tr seq ps => some (0x0102, tr, seq, ps)
  | .surfQuery tr seq ps => some (0x0103, tr, seq, ps)
  | .surfSealStatus tr seq ps => some (0x0104, tr, seq, ps)
  | .fenceAlloc tr seq ps => some (0x0110, tr, seq, ps)
  | .fenceFree tr seq ps => some (0x0111, tr, seq, ps)
  | .fenceSignal tr seq ps => some (0x0112, tr, seq, ps)
  | .fenceRead tr seq ps => some (0x0113, tr, seq, ps)
  | .pipeHandover tr seq ps => some (0x0200, tr, seq, ps)
  | .pipeReclaim tr seq ps => some (0x0201, tr, seq, ps)
  | .layoutBegin tr seq ps => some (0x0202, tr, seq, ps)
  | .layoutWindow tr seq ps => some (0x0203, tr, seq, ps)
  | .layoutSet tr seq ps => some (0x0204, tr, seq, ps)
  | .layoutGet tr seq ps => some (0x0205, tr, seq, ps)
  | .atlasSet tr seq ps => some (0x0210, tr, seq, ps)
  | .meterTableSet tr seq ps => some (0x0211, tr, seq, ps)
  | .meterWrite tr seq ps => some (0x0212, tr, seq, ps)
  | .pipeStatus tr seq ps => some (0x0300, tr, seq, ps)
  | .portStatus tr seq ps => some (0x0301, tr, seq, ps)
  | .sinkRead tr seq ps _ => some (0x0302, tr, seq, ps)
  | .dpcdWrite tr seq ps _ => some (0x0303, tr, seq, ps)
  | .hdcpTopology tr seq ps _ => some (0x0304, tr, seq, ps)
  | .pipeReset tr seq ps => some (0x0305, tr, seq, ps)
  | .dsiDcs tr seq ps _ => some (0x0306, tr, seq, ps)
  | .pipeTimingSet tr seq ps => some (0x0307, tr, seq, ps)
  | .sensorRead tr seq ps => some (0x0400, tr, seq, ps)
  | .logInfo tr seq ps => some (0x0401, tr, seq, ps)
  | .logRead tr seq ps => some (0x0402, tr, seq, ps)
  | .healthRead tr seq ps => some (0x0403, tr, seq, ps)
  | .marginRead tr seq ps => some (0x0404, tr, seq, ps)
  | .fwInfo tr seq ps => some (0x0500, tr, seq, ps)
  | .fwBegin tr seq ps => some (0x0501, tr, seq, ps)
  | .fwChunk tr seq ps => some (0x0502, tr, seq, ps)
  | .fwCommit tr seq ps => some (0x0503, tr, seq, ps)
  | .fwActivate tr seq ps => some (0x0504, tr, seq, ps)
  | .selftestRun tr seq ps => some (0x0600, tr, seq, ps)
  | .selftestResult tr seq ps => some (0x0601, tr, seq, ps)
  | .debugChallenge tr seq ps => some (0x0610, tr, seq, ps)
  | .debugOpen tr seq ps => some (0x0611, tr, seq, ps)
  | .regWrite .. | .unmappedRead .. | .unalignedRead .. | .registerPairLowerRead .. | .postedWrite ..
  | .postedWriteLanded .. | .sysUnlockWrite .. | .unlockTimeout .. | .warmResetWrite .. | .sysLockdownWrite ..
  | .captureRearm .. | .sysTickCtrlWrite .. | .tickClrCounts .. | .fallbackTick .. | .fallbackTimerTick ..
  | .flattenItemComplete .. | .crustSlotDrain .. | .commitStrobe .. | .commitValidationEnd ..
  | .commitClrCounts .. | .cutoff .. | .swapPoint .. | .surfaceRetireDrain .. | .lineZero ..
  | .scanOutFetchIssue .. | .underrun .. | .writebackLineOverflow .. | .writebackFrameDone .. | .replayAbort ..
  | .configScrubPass .. | .safeBlackReload .. | .reloadFail .. | .surfCmdRegister .. | .surfCmdUnregister ..
  | .surfCmdClearTorn .. | .surfCmdBadOp .. | .sealCheckEnd | .descScrub .. | .dramWindowWrite ..
  | .dramWindowRead .. | .fenceCmdAlloc .. | .fenceCmdFree .. | .fenceCmdBadOp .. | .fenceDoorbell ..
  | .fenceScrub .. | .coefWrite .. | .claimScrub .. | .lsParity .. | .tmLoad .. | .tmLoadComplete ..
  | .tmParity .. | .lutLoad .. | .lutLoadComplete .. | .lutParity .. | .crustHintGo .. | .crustTileSelWrite ..
  | .crustClrCounts .. | .tileScrub .. | .crustDataParity .. | .dramEccError .. | .storeParity ..
  | .refreshMultUpdate .. | .dramRetrain .. | .fetchDeclWrite .. | .declTestEnd | .fetchEffWrite ..
  | .classBRasterStop .. | .pixelPllLock .. | .linkTrainingComplete .. | .trainFail .. | .retrainTimer ..
  | .refInEdge .. | .genlockRefLost .. | .teEdge .. | .teTimeout .. | .hpdPlug .. | .hpdUnplug .. | .irqHpd ..
  | .hdcpAuthComplete .. | .hdcpRetry .. | .dsiErrorReport .. | .sigSnapSelWrite .. | .sigClrCounts ..
  | .sqTailWrite .. | .sqResume .. | .scraperJobStart | .scraperRowComplete | .scraperJobEnd | .dmaGo ..
  | .dmaResume .. | .dmaDescComplete .. | .dmaBusError .. | .dmaHaltSettled | .clearHalt .. | .chkInit ..
  | .chkFeed8 .. | .chkFeed16 .. | .chkFeed32 .. | .icpPacketReceived .. | .icpCmdTailWrite ..
  | .icpRplHeadWrite .. | .icpRingTake | .writePacket .. | .readReply .. | .readStatus .. | .sidebandBadCommand ..
  | .hostLost | .debugChallengeExpiry | .structuralScanEntry .. | .watchdogExpiry .. | .sensorSample ..
  | .leavenRun | .leavenRunComplete .. | .aonPowerOn | .railTimeout .. | .railRetry | .resetRelease ..
  | .startTimeout | .startSuccess | .resetNAssert | .brownoutWarn .. | .brownoutRecovery .. | .brownoutReset ..
  | .aonBrownout | .functionLevelReset | .perstAssert | .perstDeassert | .powerPipeReset .. | .powerCtrlHold ..
  | .powerCtrlDeep .. | .powerCtrlActive .. | .thermalHoldExit | .wakeNFall | .sidebandWake .. | .sliceEnd ..
  | .sliceBudgetExpiry .. | .refclkLost | .refclkReturn | .holdEntryComplete | .holdExitComplete
  | .deepEntryComplete | .healthRecordMinutes => none

end Sys2Proof
end

