-- ==== Sys2Proof/Certificates/Slice0/Obligations.lean ====
section
/-! DEFINITION.  The statements for the provers: what the block's commands and steps do, by the rules of the spec. -/

open Sys2Proof Sys2Proof.Machine

/-- (R45, R51, R384) For every state: when a command c stands at the front of the queue, step is exec of c on the
    state with the queue's rest, and that answers a next state whose queue is the rest; so no command stops the
    block. On an empty queue a device that is dark stays as it is; otherwise Hearth firmware runs on and the copy
    engine moves one burst; with firmware running and no burst ready the state stays. What an empty queue does is
    the model's own choice (assumption log 1). -/
def Obligations.AStepRunsTheFrontCommand : Prop :=
  ∀ s : State,
    (∀ c rest, s.pending = c :: rest → step s = exec c { s with pending := rest } ∧
      ∃ t, exec c { s with pending := rest } = .next t ∧ t.pending = rest) ∧
    (s.pending = [] → s.dev.dark = true → step s = .next s) ∧
    (s.pending = [] → s.dev.dark = false →
      step s = .next { s with dev := Dev.engine Dev.dmaBurst s.dev.fwResume }) ∧
    (s.pending = [] → s.dev.hearth.stopped = false → s.dev.dmaNext = none → step s = .next s)

/-- (R81, R124, R147) For every state whose tables (registers, proof bank, active bank, DRAM, host memory,
    surfaces, fences) are in canonical form and whose queued commands are well formed, every step that answers a
    next state answers one of the same kind: addresses strictly rise, no entry equals what an unlisted key reads
    as, so equal contents are equal data. -/
def Obligations.EveryStepKeepsTheTablesCanonical : Prop :=
  ∀ s t : State, s.dev.canon = true ∧ s.queueOk = true → step s = .next t → t.dev.canon = true ∧ t.queueOk = true

/-- (R14, R81) The invariant of EveryStepKeepsTheTablesCanonical holds of State.reset. -/
def Obligations.ResetTablesAreCanonical : Prop := State.reset.dev.canon = true ∧ State.reset.queueOk = true

/-- (R74, R121, R193, R257, R288, R303, R325, R326, R377, R460, R495, R519) After a cold power-on the reset cause,
    genlock filter, line-store pool, memory-fetch, wake, Leaven, self-test, ICP attention, Scraper queue, crust and
    per-pipe registers hold the Reset values of their register tables; the raster fields hold them in the proof
    bank and in the active bank; the device is neither in Starter mode nor in HOLD nor in DEEP, and no command
    waits. -/
def Obligations.ResetLeavesTheStatedValues : Prop :=
  let d := State.reset.dev
  d.rg F.SYS_RESET_CAUSE_COLD = 1 ∧
  d.rg F.SYS_REF_CTRL_FILTER = 3 ∧ d.rg F.LINESTORE_POOL_FREE = 1024 ∧ d.rg F.FETCH_EFF_EFF = 7200 ∧
  d.rg F.FETCH_EFF_CEILING = 7200 ∧ d.rg F.FETCH_DRAM_RATE = 2 ∧ d.rg F.FETCH_DRAM_PAIRS_OK = 0xFF ∧
  d.rg F.FETCH_DERATE_TRAIN_MS = 1000 ∧ d.rg F.FETCH_SLACK_WEIGHTS_PCIE = 8 ∧ d.rg F.FETCH_SLACK_WEIGHTS_CRUST = 4 ∧
  d.rg F.FETCH_SLACK_WEIGHTS_SCRAPER = 2 ∧ d.rg F.FETCH_SLACK_WEIGHTS_DMA = 2 ∧
  d.rg F.FETCH_SLACK_WEIGHTS_HEARTH = 1 ∧ d.rg F.FETCH_SLACK_GUARD_NS = 1000 ∧ d.rg F.FETCH_ECC_CFG_STORM = 64 ∧
  d.rg F.POWER_WAKE_WAKE_N = 1 ∧ d.rg F.POWER_WAKE_PERST = 1 ∧ d.rg F.LEAVEN_STATUS_MIN_TO_RUN = 360 ∧
  d.rg F.SECURE_ST_BUDGET_SERIAL = 3 ∧ d.rg F.SECURE_ST_BUDGET_AGEING = 3 ∧ d.rg F.ICP_ATTENTION_ATTENTION = 1 ∧
  (∀ n ∈ [0, 1, 2, 3], d.rg (F.SQ_STATUS_IDLE.i n) = 1 ∧ d.rg (F.SQ_CTRL_STOP_ON_ERR.i n) = 1) ∧
  (∀ p ∈ [0, 1, 2, 3], d.rg (F.PIPE_FLIP_CTRL_TIMEOUT_FRAMES.i p) = 8 ∧ d.rg (F.PIPE_TG_STATUS_CAP_MPIX.i p) = 2400 ∧
    d.rg (F.CRUST_PIPE_CFG_ENTRY.i p) = 4 ∧ d.rg (F.CRUST_PIPE_CFG_SLOW.i p) = 16 ∧
    ∀ v ∈ [d.pfV, d.acV], v.g (F.PIPE_TG_CTRL_EN.i p) = 0 ∧ v.g (F.PIPE_TG_CTRL_PORT_SEL.i p) = 7 ∧
      v.g (F.PIPE_HTIMING_A_HACTIVE.i p) = 1920 ∧ v.g (F.PIPE_HTIMING_A_HFP.i p) = 88 ∧
      v.g (F.PIPE_HTIMING_B_HSYNC.i p) = 44 ∧ v.g (F.PIPE_HTIMING_B_HBP.i p) = 148 ∧
      v.g (F.PIPE_VTIMING_A_VACTIVE.i p) = 1080 ∧ v.g (F.PIPE_VTIMING_A_VFP.i p) = 4 ∧
      v.g (F.PIPE_VTIMING_B_VSYNC.i p) = 5 ∧ v.g (F.PIPE_VTIMING_B_VBP.i p) = 36 ∧
      v.g (F.PIPE_PCLK_KHZ.i p) = 148500) ∧
  d.starter = false ∧ d.deep = false ∧ d.inHold = false ∧ State.reset.pending = []

/-- (R486, R487, R489, R515) Every command that needs the main supply completes and changes nothing while the
    device is in DEEP or in structural scan; in structural scan only a cold power-on (the supply of the always-on
    island included) changes the device; so a command that changes a dark device is a wake source, a pin or supply
    event of the always-on island, or a cold power-on. -/
def Obligations.DeepAndScanLeaveOnlyTheirOwnCommands : Prop :=
  ∀ (c : Instr) (s : State),
    (s.dev.deep = true → c.reach = .awake → Gives c s s.dev) ∧
    (s.dev.power.scan = true → c.reach ≠ .always → Gives c s s.dev) ∧
    (s.dev.dark = true → ∀ t, exec c s = .next t → t.dev ≠ s.dev → c.reach ≠ .awake)

/-- (R81, R124, R147, R204, R423) For every state and each of the 113 commands that `Instr.sparesDram` names
    (reads, queries, table, fence and layout staging rows, commit validation, line and port events, scrubs, loads
    of the on-die RAMs, sensor-independent Hearth rows): the command answers a next state with the same queue, and
    every DRAM address reads after it as it read before. -/
def Obligations.SparingCommandsLeaveDramAlone : Prop :=
  ∀ (c : Instr) (s : State), c.sparesDram = true → Completes c s (fun d => ∀ a, d.byteAt a = s.dev.byteAt a)

/-- (R22, R29, R30) A write of 5, 6 or 7 to SYS_TICK_CTRL.SRC sets BAD_SRC and changes nothing else; a write of 0
    to 4 changes the field alone; a write of CLR_COUNTS clears SKIPPED_COUNT and CARRY_COUNT and, as W1C, a BAD_SRC
    written with 1.  Answers a next state, as said, for: sysTickCtrlWrite, tickClrCounts. -/
def Obligations.TickRegisterWrites : Prop :=
  ∀ (rq : Rq) (data : Word) (s : State), s.dev.canon = true → s.dev.dark = false →
    (5 ≤ data.toNat % 8 → Gives (.sysTickCtrlWrite rq data) s (s.dev.up F.SYS_TICK_STATUS_BAD_SRC)) ∧
    (data.toNat % 8 < 5 → Completes (.sysTickCtrlWrite rq data) s (fun e =>
      e.unV F.SYS_TICK_CTRL_SRC.off = (s.dev.unV F.SYS_TICK_CTRL_SRC.off &&& ~~~7) ||| (data &&& 7) ∧
      s.dev.sameBut e [F.SYS_TICK_CTRL_SRC.off])) ∧
    (bit data.toNat 8 = true → Gives (.tickClrCounts rq data) s
      (((s.dev.ack F.SYS_TICK_STATUS_BAD_SRC.off 0x20 data).dn F.SYS_TICK_STATUS_SKIPPED_COUNT).dn F.SYS_TICK_CARRY_COUNT))

/-- (R49, R51, R52, R77, R78) A register write outside Starter mode's bar: with no byte enabled it does nothing; to
    an unmapped offset it sets UNMAPPED whatever its width; to a mapped offset, an aligned 8-bit or 16-bit write
    sets ACCESS_WIDTH and any other narrow write sets ACCESS_ALIGN. The access is counted and captured, and nothing
    else changes. A write of several doublewords to the register or the ring window is its first doubleword's write
    followed by the write of the rest at the next address, in a device that the first has not made dark. Accesses
    to an unmapped offset are tested before Starter mode only as assumption log 21 says.  Answers a next state, as
    said, for regWrite. -/
def Obligations.WritesOutsideTheRulesAreDiscarded : Prop :=
  ∀ (rq : Rq) (off : BitVec 26) (be : BitVec 4) (data : Word) (s : State),
    s.dev.dark = false → s.dev.starterBars rq (primOf off.toNat) = false →
    (be = 0 → Gives (.regWrite rq .reg off be ⟨data, []⟩) s s.dev) ∧
    (be ≠ 0 → mapped (primOf off.toNat) = false → Gives (.regWrite rq .reg off be ⟨data, []⟩) s
      (s.dev.accErr rq .unmapped true (firstByte off.toNat be.toNat))) ∧
    (mapped (primOf off.toNat) = true → be = 1 ∨ be = 2 ∨ be = 4 ∨ be = 8 ∨ be = 3 ∨ be = 12 →
      Gives (.regWrite rq .reg off be ⟨data, []⟩) s (s.dev.accErr rq .width true (firstByte off.toNat be.toNat))) ∧
    (mapped (primOf off.toNat) = true → be = 5 ∨ be = 6 ∨ be = 7 ∨ be = 9 ∨ be = 10 ∨ be = 11 ∨ be = 13 ∨ be = 14 →
      Gives (.regWrite rq .reg off be ⟨data, []⟩) s (s.dev.accErr rq .align true (firstByte off.toNat be.toNat))) ∧
    (∀ (win : Win) (x : BitVec 4 × Word) (more : List (BitVec 4 × Word)) (e : Dev), off.toNat + 4 < 2 ^ 26 → e.dark = false →
      Gives (.regWrite rq win off be ⟨data, []⟩) s e →
      exec (.regWrite rq win off be ⟨data, x :: more⟩) s
        = exec (.regWrite rq win (off + 4) x.1 ⟨x.2, more⟩) { s with dev := e })

/-- (R49, R52, R77, R78) Where the posted area of the offset, if any, is not busy: a read of an unmapped offset
    answers 0x00 in every enabled byte and sets UNMAPPED; a read with unaligned byte enables of a mapped offset
    answers 0xFF in every enabled byte and sets ACCESS_ALIGN.  Answers a next state, as said, for: unmappedRead,
    unalignedRead. -/
def Obligations.RefusedReadsAnswerZerosOrOnes : Prop :=
  ∀ (rq : Rq) (off : BitVec 26) (be : BitVec 4) (s : State), s.dev.dark = false →
    (areaOf (primOf off.toNat)).all (fun a => !s.dev.areaBusy a) = true → be ≠ 0 →
    (mapped (primOf off.toNat) = false → Gives (.unmappedRead rq off be) s
      ((s.dev.accErr rq .unmapped false (firstByte off.toNat be.toNat)).send (.read rq (laneBytes be.toNat 0)))) ∧
    (mapped (primOf off.toNat) = true →
      be = 5 ∨ be = 6 ∨ be = 7 ∨ be = 9 ∨ be = 10 ∨ be = 11 ∨ be = 13 ∨ be = 14 → Gives (.unalignedRead rq off be) s
      ((s.dev.accErr rq .align false (firstByte off.toNat be.toNat)).send
        (.read rq (laneBytes be.toNat (BitVec.allOnes 32)))))

/-- (R53) For every register pair outside the posted areas: a 32-bit read of the lower word answers it and latches
    the upper word for the requester; a 64-bit read answers the lower and the latched upper word, uses the latch
    up, and changes nothing else.  Answers a next state, as said, for registerPairLowerRead. -/
def Obligations.PairReadLatchesTheUpperWord : Prop :=
  ∀ (rq : Rq) (off : BitVec 24) (r : Reg) (s : State), s.dev.dark = false →
    off.toNat % 8 = 0 → mapped off.toNat = true → areaOf off.toNat = none →
    findReg off.toNat = some (r, 0) → r.pair = true → findReg (off.toNat + 4) = some (r, 1) →
    areaOf (off.toNat + 4) = none →
    Gives (.registerPairLowerRead rq off false) s
      ((s.dev.setLatch rq (off.toNat + 4) (some (s.dev.word rq (off.toNat + 4)))).send
        (.read rq (laneBytes 15 (s.dev.word rq off.toNat)))) ∧
    (Tab.wf dfltLatch s.dev.latch = true → Completes (.registerPairLowerRead rq off true) s (fun e =>
      e.out = .read rq (laneBytes 15 (s.dev.word rq (off.toNat + 4))) ::
        .read rq (laneBytes 15 (s.dev.word rq off.toNat)) :: s.dev.out ∧
      Tab.get dfltLatch e.latch (rqKey rq (off.toNat + 4)) = none ∧
      { e with out := s.dev.out, latch := s.dev.latch } = s.dev))

/-- (R54, R55, R56) For every aligned full alias write of a mapped offset outside the posted areas: data that holds
    0 in every bit outside RW and RWS fields acts through the alias rule; data that holds a 1 there sets
    ALIAS_IGNORED and then acts as the data cut to those fields; where the register has no such field, a nonzero
    write does nothing but set the flag.  Answers a next state, as said, for regWrite. -/
def Obligations.AliasWritesActOnReadWriteFieldsOnly : Prop :=
  ∀ (rq : Rq) (map : Fin 4) (off : BitVec 24) (data : Word) (s : State),
    map ≠ 0 → s.dev.canon = true → s.dev.dark = false → s.dev.starterBars rq off.toNat = false →
    off.toNat % 4 = 0 → mapped off.toNat = true → areaOf off.toNat = none →
    (data &&& ~~~aliasBits off.toNat = 0 →
      exec (.regWrite rq .reg (BitVec.ofNat 26 (map.val * 2 ^ 24 + off.toNat)) 15 ⟨data, []⟩) s
        = .next { s with dev := regApply rq map.val off.toNat (map.val * 2 ^ 24 + off.toNat) data s.dev }) ∧
    (data &&& ~~~aliasBits off.toNat ≠ 0 →
      exec (.regWrite rq .reg (BitVec.ofNat 26 (map.val * 2 ^ 24 + off.toNat)) 15 ⟨data, []⟩) s
        = exec (.regWrite rq .reg (BitVec.ofNat 26 (map.val * 2 ^ 24 + off.toNat)) 15 ⟨data &&& aliasBits off.toNat, []⟩)
            { s with dev := s.dev.accErr rq .aliasIgnored true (map.val * 2 ^ 24 + off.toNat) }) ∧
    (aliasBits off.toNat = 0 → data ≠ 0 →
      Gives (.regWrite rq .reg (BitVec.ofNat 26 (map.val * 2 ^ 24 + off.toNat)) 15 ⟨data, []⟩) s
        (s.dev.accErr rq .aliasIgnored true (map.val * 2 ^ 24 + off.toNat)))

/-- (R58, R59, R60) A write to a posted area whose island is powered waits and shows BUSY; while the area is busy a
    further write is dropped, sets POSTED_DROP and records the area; a write to an unpowered area is dropped with
    DROP_OFF = 1. When the first waiting write of an area has reached its register it takes its effect and no
    longer waits, and where it leaves no read held nothing else happens; no read is held before it in that clause.
    Answers a next state, as said, for: postedWrite, postedWriteLanded. -/
def Obligations.PostedWritesWaitAndLand : Prop :=
  (∀ (rq : Rq) (off : BitVec 24) (data : Word) (a : Nat) (s : State), s.dev.reaches rq = true →
    off.toNat % 4 = 0 → mapped off.toNat = true → areaOf off.toNat = some a →
    (s.dev.areaOff a off.toNat = false → s.dev.areaBusy a = false →
      Gives (.postedWrite rq off data) s
        ({ s.dev with posted := s.dev.posted ++ [(⟨a, rq, 0, off.toNat, data, true⟩ : PostedWr)] }).postedShow) ∧
    (s.dev.areaOff a off.toNat = false → s.dev.areaBusy a = true →
      Gives (.postedWrite rq off data) s
        (((s.dev.accErr rq .postedDrop true off.toNat).sg F.SYS_POSTED_BUSY_DROP_AREA a).sg
          F.SYS_POSTED_BUSY_DROP_OFF 0)) ∧
    (s.dev.areaOff a off.toNat = true →
      Gives (.postedWrite rq off data) s
        (((s.dev.accErr rq .postedDrop true off.toNat).sg F.SYS_POSTED_BUSY_DROP_AREA a).sg
          F.SYS_POSTED_BUSY_DROP_OFF 1))) ∧
  (∀ (a : Fin 12) (x : PostedWr) (s : State), s.dev.dark = false →
    firstWith (fun w => w.area == a.val) s.dev.posted = some x → s.dev.heldReads = [] →
    Completes (.postedWriteLanded a) s (fun e => ∃ d : Dev,
      d = ({ s.dev with posted := s.dev.posted.erase x }).postedShow ∧
      ((regApply x.rq x.map x.off x.off x.data d).heldReads = [] → e = regApply x.rq x.map x.off x.off x.data d)))

/-- (R61, R62, R63, R71, R73, R77, R78) A SYS_UNLOCK write with the key of one of the three guarded registers arms
    the requester's unlock unless unlocks are disabled; any other write cancels it and sets KEY_BAD; the timeout
    cancels it. The first SYS_LOCKDOWN write sets its two bits and locks it; a later write of the host changes
    nothing but LOCK_VIOLATION and its count, and one of Hearth firmware changes nothing (log 21).  Answers a next
    state, as said, for: sysUnlockWrite, unlockTimeout, sysLockdownWrite. -/
def Obligations.UnlockAndLockdownWrites : Prop :=
  (∀ (rq : Rq) (data : Word) (s : State), s.dev.dark = false →
    ((data.toNat = 0x6A3C0005 ∨ data.toNat = 0x6A3C0002 ∨ data.toNat = 0x6A3C0010) →
      s.dev.fl F.SYS_LOCKDOWN_UNLOCK_DISABLE = false →
      Gives (.sysUnlockWrite rq data) s
        (((s.dev.up (F.SYS_UNLOCK_ARMED.rq rq)).sg (F.SYS_UNLOCK_TARGET.rq rq) (data.toNat % 65536)).restore
          .unbanked 0x10)) ∧
    (¬ ((data.toNat = 0x6A3C0005 ∨ data.toNat = 0x6A3C0002 ∨ data.toNat = 0x6A3C0010) ∧
        s.dev.fl F.SYS_LOCKDOWN_UNLOCK_DISABLE = false) →
      Gives (.sysUnlockWrite rq data) s
        (((s.dev.dn (F.SYS_UNLOCK_ARMED.rq rq)).dn (F.SYS_UNLOCK_TARGET.rq rq)).accErr rq .keyBad true 0x10)) ∧
    Gives (.unlockTimeout rq) s ((s.dev.dn (F.SYS_UNLOCK_ARMED.rq rq)).dn (F.SYS_UNLOCK_TARGET.rq rq))) ∧
  (∀ (rq : Rq) (data : Word) (s : State), s.dev.canon = true → s.dev.dark = false →
    (s.dev.locked = false → Completes (.sysLockdownWrite rq data) s (fun e =>
      e.unV 0x18 = (s.dev.unV 0x18 &&& ~~~3) ||| (data &&& 3) ∧ e.locked = true ∧
      s.dev.sameBut { e with locked := s.dev.locked } [0x18])) ∧
    (s.dev.locked = true → rq = .host → Gives (.sysLockdownWrite rq data) s
      ((s.dev.accErr .host .lockViolation true 0x18).incSat F.SYS_ACCESS_COUNT_LOCK_VIOLATIONS)) ∧
    (s.dev.locked = true → rq = .fw → Gives (.sysLockdownWrite rq data) s s.dev))

/-- (R61, R62, R72, R77, R280, R288, R474, R513, R515, R519) Without the unlock of the register, a write to
    SYS_RESET_CTRL, FETCH_EFF or SECURE_DEBUG sets LOCKED_WRITE and changes nothing else. With it, the unlock is
    used up and: SYS_RESET_CTRL sets RETAIN_DRAM and resets the device when WARM_RESET is 1; FETCH_EFF clamps the
    value between 5,000 and the ceiling and re-plans the budget; SECURE_DEBUG enters structural scan when the debug
    port is open and sets SCAN_REFUSED when it is closed.  Answers a next state, as said, for: warmResetWrite,
    fetchEffWrite, structuralScanEntry. -/
def Obligations.GuardedRegistersNeedTheirUnlock : Prop :=
  (∀ (rq : Rq) (data : Word) (s : State), s.dev.reaches rq = true →
    (s.dev.unlocked rq 0x14 = false → Gives (.warmResetWrite rq data) s (s.dev.accErr rq .lockedWrite true 0x14)) ∧
    (s.dev.unlocked rq 0x80008 = false → Gives (.fetchEffWrite rq data) s (s.dev.accErr rq .lockedWrite true 0x80008)) ∧
    (s.dev.unlocked rq 0x100040 = false →
      Gives (.structuralScanEntry rq data) s (s.dev.accErr rq .lockedWrite true 0x100040))) ∧
  (∀ (rq : Rq) (data : Word) (s : State), s.dev.reaches rq = true → s.dev.unlocked rq 0x14 = true →
    (bit data.toNat 0 = false → Gives (.warmResetWrite rq data) s
      (((s.dev.unlockOff rq).sg F.SYS_RESET_CTRL_RETAIN_DRAM (data.toNat / 256 % 2)).restore .unbanked 0x14)) ∧
    (bit data.toNat 0 = true → Gives (.warmResetWrite rq data) s
      ((((s.dev.unlockOff rq).sg F.SYS_RESET_CTRL_RETAIN_DRAM (data.toNat / 256 % 2)).restore .unbanked 0x14).warmReset
        .software))) ∧
  (∀ (rq : Rq) (data : Word) (s : State), s.dev.reaches rq = true → s.dev.unlocked rq 0x80008 = true →
    Gives (.fetchEffWrite rq data) s
      (let e := max 5000 (min (data.toNat % 16384) (s.dev.unlockOff rq |>.rg F.FETCH_EFF_CEILING))
        let d := (s.dev.unlockOff rq).onlyIf (bit data.toNat 15) (·.dn F.FETCH_EFF_EFF_CLAMPED)
        ((({ d with replan := true }.sg F.FETCH_EFF_EFF e).onlyIf (e != data.toNat % 16384)
          (·.up F.FETCH_EFF_EFF_CLAMPED)).restore .unbanked 0x80008))) ∧
  (∀ (rq : Rq) (data : Word) (s : State), s.dev.reaches rq = true → s.dev.unlocked rq 0x100040 = true →
    Gives (.structuralScanEntry rq data) s
      (let d := ((s.dev.unlockOff rq).w1cAt 0x100040 data).restore .unbanked 0x100040
        if bit data.toNat 30 = false then d else if d.fl F.SECURE_DEBUG_PORT_OPEN then d.scanEnter
        else d.up F.SECURE_DEBUG_SCAN_REFUSED))

/-- (R544, R78, R11) For SYS_ACCESS_ADDR, SYS_PARITY_ADDR, SURF_ERR_SID and FENCE_ERR_FID: writing 1 to VALID
    clears VALID and returns every captured field to 0 (and the error count of SYS_ACCESS_ADDR); writing 0 to VALID
    has no effect.  Answers a next state, as said, for captureRearm. -/
def Obligations.CaptureRegistersRearm : Prop :=
  ∀ (rq : Rq) (data : Word) (s : State), s.dev.reaches rq = true →
    (bit data.toNat 31 = true →
      Gives (.captureRearm rq .accessAddr data) s
        (((((s.dev.ack 0x44 0x80000000 data).dn F.SYS_ACCESS_ADDR_OFFSET).dn F.SYS_ACCESS_ADDR_CAUSE).dn
          F.SYS_ACCESS_ADDR_WRITE).dn F.SYS_ACCESS_COUNT_ERRORS) ∧
      Gives (.captureRearm rq .parityAddr data) s
        (((s.dev.ack 0x64 0x80000000 data).dn F.SYS_PARITY_ADDR_OFFSET).dn F.SYS_PARITY_ADDR_BANK) ∧
      Gives (.captureRearm rq .surfErrSid data) s
        ((s.dev.ack 0xE0034 0x80000000 data).dn F.SURF_ERR_SID_SID) ∧
      Gives (.captureRearm rq .fenceErrFid data) s
        ((s.dev.ack 0xE0058 0x80000000 data).dn F.FENCE_ERR_FID_FID)) ∧
    (bit data.toNat 31 = false →
      Gives (.captureRearm rq .accessAddr data) s (s.dev.ack 0x44 0x80000000 data) ∧
      Gives (.captureRearm rq .parityAddr data) s (s.dev.ack 0x64 0x80000000 data) ∧
      Gives (.captureRearm rq .surfErrSid data) s (s.dev.ack 0xE0034 0x80000000 data) ∧
      Gives (.captureRearm rq .fenceErrFid data) s (s.dev.ack 0xE0058 0x80000000 data))

/-- (R11, R120, R257, R347) A write with CLR_COUNTS = 1 clears the two counts of the requester's COMMIT_ERR, of
    CRUST_PIPE_n_STATUS or of SIG_PIPE_n_STATUS, and the W1C flags written with 1 in the same word; nothing else
    changes.  Answers a next state, as said, for: commitClrCounts, crustClrCounts, sigClrCounts. -/
def Obligations.ClrCountsClearsTheCounts : Prop :=
  (∀ (rq : Rq) (data : Word) (s : State), s.dev.reaches rq = true → bit data.toNat 8 = true →
    Gives (.commitClrCounts rq data) s
      (((s.dev.ack (rqKey rq 0x10030) 7 data).dn (F.COMMIT_COUNTS_ACCEPTED.rq rq)).dn (F.COMMIT_COUNTS_REFUSED.rq rq))) ∧
  (∀ (rq : Rq) (p : Fin 4) (data : Word) (s : State), s.dev.reaches rq = true → bit data.toNat 23 = true →
    Gives (.crustClrCounts rq p data) s
      (((s.dev.ack (0x70204 + 0x20 * p.val) 0xFE data).dn (F.CRUST_PIPE_COUNTS_TILES_WRITTEN.i p.val)).dn
        (F.CRUST_PIPE_COUNTS_TILES_SKIPPED.i p.val))) ∧
  (∀ (rq : Rq) (p : Fin 4) (data : Word) (s : State), s.dev.reaches rq = true → bit data.toNat 8 = true →
    Gives (.sigClrCounts rq p data) s
      (((s.dev.ack (0xA0104 + 0x10 * p.val) 1 data).dn (F.SIG_PIPE_COUNTS_TORN_FRAMES.i p.val)).dn
        (F.SIG_PIPE_COUNTS_INVALID_FRAMES.i p.val)))

/-- (R148) A FENCE_CMD that meets no uncompleted command of its requester: ALLOC with ALLOC_ANY takes the lowest
    FREE fence, and a named FREE fence otherwise, and gives it the requester's FENCE_INIT; with every fence
    allocated it answers TABLE_FULL. FREE returns an ALLOCATED fence to FREE, answers NOT_REGISTERED for a FREE one
    and IN_USE while a surface binds it or a layer waits on it; any other OP value is answered BAD_OP. One that
    meets an uncompleted command sets CMD_BUSY and nothing else.  Answers a next state, as said, for:
    fenceCmdAlloc, fenceCmdFree, fenceCmdBadOp. -/
def Obligations.FenceCommandsAllocateAndFree : Prop :=
  ∀ (rq : Rq) (data : Word) (early : Bool) (s : State), s.dev.reaches rq = true →
    (((s.dev.meets early).cmdBusy rq = false →
    let d := (s.dev.meets early).cmdTaken rq;
    (∀ f, data.toNat / 2 ^ 28 = 1 → s.dev.freeFid = some f → bit data.toNat 16 = true →
      Gives (.fenceCmdAlloc rq ⟨data, early⟩) s
        (((d.fenceOcc (d.rg F.FENCE_OCCUPANCY_COUNT + 1)).fenceNow f
          ⟨true, BitVec.ofNat 64 (d.rg (F.FENCE_INIT_VALUE.rq rq))⟩).fenceResult rq .ok f).alone) ∧
    (data.toNat / 2 ^ 28 = 1 → bit data.toNat 16 = false → (s.dev.fenceAt (data.toNat % 4096)).alloc = false →
      Gives (.fenceCmdAlloc rq ⟨data, early⟩) s
        (((d.fenceOcc (d.rg F.FENCE_OCCUPANCY_COUNT + 1)).fenceNow (data.toNat % 4096)
          ⟨true, BitVec.ofNat 64 (d.rg (F.FENCE_INIT_VALUE.rq rq))⟩).fenceResult rq .ok (data.toNat % 4096)).alone) ∧
    (data.toNat / 2 ^ 28 = 1 → s.dev.freeFid = none →
      Gives (.fenceCmdAlloc rq ⟨data, early⟩) s
        ((d.up F.FENCE_STATUS_FULL_SEEN).fenceResult rq .tableFull (data.toNat % 4096)).alone) ∧
    (∀ f, data.toNat / 2 ^ 28 = 1 → s.dev.freeFid = some f → bit data.toNat 16 = false →
      (s.dev.fenceAt (data.toNat % 4096)).alloc = true →
      Gives (.fenceCmdAlloc rq ⟨data, early⟩) s (d.fenceResult rq .idInUse (data.toNat % 4096)).alone) ∧
    (data.toNat / 2 ^ 28 = 2 → (s.dev.fenceAt (data.toNat % 4096)).alloc = true →
      s.dev.fenceBound (data.toNat % 4096) = false → s.dev.fenceWaited (data.toNat % 4096) = false →
      Gives (.fenceCmdFree rq ⟨data, early⟩) s
        (((d.fenceOcc (d.rg F.FENCE_OCCUPANCY_COUNT - 1)).fenceNow (data.toNat % 4096) {}).fenceResult rq .ok
          (data.toNat % 4096)).alone) ∧
    (data.toNat / 2 ^ 28 = 2 → (s.dev.fenceAt (data.toNat % 4096)).alloc = false →
      Gives (.fenceCmdFree rq ⟨data, early⟩) s (d.fenceResult rq .notRegistered (data.toNat % 4096)).alone) ∧
    (data.toNat / 2 ^ 28 = 2 → (s.dev.fenceAt (data.toNat % 4096)).alloc = true →
      (s.dev.fenceBound (data.toNat % 4096) || s.dev.fenceWaited (data.toNat % 4096)) = true →
      Gives (.fenceCmdFree rq ⟨data, early⟩) s (d.fenceResult rq .inUse (data.toNat % 4096)).alone) ∧
    (data.toNat / 2 ^ 28 ≠ 1 → data.toNat / 2 ^ 28 ≠ 2 →
      Gives (.fenceCmdBadOp rq ⟨data, early⟩) s (d.fenceResult rq .badOp (data.toNat % 4096)).alone)) ∧
    ((s.dev.meets early).cmdBusy rq = true →
      Gives (.fenceCmdAlloc rq ⟨data, early⟩) s ((s.dev.meets early).up F.SURF_STATUS_CMD_BUSY).alone ∧
      Gives (.fenceCmdFree rq ⟨data, early⟩) s ((s.dev.meets early).up F.SURF_STATUS_CMD_BUSY).alone ∧
      Gives (.fenceCmdBadOp rq ⟨data, early⟩) s ((s.dev.meets early).up F.SURF_STATUS_CMD_BUSY).alone))

/-- (R131, R132, R134, R136, R157) A SURF_CMD that meets no uncompleted command of its requester: REGISTER of the
    requester's staged descriptor with an answer OK registers it at the chosen or named SID and counts it;
    SEAL_STARTED reserves the SID and starts the sealed check; TABLE_FULL sets FULL_SEEN; every other refusal
    changes nothing but the result. UNREGISTER frees a REGISTERED surface no armed value names, answers IN_USE for
    one in use and NOT_REGISTERED for a FREE one. CLEAR_TORN clears the count of a non-FREE surface. Any other OP
    value is answered BAD_OP. One that meets an uncompleted command sets CMD_BUSY and nothing else.  Answers a next
    state, as said, for: surfCmdRegister, surfCmdUnregister, surfCmdClearTorn, surfCmdBadOp, idInUse, badFormat,
    badGeometry, badRange, badFence, protFull, sealBusy. -/
def Obligations.SurfaceCommandsRegisterAndRelease : Prop :=
  ∀ (rq : Rq) (data : Word) (early : Bool) (s : State), s.dev.reaches rq = true →
    ((s.dev.meets early).cmdBusy rq = false → let d := (s.dev.meets early).cmdTaken rq;
  (∀ (x : Surf) (sid : Nat), data.toNat / 2 ^ 28 = 1 →
      x = surfOfWords (fun k => (d.unV (rqKey rq (0xE0000 + 4 * k))).toNat) →
      sid = (if bit data.toNat 16 then d.lowSid else data.toNat % 16384) →
      (d.registerCheck x (bit data.toNat 16) (data.toNat % 16384) = .ok →
        Gives (.surfCmdRegister rq ⟨data, early⟩) s
          (((d.putSurf sid { x with st := .registered }).surfOcc (d.rg F.SURF_OCCUPANCY_COUNT + 1)).surfResult rq
            .ok sid).alone) ∧
      (d.registerCheck x (bit data.toNat 16) (data.toNat % 16384) = .sealStarted →
        Gives (.surfCmdRegister rq ⟨data, early⟩) s
          ((((((d.putSurf sid { x with sealing := true }).surfOcc (d.rg F.SURF_OCCUPANCY_COUNT + 1)).sg
            F.SURF_SEAL_SID sid).dn F.SURF_SEAL_DONE).up F.SURF_SEAL_BUSY).surfResult rq .sealStarted sid).alone) ∧
      (d.registerCheck x (bit data.toNat 16) (data.toNat % 16384) = .tableFull →
        Gives (.surfCmdRegister rq ⟨data, early⟩) s
          ((d.up F.SURF_STATUS_FULL_SEEN).surfResult rq .tableFull (data.toNat % 16384)).alone) ∧
      (∀ c, d.registerCheck x (bit data.toNat 16) (data.toNat % 16384) = c →
        c = .idInUse ∨ c = .badFormat ∨ c = .badGeometry ∨ c = .badRange ∨ c = .badFence ∨ c = .protFull ∨ c = .sealBusy →
        Gives (.surfCmdRegister rq ⟨data, early⟩) s (d.surfResult rq c sid).alone)) ∧
    (∀ sid, data.toNat / 2 ^ 28 = 2 → sid = data.toNat % 16384 →
      ((d.surfAt sid).st = .registered → d.waitingNames sid = false →
        Gives (.surfCmdUnregister rq ⟨data, early⟩) s
          (((d.putSurf sid {}).surfOcc (d.rg F.SURF_OCCUPANCY_COUNT - 1)).surfResult rq .ok sid).alone) ∧
      ((d.surfAt sid).st = .inScan ∨ (d.surfAt sid).st = .retiring ∨
          ((d.surfAt sid).st = .registered ∧ d.waitingNames sid = true) →
        Gives (.surfCmdUnregister rq ⟨data, early⟩) s (d.surfResult rq .inUse sid).alone) ∧
      ((d.surfAt sid).st = .free →
        Gives (.surfCmdUnregister rq ⟨data, early⟩) s (d.surfResult rq .notRegistered sid).alone)) ∧
    (∀ sid, data.toNat / 2 ^ 28 = 3 → sid = data.toNat % 16384 →
      ((d.surfAt sid).st ≠ .free →
        Gives (.surfCmdClearTorn rq ⟨data, early⟩) s
          ((d.putSurf sid { d.surfAt sid with torn := 0 }).surfResult rq .ok sid).alone) ∧
      ((d.surfAt sid).st = .free →
        Gives (.surfCmdClearTorn rq ⟨data, early⟩) s (d.surfResult rq .notRegistered sid).alone)) ∧
    (data.toNat / 2 ^ 28 = 0 ∨ 4 ≤ data.toNat / 2 ^ 28 →
      Gives (.surfCmdBadOp rq ⟨data, early⟩) s (d.surfResult rq .badOp (data.toNat % 16384)).alone)) ∧
    ((s.dev.meets early).cmdBusy rq = true →
      Gives (.surfCmdRegister rq ⟨data, early⟩) s ((s.dev.meets early).up F.SURF_STATUS_CMD_BUSY).alone ∧
      Gives (.surfCmdUnregister rq ⟨data, early⟩) s ((s.dev.meets early).up F.SURF_STATUS_CMD_BUSY).alone ∧
      Gives (.surfCmdClearTorn rq ⟨data, early⟩) s ((s.dev.meets early).up F.SURF_STATUS_CMD_BUSY).alone ∧
      Gives (.surfCmdBadOp rq ⟨data, early⟩) s ((s.dev.meets early).up F.SURF_STATUS_CMD_BUSY).alone)

/-- (R125, R138, R139, R153) The drain of a RETIRING surface returns it to REGISTERED and signals its retire fence.
    A single-bit upset of a descriptor or a fence is repaired and flagged. A double upset of a descriptor in use
    loses it (freed at once when nothing names it); a double upset of a fence sets it to its greatest value; both
    are captured and logged.  Answers a next state, as said, for: surfaceRetireDrain, descScrub, fenceScrub. -/
def Obligations.TableScrubsAndDrains : Prop :=
  ∀ (s : State), s.dev.dark = false →
    (∀ sid : BitVec 14, (s.dev.surfAt sid.toNat).st = .retiring →
      Gives (.surfaceRetireDrain sid) s
        ((s.dev.putSurf sid.toNat { s.dev.surfAt sid.toNat with st := .registered }).retire sid.toNat)) ∧
    (∀ u : Upset, u.double = false →
      Gives (.descScrub [u]) s ((s.dev.up F.SURF_STATUS_DESC_FIXED).surfErr (u.index.toNat % 16384)) ∧
      Gives (.fenceScrub [u]) s (s.dev.up F.FENCE_STATUS_ECC_FIXED)) ∧
    (∀ u : Upset, u.double = true → 
      Completes (.descScrub [u]) s (fun e => ∃ d,
        d = ((s.dev.up F.SURF_STATUS_DESC_LOST).surfErr (u.index.toNat % 16384)).logOpen ∧
        e = Dev.lostOne (u.index.toNat % 16384) (d.putSurf (u.index.toNat % 16384)
          (if (s.dev.surfAt (u.index.toNat % 16384)).st = .free ∧ (s.dev.surfAt (u.index.toNat % 16384)).sealing = false
            then s.dev.surfAt (u.index.toNat % 16384)
            else { s.dev.surfAt (u.index.toNat % 16384) with lost := true })))) ∧
    (∀ u : Upset, u.double = true → 
      Completes (.fenceScrub [u]) s (fun e => ∃ d, d = ((s.dev.up F.FENCE_STATUS_ECC_LOST).capture F.FENCE_ERR_FID_VALID
          [(F.FENCE_ERR_FID_FID, u.index.toNat % 4096)]).logOpen ∧
        e = d.fenceNow (u.index.toNat % 4096) { s.dev.fenceAt (u.index.toNat % 4096) with val := BitVec.allOnes 64 }))

/-- (R135, R136, R398) When the running check ends on a SID that is still SEALING and whose descriptor is not lost,
    the four trailer words are compared with the check value of the covered bytes, their number, the format and
    width and the height. On a match the surface is REGISTERED and the trailer is overwritten with 0; on a mismatch
    the SID is FREE again, SEAL_FAIL is set and CODE is CHECK_MISMATCH. In either case DONE sets and BUSY clears.
    All bytes are read at the end of the check (log 36).  Answers a next state, as said, for sealCheckEnd. -/
def Obligations.SealCheckEndsRegisteredOrFree : Prop :=
  ∀ (sid : Nat) (x : Surf) (bs want : List Byte) (r : Nat × Dev) (s : State), s.dev.dark = false →
    s.dev.fl F.SURF_SEAL_BUSY = true → sid = s.dev.rg F.SURF_SEAL_SID → x = s.dev.surfAt sid → x.sealing = true → x.lost = false →
    bs = x.covered s.dev → r = s.dev.chkRun 2 (if x.check = 1 then .crc32c else .crc32) bs →
    want = leBytes 4 r.1 ++ leBytes 4 bs.length ++ leBytes 4 (x.fmt * 2 ^ 24 + x.w) ++ leBytes 4 x.h →
    (s.dev.bytesAt x.trailer 16 = want → Gives .sealCheckEnd s
      (((((r.2.putSurf sid { x with st := .registered, sealing := false }).store x.trailer (leBytes 16 0)).noteWrite
        false x.trailer 16).sg F.SURF_SEAL_CODE 0x00 |>.up F.SURF_SEAL_DONE).dn F.SURF_SEAL_BUSY)) ∧
    (s.dev.bytesAt x.trailer 16 ≠ want → Gives .sealCheckEnd s
      ((((((r.2.putSurf sid {}).surfOcc (s.dev.rg F.SURF_OCCUPANCY_COUNT - 1)).up F.SURF_STATUS_SEAL_FAIL).sg
        F.SURF_SEAL_CODE 0x0A).up F.SURF_SEAL_DONE).dn F.SURF_SEAL_BUSY))

/-- (R141, R144, R231, R261, R314, R484) After a DRAM window write of data at an address, every address of the
    write that the window may reach holds its byte of the data, and every other address of DRAM, and every byte the
    window may not reach (outside the usable DRAM, in the crust store, in a replay region, or in HOLD), reads as
    before.  Answers a next state, as said, for dramWindowWrite. -/
def Obligations.WindowWriteStoresItsBytesAndNoOthers : Prop :=
  ∀ (addr : BitVec 40) (data : List Byte) (dt : Nat) (s : State) (d : Dev), s.dev.canon = true → s.dev.dark = false →
    d = (s.dev.advance dt).windowFlags addr.toNat data.length →
    Completes (.dramWindowWrite addr data dt) s (fun e => ∀ a : Nat,
      (∀ h : addr.toNat ≤ a ∧ a - addr.toNat < data.length, d.windowOk a = true →
        e.byteAt a = data[a - addr.toNat]'h.2) ∧
      (¬ (addr.toNat ≤ a ∧ a - addr.toNat < data.length) ∨ d.windowOk a = false →
        e.byteAt a = s.dev.byteAt a))

/-- (R183, R261, R262, R266, R271) Line-store and fetch-store parity errors set their flags and make the layer or
    crust plane transparent on the line of the error; with ECC on, an uncorrectable DRAM error counts, is flagged,
    logged and reaches its reader; a corrected one counts, and when it is one of more than STORM in the last 1 ms
    sets CE_STORM, raises FAULT and, where the flag was clear, logs it; with ECC off neither is seen; a retraining
    changes nothing; refresh reports set each channel's multiplier and REF_NOW to the highest.  Answers a next
    state, as said, for: lsParity, storeParity, dramRetrain, dramEccError, refreshMultUpdate. -/
def Obligations.MemoryErrorsAreCountedAndMarked : Prop :=
  ∀ (s : State), s.dev.dark = false →
    (∀ (vl : Fin 64) (line : BitVec 14), Gives (.lsParity ⟨vl, line⟩) s
      (((s.dev.up (F.VL_FAULT_LS_PARITY.i vl.val)).incSat (F.VL_FAULT_PARITY_COUNT.i vl.val)).layerData vl.val
        (Frame.clearLine vl.val line.toNat))) ∧
    (∀ (l : Fin 128) (line : BitVec 14), Gives (.storeParity ⟨.layer l, line⟩) s
      ((s.dev.up F.FETCH_STATUS_STORE_PARITY).layerData l.val (Frame.clearLine l.val line.toNat))) ∧
    (∀ (q : Fin 8) (line : BitVec 14), Gives (.storeParity ⟨.crust q, line⟩) s
      ((s.dev.up F.FETCH_STATUS_STORE_PARITY).crustData q.val (Frame.clearLine (128 + q.val) line.toNat))) ∧
    (∀ ch : Fin 16, Gives (.dramRetrain ch) s s.dev) ∧
    (∀ (ch : Fin 16) (r : Reader) (a : BitVec 40) (dt : Nat) (d : Dev), d = s.dev.advance dt →
      (d.fl F.FETCH_DRAM_ECC_EN = true →
        Gives (.dramEccError ch true ⟨r, a⟩ dt) s
          ((((d.incSat (F.CH_ERRORS_UE_COUNT.i ch.val)).up F.FETCH_STATUS_ECC_UE).logE 4 3 2 ch.val).eccReader r a.toNat)) ∧
      (∀ (old : List Nat) (d2 : Dev), d.fl F.FETCH_DRAM_ECC_EN = true →
        old = (Tab.get (fun _ => []) d.ceTimes ch.val).filter (fun t => decide (d.now < t + 1000000)) →
        d2 = Dev.incSat { d with ceTimes := Tab.put (fun _ => []) d.ceTimes ch.val ((d.now :: old).take 256) }
          (F.CH_ERRORS_CE_COUNT.i ch.val) →
        (d.rg F.FETCH_ECC_CFG_STORM = 0 ∨ old.length < d.rg F.FETCH_ECC_CFG_STORM →
          Gives (.dramEccError ch false ⟨r, a⟩ dt) s d2) ∧
        (d.rg F.FETCH_ECC_CFG_STORM ≠ 0 → d.rg F.FETCH_ECC_CFG_STORM ≤ old.length →
          Gives (.dramEccError ch false ⟨r, a⟩ dt) s
            (if d2.fl F.FETCH_STATUS_CE_STORM then (d2.up F.FETCH_STATUS_CE_STORM).attn .fault
              else ((d2.up F.FETCH_STATUS_CE_STORM).attn .fault).logE 4 3 3 ch.val))) ∧
      (∀ u : Bool, d.fl F.FETCH_DRAM_ECC_EN = false → Gives (.dramEccError ch u ⟨r, a⟩ dt) s d)) ∧
    (∀ (reports : List RefReport) (d : Dev), d = Dev.each Dev.refReport ((List.range 16).zip reports) s.dev →
      Gives (.refreshMultUpdate reports) s (d.sg F.FETCH_DERATE_REF_NOW d.refHigh))

/-- (R203, R204, R205, R209, R212) The end of a running load stores the 1,024 or 35,937 entries read from DRAM and
    makes the RAM VALID; a parity error of a RAM that the active bank uses makes it INVALID, sets the parity flag,
    adds a log entry, marks the frame's signature, leaves the line of the error open and composes the layer or pipe
    without the RAM from the next line.  Answers a next state, as said, for: tmLoadComplete, lutLoadComplete,
    tmParity, lutParity. -/
def Obligations.RamLoadsFillTheirRam : Prop :=
  (∀ (l : Fin 128) (x : RamLoad) (s : State), s.dev.dark = false → Tab.get dfltLoad s.dev.loads l.val = some x →
    Gives (.tmLoadComplete l) s
      (({ s.dev with
        loads := Tab.put dfltLoad s.dev.loads l.val none
        tmRam := Tab.put dfltRam s.dev.tmRam (2 * l.val + x.ram) (entriesOf 2 1024 (s.dev.bytesAt x.addr 2048)) }).sg
        ((curvePair l.val).st x.ram) 2)) ∧
  (∀ (p : Fin 4) (x : RamLoad) (s : State), s.dev.dark = false → Tab.get dfltLoad s.dev.loads (128 + p.val) = some x →
    Gives (.lutLoadComplete p) s
      (({ s.dev with
        loads := Tab.put dfltLoad s.dev.loads (128 + p.val) none
        lutRam := Tab.put dfltRam s.dev.lutRam (2 * p.val + x.ram) (entriesOf 8 35937 (s.dev.bytesAt x.addr 287496)) }).sg
        ((lutPair p.val).st x.ram) 2)) ∧
  (∀ (l : Fin 128) (line : BitVec 14) (k p : Nat) (s : State), s.dev.dark = false →
    k = s.dev.ac (lf F.VL_CSC_CTRL_TM_RAM F.GL_CSC_CTRL_TM_RAM l.val) → pipeOf s.dev.acV l.val = some p →
    s.dev.acOn (lf F.VL_CSC_CTRL_TM_EN F.GL_CSC_CTRL_TM_EN l.val) = true → s.dev.rg ((curvePair l.val).st k) = 2 →
    Gives (.tmParity ⟨l, line⟩) s
      ((((s.dev.sg ((curvePair l.val).st k) 0).up (curvePair l.val).parity).logOpen).mark p .ram [] (fun f =>
        { f with openLines := line.toNat :: f.openLines, noTm := (l.val, line.toNat + 1) :: f.noTm }))) ∧
  (∀ (p : Fin 4) (line : BitVec 14) (k : Nat) (s : State), s.dev.dark = false → k = s.dev.ac (F.PIPE_OUT_CTRL_LUT_RAM.i p.val) →
    s.dev.acOn (F.PIPE_OUT_CTRL_LUT_EN.i p.val) = true → s.dev.lutState p.val k = 2 →
    Gives (.lutParity ⟨p, line⟩) s
      ((((s.dev.sg ((lutPair p.val).st k) 0).up (lutPair p.val).parity).logOpen).mark p.val .ram [] (fun f =>
        { f with openLines := line.toNat :: f.openLines
                 noLut := some (min (f.noLut.getD (line.toNat + 1)) (line.toNat + 1)) })))

/-- (R65, R66, R67) A scrub pass handles each mismatch it finds, and each not yet found that stands, and advances
    PASSES. In safe black, a failed reload sets RELOAD_FAIL and logs it once; while Hearth firmware runs a reload
    repairs the pipe's active bank and either waits for the next swap point of a running pipe or leaves safe black
    at once.  Answers a next state, as said, for: configScrubPass, reloadFail, safeBlackReload. -/
def Obligations.ScrubAndSafeBlackEvents : Prop :=
  ∀ (s : State), s.dev.dark = false →
    (∀ found : List ScrubHit, Gives (.configScrubPass found) s
      ((Dev.each Dev.parityFound found
        (Dev.each (fun m d => if d.parityNew m then d.parityAct m else d) s.dev.latent s.dev)).inc F.SYS_SCRUB_COUNT_PASSES)) ∧
    (∀ p : Fin 4, s.dev.safeBlack p.val = true → (s.dev.pst p.val).reloadFail = false → (s.dev.pst p.val).reloaded = false →
      Gives (.reloadFail p) s
        (((s.dev.putPst p.val { s.dev.pst p.val with reloadFail := true }).up F.SYS_PARITY_STATUS_RELOAD_FAIL).logE 4 1 2
          (p.val + 256))) ∧
    (∀ (p : Fin 4) (d : Dev), s.dev.safeBlack p.val = true → (s.dev.pst p.val).reloadFail = false → s.dev.hearth.stopped = false →
      d = { s.dev with
        mismatches := s.dev.mismatches.filter (fun m => !(m.bank == Bank.active && s.dev.parityPipe m.off == some p.val)) } →
      (d.running p.val = true →
        Gives (.safeBlackReload p) s (d.putPst p.val { d.pst p.val with reloaded := true })) ∧
      (d.running p.val = false → Gives (.safeBlackReload p) s (d.safeBlackOff p.val)))

/-- (R306, R316, R318, R320, R322, R323) Training that completes sets TRAINED (READY for DSI) and lets a class B
    step go on; training that fails sets TRAIN_FAIL and raises LINK; while Hearth firmware runs, the retrain timer
    starts training again on a plugged port that should run, and an authentication that succeeds or fails sets the
    HDCP state and its count, and a retry authenticates again; a DSI error report is flagged and counted.  Answers
    a next state, as said, for: hdcpAuthComplete, hdcpRetry, trainFail, linkTrainingComplete, retrainTimer,
    dsiErrorReport. -/
def Obligations.PortEventsFollowTheLink : Prop :=
  ∀ (s : State), s.dev.dark = false →
    (∀ (p : Fin 4) (uw rep : Bool), s.dev.rg (F.DP_HDCP_STATE.i p.val) = 1 → s.dev.rg F.SECURE_KEYS_HDCP_KEYS = 2 →
      s.dev.hearth.stopped = false →
      Gives (.hdcpAuthComplete p true uw rep) s
        (((s.dev.hdcpTo p.val 2).incSat (F.DP_HDCP_AUTH_COUNT.i p.val)).sg (F.DP_HDCP_REPEATER.i p.val) (b2n rep)) ∧
      Gives (.hdcpAuthComplete p false uw rep) s (s.dev.hdcpTo p.val 3)) ∧
    (∀ (p : Fin 4), s.dev.rg (F.DP_HDCP_STATE.i p.val) = 3 → s.dev.fl (F.DP_STATUS_TRAINED.i p.val) = true →
      s.dev.hearth.stopped = false → Gives (.hdcpRetry p) s (s.dev.hdcpTo p.val 1)) ∧
    (∀ (p : Fin 4), s.dev.training.contains p.val = true →
      Gives (.trainFail p) s
        ((((s.dev.trainDone p.val).up (F.DP_STATUS_TRAIN_FAIL.i p.val)).attn .link).stepDone p.val) ∧
      Gives (.linkTrainingComplete ⟨p.val, by omega⟩) s
        ((((((s.dev.trainDone p.val).up (F.DP_STATUS_TRAINED.i p.val)).lanes p.val).hdcpAgain p.val).hdcpEnable
          p.val).stepDone p.val)) ∧
    (∀ (k : Fin 2), s.dev.training.contains (4 + k.val) = true →
      Gives (.linkTrainingComplete ⟨4 + k.val, by omega⟩) s
        (((s.dev.trainDone (4 + k.val)).up (F.DSI_STATUS_READY.i k.val)).stepDone (4 + k.val))) ∧
    (∀ (p : Fin 4), s.dev.fl (F.DP_STATUS_PLUGGED.i p.val) = true → s.dev.fl (F.DP_STATUS_TRAINED.i p.val) = false →
      s.dev.portRuns p.val = true → s.dev.inHold = false → s.dev.training.contains p.val = false →
      s.dev.hearth.stopped = false → Gives (.retrainTimer p) s
        (({ s.dev with training := p.val :: s.dev.training }.dn (F.DP_STATUS_TRAINED.i p.val)).hdcpAgain p.val)) ∧
    (∀ (k : Fin 2), Gives (.dsiErrorReport k) s
      ((s.dev.up (F.DSI_STATUS_ERR_REPORT.i k.val)).incSat (F.DSI_STATUS_ERR_COUNT.i k.val)))

/-- (R97, R99, R308, R309, R313, R321) Line 0 of an unpaced live frame enables HDCP and sets ENCRYPTING where
    authenticated, and where the port is not protected as the frame needs sets PROT_BLOCKED of its DP or DSI port
    and makes the frame black; a TE edge releases a frame held at the end of its blanking and ends the lost state;
    a TE timeout of a held frame sets TE_LOST and raises LINK; a replay abort sends black from its line, marks the
    frame and leaves Rest; the cutoff freezes the pipe and the pipes that swap with it.  Answers a next state, as
    said, for: lineZero, teEdge, teTimeout, replayAbort, cutoff. -/
def Obligations.FrameEventsOfARunningPipe : Prop :=
  ∀ (p : Fin 4) (s : State), s.dev.dark = false → s.dev.running p.val = true →
    (∀ (x : PipeSt) (k : Nat) (d1 d2 : Dev), x = s.dev.pst p.val → x.frame.live = true → x.line0 = false →
      s.dev.acOn (F.PIPE_TE_EN.i p.val) = false → k = portSel s.dev.acV p.val →
      d1 = s.dev.putPst p.val { x with line0 := true, teGo := false } →
      d2 = (if k < 4 then if (d1.hdcpEnable k).rg (F.DP_HDCP_STATE.i k) = 2 then (d1.hdcpEnable k).up (F.DP_HDCP_ENCRYPTING.i k)
        else d1.hdcpEnable k else d1) →
      (d2.protBlocked p.val = false → Gives (.lineZero p) s d2) ∧
      (k < 4 → d2.protBlocked p.val = true →
        Gives (.lineZero p) s ((d2.up (F.DP_HDCP_PROT_BLOCKED.i k)).putFrame p.val { d2.frame p.val with prot := true })) ∧
      (4 ≤ k → d2.protBlocked p.val = true → Gives (.lineZero p) s
        ((d2.up (F.DSI_STATUS_PROT_BLOCKED.i (k - 4))).putFrame p.val { d2.frame p.val with prot := true }))) ∧
    (∀ (dt : Nat) (d : Dev), d = s.dev.advance dt → d.running p.val = true → d.acOn (F.PIPE_TE_EN.i p.val) = true →
      (d.teHold p.val = true → d.blankingOver p.val = true → Gives (.teEdge ⟨p, dt⟩) s
        ((d.putPst p.val { d.pst p.val with teGo := true }).dn (F.PIPE_TE_STATUS_LOST_ACTIVE.i p.val))) ∧
      (d.teHold p.val = false ∨ d.blankingOver p.val = false →
        Gives (.teEdge ⟨p, dt⟩) s (d.dn (F.PIPE_TE_STATUS_LOST_ACTIVE.i p.val)))) ∧
    (s.dev.teHold p.val = true → (s.dev.pst p.val).teGo = false → Gives (.teTimeout p) s
      (((s.dev.up (F.PIPE_TE_STATUS_TE_LOST.i p.val)).up (F.PIPE_TE_STATUS_LOST_ACTIVE.i p.val)).attn .link)) ∧
    (∀ line : BitVec 14, 2 ≤ s.dev.rest p.val → (s.dev.frame p.val).live = true →
      Gives (.replayAbort p line) s
        ((((s.dev.mark p.val .replayAbort [] (·.blackOn line.toNat)).up (F.PIPE_REST_STATUS_REPLAY_ABORT.i p.val)).dn
          (F.PIPE_REST_STATUS_STATE.i p.val)).restShow)) ∧
    Gives (.cutoff p) s (Dev.each (fun r d => d.freeze r) (s.dev.cutoffWith p.val) s.dev)

/-- (R464, R468, R469, R470, R471, R472, R477, R478, R487, R488, R502, R537) A cold power-on and the loss of the
    always-on supply restart everything; a rail timeout stops the rails and a retry starts them again; RESET_N and
    an island's reset level reset a powered device; a brownout warning and recovery set and clear the warning,
    count and log it, and a recovery writes what MRAM and the log were holding back; losing and regaining REFCLK
    enters and leaves holdover; PERST_N resets the host side and closes the link until it is released; PERST_N,
    WAKE_N and side-band traffic wake when enabled.  Answers a next state, as said, for: aonPowerOn, aonBrownout,
    railTimeout, railRetry, resetNAssert, brownoutReset, functionLevelReset, brownoutWarn, brownoutRecovery,
    refclkLost, refclkReturn, perstAssert, perstDeassert, wakeNFall, sidebandWake. -/
def Obligations.SupplyAndResetEvents : Prop :=
  (∀ s : State, Gives .aonPowerOn s
    (let d := s.dev.restart .cold 15; { d with power := { d.power with boot := .rails } }) ∧
    Gives .aonBrownout s (s.dev.restart .cold 15)) ∧
  (∀ s : State, s.dev.dark = false →
    (s.dev.power.boot = .rails → ∀ r : Rail, railIslands r = [] → Gives (.railTimeout r) s
      { s.dev with power := { s.dev.power with boot := .railWait } }) ∧
    (s.dev.power.boot = .rails → ∀ r : Rail, railIslands r ≠ [] → Completes (.railTimeout r) s (fun e =>
      e.power = { s.dev.power with boot := .railWait } ∧
      ∃ i, i ∈ railIslands r ∧ e.regs = (s.dev.sg F.POWER_BROWNOUT_RESET_ISLAND i).regs)) ∧
    (s.dev.power.boot = .railWait → Gives .railRetry s { s.dev with power := { s.dev.power with boot := .rails } }) ∧
    (s.dev.poweredUp = true → Gives .resetNAssert s (s.dev.warmReset .pin)) ∧
    (∀ i : Fin 7, s.dev.poweredUp = true → i.val ≠ 6 → Gives (.brownoutReset i) s
      (((brownoutWarn i.val s.dev).sg F.POWER_BROWNOUT_RESET_ISLAND i.val).warmBy .brownout i.val)) ∧
    Gives .functionLevelReset s (functionLevelReset s.dev)) ∧
  (∀ s : State, s.dev.power.scan = false →
    (∀ i : Fin 7, bit (s.dev.rg F.POWER_BROWNOUT_ACTIVE) i.val = false → s.dev.supplied i.val = true →
      Gives (.brownoutWarn i) s
        ((((s.dev.orBits F.POWER_BROWNOUT_BROWNOUT_WARN (2 ^ i.val)).orBits F.POWER_BROWNOUT_ACTIVE (2 ^ i.val)).incSat
          F.POWER_BROWNOUT_WARN_COUNT).attn .power)) ∧
    (∀ (i : Fin 7) (mv : BitVec 12) (us : Nat), bit (s.dev.rg F.POWER_BROWNOUT_ACTIVE) i.val = true →
      Gives (.brownoutRecovery i mv us) s
        ((((s.dev.clrBits F.POWER_BROWNOUT_ACTIVE (2 ^ i.val)).mramFlush).logFlush).logE 4 7 1
          (i.val * 2 ^ 28 + mv.toNat * 2 ^ 16 + min us 65535))) ∧
    (s.dev.fl F.IO_STATUS_HOLDOVER = false → s.dev.deep = true → Gives .refclkLost s
      (((s.dev.up F.IO_STATUS_REFCLK_LOST).up F.IO_STATUS_HOLDOVER).attn .fault)) ∧
    (s.dev.fl F.IO_STATUS_HOLDOVER = false → s.dev.deep = false → Gives .refclkLost s
      ((((s.dev.up F.IO_STATUS_REFCLK_LOST).up F.IO_STATUS_HOLDOVER).attn .fault).logOpen)) ∧
    Gives .refclkReturn s (s.dev.dn F.IO_STATUS_HOLDOVER) ∧
    (∀ d : Dev, d = (if s.dev.deep then s.dev else functionLevelReset s.dev) →
      Gives .perstAssert s { d with power := { d.power with perst := true, pcie := false } }) ∧
    (∀ d : Dev, d = { s.dev with power := { s.dev.power with
          perst := false, pcie := s.dev.power.pcie || (s.dev.power.boot == Boot.released && !s.dev.deep) } } →
      (s.dev.fl F.POWER_WAKE_PERST = true → Gives .perstDeassert s (d.wakeEvent 2)) ∧
      (s.dev.fl F.POWER_WAKE_PERST = false → Gives .perstDeassert s d)) ∧
    (s.dev.testing = false → s.dev.fl F.POWER_WAKE_WAKE_N = true → Gives .wakeNFall s (s.dev.wakeEvent 1)) ∧
    (s.dev.testing = true → Gives .wakeNFall s (s.dev.testStop.sg F.POWER_WAKE_LAST_SRC 1)) ∧
    (∀ tr : Tr, s.dev.deep = true → s.dev.fl F.POWER_WAKE_SIDEBAND = false →
      Gives (.sidebandWake tr) s (s.dev.send (.nack tr))) ∧
    (∀ tr : Tr, s.dev.deep = true → s.dev.fl F.POWER_WAKE_SIDEBAND = true →
      Gives (.sidebandWake tr) s ((s.dev.send (.nack tr)).deepWake 3)))

/-- (R14, R373, R389, R472, R473, R474, R475, R492) RESET_N on a powered device, no other reset having come in the
    same cycle, empties the slots, strobes, posted writes, both tables, tiles, claims, hints, the running job, the
    curve and LUT RAMs, latches and locks, keeps the log and the MRAM, and keeps DRAM exactly when RETAIN_DRAM is
    1; host memory and kept DRAM hold what the engines wrote up to the burst and row boundary where they stop,
    which is nothing when no channel and no job ran. Host memory and what has been sent are the model's own (log
    3).  Answers a next state, as said, for resetNAssert. -/
def Obligations.WarmResetLeavesOnlyWhatSurvives : Prop :=
  ∀ (s : State) (x : Dev), s.dev.dark = false → s.dev.poweredUp = true →
    (s.dev.power.boot == .inReset && s.dev.now == s.dev.startAt) = false → x = s.dev.enginesStop true →
    Completes .resetNAssert s (fun e =>
      e.power.boot = .inReset ∧ e.power.moving = .none ∧ e.armed = [] ∧ e.late = [] ∧ e.strobes = [] ∧ e.posted = [] ∧
      e.surf = [] ∧ e.fence = [] ∧ e.tiles = [] ∧ e.claims = [] ∧ e.hints = [] ∧ e.scJob = none ∧ e.tmRam = [] ∧
      e.lutRam = [] ∧ e.locked = false ∧ e.mismatches = [] ∧ e.latch = [] ∧ e.heldLo = [] ∧
      e.log = s.dev.log ∧ e.hearth.mram = s.dev.hearth.mram ∧ e.out = s.dev.out ∧ e.now = s.dev.now ∧
      e.hostMem = x.hostMem ∧
      (s.dev.fl F.SYS_RESET_CTRL_RETAIN_DRAM = true → e.mem = x.mem) ∧
      (s.dev.fl F.SYS_RESET_CTRL_RETAIN_DRAM = false → e.mem = []) ∧
      ((∀ c, c < 16 → s.dev.dmaState c ≠ 1) → s.dev.scJob = none → x.hostMem = s.dev.hostMem ∧ x.mem = s.dev.mem))

/-- (R14, R69, R389, R417, R477, R478) A function-level reset and PERST_N end every channel's descriptor, empty the
    ICP ring's slots, discard the host's held reads, hints, latches and pair writes, mark the host's strobes and
    ring commands lost, and end the running Scraper job unless SQ_3 is the service's; the banks, slots, surfaces,
    pipes and MRAM are unchanged; PERST_N also closes the link.  Answers a next state, as said, for:
    functionLevelReset, perstAssert. -/
def Obligations.FunctionLevelResetStopsTheHostSide : Prop :=
  ∀ (c : Instr) (s : State), c = .functionLevelReset ∨ c = .perstAssert → s.dev.dark = false →
    Completes c s (fun e =>
      e.dmaWords = [] ∧ e.icp.slots = [] ∧ e.watchArmed = 0xFFFF ∧
      (∀ x ∈ e.strobes, x.rq = .host → x.lost = true) ∧ (∀ x ∈ e.heldReads, x.rq = .fw) ∧
      (∀ x ∈ e.hints, x.rq = .fw) ∧ (∀ x ∈ e.icp.svc, x.tr = .pcie → x.lost = true) ∧
      (∀ x ∈ e.latch, fwCopy ≤ x.1) ∧ (∀ x ∈ e.heldLo, fwCopy ≤ x.1) ∧
      (s.dev.fl F.SCRAPER_CFG_SQ3_SERVICE = false → e.scJob = none) ∧
      e.proof = s.dev.proof ∧ e.active = s.dev.active ∧ e.armed = s.dev.armed ∧ e.late = s.dev.late ∧
      e.surf = s.dev.surf ∧ e.pipeSt = s.dev.pipeSt ∧ e.hearth.mram = s.dev.hearth.mram ∧
      (c = .functionLevelReset → e.power = s.dev.power) ∧
      (c = .perstAssert → e.power = { s.dev.power with perst := true, pcie := false }))

/-- (R53, R149, R151) The upper-word write of a doorbell forms the 64-bit value with the requester's held lower
    word: a value at or above the fence's value before this cycle raises it to the greater of the two, a lower one
    sets BACKWARD, and a FREE fence sets DOORBELL_FREE; the held word is used up in each case. `second` says that a
    doorbell of the same fence came in the same cycle; a lone one is compared with the fence's value.  Answers a
    next state, as said, for fenceDoorbell. -/
def Obligations.DoorbellsRaiseAllocatedFences : Prop :=
  ∀ (rq : Rq) (fid : BitVec 12) (data : Word) (second : Bool) (s : State), s.dev.reaches rq = true →
    let lo := 0xE8000 + 8 * fid.toNat
    let d := (s.dev.meets second).lowDone rq lo
    let x := s.dev.fenceAt fid.toNat
    let v := (s.dev.lowWord rq lo).toNat + data.toNat * 2 ^ 32
    let base := (s.dev.meets second).bellBase fid.toNat
    (second = false → base = x.val.toNat) ∧
    (x.alloc = true → base ≤ v → Gives (.fenceDoorbell rq fid ⟨data, second⟩) s
      ({ d with bell := some (fid.toNat, base) }.fenceNow fid.toNat
        { x with val := BitVec.ofNat 64 (max v x.val.toNat) }).alone) ∧
    (x.alloc = true → v < base → Gives (.fenceDoorbell rq fid ⟨data, second⟩) s (d.up F.FENCE_STATUS_BACKWARD).alone) ∧
    (x.alloc = false → Gives (.fenceDoorbell rq fid ⟨data, second⟩) s (d.up F.FENCE_STATUS_DOORBELL_FREE).alone)

/-- (R173, R175) A write of a coefficient word by Hearth firmware, or by the host to a set from 4 that no layer
    uses, stores its two 12-bit taps and changes nothing else; a host write to sets 0 to 3 sets COEF_RESERVED, and
    one to a set in use sets COEF_IN_USE.  Answers a next state, as said, for coefWrite. -/
def Obligations.CoefficientWritesRespectSetsInUse : Prop :=
  ∀ (rq : Rq) (off : BitVec 24) (data : Word) (s : State), s.dev.reaches rq = true → Tab.wf dfltU s.dev.regs = true →
    0x68000 ≤ off.toNat → off.toNat < 0x70000 → off.toNat % 4 = 0 →
    let k := (off.toNat - 0x68000) / 0x400
    (rq = .fw ∨ (4 ≤ k ∧ s.dev.coefInUse k = false) →
      Completes (.coefWrite rq off data) s (fun e => e.unV off.toNat = data &&& 0x0FFF0FFF ∧ s.dev.sameBut e [off.toNat])) ∧
    (rq = .host → k < 4 → Completes (.coefWrite rq off data) s (fun e =>
      e.regs = (s.dev.up F.LINESTORE_STATUS_COEF_RESERVED).regs)) ∧
    (rq = .host → 4 ≤ k → s.dev.coefInUse k = true → Completes (.coefWrite rq off data) s (fun e =>
      e.regs = (s.dev.up F.LINESTORE_STATUS_COEF_IN_USE).regs))

/-- (R142, R204, R212) For both RAMs of every layer and pipe: GO = 0 does nothing; GO = 1 on an unused RAM, with no
    load of the pair running and a source wholly in usable DRAM that touches no protected range, makes the RAM
    LOADING and keeps the source; otherwise the write is refused and sets the flag of every case that holds, and
    the RAM's state is unchanged.  Answers a next state, as said, for: tmLoad, lutLoad. -/
def Obligations.RamLoadStrobesStartOneLoad : Prop :=
  ∀ (c : Instr) (r : RamPair) (used : Bool) (k : Nat) (data : Word) (rq : Rq) (s : State), s.dev.reaches rq = true →
    ((∃ l : Fin 128, c = .tmLoad rq l data ∧ r = curvePair l.val ∧ k = bits data.toNat 0 1 ∧
        used = s.dev.ramUsed (.layer l.val) (lf F.VL_CSC_CTRL_TM_EN F.GL_CSC_CTRL_TM_EN l.val)
          (lf F.VL_CSC_CTRL_TM_RAM F.GL_CSC_CTRL_TM_RAM l.val) k) ∨
     (∃ p : Fin 4, c = .lutLoad rq p data ∧ r = lutPair p.val ∧ k = bits data.toNat 0 1 ∧
        used = s.dev.ramUsed (.pipe p.val) (F.PIPE_OUT_CTRL_LUT_EN.i p.val) (F.PIPE_OUT_CTRL_LUT_RAM.i p.val) k)) →
    let a := s.dev.rg r.lo * 64 + s.dev.rg r.hi * 2 ^ 32
    (bit data.toNat 31 = false → Gives c s s.dev) ∧
    (bit data.toNat 31 = true → used = false → Tab.get dfltLoad s.dev.loads r.key = none → a + r.bytes ≤ s.dev.usableBytes →
      s.dev.protHit a r.bytes = none →
      Gives c s ({ s.dev with loads := Tab.put dfltLoad s.dev.loads r.key (some ⟨k, a⟩) }.sg (r.st k) 1)) ∧
    (bit data.toNat 31 = true →
      (used || (Tab.get dfltLoad s.dev.loads r.key).isSome || decide (s.dev.usableBytes < a + r.bytes) ||
        (s.dev.protHit a r.bytes).isSome) = true →
      Gives c s ((((s.dev.onlyIf used (·.up r.inUse)).onlyIf (Tab.get dfltLoad s.dev.loads r.key).isSome (·.up r.busy)).onlyIf
        (decide (s.dev.usableBytes < a + r.bytes)) (·.up r.badAddr)).onlyIf (s.dev.protHit a r.bytes).isSome (·.up r.prot)))

/-- (R241) A write with GO = 1 submits the requester's hint: one naming a FREE surface sets HINT_BAD; one without a
    fence is applied at once; one with a fence that has not reached its value waits; a seventeenth pending hint of
    the requester sets HINT_FULL. GO = 0 does nothing.  Answers a next state, as said, for crustHintGo. -/
def Obligations.DamageHintsApplyAtOnceOrWait : Prop :=
  ∀ (rq : Rq) (data : Word) (s : State) (h : Hint), s.dev.reaches rq = true →
    h = ⟨rq, s.dev.rg (F.CRUST_HINT_SID_SID.rq rq), s.dev.rg (F.CRUST_HINT_RECT_X.rq rq),
      s.dev.rg (F.CRUST_HINT_RECT_Y.rq rq), s.dev.rg (F.CRUST_HINT_RECT_W.rq rq), s.dev.rg (F.CRUST_HINT_RECT_H.rq rq),
      s.dev.rg (F.CRUST_HINT_SID_FORCE.rq rq) != 0, s.dev.rg (F.CRUST_HINT_FENCE_FID.rq rq),
      s.dev.rg (F.CRUST_HINT_WAIT_VALUE.rq rq)⟩ →
    (bit data.toNat 0 = false → Gives (.crustHintGo rq data) s s.dev) ∧
    (bit data.toNat 0 = true → (s.dev.surfAt h.sid).st = .free →
      Gives (.crustHintGo rq data) s (s.dev.up F.CRUST_STATUS_HINT_BAD)) ∧
    (bit data.toNat 0 = true → (s.dev.surfAt h.sid).st ≠ .free → s.dev.rg (F.CRUST_HINT_FENCE_EN.rq rq) = 0 →
      Gives (.crustHintGo rq data) s (s.dev.hintApply h)) ∧
    (bit data.toNat 0 = true → (s.dev.surfAt h.sid).st ≠ .free → s.dev.rg (F.CRUST_HINT_FENCE_EN.rq rq) = 1 →
      16 ≤ countP (fun x => x.rq == rq) s.dev.hints →
      Gives (.crustHintGo rq data) s (s.dev.up F.CRUST_STATUS_HINT_FULL)) ∧
    (bit data.toNat 0 = true → (s.dev.surfAt h.sid).st ≠ .free → s.dev.rg (F.CRUST_HINT_FENCE_EN.rq rq) = 1 →
      countP (fun x => x.rq == rq) s.dev.hints < 16 → h.wait > (s.dev.fenceAt h.fid).val.toNat →
      (∀ x ∈ s.dev.hints, (s.dev.fenceAt x.fid).alloc = true → (s.dev.fenceAt x.fid).val.toNat < x.wait) →
      Gives (.crustHintGo rq data) s ({ s.dev with hints := s.dev.hints ++ [h] }.hintCount))

/-- (R229, R249, R250, R255) A write of CRUST_TILE_SEL keeps plane and tile and shows the named entry in
    CRUST_TILE_W0 to W4. A parity error found in a tile-table entry or in tile data sets its pipe's flag and adds a
    log entry; a tile of the raster becomes INVALID and damaged and no version being built clears that; where a
    visible version charges the plane, the frame is marked and shows the tile as EMPTY from the next line, and a
    data error leaves its own line open; a tile outside the raster's tiles is left alone.  Answers a next state, as
    said, for: crustTileSelWrite, tileScrub, crustDataParity. -/
def Obligations.TileSelectShowsTheEntry : Prop :=
  (∀ (rq : Rq) (data : Word) (s : State), s.dev.reaches rq = true →
    let x := s.dev.tileAt (tileKey (bits data.toNat 16 3) (bits data.toNat 0 13))
    Gives (.crustTileSelWrite rq data) s (Dev.each (fun (y : Fld × Nat) d => d.sg y.1 y.2)
      [(F.CRUST_TILE_SEL_PLANE, bits data.toNat 16 3), (F.CRUST_TILE_SEL_TILE, bits data.toNat 0 13),
       (F.CRUST_TILE_W0_DAMAGE, b2n x.damage), (F.CRUST_TILE_W0_VIS, b2n x.vis),
       (F.CRUST_TILE_W0_INVALID, b2n x.invalid), (F.CRUST_TILE_W0_STATE1, x.v1.st.num),
       (F.CRUST_TILE_W0_STATE0, x.v0.st.num), (F.CRUST_TILE_W0_SIG, x.sig),
       (F.CRUST_TILE_W1_PAYLOAD0_LO, x.v0.payload), (F.CRUST_TILE_W2_PAYLOAD0_HI, x.v0.payload / 2 ^ 32),
       (F.CRUST_TILE_W3_PAYLOAD1_LO, x.v1.payload), (F.CRUST_TILE_W4_PAYLOAD1_HI, x.v1.payload / 2 ^ 32)]
      (s.dev.putUnbanked rq false F.CRUST_TILE_SEL_TILE.off data))) ∧
  (∀ (c : Instr) (flag : Fld) (q t line : Nat) (g : Frame → Frame) (s : State) (d0 : Dev), s.dev.dark = false →
    ((∃ h : BitVec 16, c = .tileScrub [h] ∧ flag = F.CRUST_PIPE_STATUS_ENTRY_PARITY ∧ q = h.toNat / 8192 ∧
        t = h.toNat % 8192 ∧ g = id ∧ (line, d0) = s.dev.nextLine (planePipe q)) ∨
     (∃ (plane : Fin 8) (tile : BitVec 13) (l : BitVec 14), c = .crustDataParity plane ⟨tile, l⟩ ∧
        flag = F.CRUST_PIPE_STATUS_DATA_PARITY ∧ q = plane.val ∧ t = tile.toNat ∧ line = l.toNat + 1 ∧ d0 = s.dev ∧
        g = fun f => { f with openLines := l.toNat :: f.openLines })) →
    let p := planePipe q
    let k := tileKey q t
    let d := (d0.up (flag.i p)).logOpen
    let e := (d.putTile k { d.tileAt k with invalid := true, damage := true }).putCrust p { d.crustAt p with
      item := (d.crustAt p).item.map (fun i => { i with inv := i.inv.filter (· != k) })
      ready := (d.crustAt p).ready.map (fun r => { r with inv := r.inv.filter (· != k) }) }
    (min 8192 (tileCount d0.acV p) ≤ t → Gives c s d) ∧
    (t < min 8192 (tileCount d0.acV p) → planeCharged d.acV q = false → Gives c s e) ∧
    (t < min 8192 (tileCount d0.acV p) → planeCharged d.acV q = true → Gives c s (e.mark p .crust [] (fun f =>
      g (if (d.tileAt k).invalid then f else { f with empty := (k, line) :: f.empty })))))

/-- (R267, R279) A write of FETCH_DECL_k_CTRL while a declaration is tested, or one that enables or raises while
    the host's strobe is pending, sets DECL_BUSY; one that enables or raises (with EN unchanged too) otherwise is
    tested; one that disables or lowers is applied at once and shown. The test applies the declaration when it fits
    both the configuration to be and the active one, and otherwise sets DECL_REFUSED.  Answers a next state, as
    said, for: fetchDeclWrite, declTestEnd. -/
def Obligations.DeclaredStreamsPassATest : Prop :=
  (∀ (rq : Rq) (k : Fin 8) (data : Word) (s : State), s.dev.reaches rq = true →
    let en := bit data.toNat 31
    let mb := bits data.toNat 0 17
    let was := s.dev.fl (F.FETCH_DECL_CTRL_EN.i k.val)
    let more := (en && !was) || (en == was && decide (s.dev.rg (F.FETCH_DECL_CTRL_MBPS.i k.val) < mb))
    (s.dev.fl F.FETCH_STATUS_DECL_PENDING = true →
      Yields (.fetchDeclWrite rq k data) s (s.dev.up F.FETCH_STATUS_DECL_BUSY)) ∧
    (s.dev.fl F.FETCH_STATUS_DECL_PENDING = false → more = true → s.dev.fl F.COMMIT_STATUS_PENDING = true →
      Yields (.fetchDeclWrite rq k data) s (s.dev.up F.FETCH_STATUS_DECL_BUSY)) ∧
    (s.dev.fl F.FETCH_STATUS_DECL_PENDING = false → more = true → s.dev.fl F.COMMIT_STATUS_PENDING = false →
      Yields (.fetchDeclWrite rq k data) s
        ({ s.dev with declTest := some ⟨k.val, data, !s.dev.strobes.isEmpty⟩ }.up F.FETCH_STATUS_DECL_PENDING)) ∧
    (s.dev.fl F.FETCH_STATUS_DECL_PENDING = false → more = false →
      Yields (.fetchDeclWrite rq k data) s
        ((s.dev.sg (F.FETCH_DECL_CTRL_EN.i k.val) (b2n en)).sg (F.FETCH_DECL_CTRL_MBPS.i k.val) mb).declShow)) ∧
  (∀ (t : DeclTest) (s : State), s.dev.dark = false → s.dev.declTest = some t → t.behind = false →
    let d1 := { s.dev with declTest := none }.dn F.FETCH_STATUS_DECL_PENDING
    let d2 := (d1.sg (F.FETCH_DECL_CTRL_EN.i t.k) (b2n (bit t.word.toNat 31))).sg (F.FETCH_DECL_CTRL_MBPS.i t.k) (bits t.word.toNat 0 17)
    let c := d1.cfg91 []
    let cb := pipes.filter (fun p => d1.tClass c.act c.v p == .classB)
    let fits := (d1.admits c cb d2.declared).isNone && (d1.admits d1.cfgAct [] d2.declared).isNone
    (fits = true → Gives .declTestEnd s d2.declShow) ∧
    (fits = false → Gives .declTestEnd s (d1.up F.FETCH_STATUS_DECL_REFUSED)))

/-- (R388) DMA_CH_n_GO with GO = 1 is refused while RUNNING, on RESUME from IDLE and on a HALTED channel during a
    halt, and then only sets GO_REFUSED; otherwise it starts at DESC, or continues at CUR from BYTES with RESUME.
    CLEAR_HALT before SETTLED is discarded and sets CLEAR_EARLY; after it, it clears HALT, SETTLED, CAUSE, SPACE
    and WRITE and leaves every channel as it is. The outstanding reads' return settles the halt.  Answers a next
    state, as said, for: clearHalt, dmaHaltSettled, dmaGo, dmaResume. -/
def Obligations.CopyEngineStrobesAndHalt : Prop :=
  (∀ (c : Instr) (ch : Fin 16) (data : Word) (rq : Rq) (s : State), s.dev.reaches rq = true →
    c = .dmaGo rq ch data ∨ c = .dmaResume rq ch data →
    let go := bit data.toNat (F.DMA_CH_GO_GO).lo
    let resume := bit data.toNat (F.DMA_CH_GO_RESUME).lo
    let st := s.dev.dmaState ch.val
    let refused := st = 1 ∨ (st = 0 ∧ resume = true) ∨ (st = 3 ∧ s.dev.fl F.DMA_ENGINE_STATUS_HALT = true)
    (go = false → Gives c s s.dev) ∧
    (go = true → refused → Gives c s (s.dev.up (F.DMA_CH_STATUS_GO_REFUSED.i ch.val))) ∧
    (go = true → ¬ refused → resume = false →
      Gives c s (s.dev.dmaStart ch.val (s.dev.rg (F.DMA_CH_DESC_ADDR.i ch.val) * 64) 0)) ∧
    (go = true → ¬ refused → resume = true →
      Gives c s (s.dev.dmaStart ch.val (s.dev.rg (F.DMA_CH_CUR_ADDR.i ch.val) * 64)
        (s.dev.rg (F.DMA_CH_BYTES_BYTES.i ch.val))))) ∧
  (∀ (rq : Rq) (data : Word) (s : State), s.dev.reaches rq = true → bit data.toNat 31 = true →
    let d := s.dev.sg F.DMA_ENGINE_CTRL_HALT_VECTOR (bits data.toNat 0 6)
    (d.fl F.DMA_ENGINE_STATUS_SETTLED = false →
      Yields (.clearHalt rq data) s (d.up F.DMA_ENGINE_STATUS_CLEAR_EARLY)) ∧
    (d.fl F.DMA_ENGINE_STATUS_SETTLED = true →
      Yields (.clearHalt rq data) s
        (((((d.dn F.DMA_ENGINE_STATUS_HALT).dn F.DMA_ENGINE_STATUS_SETTLED).dn F.DMA_ENGINE_STATUS_CAUSE).dn
          F.DMA_ENGINE_STATUS_SPACE).dn F.DMA_ENGINE_STATUS_WRITE))) ∧
  (∀ s : State, s.dev.dark = false → s.dev.fl F.DMA_ENGINE_STATUS_HALT = true →
    Gives .dmaHaltSettled s (s.dev.up F.DMA_ENGINE_STATUS_SETTLED))

/-- (R394, R395, R396, R397, R402) A host write to CHK_0 to CHK_3 sets UNIT_OWNED and nothing else. Otherwise
    FEED8, FEED16 and FEED32 feed one, two and four bytes, least significant first; ALG 0 to 4 is taken and 5 to 7
    sets BAD_ALG; INIT loads the initial value of the algorithm then in force.  Answers a next state, as said, for:
    chkInit, chkFeed8, chkFeed16, chkFeed32. -/
def Obligations.CheckerUnitsStartAndTakeBytes : Prop :=
  ∀ (rq : Rq) (unit : Fin 8) (data : Word) (s : State), s.dev.reaches rq = true →
    let n := unit.val
    let b := fun k => data.toNat / 256 ^ k % 256
    let a := bits data.toNat 0 3
    let d1 := s.dev.sg (F.CHK_CTRL_ALG.i n) a
    (rq = .host → n < 4 →
      Yields (.chkInit rq unit data) s (s.dev.up F.CHK_STATUS_UNIT_OWNED) ∧
      Gives (.chkFeed8 rq unit data) s (s.dev.up F.CHK_STATUS_UNIT_OWNED) ∧
      Gives (.chkFeed16 rq unit data) s (s.dev.up F.CHK_STATUS_UNIT_OWNED) ∧
      Gives (.chkFeed32 rq unit data) s (s.dev.up F.CHK_STATUS_UNIT_OWNED)) ∧
    (rq = .fw ∨ 4 ≤ n →
      Gives (.chkFeed8 rq unit data) s (s.dev.putChk n ((s.dev.chk n).feed (b 0))) ∧
      Gives (.chkFeed16 rq unit data) s (s.dev.putChk n (((s.dev.chk n).feed (b 0)).feed (b 1))) ∧
      Gives (.chkFeed32 rq unit data) s
        (s.dev.putChk n (((((s.dev.chk n).feed (b 0)).feed (b 1)).feed (b 2)).feed (b 3))) ∧
      (bit data.toNat 31 = true → a < 5 → Yields (.chkInit rq unit data) s (d1.putChk n (ChkCtx.start (d1.chk n).alg))) ∧
      (bit data.toNat 31 = false → a < 5 → Yields (.chkInit rq unit data) s d1) ∧
      (bit data.toNat 31 = false → 5 ≤ a → Yields (.chkInit rq unit data) s (s.dev.up F.CHK_STATUS_BAD_ALG)) ∧
      (bit data.toNat 31 = true → 5 ≤ a → Yields (.chkInit rq unit data) s
        ((s.dev.up F.CHK_STATUS_BAD_ALG).putChk n (ChkCtx.start ((s.dev.up F.CHK_STATUS_BAD_ALG).chk n).alg))))

/-- (R350, R353, R370, R378) A tail that would put more than 1,024 descriptors in flight sets TAIL_BAD and moves
    nothing; another is taken. Writing 1s to SQ_q_STATUS clears its W1C flags, and ERR also clears its count. While
    SQ3_SERVICE is 1, a host write to SQ_3 sets QUEUE_OWNED and nothing else.  Answers a next state, as said, for:
    sqTailWrite, sqResume. -/
def Obligations.ScraperTailsAndResume : Prop :=
  ∀ (rq : Rq) (q : Fin 4) (data : Word) (s : State), s.dev.reaches rq = true →
    let barred := rq == .host && q.val == 3 && s.dev.fl F.SCRAPER_CFG_SQ3_SERVICE
    let t := bits data.toNat 0 11
    (barred = true → Gives (.sqTailWrite rq q data) s (s.dev.up F.SCRAPER_STATUS_QUEUE_OWNED)) ∧
    (barred = true → Gives (.sqResume rq q data) s (s.dev.up F.SCRAPER_STATUS_QUEUE_OWNED)) ∧
    (barred = false → 1024 < subMod 11 t (s.dev.rg (F.SQ_HEAD_HEAD.i q.val)) →
      Yields (.sqTailWrite rq q data) s (s.dev.up (F.SQ_STATUS_TAIL_BAD.i q.val))) ∧
    (barred = false → subMod 11 t (s.dev.rg (F.SQ_HEAD_HEAD.i q.val)) ≤ 1024 →
      Yields (.sqTailWrite rq q data) s ((s.dev.sg (F.SQ_TAIL_TAIL.i q.val) t).sqIdle q.val)) ∧
    (barred = false → bit data.toNat 4 = false →
      Gives (.sqResume rq q data) s (s.dev.ack (F.SQ_STATUS_STOPPED.i q.val).off 0x7C data)) ∧
    (barred = false → bit data.toNat 4 = true →
      Gives (.sqResume rq q data) s ((s.dev.ack (F.SQ_STATUS_STOPPED.i q.val).off 0x7C data).dn (F.SQ_STATUS_ERR_COUNT.i q.val)))

/-- (R38, R66, R85, R86, R87, R88, R89, R94, R98) A strobe with LAYER_SEL = 3 or without a target sets BAD_STROBE,
    one while the requester's validation, or for the host a declaration's test, is pending sets STROBE_BUSY, and
    one that is both sets both; targets barred to the requester are left out, flagged and counted on their service-
    owned pipes, and a strobe that keeps none is a BAD_STROBE; every other one takes the next sequence number,
    copies the proof bank of the targets kept with the parity found in them, counts and flags itself late for the
    pipes past their cutoff, and sets PENDING.  Answers a next state, as said, for commitStrobe. -/
def Obligations.StrobesSnapshotTheirTargets : Prop :=
  ∀ (rq : Rq) (data : Word) (s : State), s.dev.reaches rq = true →
    let bs := s.dev.strobeTargets rq data
    let bad := decide (bits data.toNat 24 2 = 3) || bs.isEmpty
    let busy := s.dev.fl (F.COMMIT_STATUS_PENDING.rq rq) || (rq == .host && s.dev.fl F.FETCH_STATUS_DECL_PENDING)
    let d0 := Dev.each (fun p d => d.ownViolation p)
      (pipes.filter (fun p => bs.any (fun b => (s.dev.barredFor rq b).contains p))) s.dev
    let kept := bs.filter (fun b => (d0.barredFor rq b).isEmpty)
    (bad = true → busy = false → Gives (.commitStrobe rq data) s (s.dev.up (F.COMMIT_ERR_BAD_STROBE.rq rq))) ∧
    (bad = false → busy = true → Gives (.commitStrobe rq data) s (s.dev.up (F.COMMIT_ERR_STROBE_BUSY.rq rq))) ∧
    (bad = true → busy = true → Gives (.commitStrobe rq data) s
      ((s.dev.up (F.COMMIT_ERR_BAD_STROBE.rq rq)).up (F.COMMIT_ERR_STROBE_BUSY.rq rq))) ∧
    (bad = false → busy = false → kept = [] →
      Gives (.commitStrobe rq data) s (d0.up (F.COMMIT_ERR_BAD_STROBE.rq rq))) ∧
    (bad = false → busy = false → kept ≠ [] →
      let d := d0.snapParity kept
      let seq := (d.seq + 1) % 65536
      let snaps := kept.map (d.snapshot rq seq)
      let late := d.latePipes (d.pipeSet snaps)
      let d1 := (Dev.each (fun p d => d.lateCount p) late d).onlyIf (!late.isEmpty) (·.attn .late)
      let st : Strobe :=
        { rq := rq, seq := seq, pipes := d.pipeSet snaps, snaps := snaps, late := late,
          swapsAt := pipes.map (fun p => d.rg (F.PIPE_SWAP_COUNT_SWAPS.i p)), parity := d.parityIn kept }
      let d2 : Dev := { d1 with seq := seq, strobes := d1.strobes ++ [st] }
      Gives (.commitStrobe rq data) s
        ((((d2.sg (F.COMMIT_STATUS_SEQ.rq rq) seq).up (F.COMMIT_STATUS_PENDING.rq rq)).dn
          (F.COMMIT_STATUS_DONE.rq rq)).dn (F.COMMIT_STATUS_ACCEPTED.rq rq)))

/-- (R83, R92, R94, R95, R125) When the checker has taken a strobe: with no failing check the snapshot is accepted
    and reported; with a first failing check its code, target and figures are reported, lost descriptors nothing
    names any more are released, and neither the proof bank, the active bank, the armed bank nor the late store
    changes.  Answers a next state, as said, for commitValidationEnd. -/
def Obligations.ValidationEndsInAcceptanceOrRefusal : Prop :=
  ∀ (rq : Rq) (st : Strobe) (rest : List Strobe) (s : State), s.dev.dark = false → s.dev.strobes = st :: rest →
    st.rq = rq → s.dev.declTest.any (fun t => !t.behind) = false →
    let d := { s.dev with
      strobes := rest
      declTest := s.dev.declTest.map (fun (t : DeclTest) => { t with behind := false }) }
    let k := d.checkOf st
    (d.check st k = none → Gives (.commitValidationEnd rq) s ((d.accept st k).report st ⟨0, 0, 0, 0, 0⟩)) ∧
    (∀ r, d.check st k = some r → Gives (.commitValidationEnd rq) s (d.report st r).lostSweep) ∧
    (∀ r, d.check st k = some r → Completes (.commitValidationEnd rq) s (fun e =>
      e.strobes = rest ∧ e.proof = s.dev.proof ∧ e.active = s.dev.active ∧ e.armed = s.dev.armed ∧ e.late = s.dev.late))

/-- (R10, R11, R35, R36, R82, R84) For every register word outside the posted areas that is no strobe, command,
    keyed or owned register (`strobed`) and no pair: an aligned full write to one without banked fields is the
    plain write of its fields, which where it has no W1C field sets its writable bits to the data's and changes
    nothing else. To a banked register, a write by a requester that views the proof bank, and that the pipe's owner
    does not bar, sets the register's banked bits in the proof bank, changes no other proof word, and leaves the
    active and armed banks and the late store alone; a write through a view of the armed or active bank sets
    VIEW_WRITE; a barred host write sets OWNERSHIP_VIOLATION and counts it on each service-owned pipe.  Answers a
    next state, as said, for regWrite. -/
def Obligations.LayerWritesLandInTheProofBank : Prop :=
  ∀ (rq : Rq) (off : BitVec 26) (data : Word) (r : Reg) (s : State), s.dev.reaches rq = true →
    off.toNat < 2 ^ 24 → off.toNat % 4 = 0 → mapped off.toNat = true → areaOf off.toNat = none → strobed off.toNat = false →
    findReg off.toNat = some (r, 0) → r.pair = false →
    let m := maskOf r 0 Fld.banked
    let n := storeMask false r 0
    let key := keyFor rq off.toNat
    let d := s.dev.putUnbanked rq false off.toNat data
    (hasBanked off.toNat = false → Gives (.regWrite rq .reg off 15 ⟨data, []⟩) s d) ∧
    (hasBanked off.toNat = false → Tab.wf dfltU s.dev.regs = true → n ≠ 0 → maskOf r 0 (fun f => f.acc == .w1c) = 0 →
      clearsWith.all (fun x => x.1.off != r.off) = true →
      Completes (.regWrite rq .reg off 15 ⟨data, []⟩) s (fun e =>
        e.unV key = (s.dev.unV key &&& ~~~n) ||| (data &&& n) ∧ s.dev.sameBut e [key])) ∧
    (hasBanked off.toNat = true → Tab.wf dfltB s.dev.proof = true → d.rg (F.COMMIT_VIEW_BANK.rq rq) ≠ 1 →
      d.rg (F.COMMIT_VIEW_BANK.rq rq) ≠ 2 → d.hostBarred rq off.toNat = [] →
      Completes (.regWrite rq .reg off 15 ⟨data, []⟩) s (fun e =>
        (∀ k, k ≠ off.toNat → e.pfV k = s.dev.pfV k) ∧
        e.pfV off.toNat = (s.dev.pfV off.toNat &&& ~~~m) ||| (data &&& m) ∧
        e.active = s.dev.active ∧ e.armed = s.dev.armed ∧ e.late = s.dev.late)) ∧
    (hasBanked off.toNat = true → d.rg (F.COMMIT_VIEW_BANK.rq rq) = 1 ∨ d.rg (F.COMMIT_VIEW_BANK.rq rq) = 2 →
      Gives (.regWrite rq .reg off 15 ⟨data, []⟩) s (d.up (F.COMMIT_ERR_VIEW_WRITE.rq rq))) ∧
    (hasBanked off.toNat = true → d.rg (F.COMMIT_VIEW_BANK.rq rq) ≠ 1 → d.rg (F.COMMIT_VIEW_BANK.rq rq) ≠ 2 →
      d.hostBarred rq off.toNat ≠ [] →
      Gives (.regWrite rq .reg off 15 ⟨data, []⟩) s
        (Dev.each (fun p e => (e.up (F.PIPE_OWNER_OWNERSHIP_VIOLATION.i p)).incSat (F.PIPE_OWNER_VIOLATION_COUNT.i p))
          (d.hostBarred rq off.toNat) d))

/-- (R26, R406, R412, R413, R489) For every command that an ICP packet carries: in DEEP it changes nothing, and so
    it does while it is not the next listed step. When it is, Hearth firmware runs on and ends a shut-down test,
    and then: a transport that is not controller gets NOT_CONTROLLER unless the opcode is marked Any; in Starter
    mode an opcode not marked for it gets STARTER_REFUSED; any of the tests 7 to 10 that fails is answered with its
    code and changes nothing else; in HOLD an opcode outside the listed groups is answered STATE_REFUSED (BAD_PARAM
    where a parameter value fails test 10: assumption log 27). -/
def Obligations.IcpRowsAreTestedBeforeTheyRun : Prop :=
  ∀ (c : Instr) (op : Nat) (tr : Tr) (seq : BitVec 16) (ps : List Word) (r : OpRow) (s : State),
    c.icpRow = some (op, tr, seq, ps) → opRow op = some r →
    let q := seq.toNat % 256
    let group := op / 256
    let d := if s.dev.fwResume.testing then s.dev.fwResume.testStop else s.dev.fwResume
    let turn := s.dev.dark = false ∧ s.dev.svcNext tr op q ps = true
    (s.dev.deep = true → Gives c s s.dev) ∧
    (s.dev.dark = false → s.dev.svcNext tr op q ps = false → Gives c s s.dev) ∧
    (turn → r.any = false → d.rg F.ICP_ATTENTION_CONTROLLER ≠ trCode tr →
      Gives c s (d.answer tr op q ps false 0x44 [])) ∧
    (turn → r.any = true ∨ d.rg F.ICP_ATTENTION_CONTROLLER = trCode tr →
      d.starter = true → r.starter = false → Gives c s (d.answer tr op q ps false 0x46 [])) ∧
    (∀ code pay, turn → d.cmdTest tr r (nums ps) = some (code, pay) →
      Gives c s (d.answer tr op q ps false code pay)) ∧
    (turn → d.inHold = true → d.cmdTest tr r (nums ps) = none →
      group ≠ 0 → group ≠ 1 → group ≠ 4 → group ≠ 5 → op ≠ 0x300 → op ≠ 0x301 → op ≠ 0x601 →
      Gives c s (d.answer tr op q ps true 0x57 []) ∨ Gives c s (d.answer tr op q ps false 0x43 []))

/-- (R423, R408, R431, R437, R438) Each as the next listed step that passes its tests (`Dev.passes`): DEVICE_INFO,
    GET_STATUS, SURF_QUERY, SURF_SEAL_STATUS, FENCE_READ, LAYOUT_GET, PIPE_STATUS, PORT_STATUS, SENSOR_READ,
    LOG_INFO, LOG_READ (one entry), HEALTH_READ, MARGIN_READ, FW_INFO and SELFTEST_RESULT answer OK with the words
    of the opcode tables, or their own refusal code, and nothing changes but the reply; the scan-out line that
    PIPE_STATUS reads of a running pipe is a free value below the frame's lines (log 4).  Answers a next state, as
    said, for: deviceInfo, getStatus, surfQuery, surfSealStatus, fenceRead, portStatus, pipeStatus, layoutGet,
    sensorRead, logInfo, logRead, healthRead, marginRead, fwInfo, selftestResult. -/
def Obligations.IcpQueriesReportTheState : Prop :=
  ∀ (tr : Tr) (seq : BitVec 16) (ps : List Word) (s : State),
    let d := s.dev
    let P := param ps
    let fid := d.fenceAt (P 0)
    (d.passes 0x0000 tr seq ps = true → ∀ k, d.runningSlot = some k → Replies (.deviceInfo tr seq ps) 0x0000 tr seq ps s 0
      [d.payWord F.SYS_ID_GRADE, d.mramWord (slotBase k + 4), d.rg F.HEARTH_STATE_SLOT, d.rg F.FETCH_USABLE_MIB,
        d.rg F.ICP_ATTENTION_CONTROLLER] d) ∧
    (d.passes 0x0000 tr seq ps = true → d.runningSlot = none → Replies (.deviceInfo tr seq ps) 0x0000 tr seq ps s 0
      [d.payWord F.SYS_ID_GRADE, d.mramWord 0x500004, d.rg F.HEARTH_STATE_SLOT, d.rg F.FETCH_USABLE_MIB,
        d.rg F.ICP_ATTENTION_CONTROLLER] d) ∧
    (d.passes 0x0003 tr seq ps = true → Replies (.getStatus tr seq ps) 0x0003 tr seq ps s 0
      [d.payWord F.SYS_FAULT_SUMMARY_CFG_PARITY, d.payWord F.SYS_RESET_CAUSE_COLD, d.payWord F.SYS_BOOT_COUNT_STARTS,
        sumOf (fun n => (d.rg (F.PIPE_OWNER_OWNER.i n) + 2 * d.rg (F.PIPE_OWNER_PENDING.i n)) * 2 ^ (8 * n)) pipes,
        d.rg F.POWER_STATUS_STATE] d) ∧
    (d.passes 0x0103 tr seq ps = true → P 0 < 16384 → Replies (.surfQuery tr seq ps) 0x0103 tr seq ps s 0
      ((List.range 8).map (d.surfAt (P 0)).word) d) ∧
    (d.passes 0x0104 tr seq ps = true → Replies (.surfSealStatus tr seq ps) 0x0104 tr seq ps s 0 [d.payWord F.SURF_SEAL_SID] d) ∧
    (d.passes 0x0113 tr seq ps = true → P 0 < 4096 → fid.alloc = true → Replies (.fenceRead tr seq ps) 0x0113 tr seq ps s 0
      [fid.val.toNat % 2 ^ 32, fid.val.toNat / 2 ^ 32] d) ∧
    (d.passes 0x0113 tr seq ps = true → P 0 < 4096 → fid.alloc = false → Replies (.fenceRead tr seq ps) 0x0113 tr seq ps s 3 [] d) ∧
    (d.passes 0x0301 tr seq ps = true → P 0 < 4 → Replies (.portStatus tr seq ps) 0x0301 tr seq ps s 0
      [d.payWord (F.DP_STATUS_PLUGGED.i (P 0)), d.payWord (F.DP_SINK_A_MAX_RATE.i (P 0)),
        d.payWord (F.DP_SINK_B_DSC_MAX_SLICES.i (P 0)), d.payWord (F.DP_HDCP_STATE.i (P 0))] d) ∧
    (d.passes 0x0301 tr seq ps = true → P 0 = 4 ∨ P 0 = 5 → Replies (.portStatus tr seq ps) 0x0301 tr seq ps s 0
      [d.payWord (F.DSI_STATUS_READY.i (P 0 - 4)), 0, 0, 0] d) ∧
    (∀ e : Dev, d.passes 0x0300 tr seq ps = true → P 0 < 4 →
      (d.running (P 0) = false ∧ e = d.dn (F.PIPE_TG_STATUS_LINE.i (P 0))) ∨
        (d.running (P 0) = true ∧
          e = d.draw.2.sg (F.PIPE_TG_STATUS_LINE.i (P 0)) (d.draw.1 % max 1 (d.frameLines (P 0)))) →
      Replies (.pipeStatus tr seq ps) 0x0300 tr seq ps s 0
          [e.payWord (F.PIPE_TG_STATUS_RUNNING.i (P 0)), d.payWord (F.PIPE_COMMIT_STATUS_ARMED.i (P 0)),
            d.payWord (F.PIPE_OWNER_OWNER.i (P 0)), d.payWord (F.PIPE_REST_STATUS_STATE.i (P 0)),
            d.payWord (F.PIPE_GENLOCK_STATUS_STATE.i (P 0)), d.payWord (F.PIPE_COMMIT_SEQ_ACTIVE_SEQ.i (P 0))] e) ∧
    (d.passes 0x0205 tr seq ps = true → P 0 < 4 → P 1 < 64 → d.fl (F.PIPE_OWNER_OWNER.i (P 0)) = false →
      Replies (.layoutGet tr seq ps) 0x0205 tr seq ps s 0x49 [] d) ∧
    (d.passes 0x0205 tr seq ps = true → P 0 < 4 → P 1 < 64 → d.fl (F.PIPE_OWNER_OWNER.i (P 0)) = true →
      (d.svcOf (P 0)).layout.getD (P 1) [] ≠ [] → Replies (.layoutGet tr seq ps) 0x0205 tr seq ps s 0
        (((d.svcOf (P 0)).layout.getD (P 1) []).map (·.toNat)) d) ∧
    (d.passes 0x0205 tr seq ps = true → P 0 < 4 → P 1 < 64 → d.fl (F.PIPE_OWNER_OWNER.i (P 0)) = true →
      (d.svcOf (P 0)).layout.getD (P 1) [] = [] → Replies (.layoutGet tr seq ps) 0x0205 tr seq ps s 0
        ((P 1 + P 0 * 256) :: List.replicate 29 0) d) ∧
    (d.passes 0x0400 tr seq ps = true → 1 ≤ bits (P 0) 16 8 → bits (P 0) 16 8 ≤ 48 →
      bits (P 0) 8 8 + bits (P 0) 16 8 ≤ sensorCount (bits (P 0) 0 8) → Replies (.sensorRead tr seq ps) 0x0400 tr seq ps s 0
        ((List.range (bits (P 0) 16 8)).map (fun k => d.sensorAt (bits (P 0) 0 8) (bits (P 0) 8 8 + k))) d) ∧
    (d.passes 0x0401 tr seq ps = true → Replies (.logInfo tr seq ps) 0x0401 tr seq ps s 0
      [d.logOldest, d.logNewest, d.logOverwritten] d) ∧
    (d.passes 0x0402 tr seq ps = true → 1 ≤ P 1 → P 1 ≤ 14 → d.logAt (P 0) = none →
      Replies (.logRead tr seq ps) 0x0402 tr seq ps s 3 [] d) ∧
    (d.passes 0x0402 tr seq ps = true → P 1 = 1 → ∀ e, d.logAt (P 0) = some e → subMod 32 d.logNewest (P 0) ≤ 65535 →
      P 0 < 2 ^ 32 → Replies (.logRead tr seq ps) 0x0402 tr seq ps s 0 (e.words (P 0)) d) ∧
    (d.passes 0x0403 tr seq ps = true → 1 ≤ P 1 → P 1 ≤ 56 → P 0 + P 1 ≤ 221 → Replies (.healthRead tr seq ps) 0x0403 tr seq ps s 0
      ((List.range (P 1)).map (fun k => d.mramWord (healthBase (d.hearth.healthCopy.getD 0) + 4 * (P 0 + k)))) d) ∧
    (d.passes 0x0404 tr seq ps = true → Replies (.marginRead tr seq ps) 0x0404 tr seq ps s 0
      ((List.range 4).map (fun k => (d.unV (F.LEAVEN_MARGIN_MARGIN_LO.i k).off).toNat) ++ [d.rg F.LEAVEN_STATUS_REPLANS]) d) ∧
    (d.passes 0x0500 tr seq ps = true → ∀ k, d.runningSlot = some k → Replies (.fwInfo tr seq ps) 0x0500 tr seq ps s 0
      [d.mramWord (slotBase 0 + 4), d.mramWord (slotBase 1 + 4),
        d.slotSt 0 + d.slotSt 1 * 16 + d.hearth.selected * 256 + k * 512 + d.hearth.cfgState * 4096,
        d.rg F.SECURE_KEYS_ROLLBACK] d) ∧
    (d.passes 0x0500 tr seq ps = true → d.runningSlot = none → Replies (.fwInfo tr seq ps) 0x0500 tr seq ps s 0
      [d.mramWord (slotBase 0 + 4), d.mramWord (slotBase 1 + 4),
        d.slotSt 0 + d.slotSt 1 * 16 + d.hearth.selected * 256 + 1024 + d.hearth.cfgState * 4096,
        d.rg F.SECURE_KEYS_ROLLBACK] d) ∧
    (d.passes 0x0601 tr seq ps = true → isSlice (P 0) = true → Replies (.selftestResult tr seq ps) 0x0601 tr seq ps s 0
      ((d.sliceEntry (P 0)).take 3) d)

/-- (R410, R412, R414, R423, R424, R449, R480, R490, R491) HEARTBEAT sets HOST_LOST_MS and reports a lost episode;
    ACK_ATTENTION clears the bits named, STARTER excepted in Starter mode; CLAIM_CONTROL and RELEASE_CONTROL move
    the controller role; SOFT_RESET resets the device or the blocks of its mask, and is refused without bit 31 in
    Starter mode, or for tables in use; SHUTDOWN and POWER_STATE begin their transition after the reply, or are
    answered STATE_REFUSED.  Answers a next state, as said, for: heartbeat, ackAttention, claimControl,
    releaseControl, softReset, shutdown, powerState. -/
def Obligations.IcpControlRowsTakeEffect : Prop :=
  ∀ (tr : Tr) (seq : BitVec 16) (ps : List Word) (s : State),
    let d := s.dev
    let P := param ps
    let q := seq.toNat % 256
    let owner := d.rg F.ICP_ATTENTION_CONTROLLER
    (d.passes 0x0001 tr seq ps = true → P 0 = 0 ∨ 200 ≤ P 0 ∧ P 0 ≤ 60000 →
      let icp := { d.icp with lostMs := if P 0 = 0 then d.icp.lostMs else P 0, wasLost := false }
      Replies (.heartbeat tr seq ps) 0x0001 tr seq ps s 0 [b2n d.icp.wasLost * 2 ^ 31 + d.icp.lostCount]
        { d with icp := icp }) ∧
    (d.passes 0x0002 tr seq ps = true → d.starter = false →
      let e := d.clrBits F.ICP_ATTENTION_ATTENTION (P 0 % 65536)
      Replies (.ackAttention tr seq ps) 0x0002 tr seq ps s 0 [e.rg F.ICP_ATTENTION_ATTENTION] e) ∧
    (d.passes 0x0002 tr seq ps = true → d.starter = true →
      let m := P 0 % 65536
      let e := d.clrBits F.ICP_ATTENTION_ATTENTION (m - (m &&& 2 ^ Att.starter.bit))
      Replies (.ackAttention tr seq ps) 0x0002 tr seq ps s 0 [e.rg F.ICP_ATTENTION_ATTENTION] e) ∧
    (d.passes 0x0004 tr seq ps = true → owner = trCode tr →
      Replies (.claimControl tr seq ps) 0x0004 tr seq ps s 0 [owner] d) ∧
    (d.passes 0x0004 tr seq ps = true → owner ≠ trCode tr → owner = 0 ∨ d.fl F.ICP_RING_STATUS_HOST_LOST = true →
      Replies (.claimControl tr seq ps) 0x0004 tr seq ps s 0 [trCode tr]
        ((d.sg F.ICP_ATTENTION_CONTROLLER (trCode tr)).dn F.ICP_RING_STATUS_HOST_LOST)) ∧
    (d.passes 0x0004 tr seq ps = true → owner ≠ trCode tr → owner ≠ 0 → d.fl F.ICP_RING_STATUS_HOST_LOST = false →
      Replies (.claimControl tr seq ps) 0x0004 tr seq ps s 0x45 [] d) ∧
    (d.passes 0x0005 tr seq ps = true → Replies (.releaseControl tr seq ps) 0x0005 tr seq ps s 0 []
      ((d.dn F.ICP_ATTENTION_CONTROLLER).dn F.ICP_RING_STATUS_HOST_LOST)) ∧
    (d.passes 0x0006 tr seq ps = true → bit (P 0) 31 = true → d.starter = false →
      Gives (.softReset tr seq ps) s ((d.answer tr 0x0006 q ps true 0 []).warmReset .software)) ∧
    (d.passes 0x0006 tr seq ps = true → bit (P 0) 31 = true → d.starter = true →
      Gives (.softReset tr seq ps) s
        (((d.dn F.SYS_BOOT_COUNT_FAILED_RUN).answer tr 0x0006 q ps true 0 []).warmReset .software)) ∧
    (d.dark = false → d.svcNext tr 0x0006 q ps = true → d.hearth.stopped = false → d.testing = false →
      owner = trCode tr → bit (P 0) 31 = false → d.starter = true →
      Gives (.softReset tr seq ps) s (d.answer tr 0x0006 q ps false 0x46 [])) ∧
    (d.passes 0x0006 tr seq ps = true → P 0 ≠ 0 → P 0 &&& 0xF0F = P 0 → bit (P 0) 31 = false → d.starter = false →
      bit (P 0) 11 = true → d.tablesInUse (P 0) = true → Replies (.softReset tr seq ps) 0x0006 tr seq ps s 4 [] d) ∧
    (d.passes 0x0006 tr seq ps = true → P 0 ≠ 0 → P 0 &&& 0xF0F = P 0 → bit (P 0) 31 = false → d.starter = false →
      (bit (P 0) 11 = true → d.tablesInUse (P 0) = false) →
      let e := Dev.each (fun p d => if bit (P 0) p then d.pipeReset 3 p else d) pipes d
      Replies (.softReset tr seq ps) 0x0006 tr seq ps s 0 []
        ((((e.onlyIf (bit (P 0) 8) (·.scraperReset)).onlyIf (bit (P 0) 9) (·.dmaReset)).onlyIf (bit (P 0) 10)
          (·.chkReset)).onlyIf (bit (P 0) 11) (·.tablesReset))) ∧
    (d.passes 0x0007 tr seq ps = true → (d.power.moving != .none || d.inHold) = false →
      Gives (.shutdown tr seq ps) s ((d.answer tr 0x0007 q ps true 0 []).shutBegin (P 0))) ∧
    (d.passes 0x0007 tr seq ps = true → (d.power.moving != .none || d.inHold) = true →
      Replies (.shutdown tr seq ps) 0x0007 tr seq ps s 0x57 [] d) ∧
    (d.passes 0x0008 tr seq ps = true → P 0 ≤ 3 → d.powerRefused (P 0) = false →
      Gives (.powerState tr seq ps) s ((d.answer tr 0x0008 q ps true 0 [P 0]).powerTake (P 0))) ∧
    (d.passes 0x0008 tr seq ps = true → P 0 ≤ 3 → d.powerRefused (P 0) = true →
      Replies (.powerState tr seq ps) 0x0008 tr seq ps s 0x57 [] d)

/-- (R423, R320, R431) An unplugged port or a panel that is not ready is answered NO_SINK; a sink that fails is
    answered SINK_IO_FAILED; no session is answered HDCP_UNAVAILABLE; otherwise the reply is OK with the bytes that
    the sink sent, cut or padded to the length asked for.  Answers a next state, as said, for: sinkRead, dpcdWrite,
    hdcpTopology, dsiDcs. -/
def Obligations.IcpPortRowsPassTheSinksAnswer : Prop :=
  ∀ (tr : Tr) (seq : BitVec 16) (ps : List Word) (s : State),
    let d := s.dev
    let P := param ps
    let n := bits (P 1) 16 8
    let plugged := d.fl (F.DP_STATUS_PLUGGED.i (P 0))
    let ready := d.fl (F.DSI_STATUS_READY.i (P 0 - 4))
    (∀ seen, d.passes 0x0302 tr seq ps = true → badSinkRead (nums ps) = false →
      (plugged = false → Replies (.sinkRead tr seq ps seen) 0x0302 tr seq ps s 0x4D [] d) ∧
      (plugged = true → seen = none → Replies (.sinkRead tr seq ps seen) 0x0302 tr seq ps s 0x4E [] d) ∧
      (plugged = true → ∀ bs, seen = some bs → Replies (.sinkRead tr seq ps seen) 0x0302 tr seq ps s 0
        (padWords ((bs ++ List.replicate n 0).take n)) d)) ∧
    (∀ acked, d.passes 0x0303 tr seq ps = true → badDpcdWrite (nums ps) = false →
      (plugged = false → Replies (.dpcdWrite tr seq ps acked) 0x0303 tr seq ps s 0x4D [] d) ∧
      (plugged = true → acked = false → Replies (.dpcdWrite tr seq ps acked) 0x0303 tr seq ps s 0x4E [] d) ∧
      (plugged = true → acked = true → Replies (.dpcdWrite tr seq ps acked) 0x0303 tr seq ps s 0 [] d)) ∧
    (∀ seen, d.passes 0x0304 tr seq ps = true → P 0 < 4 →
      (plugged = false → Replies (.hdcpTopology tr seq ps seen) 0x0304 tr seq ps s 0x4D [] d) ∧
      (plugged = true → d.rg (F.DP_HDCP_STATE.i (P 0)) ≠ 2 ∨ seen = none →
        Replies (.hdcpTopology tr seq ps seen) 0x0304 tr seq ps s 0x4F [] d) ∧
      (plugged = true → d.rg (F.DP_HDCP_STATE.i (P 0)) = 2 → ∀ ws, seen = some ws →
        Replies (.hdcpTopology tr seq ps seen) 0x0304 tr seq ps s 0 ((ws.map (·.toNat)).take 60) d)) ∧
    (∀ seen, d.passes 0x0306 tr seq ps = true → badDsiDcs (nums ps) = false →
      (ready = false → Replies (.dsiDcs tr seq ps seen) 0x0306 tr seq ps s 0x4D [] d) ∧
      (ready = true → seen = none → Replies (.dsiDcs tr seq ps seen) 0x0306 tr seq ps s 0x4E [] d) ∧
      (ready = true → ∀ bs, seen = some bs → bit (P 1) 31 = true → Replies (.dsiDcs tr seq ps seen) 0x0306 tr seq ps s 0
        (padWords ((bs ++ List.replicate n 0).take n)) d) ∧
      (ready = true → ∀ bs, seen = some bs → bit (P 1) 31 = false → Replies (.dsiDcs tr seq ps seen) 0x0306 tr seq ps s 0 [] d))

/-- (R41, R42, R132, R134, R147, R148, R149, R423, R427, R479) SURF_REGISTER, SURF_UNREGISTER, SURF_CLEAR_TORN,
    FENCE_ALLOC and FENCE_FREE answer with the table's code and take its effect; FENCE_SIGNAL raises an allocated
    fence and refuses a lower value or a FREE fence; PIPE_HANDOVER and PIPE_RECLAIM begin a change of owner or
    answer why not; PIPE_RESET resets its pipe.  Answers a next state, as said, for: surfRegister, surfUnregister,
    surfClearTorn, fenceAlloc, fenceFree, fenceSignal, pipeHandover, pipeReclaim, pipeReset. -/
def Obligations.IcpTableAndLayoutRows : Prop :=
  ∀ (tr : Tr) (seq : BitVec 16) (ps : List Word) (s : State),
    let d := s.dev
    let P := param ps
    let n := P 0
    let f := d.fenceAt (P 0)
    let own := d.fl (F.PIPE_OWNER_OWNER.i n)
    let pend := d.fl (F.PIPE_OWNER_PENDING.i n)
    let hw := prm2 (nums ps) 1
    (d.passes 0x0100 tr seq ps = true →
      let r := d.register (surfOfWords P) (bit (P 8) 16) (P 8 % 16384)
      Replies (.surfRegister tr seq ps) 0x0100 tr seq ps s r.1.num [r.2.1] r.2.2) ∧
    (d.passes 0x0101 tr seq ps = true → P 0 < 16384 →
      Replies (.surfUnregister tr seq ps) 0x0101 tr seq ps s (d.unregister (P 0)).1.num [] (d.unregister (P 0)).2) ∧
    (d.passes 0x0102 tr seq ps = true → P 0 < 16384 →
      Replies (.surfClearTorn tr seq ps) 0x0102 tr seq ps s (d.clearTorn (P 0)).1.num [] (d.clearTorn (P 0)).2) ∧
    (d.passes 0x0110 tr seq ps = true →
      let r := d.fenceAllocate (bit (P 0) 16) (P 0 % 4096) hw
      Replies (.fenceAlloc tr seq ps) 0x0110 tr seq ps s r.1.num [r.2.1] r.2.2) ∧
    (d.passes 0x0111 tr seq ps = true → P 0 < 4096 →
      Replies (.fenceFree tr seq ps) 0x0111 tr seq ps s (d.fenceRelease (P 0)).1.num [] (d.fenceRelease (P 0)).2) ∧
    (d.soon = false → d.bellBase (P 0) = f.val.toNat) ∧
    (d.passes 0x0112 tr seq ps = true → P 0 < 4096 → f.alloc = true → d.bellBase (P 0) ≤ hw →
      Replies (.fenceSignal tr seq ps) 0x0112 tr seq ps s 0 []
        ({ d with bell := some (P 0, d.bellBase (P 0)) }.fenceNow (P 0)
          { f with val := BitVec.ofNat 64 (max hw f.val.toNat) })) ∧
    (d.passes 0x0112 tr seq ps = true → P 0 < 4096 → f.alloc = true → hw < d.bellBase (P 0) →
      Replies (.fenceSignal tr seq ps) 0x0112 tr seq ps s 0x50 [] (d.up F.FENCE_STATUS_BACKWARD)) ∧
    (d.passes 0x0112 tr seq ps = true → P 0 < 4096 → f.alloc = false →
      Replies (.fenceSignal tr seq ps) 0x0112 tr seq ps s 3 [] (d.up F.FENCE_STATUS_DOORBELL_FREE)) ∧
    (d.passes 0x0200 tr seq ps = true → P 0 < 4 → P 1 % 4096 = 0 → P 2 < 256 →
      (pend = true → Replies (.pipeHandover tr seq ps) 0x0200 tr seq ps s 0x48 [] d) ∧
      (pend = false → own = true → Replies (.pipeHandover tr seq ps) 0x0200 tr seq ps s 0x4A [] d) ∧
      (pend = false → own = false → d.regionOk d.acV n hw (P 3 * 4096) = false →
        Replies (.pipeHandover tr seq ps) 0x0200 tr seq ps s 7 [] d) ∧
      (pend = false → own = false → d.regionOk d.acV n hw (P 3 * 4096) = true → d.topSids.length < 4 →
        Replies (.pipeHandover tr seq ps) 0x0200 tr seq ps s 1 [] d) ∧
      (pend = false → own = false → d.regionOk d.acV n hw (P 3 * 4096) = true → 4 ≤ d.topSids.length →
        let e := d.putSvc n { base := hw, size := P 3 * 4096, timing := timingWords d.acV n }
        Replies (.pipeHandover tr seq ps) 0x0200 tr seq ps s 0 [] ((e.overlaysOn e.acV n).ownerBegin n))) ∧
    (d.passes 0x0201 tr seq ps = true → P 0 < 4 →
      (pend = true → Replies (.pipeReclaim tr seq ps) 0x0201 tr seq ps s 0x48 [] d) ∧
      (pend = false → own = false → Replies (.pipeReclaim tr seq ps) 0x0201 tr seq ps s 0x49 [] d) ∧
      (pend = false → own = true → Replies (.pipeReclaim tr seq ps) 0x0201 tr seq ps s 0 []
        ((d.putSvc n { d.svcOf n with staged := none }).ownerBegin n))) ∧
    (d.passes 0x0305 tr seq ps = true → P 0 < 4 →
      Replies (.pipeReset tr seq ps) 0x0305 tr seq ps s 0 [] (d.pipeReset 1 (P 0)))

/-- (R425, R426, R427, R428, R429, R430, R423) LAYOUT_BEGIN opens the staging empty or as a copy; LAYOUT_WINDOW
    writes or removes an entry of an open staging; LAYOUT_SET replies LAYOUT_LIMIT with the limit, window and
    figures, or commits the layout, draws it and closes the staging; ATLAS_SET, METER_TABLE_SET and METER_WRITE
    keep their tables; PIPE_TIMING_SET commits seven timing words or refuses. How the layers are chosen and drawn
    where the rules are open is the model's (log 16).  Answers a next state, as said, for: layoutBegin,
    layoutWindow, layoutSet, atlasSet, meterTableSet, meterWrite, pipeTimingSet. -/
def Obligations.IcpLayoutRowsStageAndSet : Prop :=
  ∀ (tr : Tr) (seq : BitVec 16) (ps : List Word) (s : State),
    let d := s.dev
    let P := param ps
    let a2 := prm2 (nums ps) 0
    (d.passes 0x0202 tr seq ps = true → (∀ c, d.serviceRefused (P 0 % 4) = some c →
        Replies (.layoutBegin tr seq ps) 0x0202 tr seq ps s c [] d) ∧
      (d.serviceRefused (P 0 % 4) = none → bit (P 0) 8 = true → (d.svcOf (P 0 % 4)).layout ≠ [] →
        Replies (.layoutBegin tr seq ps) 0x0202 tr seq ps s 0 []
          (d.putSvc (P 0 % 4) { d.svcOf (P 0 % 4) with staged := some (d.svcOf (P 0 % 4)).layout })) ∧
      (d.serviceRefused (P 0 % 4) = none → bit (P 0) 8 = false ∨ (d.svcOf (P 0 % 4)).layout = [] →
        Replies (.layoutBegin tr seq ps) 0x0202 tr seq ps s 0 []
          (d.putSvc (P 0 % 4) { d.svcOf (P 0 % 4) with staged := some emptyLayout }))) ∧
    (d.passes 0x0203 tr seq ps = true → badWindow (nums ps) = false →
      ((d.svcOf (bits (P 0) 8 2)).staged = none → Replies (.layoutWindow tr seq ps) 0x0203 tr seq ps s 0x4C [] d) ∧
      (∀ st, (d.svcOf (bits (P 0) 8 2)).staged = some st → bit (P 0) 16 = true →
        Replies (.layoutWindow tr seq ps) 0x0203 tr seq ps s 0 []
          (d.putSvc (bits (P 0) 8 2) { d.svcOf (bits (P 0) 8 2) with staged := some (st.set (P 0 % 64) ps) })) ∧
      (∀ st, (d.svcOf (bits (P 0) 8 2)).staged = some st → bit (P 0) 16 = false →
        Replies (.layoutWindow tr seq ps) 0x0203 tr seq ps s 0 []
          (d.putSvc (bits (P 0) 8 2) { d.svcOf (bits (P 0) 8 2) with staged := some (st.set (P 0 % 64) []) }))) ∧
    (d.passes 0x0204 tr seq ps = true → P 0 < 4 →
      (d.fl (F.PIPE_OWNER_PENDING.i (P 0)) = true → Replies (.layoutSet tr seq ps) 0x0204 tr seq ps s 0x48 [] d) ∧
      (d.fl (F.PIPE_OWNER_PENDING.i (P 0)) = false → (d.svcOf (P 0)).staged = none →
        Replies (.layoutSet tr seq ps) 0x0204 tr seq ps s 0x4C [] d) ∧
      (∀ lay c w need have_, d.fl (F.PIPE_OWNER_PENDING.i (P 0)) = false → (d.svcOf (P 0)).staged = some lay →
        d.layoutLimit (P 0) lay (d.layoutAlloc (P 0) lay) = some (c, w, need, have_) →
        Replies (.layoutSet tr seq ps) 0x0204 tr seq ps s 0x4B [c + w * 256, need, have_] d) ∧
      (∀ lay, d.fl (F.PIPE_OWNER_PENDING.i (P 0)) = false → (d.svcOf (P 0)).staged = some lay →
        d.layoutLimit (P 0) lay (d.layoutAlloc (P 0) lay) = none →
        let a := d.layoutAlloc (P 0) lay
        let front := !(d.svcOf (P 0)).front
        let used := (a.map.filter (fun e => e.2 != 0)).map (fun e => e.2 - 1)
        let gone := allLayers.filter (fun l => !used.contains l && d.svcLayer (P 0) l)
        let r := ((d.overlayFit (P 0) front).layoutProof (P 0) lay a.map front).fwCommit
          (.pipe (P 0) :: (allLayers.filter (fun l => used.contains l || gone.contains l)).map BlkId.layer)
        (∀ e, r.1 = some e → Replies (.layoutSet tr seq ps) 0x0204 tr seq ps s 0x4B
          [e.code + limitWindow a.map e * 256, e.needed, e.avail] r.2.2) ∧
        (r.1 = none →
          let x := { r.2.2.svcOf (P 0) with staged := none, layout := lay, layers := a.map, front := front, bars := [] }
          let e := (r.2.2.putSvc (P 0) x).drawLayout (P 0) lay front
          Replies (.layoutSet tr seq ps) 0x0204 tr seq ps s 0
            [r.2.1, e.rg F.FETCH_HEADROOM_MBPS, e.freeBlocks.length, used.length + (lay.filter winEn).length * 256] e))) ∧
    (d.passes 0x0210 tr seq ps = true → P 0 < 4 → P 1 < 16384 →
      ((d.surfAt (P 1)).st = .free → Replies (.atlasSet tr seq ps) 0x0210 tr seq ps s 3 [] d) ∧
      ((d.surfAt (P 1)).st ≠ .free →
        let x : Atlas := ⟨P 1, bits (P 2) 0 8, bits (P 2) 8 8, bits (P 2) 16 8, bits (P 2) 24 2⟩
        let h := { d.hearth with atlases := Tab.put (fun _ => none) d.hearth.atlases (P 0) (some x) }
        Replies (.atlasSet tr seq ps) 0x0210 tr seq ps s 0 [] { d with hearth := h })) ∧
    (d.passes 0x0211 tr seq ps = true → P 0 % 4 = 0 → P 1 < 256 → 1 ≤ P 2 → P 2 ≤ 1024 →
      (d.usableBytes < a2 + 4 * P 2 → Replies (.meterTableSet tr seq ps) 0x0211 tr seq ps s 7 [] d) ∧
      (a2 + 4 * P 2 ≤ d.usableBytes →
        let m : Meters := ⟨a2, P 2, [P 3, P 4, P 5].map (BitVec.ofNat 32), P 6 % 65536, P 6 / 65536, []⟩
        let h := { d.hearth with meters := m }
        Replies (.meterTableSet tr seq ps) 0x0211 tr seq ps s 0 [] { d with hearth := h })) ∧
    (d.passes 0x0212 tr seq ps = true → badMeterWrite (nums ps) = false →
      let m := d.hearth.meters
      Replies (.meterWrite tr seq ps) 0x0212 tr seq ps s 0 []
        (Dev.each (fun (x : Nat × Nat) d =>
          if P 0 % 1024 + x.2 < m.entries then
            (d.store (m.addr + 4 * (P 0 % 1024 + x.2)) (leBytes 4 x.1)).noteWrite true (m.addr + 4 * (P 0 % 1024 + x.2)) 4
          else d) (((nums ps).drop 1).zip (List.range 56)) d)) ∧
    (d.passes 0x0307 tr seq ps = true → P 0 < 4 →
      (∀ c, d.serviceRefused (P 0) = some c → Replies (.pipeTimingSet tr seq ps) 0x0307 tr seq ps s c [] d) ∧
      (d.serviceRefused (P 0) = none → (d.svcOf (P 0)).size < 16 * bits (P 2) 0 14 * bits (P 4) 0 14 →
        Replies (.pipeTimingSet tr seq ps) 0x0307 tr seq ps s 7 [] d) ∧
      (d.serviceRefused (P 0) = none → 16 * bits (P 2) 0 14 * bits (P 4) 0 14 ≤ (d.svcOf (P 0)).size →
        let e := d.timingProof (P 0) (ps.drop 1)
        let r := e.fwCommit (e.timingBlocks (P 0))
        (∀ x, r.1 = some x → Replies (.pipeTimingSet tr seq ps) 0x0307 tr seq ps s 0x4B [x.code + 0xFF00, x.needed, x.avail] r.2.2) ∧
        (r.1 = none → Replies (.pipeTimingSet tr seq ps) 0x0307 tr seq ps s 0 [r.2.1]
          (r.2.2.putSvc (P 0) { r.2.2.svcOf (P 0) with timing := ps.drop 1 }))))

/-- (R73, R423, R441, R442, R505, R511, R513, R514) FW_BEGIN refuses the running slot and opens a transfer;
    FW_CHUNK stores chunks in order and refuses others; FW_COMMIT answers what its checks find; FW_ACTIVATE selects
    a VERIFIED slot; SELFTEST_RUN starts a slice, whose end replies, or is STATE_REFUSED; DEBUG_CHALLENGE gives a
    challenge with a free nonce; DEBUG_OPEN opens the port on a response that verifies, and otherwise counts the
    denial. The signature's verification is an opaque function (log 5).  Answers a next state, as said, for:
    fwBegin, fwChunk, fwCommit, fwActivate, selftestRun, debugChallenge, debugOpen. -/
def Obligations.IcpFirmwareTestAndDebugRows : Prop :=
  ∀ (tr : Tr) (seq : BitVec 16) (ps : List Word) (s : State),
    let d := s.dev
    let P := param ps
    let bs := ((nums ps).drop 1).flatMap (leBytes 4)
    let off := d.fl F.SYS_LOCKDOWN_DEBUG_REQ_DISABLE || decide (3 ≤ d.rg F.SECURE_DEBUG_DENIED_COUNT)
    (d.passes 0x0501 tr seq ps = true → P 0 < 2 → d.runningSlot = some (P 0) →
      Replies (.fwBegin tr seq ps) 0x0501 tr seq ps s 0x54 [] d) ∧
    (d.passes 0x0501 tr seq ps = true → (P 0 < 2 ∧ d.runningSlot ≠ some (P 0) ∧ 4096 ≤ P 1 ∧ P 1 ≤ 2097152) ∨ (P 0 = 2 ∧ P 1 = 64) →
      let h := { d.hearth with transfer := some ⟨P 0, P 1, 0, []⟩ }
      let e := { d with hearth := h }.fwState (P 0) 1
      (e.rg F.HEARTH_STATE_STATE ≠ 2 → Replies (.fwBegin tr seq ps) 0x0501 tr seq ps s 0 [] e) ∧
      (e.rg F.HEARTH_STATE_STATE = 2 → Replies (.fwBegin tr seq ps) 0x0501 tr seq ps s 0 [] (e.sg F.HEARTH_STATE_STATE 4))) ∧
    (d.passes 0x0502 tr seq ps = true → d.hearth.transfer = none → Replies (.fwChunk tr seq ps) 0x0502 tr seq ps s 0x51 [] d) ∧
    (d.passes 0x0502 tr seq ps = true → ∀ t, d.hearth.transfer = some t → P 0 ≠ t.next →
      Replies (.fwChunk tr seq ps) 0x0502 tr seq ps s 0x51 [] d) ∧
    (d.passes 0x0502 tr seq ps = true → ∀ t, d.hearth.transfer = some t → P 0 = t.next → t.slot ≠ 2 →
      let e := d.mramStore (slotBase t.slot + P 0) (bs.take (2097152 - P 0))
      let t1 : Transfer := { t with next := t.next + bs.length, data := [] }
      let h := { e.hearth with transfer := some t1 }
      Replies (.fwChunk tr seq ps) 0x0502 tr seq ps s 0 [] { e with hearth := h }) ∧
    (d.passes 0x0503 tr seq ps = true → P 0 < 3 → d.hearth.transfer = none →
      Replies (.fwCommit tr seq ps) 0x0503 tr seq ps s 0x51 [] d) ∧
    (d.passes 0x0503 tr seq ps = true → P 0 < 3 → (d.fwCommitDo (P 0)).1 ≠ 0x43 →
      Replies (.fwCommit tr seq ps) 0x0503 tr seq ps s (d.fwCommitDo (P 0)).1 [] (d.fwCommitDo (P 0)).2) ∧
    (d.passes 0x0504 tr seq ps = true → P 0 < 2 → d.slotSt (P 0) = 2 →
      let h := { d.hearth with selected := P 0 }
      Replies (.fwActivate tr seq ps) 0x0504 tr seq ps s 0 [] ({ d with hearth := h }.attn .fw)) ∧
    (d.passes 0x0504 tr seq ps = true → P 0 < 3 → P 0 = 2 ∨ d.slotSt (P 0) ≠ 2 →
      Replies (.fwActivate tr seq ps) 0x0504 tr seq ps s 0x51 [] d) ∧
    (d.passes 0x0600 tr seq ps = true → isSlice (P 0) = true → d.sliceRefused (P 0) = true →
      Replies (.selftestRun tr seq ps) 0x0600 tr seq ps s 0x57 [] d) ∧
    (d.passes 0x0600 tr seq ps = true → isSlice (P 0) = true → d.sliceRefused (P 0) = false →
      let e := d.sliceStart true (P 0)
      let t := { e.test with asker := some (tr, 0x0600, seq.toNat % 256) }
      Gives (.selftestRun tr seq ps) s { e with test := t }) ∧
    (d.passes 0x0610 tr seq ps = true → off = true → Replies (.debugChallenge tr seq ps) 0x0610 tr seq ps s 0x55 [] d) ∧
    (d.passes 0x0610 tr seq ps = true → off = false →
      let c := (List.range 8).map (fun k => Config.freeNat (d.free + k) % 2 ^ 32) ++ [d.payWord F.SYS_ID_GRADE,
        (Config.deviceId 0).toNat, (Config.deviceId 1).toNat, d.rg F.SECURE_DEBUG_DENIED_COUNT]
      let e := { d with
        free := d.free + 8
        challenge := some (c.map (BitVec.ofNat 32)) }
      Replies (.debugChallenge tr seq ps) 0x0610 tr seq ps s 0 c e) ∧
    (d.passes 0x0611 tr seq ps = true → off = true → Replies (.debugOpen tr seq ps) 0x0611 tr seq ps s 0x55 [] d) ∧
    (d.passes 0x0611 tr seq ps = true → off = false →
      let ok := match d.challenge with
        | some c => Config.verifyDebug (sha384 (c.flatMap (fun w => leBytes 4 w.toNat))) ((nums ps).flatMap (leBytes 4))
        | none => false
      let e := { d with challenge := none }
      (ok = true → Replies (.debugOpen tr seq ps) 0x0611 tr seq ps s 0 [] e.debugOpen) ∧
      (ok = false → Replies (.debugOpen tr seq ps) 0x0611 tr seq ps s 0x56 []
        ((e.incSat F.SECURE_DEBUG_DENIED_COUNT).attn .security)))

/-- (R414, R435, R436, R443, R446, R447, R448, R452, R455, R500, R505, R513) A watchdog expiry restarts Hearth and
    stops its firmware, and the third in its window sets WATCHDOG and resets the device; a sensor sample updates
    readings, attention, causes and a thermal HOLD; a Leaven run ends with a plan and changes no bank and no DRAM;
    the minute count, a successful start, a start that takes too long, a reset's release, a slice's end, a
    challenge's expiry and a lost host act as their rules say, and a HEARTBEAT of the same time keeps the host (the
    model's choice of what the same cycle is: log 19).  Answers a next state, as said, for: watchdogExpiry,
    sensorSample, leavenRun, leavenRunComplete, healthRecordMinutes, startSuccess, startTimeout, resetRelease,
    sliceEnd, sliceBudgetExpiry, debugChallengeExpiry, hostLost. -/
def Obligations.HearthEventsTakeEffect : Prop :=
  ∀ s : State, s.dev.dark = false →
    let d := s.dev
    (∀ dt : Nat, let e := d.advance dt
      (e.power.boot ≠ .released → Gives (.watchdogExpiry dt) s e) ∧
      (e.power.boot = .released → 2 ≤ e.hearth.expiries.length → Gives (.watchdogExpiry dt) s
        ((e.faultSum F.SYS_FAULT_SUMMARY_WATCHDOG).warmReset .watchdog)) ∧
      (e.power.boot = .released → e.hearth.expiries.length < 2 →
        let h := { e.hearth with expiries := e.now :: e.hearth.expiries }
        let e2 := ({ e with hearth := h }.hearthRestart).incSat F.HEARTH_WDOG_RESTARTS
        let e3 := ((e2.sg F.HEARTH_WDOG_RECENT e2.hearth.expiries.length).faultSum F.SYS_FAULT_SUMMARY_WATCHDOG)
        Gives (.watchdogExpiry dt) s ((e3.attn .resetSeen).logE 4 0 3 (e3.rg F.HEARTH_WDOG_RESTARTS)))) ∧
    (∀ (therm droop : List (BitVec 16)) (dt : Nat),
      let e0 := (d.advance dt).fwResume
      let e := e0.sampleWords therm droop
      let e2 := Dev.each Dev.watchDiff (List.range 9) ((Dev.each Dev.islandShow islands e).sampleAttn e0)
      Gives (.sensorSample therm droop dt) s e2.sampleCauses.coolShow.thermalHold) ∧
    (let h := { d.hearth with measuring := true };
      Gives .leavenRun s { d with hearth := h }) ∧
    (∀ degrade : List (BitVec 16), d.hearth.measuring = true →
      Completes (.leavenRunComplete degrade) s (fun e => e.hearth.measuring = false ∧ e.hearth.plan.isSome = true ∧
        e.proof = d.proof ∧ e.active = d.active ∧ e.mem = d.mem)) ∧
    (d.rg F.POWER_STATUS_STATE < 2 →
      let h := { d.hearth with minutes := d.hearth.minutes + 60 }
      let e := { d with hearth := h }
      Gives .healthRecordMinutes s (e.healthUpdate (·.set 2 (h.minutes % 2 ^ 32))).minToRun) ∧
    (2 ≤ d.rg F.POWER_STATUS_STATE → Gives .healthRecordMinutes s d) ∧
    (d.hearth.attempt = 1 → d.rg F.HEARTH_STATE_STATE = 1 →
      let h := { d.hearth with attempt := 0 }
      let e := { d with hearth := h }.dn F.SYS_BOOT_COUNT_FAILED_RUN
      (e.fl F.HEARTH_STATE_RECOVERY_IMAGE = true → Gives .startSuccess s e) ∧
      (e.fl F.HEARTH_STATE_RECOVERY_IMAGE = false → Gives .startSuccess s
        (e.sg F.SECURE_KEYS_ROLLBACK (max (e.rg F.SECURE_KEYS_ROLLBACK) (e.slotRollback (e.rg F.HEARTH_STATE_SLOT)))))) ∧
    (d.power.boot = .released → d.rg F.HEARTH_STATE_STATE = 0 → Gives .startTimeout s (d.warmReset .watchdog)) ∧
    (d.rg F.HEARTH_STATE_STATE ≠ 0 → Gives .startTimeout s d) ∧
    (∀ seen : StartSeen, d.mayRelease = true →
      let e := (d.strapSeen seen.straps).straps seen.straps
      (seen.straps.testMode = true → Gives (.resetRelease seen) s (e.up F.IO_STATUS_TEST_STRAP)) ∧
      (seen.straps.testMode = false →
        let p := { e.power with boot := .released }
        let e2 := ({ e with startAt := e.now, power := p }.dn F.IO_STATUS_TEST_STRAP).edpStrap.sg F.LINESTORE_POOL_RESERVED 900
        let e3 := (e2.startBoot seen).1.startRun (e2.startBoot seen).2 seen
        Gives (.resetRelease seen) s (if e3.power.boot = Boot.released then e3.hpdServe else e3))) ∧
    (∀ x : SliceSeen,
      (d.testing = true → Gives (.sliceEnd x) s (d.testEnd x)) ∧
      (d.testing = false → d.fl F.SECURE_ST_STATUS_RUNNING = true → Gives (.sliceEnd x) s (d.demandEnd x)) ∧
      (d.testing = false → d.fl F.SECURE_ST_STATUS_RUNNING = false → Gives (.sliceEnd x) s d) ∧
      (let y := { x with micros := d.budgetUs (d.rg F.SECURE_ST_STATUS_SLICE) };
        x.count.toNat < x.expCount.toNat → d.testing = true → Gives (.sliceBudgetExpiry x) s (d.testEnd y)) ∧
      (let y := { x with micros := d.budgetUs (d.rg F.SECURE_ST_STATUS_SLICE) };
        x.count.toNat < x.expCount.toNat → d.testing = false → d.fl F.SECURE_ST_STATUS_RUNNING = true →
        Gives (.sliceBudgetExpiry x) s (d.demandEnd y))) ∧
    Gives .debugChallengeExpiry s { d with challenge := none } ∧
    (d.icp.beatAt = some d.now → Gives .hostLost s d) ∧
    (d.rg F.ICP_ATTENTION_CONTROLLER ≠ 0 → d.fl F.ICP_RING_STATUS_HOST_LOST = false → d.icp.beatAt ≠ some d.now →
      let x := { d.icp with lostCount := satAdd 16 d.icp.lostCount 1, wasLost := true }
      Gives .hostLost s (({ d with icp := x }.up F.ICP_RING_STATUS_HOST_LOST).logE 4 5 1 d.icp.lostMs))

/-- (R479, R481, R483, R484, R485, R486, R490, R491) A refused POWER_CTRL write sets REFUSED and changes nothing
    else; others begin HOLD, DEEP or the way back. POWER_PIPE_RESET resets each named pipe that the requester may
    reset and counts a violation on a service-owned one. A thermal HOLD ends after 10 s below its limit; the ends
    of the entries and of the exit set the power state, count it, and lose the DRAM in DEEP.  Answers a next state,
    as said, for: powerPipeReset, thermalHoldExit, holdEntryComplete, holdExitComplete, deepEntryComplete,
    powerCtrlHold, powerCtrlDeep, powerCtrlActive. -/
def Obligations.PowerCommandsAndTransitions : Prop :=
  ∀ s : State, s.dev.dark = false →
    let d := s.dev
    (∀ (c : Instr) (rq : Rq) (data : Word),
      c = .powerCtrlHold rq data ∨ c = .powerCtrlDeep rq data ∨ c = .powerCtrlActive rq data →
      let t := bits data.toNat 0 2
      let e := d.sg F.POWER_CTRL_TARGET t
      (d.powerRefused t = true → Gives c s (d.up F.POWER_STATUS_REFUSED)) ∧
      (d.powerRefused t = false → t = 2 → Gives c s (e.holdBegin false)) ∧
      (d.powerRefused t = false → t = 3 → Gives c s (e.deepBegin true)) ∧
      (d.powerRefused t = false → t = 0 → e.inHold = true → Gives c s (e.holdExit 9)) ∧
      (d.powerRefused t = false → t = 0 → e.inHold = false → Gives c s e)) ∧
    (∀ (rq : Rq) (data : Word), Gives (.powerPipeReset rq data) s
      (Dev.each (fun p e =>
        if !bit (bits data.toNat 0 4) p then e
        else if rq == .host && e.svcOwned p then
          (e.up (F.PIPE_OWNER_OWNERSHIP_VIOLATION.i p)).incSat (F.PIPE_OWNER_VIOLATION_COUNT.i p)
        else e.pipeReset 1 p) pipes d)) ∧
    (∀ since, d.inHold = true → d.fl F.POWER_STATUS_HOLD_THERMAL = true → d.power.moving = .none →
      d.power.coolSince = some since → since + 10000000000 ≤ d.now → Gives .thermalHoldExit s (d.holdExit 8)) ∧
    (d.inHold = false → Gives .thermalHoldExit s d) ∧
    (d.power.moving = .toHold →
      let e := ((((d.cutAll.portsOff).sg F.POWER_STATUS_STATE 2).dn F.POWER_STATUS_TRANSITION).incSat
        F.POWER_STATUS_HOLD_COUNT)
      let e2 := if e.power.shut.isSome then (e.up F.POWER_STATUS_SHUTDOWN).up F.SYS_RESET_CTRL_RETAIN_DRAM else e
      let p := { e2.power with shut := none, moving := .none }
      Gives .holdEntryComplete s { e2 with power := p }.wakePending) ∧
    (d.power.moving = .fromHold → Gives .holdExitComplete s
      ((((((d.dn F.POWER_STATUS_STATE).dn F.POWER_STATUS_TRANSITION).dn F.POWER_STATUS_HOLD_THERMAL).dn
        F.POWER_STATUS_SHUTDOWN).moveTo .none).resume)) ∧
    (d.power.moving = .toDeep →
      let e := ((d.enginesStop true).cutAll.portsOff).sg F.POWER_STATUS_STATE 3
      let p := { e.power with shut := none, moving := .none, pcie := false }
      let e2 := { e with
        mem := []
        power := p }
      Gives .deepEntryComplete s e2.wakePending)

/-- (R318, R320, R323, R487, R488, R509) While Hearth firmware runs: a plug reads the sink and trains; an unplug
    clears PLUGGED and TRAINED, raises HOTPLUG and disables HDCP; a pulse sets IRQ_HPD and, when asked, marks the
    link lost and trains again, or authenticates again; on an unplugged or fenced-off port nothing changes. While
    firmware is stopped or has not started, each event is queued; in DEEP a plug sets PLUGGED and wakes where
    enabled, and an unplug clears PLUGGED.  Answers a next state, as said, for: hpdPlug, hpdUnplug, irqHpd. -/
def Obligations.HotPlugEventsReachThePort : Prop :=
  ∀ (port : Fin 4) (s : State),
    let d := s.dev
    let k := port.val
    let plugged := d.fl (F.DP_STATUS_PLUGGED.i k)
    let fenced := bit (d.rg F.SECURE_FENCED_DP) k
    let kept := fun i : Instr => { d with hearth := { d.hearth with queued := d.hearth.queued ++ [i] } }
    let e := (((d.dn (F.DP_STATUS_PLUGGED.i k)).dn (F.DP_STATUS_TRAINED.i k)).up (F.DP_STATUS_HOTPLUG.i k)).attn .hotplug
    let wakes := bit (d.rg F.POWER_WAKE_HPD) k && !plugged
    let stopped := d.hearth.stopped || d.power.boot != .released
    let away := (((d.up (F.DP_STATUS_IRQ_HPD.i k)).up (F.DP_STATUS_LINK_LOST.i k)).incSat
      (F.DP_STATUS_RETRAIN_COUNT.i k)).dn (F.DP_STATUS_TRAINED.i k)
    (d.power.scan = false → fenced = true ∨ d.power.boot = .aonReset → ∀ sink, Gives (.hpdPlug port sink) s d) ∧
    (d.power.scan = false → fenced = false → d.deep = false → d.underTest k = false → stopped = false →
      wakes = false → ∀ sink, Gives (.hpdPlug port sink) s (d.plugDone k sink)) ∧
    (d.power.scan = false → fenced = false → d.deep = false → d.power.boot ≠ .aonReset → stopped = true →
      wakes = false → ∀ sink, Gives (.hpdPlug port sink) s (kept (.hpdPlug port sink))) ∧
    (d.power.scan = false → fenced = false → d.deep = true → d.power.boot ≠ .aonReset → wakes = true → ∀ sink,
      Gives (.hpdPlug port sink) s ((d.up (F.DP_STATUS_PLUGGED.i k)).wakeEvent (4 + k))) ∧
    (d.power.scan = false → d.deep = true → Gives (.hpdUnplug port) s (d.dn (F.DP_STATUS_PLUGGED.i k))) ∧
    (d.power.scan = false → d.deep = false → fenced = false → stopped = false → d.underTest k = false → plugged = true →
      Gives (.hpdUnplug port) s (((e.hdcpTo k 0).trainDone k).stepDone k)) ∧
    (d.power.scan = false → d.deep = false → fenced = false → stopped = false → d.underTest k = false → plugged = false →
      Gives (.hpdUnplug port) s d) ∧
    (d.dark = false → fenced = false → stopped = false → d.underTest k = false → plugged = true →
      Gives (.irqHpd port false false) s (d.up (F.DP_STATUS_IRQ_HPD.i k)) ∧
      Gives (.irqHpd port false true) s ((d.up (F.DP_STATUS_IRQ_HPD.i k)).hdcpAgain k) ∧
      Gives (.irqHpd port true false) s (away.train k) ∧
      Gives (.irqHpd port true true) s ((away.train k).hdcpAgain k)) ∧
    (d.dark = false → fenced = false → stopped = false → d.underTest k = false → plugged = false →
      ∀ a b, Gives (.irqHpd port a b) s d) ∧
    (d.dark = false → fenced = false → stopped = true → d.power.boot ≠ .aonReset →
      Gives (.hpdUnplug port) s (kept (.hpdUnplug port)) ∧
      ∀ a b, Gives (.irqHpd port a b) s (kept (.irqHpd port a b)))

/-- (R100, R302, R306, R307, R324, R23, R483, R537) A swap point of a running pipe takes the armed values and may
    tick, and ends the pipe's outputs while a power transition waits for it; one of a stopped pipe only lets time
    pass. The raster stop of a class B sequence makes the timing active, clears the effective cutoff and the swap
    guard, and goes on to the PLL or the port, or stops the pipe; a PLL lock goes on outside holdover; a lost
    reference puts a locking pipe in genlock holdover unless its reference came in the same cycle.  Answers a next
    state, as said, for: swapPoint, classBRasterStop, pixelPllLock, genlockRefLost. -/
def Obligations.SwapPointsAndRasterStops : Prop :=
  ∀ (pipe : Fin 4) (s : State), s.dev.dark = false →
    let d := s.dev
    let p := pipe.val
    let a := rasterOf d.acV p
    let b := rasterOf d.arV p
    let stop := { d.pst p with
      frame := {}, frozen := false, sample := [], retrain := linkOf d.acV p != linkOf d.arV p }
    let e := (((d.guardClear p).putPst p stop).dn (F.PIPE_TG_STATUS_RUNNING.i p)).dn (F.PIPE_CUTOFF_EFFECTIVE.i p)
    let stops := d.running p && d.fl (F.PIPE_COMMIT_STATUS_CLASS_B.i p) && d.rg (F.PIPE_TG_STATUS_STEP.i p) == 1 &&
      decide (2 ≤ (d.pst p).steps)
    (∀ dt, d.running p = false → (d.advance dt).running p = false → Gives (.swapPoint pipe dt) s (d.advance dt)) ∧
    (∀ dt, d.running p = true → (d.advance dt).running p = true →
      d.power.moving = .none ∨ d.power.moving = .fromHold →
      Gives (.swapPoint pipe dt) s ((((d.advance dt).swapCore p).barsShow p).tickSwap p)) ∧
    (∀ dt, d.running p = true → (d.advance dt).running p = true →
      d.power.moving = .toHold ∨ d.power.moving = .toShut ∨ d.power.moving = .toDeep →
      Gives (.swapPoint pipe dt) s (Dev.holdStop false p ((((d.advance dt).swapCore p).barsShow p).tickSwap p)).shutGo) ∧
    (stops = false → Gives (.classBRasterStop pipe) s d) ∧
    (stops = true → tgEn d.arV p = false → Gives (.classBRasterStop pipe) s (e.stopTake p)) ∧
    (stops = true → tgEn d.arV p = true → (a.khz == b.khz && a.m1001 == b.m1001) = true →
      Gives (.classBRasterStop pipe) s (((e.timingActive p).surfStop).trainStep p)) ∧
    (stops = true → tgEn d.arV p = true → (a.khz == b.khz && a.m1001 == b.m1001) = false →
      Gives (.classBRasterStop pipe) s (((e.timingActive p).surfStop).setStep p 2)) ∧
    (d.fl F.IO_STATUS_HOLDOVER = false → d.fl (F.PIPE_COMMIT_STATUS_CLASS_B.i p) = true →
      d.rg (F.PIPE_TG_STATUS_STEP.i p) = 2 → Gives (.pixelPllLock pipe) s (d.trainStep p)) ∧
    (d.fl F.IO_STATUS_HOLDOVER = true → Gives (.pixelPllLock pipe) s d) ∧
    (genLocking d.acV p = true → (d.pst p).gRef ≠ some d.now → Gives (.genlockRefLost pipe) s (d.holdover p)) ∧
    (genLocking d.acV p = false ∨ (d.pst p).gRef = some d.now → Gives (.genlockRefLost pipe) s d)

/-- (R223, R227, R281, R282, R367, R368) The first underrun of a composed frame, on a line and of a layer or plane
    that the pipe fetches there, acts in its mode (black from its line on, or a cut frame), counts, is captured
    with line, kind and index, marks the frame, raises UNDERRUN and is logged with every channel's multiplier,
    error count and temperature; a scan-out fetch that overtakes a raced job sets BEAM_OVERTAKE once; a writeback
    overflow cuts the frame at its first line; a finished writeback frame stores its bytes, sets DONE and signals
    its fence when enabled.  Answers a next state, as said, for: underrun, scanOutFetchIssue,
    writebackLineOverflow, writebackFrameDone. -/
def Obligations.UnderrunAndWritebackEvents : Prop :=
  ∀ (pipe : Fin 4) (s : State), s.dev.dark = false →
    let d := s.dev
    let p := pipe.val
    let f := d.frame p
    (∀ (line : BitVec 16) (kind : UnderKind) (index : BitVec 7), d.running p = true → f.live = true →
      f.blanked = false → f.replay = false → f.notSent = false → bit f.cause 0 = false →
      line.toNat < (rasterOf d.acV p).vact → d.fetchesAt p line.toNat index.toNat kind = true →
      let m := d.underMode p
      let k := underCode p index.toNat kind
      let e := (((m.2.incSat (F.PIPE_UNDERRUN_STATUS_COUNT.i p)).up (F.PIPE_UNDERRUN_STATUS_UNDERRUN.i p)).sg
        (F.PIPE_UNDERRUN_LAST_LINE.i p) line.toNat)
      let e2 := (e.sg (F.PIPE_UNDERRUN_LAST_KIND.i p) k.1).sg (F.PIPE_UNDERRUN_LAST_INDEX.i p) k.2
      let ends := fun (g : Frame → Frame) =>
        let e3 := ((e2.faultSum F.SYS_FAULT_SUMMARY_UNDERRUN).mark p .underrun (layersOf e2.acV p) g).attn .underrun
        e3.logMore 4 3 1 (line.toNat % 2 ^ 14 * 2 ^ 16 + k.1 * 2 ^ 12 + k.2 + p * 2 ^ 30) e3.channelLog
      (m.1 = true → Gives (.underrun pipe line kind index) s (ends (fun f => { f with cut := some line.toNat }))) ∧
      (m.1 = false → Gives (.underrun pipe line kind index) s (ends (fun f => f.blackOn line.toNat)))) ∧
    (∀ (line : BitVec 16) (kind : UnderKind) (index : BitVec 7), d.running p = false ∨ f.live = false ∨
      d.fetchesAt p line.toNat index.toNat kind = false → Gives (.underrun pipe line kind index) s d) ∧
    (∀ line : BitVec 14, d.scJob = none → Gives (.scanOutFetchIssue pipe line) s d) ∧
    (∀ (line : BitVec 14) (j : ScJob), d.scJob = some j → d.running p = true → f.live = true → f.blanked = false →
      f.replay = false → f.notSent = false → bit f.cause 0 = false → f.overtook = false → j.bad = none →
      j.raceOff = false → bit (j.words.getD 0 0) 14 = true → j.f 0 15 2 = p →
      allLayers.any (fun l => d.overtakes j p l line.toNat) = true →
      let e := { d.putFrame p { f with overtook := true } with scJob := some { j with overtaken := true } }
      Gives (.scanOutFetchIssue pipe line) s
        ((((e.up (F.SCRAPER_BEAM_OVERTAKE.i p)).incSat (F.SCRAPER_BEAM_COUNT.i p)).sg (F.SCRAPER_BEAM_QUEUE.i p) j.q).sg
          (F.SCRAPER_BEAM_SLOT.i p) j.slot)) ∧
    (∀ (line : BitVec 14) w, (d.pst p).wb = some w → line.toNat < (rasterOf d.acV p).vact →
      Gives (.writebackLineOverflow pipe line) s
        ((d.putPst p { d.pst p with wb := some { w with cut := some (min (w.cut.getD line.toNat) line.toNat) } }).up
          (F.PIPE_WB_STATUS_OVERFLOW.i p))) ∧
    (∀ e, d.inHold = false → (d.pst p).wbEnd = some e →
      let e1 := ((d.putPst p { d.pst p with wbEnd := none }).putWrites true e.writes).up (F.PIPE_WB_STATUS_DONE.i p)
      (e.fenceEn = true → Gives (.writebackFrameDone pipe) s (e1.signalSet e.fid e.k)) ∧
      (e.fenceEn = false → Gives (.writebackFrameDone pipe) s e1))

/-- (R22, R24, R29, R30, R181, R245, R246, R247, R248, R301) 100 ms after the last tick (or, before any, after the
    start: assumption log 15) the device ticks from the lowest running pipe or the timer and sets FALLBACK; while
    FALLBACK is set or the device is in HOLD the timer ticks when no pipe runs and 2.0 ms have passed; a REF_IN
    edge is measured, and ticks, is skipped or takes over as tick master; a claim that fails its parity is
    quarantined, flagged and logged; the end of a flatten item counts its tiles and makes its version ready, or
    damages them again where it is obsolete, does not fit its allocation or finds the store full, and changes no
    bank; a drain frees the versions of its discarded item.  Answers a next state, as said, for: fallbackTick,
    fallbackTimerTick, refInEdge, claimScrub, flattenItemComplete, crustSlotDrain. -/
def Obligations.TickAndReferenceEvents : Prop :=
  ∀ s : State, s.dev.dark = false →
    let d := s.dev
    (∀ dt, let e := d.advance dt
      (e.lastTick.getD e.startAt + 100000000 ≤ e.now → e.fl F.SYS_TICK_STATUS_FALLBACK = false →
        Gives (.fallbackTick dt) s (e.tick (e.lowRunning.getD 5) true)) ∧
      (e.now < e.lastTick.getD e.startAt + 100000000 ∨ e.fl F.SYS_TICK_STATUS_FALLBACK = true →
        Gives (.fallbackTick dt) s e) ∧
      (e.fl F.SYS_TICK_STATUS_FALLBACK = true ∨ e.rg F.POWER_STATUS_STATE = 2 → e.lowRunning = none → e.tickDue = true →
        Gives (.fallbackTimerTick dt) s (e.tick 5 true)) ∧
      (∀ p, e.lowRunning = some p → Gives (.fallbackTimerTick dt) s e) ∧
      (let r := e.refMeasure.refInEvent;
        (r.tickSrc = 4 → r.tickDue = true → Gives (.refInEdge dt) s (r.tick 4 false)) ∧
        (r.tickSrc = 4 → r.tickDue = false → Gives (.refInEdge dt) s (r.incSat F.SYS_TICK_STATUS_SKIPPED_COUNT)) ∧
        (r.tickSrc ≠ 4 → r.rg F.SYS_TICK_CTRL_SRC = 4 → r.tickDue = true →
          Gives (.refInEdge dt) s ({ r with tickSrc := 4 }.tick 4 false)) ∧
        (r.tickSrc ≠ 4 → r.rg F.SYS_TICK_CTRL_SRC ≠ 4 ∨ r.tickDue = false → Gives (.refInEdge dt) s r))) ∧
    (∀ blocks : List (Fin 1024), Gives (.claimScrub blocks) s (Dev.each (fun (b : Fin 1024) e =>
      ({ e with claims := Tab.put dfltClaim e.claims b.val .quarantined }.up F.LINESTORE_STATUS_CLAIM_PARITY).logE 3 2 2 b.val)
      blocks d).poolShow) ∧
    (∀ pipe : Fin 4, (d.crustAt pipe.val).item = none → Gives (.flattenItemComplete pipe) s d) ∧
    (∀ (pipe : Fin 4) it, d.inHold = false → (d.crustAt pipe.val).item = some it →
      let p := pipe.val
      let a := d.buildPlane it (d.liveCharged (2 * p)) (2 * p) (it.under.length + 1) it.under false
      let b := d.buildPlane it (d.liveCharged (2 * p + 1)) (2 * p + 1) (it.top.length + 1) it.top false
      let all := a.tiles.map (fun r => (2 * p, r)) ++ b.tiles.map (fun r => (2 * p + 1, r))
      let fits := a.fits && b.fits
      let w := if fits then Dev.writeTiles all d else (d, [])
      let done := all.take (all.length - w.2.length)
      let wrote := done.filter (fun x => !x.2.skip)
      let keys := wrote.map (fun x => tileKey x.1 x.2.t)
      let add := fun (f : Fld) (n : Nat) (d : Dev) => d.sg f (satAdd f.len (d.rg f) n)
      let count := fun (d : Dev) =>
        (add (F.CRUST_PIPE_COUNTS_TILES_SKIPPED.i p) (done.length - wrote.length)
          (add (F.CRUST_PIPE_COUNTS_TILES_WRITTEN.i p) wrote.length (d.putCrust p { d.crustAt p with item := none }))).onlyIf
          (a.limited || b.limited || !fits) (·.up (F.CRUST_PIPE_STATUS_ALLOC_LIMIT.i p))
      (fits = false → Gives (.flattenItemComplete pipe) s
        (((count d).damageAgain it.force (all.map (fun x => tileKey x.1 x.2.t) ++ it.damage)).onlyIf it.obsolete
          (·.up (F.CRUST_PIPE_STATUS_DISCARDED.i p)))) ∧
      (fits = true → (it.obsolete || !w.2.isEmpty) = true → Gives (.flattenItemComplete pipe) s
        ((((count { d with free := w.1.free }).damageAgain it.force (keys ++ w.2.map (fun x => tileKey x.1 x.2.t))).up
          (F.CRUST_PIPE_STATUS_DISCARDED.i p)).onlyIf (!w.2.isEmpty) (·.up (F.CRUST_PIPE_STATUS_STORE_FULL.i p)))) ∧
      (fits = true → (it.obsolete || !w.2.isEmpty) = false →
        let e := count w.1
        Gives (.flattenItemComplete pipe) s ((((e.putCrust p { e.crustAt p with
          ready := some { cfg := it.cfg, held := it.held, under := a.members, top := b.members, inv := it.inv,
                          tiles := wrote.map (fun x => (tileKey x.1 x.2.t, x.2.ver, x.2.sig)) } }).crustShow p).storeShow))) ∧
      Completes (.flattenItemComplete pipe) s (fun e => e.active = d.active ∧ e.proof = d.proof ∧ e.armed = d.armed ∧
        e.surf = d.surf ∧ e.mem = d.mem)) ∧
    (∀ pipe : Fin 4, (d.crustAt pipe.val).draining = [] → Gives (.crustSlotDrain pipe) s d) ∧
    (∀ pipe : Fin 4, d.inHold = false → (d.crustAt pipe.val).draining ≠ [] →
      let kept := match (d.crustAt pipe.val).ready with
        | some r => r.tiles.map (fun (x : Nat × TileVer × Nat) => x.1)
        | none => []
      let mine := (Tab.keep (fun k => k / 16384 == pipe.val) d.tiles).map (fun (e : Nat × Tile) => e.1)
      let e := Dev.each (fun k e =>
        let x := e.tileAt k
        if kept.contains k then e else e.putTile k (if x.vis then { x with v0 := {} } else { x with v1 := {} })) mine d
      Gives (.crustSlotDrain pipe) s ((e.putCrust pipe.val { e.crustAt pipe.val with draining := [] }).storeShow) ∧
      Completes (.crustSlotDrain pipe) s (fun e => e.active = d.active ∧ e.surf = d.surf ∧ e.mem = d.mem))

/-- (R352, R354, R355, R356, R366, R369, R370) Outside HOLD: with no job running, the next queue's descriptor is
    copied, tested and becomes the running job; each row of a good job is drawn in its direction, counted, and
    sends the watermark interrupt once; a job ends OK after its last row, and a refused one with its code; an end
    before the last row changes nothing.  Answers a next state, as said, for: scraperJobStart, scraperRowComplete,
    scraperJobEnd. -/
def Obligations.ScraperJobsRunRowByRow : Prop :=
  ∀ s : State, s.dev.dark = false → s.dev.inHold = false →
    let d := s.dev
    (∀ q, d.scJob = none → d.sqNext = some q →
      let slot := d.rg (F.SQ_HEAD_HEAD.i q) % 1024
      let words := (List.range 16).map (fun k => d.leAt (d.rg (F.SQ_BASE_BASE.i q) * 65536 + 64 * slot + 4 * k) 4)
      let j0 : ScJob := { q := q, slot := slot, words := words, src := {}, dst := {} }
      let j : ScJob := { j0 with src := d.surfAt j0.srcSid, dst := d.surfAt j0.dstSid }
      let e := if d.scTest j == some 0x11 then d.protFlags j.srcRange j.dstRange else d
      let e2 : Dev := { e with scJob := some { j with bad := d.scTest j }, scLast := q }
      Gives .scraperJobStart s
        ((((((e2.up (F.SQ_STATUS_RUNNING.i q)).up (F.SQ_DONE_LINE_ACTIVE.i q)).sg (F.SQ_DONE_LINE_SLOT.i q) slot).dn
          (F.SQ_DONE_LINE_DONE_LINE.i q)).sqIdle q).restShow)) ∧
    (d.scJob = none → d.sqNext = none → Gives .scraperJobStart s d) ∧
    (d.scJob.isSome = true → Gives .scraperJobStart s d) ∧
    (∀ j, d.scJob = some j → j.bad = none → j.rows < j.total →
      let t := j.dstRect
      let y := if j.ydir then t.h - 1 - j.rows else j.rows
      let xs := if j.xdir then (List.range t.w).reverse else List.range t.w
      let r := rectRange j.dst { t with y := t.y + (y : Nat), h := 1 }
      let e := (Dev.each (j.put y) xs d).noteWrite true r.1 r.2
      let wm := j.f 5 0 14
      let hit := wm != 0 && decide (wm ≤ j.rows + 1) && !j.wmSent
      let e2 := { e with scJob := some { j with rows := j.rows + 1, wmSent := j.wmSent || hit } }.sg
        (F.SQ_DONE_LINE_DONE_LINE.i j.q) (j.rows + 1)
      (hit = true → Gives .scraperRowComplete s (e2.msix (e2.rg (F.SQ_CTRL_WM_VECTOR.i j.q)))) ∧
      (hit = false → Gives .scraperRowComplete s e2)) ∧
    (∀ j, d.scJob = some j → j.bad = none → j.rows = j.total → Gives .scraperJobEnd s (d.scEnd j 0)) ∧
    (∀ j c, d.scJob = some j → j.bad = some c → Gives .scraperJobEnd s (d.scEnd j c)) ∧
    (∀ j, d.scJob = some j → j.bad = none → j.rows < j.total → Gives .scraperJobEnd s d)

/-- (R381, R383, R384, R385, R386, R387, R390) A running descriptor's completion serves bursts, of the highest
    priority ready and round robin, until the channel has none left; then it signals its fence, writes its record,
    counts and sends its interrupt as its bits say, and stops or goes on to the next descriptor. A bus error sets
    HALT, cause, space and address, each running channel keeps the whole bursts that are written and becomes HALTED
    (or completes), and the halt is counted, logged and sends its interrupt; one during a halt changes nothing.
    Answers a next state, as said, for: dmaDescComplete, dmaBusError. -/
def Obligations.CopiesCompleteAndHalt : Prop :=
  ∀ s : State, s.dev.dark = false →
    let d := s.dev
    (∀ (ch : Fin 16) (data : List Byte), d.inHold = false → d.dmaState ch.val = 1 →
      d.fl F.DMA_ENGINE_STATUS_HALT = false →
      let c := ch.val
      let d0 := d.hostSource c data
      let e := Dev.dmaServe c d0.dmaLeft d0
      let ws := e.dmaDesc c
      let fid := bits (ws.getD 0 0) 16 12
      let e2 := e.onlyIf (descBit ws 2) (fun x => x.signalSet fid (wide ws 6))
      let e3 := (e2.dmaRecord c 0 (descLen ws) ((e2.rg (F.DMA_CH_COUNT_COUNT.i c) + 1) % 2 ^ 32)
        (descBit ws 2 && (e.fenceAt fid).alloc)).inc (F.DMA_CH_COUNT_COUNT.i c)
      let e4 := e3.onlyIf (descBit ws 3) (fun x => x.msix (x.rg (F.DMA_CH_CTRL_VECTOR.i c)))
      (descBit (d.dmaDesc c) 4 = true → Gives (.dmaDescComplete ch data) s (e4.dmaTo c 0)) ∧
      (descBit (d.dmaDesc c) 4 = false →
        Gives (.dmaDescComplete ch data) s (e4.dmaStart c (wide (d.dmaDesc c) 8) 0))) ∧
    (∀ (ch : Fin 16) (data : List Byte), d.dmaState ch.val ≠ 1 → Gives (.dmaDescComplete ch data) s d) ∧
    (∀ (kind : BusError) (addr : Word64) (ends : List (Fin 16 × Word)) (data : List (Fin 16 × List Byte)) (dt : Nat),
      let d := d.advance dt
      (d.fl F.DMA_ENGINE_STATUS_HALT = true → Gives (.dmaBusError kind addr ends data dt) s d) ∧
      (d.fl F.DMA_ENGINE_STATUS_HALT = false →
        let e := ((((d.up F.DMA_ENGINE_STATUS_HALT).sg F.DMA_ENGINE_STATUS_CAUSE (if kind = .dram then 0x18 else 0x1A)).sg
          F.DMA_ENGINE_STATUS_SPACE (if kind = .dram then 0 else 1)).sg F.DMA_HALT_ADDR_ADDR addr.toNat).incSat
            F.DMA_ENGINE_STATUS_HALT_COUNT
        let e2 := ((Dev.each (fun c x =>
          if x.dmaState c = 1 then (x.hostSource c (forChannel c [] data)).dmaHalt c (forChannel c 0 ends).toNat
          else x) (List.range 16) e).faultSum F.SYS_FAULT_SUMMARY_ENGINE_HALT).attn .fault
        Gives (.dmaBusError kind addr ends data dt) s
          ((e2.logE 4 0xA 1 (e2.unV F.DMA_ENGINE_STATUS_HALT.off).toNat).msix (e2.rg F.DMA_ENGINE_CTRL_HALT_VECTOR))))

/-- (R142, R231, R261, R262, R314, R335) A byte beyond the usable DRAM reads 0xFF, a protected, crust-store or
    replay byte reads 0, every other its DRAM byte; a read that meets a protected surface also sets PROT_READ; a
    read of an aligned eight bytes in which an uncorrectable error was found is sent poisoned, with free values
    there. A write of SIG_SNAP_SEL with a KIND and INDEX that name a target shows its three newest entries and sets
    VALID; any other clears VALID.  Answers a next state, as said, for: dramWindowRead, sigSnapSelWrite. -/
def Obligations.WindowReadsAndSnapshots : Prop :=
  (∀ (addr : BitVec 40) (len : BitVec 13) (s : State), s.dev.dark = false →
    let d := s.dev
    let e := d.windowFlags addr.toNat len.toNat
    let e2 := match d.protHit addr.toNat len.toNat with
      | some sid => (e.up F.SURF_STATUS_PROT_READ).surfErr sid
      | none => e
    let bad := d.poison.filter (fun w => overlaps w 8 addr.toNat len.toNat)
    let x := e2.poisonedBy bad
    let bs := (List.range len.toNat).map (fun i => x.windowByte (addr.toNat + i))
    Gives (.dramWindowRead addr len) s
      ({ e2 with free := x.free, poison := e2.poison.filter (fun w => !bad.contains w) }.send (.read .host bs (!bad.isEmpty))) ∧
    (bad = [] → x = e2) ∧
    (∀ i, i < len.toNat →
        (x.usableBytes ≤ addr.toNat + i → bs.getD i 0 = 0xFF) ∧
        (addr.toNat + i < x.usableBytes → x.windowOk (addr.toNat + i) = true → x.protHit (addr.toNat + i) 1 = none →
          bs.getD i 0 = x.byteAt (addr.toNat + i)) ∧
        (addr.toNat + i < x.usableBytes → x.windowOk (addr.toNat + i) = false ∨ (x.protHit (addr.toNat + i) 1).isSome = true →
          bs.getD i 0 = 0))) ∧
  (∀ (rq : Rq) (data : Word) (s : State), s.dev.reaches rq = true →
    let y := s.dev.putUnbanked rq false F.SIG_SNAP_SEL_INDEX.off data
    let kind := bits data.toNat 8 2
    let ix := bits data.toNat 0 7
    let e := (y.sg (F.SIG_SNAP_SEL_KIND.rq rq) kind).sg (F.SIG_SNAP_SEL_INDEX.rq rq) ix
    (∀ k, (kind = 0 ∧ ix < 4 ∧ k = ix) ∨ (kind = 1 ∧ ix < 64 ∧ k = 128 + ix) ∨ (kind = 2 ∧ ix < 64 ∧ k = 192 + ix) →
      let h := s.dev.history k
      Gives (.sigSnapSelWrite rq data) s ((((e.showEntry rq 0 h[0]?).showEntry rq 1 h[1]?).showEntry rq 2 h[2]?).up
        (F.SIG_SNAP_SEL_VALID.rq rq))) ∧
    (kind = 3 ∨ (kind = 0 ∧ 4 ≤ ix) ∨ 64 ≤ ix → Gives (.sigSnapSelWrite rq data) s (e.dn (F.SIG_SNAP_SEL_VALID.rq rq))))

/-- (R405, R406, R411) A side-band packet of a bad size sets FRAMING and gets no reply. A packet behind one of its
    transport that waits is only received. Otherwise, after a check-clean packet has ended a shut-down test and a
    HEARTBEAT has counted: on the ring a length outside 3 to 64 words is BAD_LENGTH; a wrong trailer BAD_CHECK; a
    LENGTH that differs BAD_LENGTH; a reserved bit or REPLY set BAD_PARAM; an unknown opcode BAD_OPCODE; a failed
    test 7 to 10 its code; a packet that passes and is no retry waits to execute. Then the next packet of the
    transport is settled.  Answers a next state, as said, for icpPacketReceived. -/
def Obligations.PacketsAreTestedInOrder : Prop :=
  ∀ (tr : Tr) (packet : List Byte) (s : State), s.dev.dark = false →
    let framed := tr = .pcie ∨ packet.length % 4 = 0 ∧ 12 ≤ packet.length ∧ packet.length ≤ 256
    let ws := packetWords tr packet
    let w := fun k => ws.getD k 0
    let op := w 0 / 65536
    let seq := w 0 % 256
    let x : SvcStep := { tr := tr, words := ws.map (BitVec.ofNat 32), stage := .received }
    let b := if lengthOk tr packet then s.dev.arrive tr ws else s.dev
    let n := b.icp.svc.length
    let y := b.svcQueue x
    let e := (y.trailer ws.dropLast).2
    let first := framed ∧ firstWith (fun z : SvcStep => z.tr == tr) b.icp.svc = none
    let sized := tr = .pcie → 3 ≤ w 1 % 65536 ∧ w 1 % 65536 ≤ 64
    let clean := first ∧ sized ∧ (y.trailer ws.dropLast).1 = ws.getLastD 0
    let header := w 1 % 65536 = ws.length ∧ bits (w 0) 10 6 = 0 ∧ bits (w 0) 8 1 = 0 ∧ w 1 / 65536 = 0
    (¬ framed → Gives (.icpPacketReceived tr packet) s
      (s.dev.putSide tr { s.dev.side tr with busy := false, framing := true })) ∧
    (∀ z, framed → firstWith (fun z : SvcStep => z.tr == tr) (b.svcAdd tr ws).icp.svc = some z → z.stage ≠ .received →
      Gives (.icpPacketReceived tr packet) s (b.svcAdd tr ws)) ∧
    (first → ¬ sized → Gives (.icpPacketReceived tr packet) s ((y.refusePacket tr ws op seq 0x41 []).settle tr n)) ∧
    (first → sized → (y.trailer ws.dropLast).1 ≠ ws.getLastD 0 →
      Gives (.icpPacketReceived tr packet) s ((e.refusePacket tr ws op seq 0x40 []).settle tr n)) ∧
    (clean → w 1 % 65536 ≠ ws.length →
      Gives (.icpPacketReceived tr packet) s ((e.refusePacket tr ws op seq 0x41 []).settle tr n)) ∧
    (clean → w 1 % 65536 = ws.length → bits (w 0) 10 6 ≠ 0 ∨ bits (w 0) 8 1 ≠ 0 ∨ w 1 / 65536 ≠ 0 →
      Gives (.icpPacketReceived tr packet) s ((e.refusePacket tr ws op seq 0x43 []).settle tr n)) ∧
    (clean → header → opRow op = none →
      Gives (.icpPacketReceived tr packet) s ((e.refusePacket tr ws op seq 0x42 []).settle tr n)) ∧
    (∀ r code pay, clean → header → bit (w 0) 9 = false → opRow op = some r →
      e.cmdTest tr r (ws.drop 2).dropLast = some (code, pay) →
      Gives (.icpPacketReceived tr packet) s ((e.refusePacket tr ws op seq code pay).settle tr n)) ∧
    (∀ r, clean → header → bit (w 0) 9 = false → opRow op = some r →
      e.cmdTest tr r (ws.drop 2).dropLast = none →
      Gives (.icpPacketReceived tr packet) s ((e.svcStage (fun z => z.isPacket tr ws) .passed).settle tr n))

/-- (R416) A TAIL or HEAD that would make its difference greater than 64 sets TAIL_BAD or HEAD_BAD; another is
    taken. While EN is 1 and a command and a reply slot are left, the slot at CMD_HEAD is copied, waits to execute,
    and CMD_HEAD advances; otherwise nothing changes.  Answers a next state, as said, for: icpCmdTailWrite,
    icpRplHeadWrite, icpRingTake. -/
def Obligations.RingTakesAndRefusesIndices : Prop :=
  ∀ (data : Word) (s : State), s.dev.dark = false →
    let d := s.dev
    let t := data.toNat % 128
    let h := d.rg F.ICP_CMD_HEAD_HEAD
    let taken := countP (fun (x : SvcStep) => x.tr == Tr.pcie && !x.lost) d.icp.svc
    let room := subMod 7 (d.rg F.ICP_RPL_TAIL_TAIL) (d.rg F.ICP_RPL_HEAD_HEAD) + taken < 64
    let bs := d.slotBytes (h % 64 * 256) 256
    let ws := packetWords .pcie bs
    (subMod 7 t h ≤ 64 → Yields (.icpCmdTailWrite data) s (d.sg F.ICP_CMD_TAIL_TAIL t)) ∧
    (64 < subMod 7 t h → Yields (.icpCmdTailWrite data) s (d.up F.ICP_RING_STATUS_TAIL_BAD)) ∧
    (subMod 7 (d.rg F.ICP_RPL_TAIL_TAIL) t ≤ 64 → Yields (.icpRplHeadWrite data) s (d.sg F.ICP_RPL_HEAD_HEAD t)) ∧
    (64 < subMod 7 (d.rg F.ICP_RPL_TAIL_TAIL) t → Yields (.icpRplHeadWrite data) s (d.up F.ICP_RING_STATUS_HEAD_BAD)) ∧
    (d.fl F.ICP_RING_CTRL_EN = true → h ≠ d.rg F.ICP_CMD_TAIL_TAIL → room → Gives .icpRingTake s
      ((d.svcQueue { tr := .pcie, words := ws.map (BitVec.ofNat 32) }).sg F.ICP_CMD_HEAD_HEAD ((h + 1) % 128))) ∧
    (¬ (d.fl F.ICP_RING_CTRL_EN = true ∧ h ≠ d.rg F.ICP_CMD_TAIL_TAIL ∧ room) → Gives .icpRingTake s d)

/-- (R421) On SPI and I2C: a WRITE_PACKET while a command is pending or a reply unread sets OVERRUN and nothing
    else, so no reply is formed; otherwise a whole packet waits to execute and a bad or short one sets FRAMING; a
    READ_REPLY sends the reply followed by 0xFF and consumes it when read to its end; a READ_STATUS sends the
    status bytes and clears OVERRUN and FRAMING; a bad command byte sets FRAMING.  Answers a next state, as said,
    for: writePacket, readReply, readStatus, sidebandBadCommand. -/
def Obligations.SideBandTransportsHoldOneOfEach : Prop :=
  ∀ (tr : Tr) (bytes : List Byte) (len : BitVec 9) (s : State), s.dev.dark = false → tr ≠ .pcie →
    let d := s.dev
    let x := d.side tr
    let free := x.busy = false ∧ x.reply = []
    let n := len.toNat
    let lead := fun (bs : List Byte) => if tr = .spi then 0 :: bs else bs
    let out := (x.reply ++ List.replicate n 0xFF).take n
    (¬ free → Gives (.writePacket tr bytes) s (d.putSide tr { x with overrun := true })) ∧
    (free → tr = .i2c → bytes.length % 4 = 0 → 12 ≤ bytes.length → bytes.length ≤ 256 →
      Gives (.writePacket tr bytes) s ((d.putSide tr { x with busy := true }).svcQueue
        { tr := tr, words := (packetWords tr bytes).map (BitVec.ofNat 32) })) ∧
    (free → tr = .i2c → ¬ (bytes.length % 4 = 0 ∧ 12 ≤ bytes.length ∧ bytes.length ≤ 256) →
      Gives (.writePacket tr bytes) s (d.putSide tr { x with framing := true })) ∧
    (free → tr = .spi → let m := ofLe (bytes.take 2)
      m + 2 ≤ bytes.length → m % 4 = 0 → 12 ≤ m → m ≤ 256 →
      Gives (.writePacket tr bytes) s
        ((d.putSide tr { x with busy := true }).svcQueue
          { tr := tr, words := (packetWords tr ((bytes.drop 2).take m)).map (BitVec.ofNat 32) })) ∧
    (free → tr = .spi → bytes.length < ofLe (bytes.take 2) + 2 →
      Gives (.writePacket tr bytes) s (d.putSide tr { x with framing := true })) ∧
    (x.reply.length ≤ n → Gives (.readReply tr len) s
      ((d.send (.sideband tr (lead out))).putSide tr { x with reply := [] })) ∧
    (n < x.reply.length → Gives (.readReply tr len) s (d.send (.sideband tr (lead out)))) ∧
    Gives (.readStatus tr) s ((d.send (.sideband tr (lead (d.sideStatus tr)))).putSide tr
      { x with overrun := false, framing := false }) ∧
    Gives (.sidebandBadCommand tr) s (d.putSide tr { x with framing := true })
end

