-- ==== Sys2Proof/Laws/Tab.lean ====
section
/-! SUPPORT.  Laws of the sparse tables: reading what was written, and that every table operation keeps the canonical
    form. -/

namespace Sys2Proof.Machine

variable {α : Type} {d : Nat → α}

/-- A key below every listed key reads as the default. -/
theorem Tab.get_below [DecidableEq α] {t : Tab α} {lo k : Nat} (h : Tab.wfFrom d lo t = true) (hk : k < lo) :
    Tab.get d t k = d k := by
  cases t with
  | nil => rfl
  | cons x t =>
    obtain ⟨a, v⟩ := x
    simp only [Tab.wfFrom, Bool.and_eq_true, decide_eq_true_eq] at h
    simp only [Tab.get]
    rw [if_pos (by omega)]

/-- The canonical form from a bound holds from every lower bound. -/
theorem Tab.wfFrom_lower [DecidableEq α] {t : Tab α} {lo l : Nat} (h : Tab.wfFrom d lo t = true) (hl : l ≤ lo) :
    Tab.wfFrom d l t = true := by
  cases t with
  | nil => rfl
  | cons x t =>
    obtain ⟨a, v⟩ := x
    simp only [Tab.wfFrom, Bool.and_eq_true, decide_eq_true_eq] at h ⊢
    exact ⟨⟨by omega, h.1.2⟩, h.2⟩

/-- A write keeps the canonical form. -/
theorem Tab.wfFrom_put [DecidableEq α] {v : α} {k : Nat} :
    ∀ {t : Tab α} {lo : Nat}, Tab.wfFrom d lo t = true → lo ≤ k → Tab.wfFrom d lo (Tab.put d t k v) = true
  | [], lo, _, hk => by
    simp only [Tab.put]
    split
    · rfl
    · simp_all [Tab.wfFrom]
  | (a, w) :: t, lo, h, hk => by
    simp only [Tab.wfFrom, Bool.and_eq_true, decide_eq_true_eq] at h
    obtain ⟨⟨h1, h2⟩, h3⟩ := h
    simp only [Tab.put]
    split
    · rename_i hka
      split
      · simp [Tab.wfFrom, h1, h2, h3]
      · rename_i hv
        simp [Tab.wfFrom, hk, hv, h2, h3, Nat.succ_le_of_lt hka]
    · split
      · rename_i hne hka
        subst hka
        split
        · exact Tab.wfFrom_lower h3 (by omega)
        · rename_i hv
          simp [Tab.wfFrom, hk, hv, h3]
      · have := Tab.wfFrom_put (v := v) (k := k) h3 (by omega)
        simp [Tab.wfFrom, h1, h2, this]

/-- A write keeps the canonical form. -/
theorem Tab.wf_put [DecidableEq α] {t : Tab α} {k : Nat} {v : α} (h : Tab.wf d t = true) :
    Tab.wf d (Tab.put d t k v) = true := Tab.wfFrom_put h (Nat.zero_le k)

/-- Keeping some keys keeps the canonical form. -/
theorem Tab.wfFrom_keep [DecidableEq α] {p : Nat → Bool} :
    ∀ {t : Tab α} {lo : Nat}, Tab.wfFrom d lo t = true → Tab.wfFrom d lo (Tab.keep p t) = true
  | [], _, _ => rfl
  | (a, w) :: t, lo, h => by
    simp only [Tab.wfFrom, Bool.and_eq_true, decide_eq_true_eq] at h
    have ih := Tab.wfFrom_keep (p := p) h.2
    simp only [Tab.keep]
    split
    · simp [Tab.wfFrom, h.1.1, h.1.2, ih]
    · exact Tab.wfFrom_lower ih (by omega)

/-- Keeping some keys keeps the canonical form. -/
theorem Tab.wf_keep [DecidableEq α] {p : Nat → Bool} {t : Tab α} (h : Tab.wf d t = true) :
    Tab.wf d (Tab.keep p t) = true := Tab.wfFrom_keep h

/-- Changing entries in place keeps the canonical form. -/
theorem Tab.wfFrom_mapEntries [DecidableEq α] {f : Nat → α → α} :
    ∀ {t : Tab α} {lo : Nat}, Tab.wfFrom d lo t = true → Tab.wfFrom d lo (Tab.mapEntries d f t) = true
  | [], _, _ => rfl
  | (a, w) :: t, lo, h => by
    simp only [Tab.wfFrom, Bool.and_eq_true, decide_eq_true_eq] at h
    have ih := Tab.wfFrom_mapEntries (f := f) h.2
    simp only [Tab.mapEntries]
    split
    · exact Tab.wfFrom_lower ih (by omega)
    · rename_i hv
      simp [Tab.wfFrom, h.1.1, hv, ih]

/-- Changing entries in place keeps the canonical form. -/
theorem Tab.wf_mapEntries [DecidableEq α] {f : Nat → α → α} {t : Tab α} (h : Tab.wf d t = true) :
    Tab.wf d (Tab.mapEntries d f t) = true := Tab.wfFrom_mapEntries h

/-- Overwriting with another table keeps the canonical form. -/
theorem Tab.wf_merge [DecidableEq α] : ∀ {u t : Tab α}, Tab.wf d t = true → Tab.wf d (Tab.merge d t u) = true
  | [], _, h => h
  | (_, _) :: u, _, h => Tab.wf_merge (u := u) (Tab.wf_put h)

/-- Writing a run of keys keeps the canonical form. -/
theorem Tab.wf_putList [DecidableEq α] :
    ∀ {vs : List α} {t : Tab α} {k : Nat}, Tab.wf d t = true → Tab.wf d (Tab.putList d t k vs) = true
  | [], _, _, h => h
  | _ :: vs, _, _, h => Tab.wf_putList (vs := vs) (Tab.wf_put h)

/-- What a key reads after a write. -/
theorem Tab.get_put_from [DecidableEq α] {v : α} {k j : Nat} :
    ∀ {t : Tab α} {lo : Nat}, Tab.wfFrom d lo t = true →
      Tab.get d (Tab.put d t k v) j = if j = k then v else Tab.get d t j
  | [], _, _ => by
    simp only [Tab.put]
    split <;> rename_i hv <;> simp only [Tab.get] <;> (repeat' split) <;> simp_all
  | (a, w) :: t, lo, h => by
    simp only [Tab.wfFrom, Bool.and_eq_true, decide_eq_true_eq] at h
    obtain ⟨_, h3⟩ := h
    have ih := Tab.get_put_from (v := v) (k := k) (j := j) h3
    have hb : ∀ x, x ≤ a → Tab.get d t x = d x := fun x hx => Tab.get_below h3 (by omega)
    simp only [Tab.put]
    by_cases hka : k < a
    · rw [if_pos hka]
      by_cases hv : v = d k
      · rw [if_pos hv]
        by_cases hj : j = k
        · subst hj; simp [Tab.get, hka, hv]
        · simp [hj]
      · rw [if_neg hv]
        simp only [Tab.get]
        by_cases hj : j = k
        · subst hj; simp
        · by_cases hjk : j < k
          · have : j < a := by omega
            simp [hj, hjk, this]
          · simp [hj, hjk]
    · rw [if_neg hka]
      by_cases hkx : k = a
      · subst hkx
        rw [if_pos rfl]
        by_cases hv : v = d k
        · rw [if_pos hv]
          by_cases hj : j = k
          · subst hj; simp [hb j (Nat.le_refl j), hv]
          · simp only [Tab.get, hj, if_false]
            by_cases hjk : j < k
            · simp [hjk, hb j (by omega)]
            · simp [hjk]
        · rw [if_neg hv]
          simp only [Tab.get]
          by_cases hj : j = k
          · subst hj; simp
          · simp [hj]
      · rw [if_neg hkx]
        simp only [Tab.get, ih]
        by_cases hja : j < a
        · have : j ≠ k := by omega
          simp [hja, this]
        · by_cases hjx : j = a
          · subst hjx
            have : j ≠ k := fun e => hkx e.symm
            simp [this]
          · simp [hja, hjx]

/-- What a key reads after a write. -/
theorem Tab.get_put [DecidableEq α] {t : Tab α} {k j : Nat} {v : α} (h : Tab.wf d t = true) :
    Tab.get d (Tab.put d t k v) j = if j = k then v else Tab.get d t j := Tab.get_put_from h

/-- A write leaves every other key as it was. -/
theorem Tab.get_put_ne [DecidableEq α] {t : Tab α} {k j : Nat} {v : α} (h : Tab.wf d t = true) (hj : j ≠ k) :
    Tab.get d (Tab.put d t k v) j = Tab.get d t j := by rw [Tab.get_put h, if_neg hj]

/-- A write is read back. -/
theorem Tab.get_put_self [DecidableEq α] {t : Tab α} {k : Nat} {v : α} (h : Tab.wf d t = true) :
    Tab.get d (Tab.put d t k v) k = v := by rw [Tab.get_put h, if_pos rfl]

/-- What a key reads after a run of keys is written. -/
theorem Tab.get_putList [DecidableEq α] {j : Nat} :
    ∀ {vs : List α} {t : Tab α} {k : Nat}, Tab.wf d t = true →
      Tab.get d (Tab.putList d t k vs) j =
        if h : k ≤ j ∧ j - k < vs.length then vs[j - k]'h.2 else Tab.get d t j
  | [], _, _, _ => by simp [Tab.putList]
  | v :: vs, t, k, h => by
    rw [Tab.putList, Tab.get_putList (vs := vs) (Tab.wf_put h), Tab.get_put h]
    by_cases hj : j = k
    · subst hj
      rw [dif_neg (by omega), if_pos rfl, dif_pos ⟨Nat.le_refl j, by simp⟩]
      simp
    · by_cases hl : k + 1 ≤ j ∧ j - (k + 1) < vs.length
      · have h2 : k ≤ j ∧ j - k < (v :: vs).length := ⟨by omega, by simp; omega⟩
        rw [dif_pos hl, dif_pos h2]
        have : j - k = (j - (k + 1)) + 1 := by omega
        simp [this]
      · rw [dif_neg hl, if_neg hj, dif_neg]
        simp
        omega

end Sys2Proof.Machine
end

