-- ==== Sys2Proof/Laws/BanksKept.lean ====
section
/-! SUPPORT.  What releasing a descriptor keeps: the strobes, both banks and the slots. -/

set_option linter.unusedTactic false
set_option linter.unreachableTactic false

namespace Sys2Proof.Machine

/-- `e` has the strobes, banks and slots of `d`. -/
structure Kb (d e : Dev) : Prop where
  /-- The claim itself. -/
  same : (e.strobes, e.proof, e.active, e.armed, e.late) = (d.strobes, d.proof, d.active, d.armed, d.late)

theorem Kb.refl (d : Dev) : Kb d d := ⟨rfl⟩

theorem Kb.trans {a b c : Dev} (h : Kb a b) (g : Kb b c) : Kb a c := ⟨Eq.trans g.same h.same⟩

/-- `Kb` said of the fields one by one. -/
structure Kb5 (d : Dev) (s : List Strobe) (p a : Tab Word) (r l : List Snap) : Prop where
  /-- The claim itself. -/
  same : (s, p, a, r, l) = (d.strobes, d.proof, d.active, d.armed, d.late)

theorem Kb.of {d e : Dev} (h : Kb5 d e.strobes e.proof e.active e.armed e.late) : Kb d e := ⟨h.same⟩

theorem Kb.to {d e : Dev} (h : Kb d e) : Kb5 d e.strobes e.proof e.active e.armed e.late := ⟨h.same⟩

theorem ite_kb {d0 d e : Dev} {c : Prop} [Decidable c] (h : Kb d0 d) (g : Kb d0 e) : Kb d0 (if c then d else e) := by
  split
  · exact h
  · exact g

/-- Steps over a list keep them. -/
theorem Dev.each_kb {α : Type} {d0 : Dev} {f : α → Dev → Dev} {l : List α} {d : Dev}
    (hf : ∀ x e, Kb d0 e → Kb d0 (f x e)) (h : Kb d0 d) : Kb d0 (Dev.each f l d) := by
  induction l generalizing d with
  | nil => exact h
  | cons a t ih => exact ih (hf a d h)

theorem Dev.sg_kb {d0 d : Dev} {f : Fld} {v : Nat} (h : Kb d0 d) : Kb d0 (d.sg f v) := ⟨h.same⟩

theorem Dev.putFence_kb {d0 d : Dev} {f : Nat} {x : Fence} (h : Kb d0 d) : Kb d0 (d.putFence f x) := ⟨h.same⟩

theorem Dev.putSurf_kb {d0 d : Dev} {f : Nat} {x : Surf} (h : Kb d0 d) : Kb d0 (d.putSurf f x) := ⟨h.same⟩

theorem Dev.dn_kb {d0 d : Dev} {x1 : _} (h : Kb d0 d) : Kb d0 (Dev.dn d x1) := by
  unfold Dev.dn
  repeat' (first
    | (with_reducible (first
      | assumption | refine ite_kb ?_ ?_ | refine Dev.sg_kb ?_ | refine Kb.to ?_))
    | (intro _) | (refine Kb.of ?_; dsimp only) | dsimp only | split)

theorem Dev.change_kb {d0 d : Dev} {x1 : _} (h : Kb d0 d) : Kb d0 (Dev.change d x1) := by
  unfold Dev.change
  repeat' (first
    | (with_reducible (first
      | assumption | refine ite_kb ?_ ?_ | refine Kb.to ?_))
    | (intro _) | (refine Kb.of ?_; dsimp only) | dsimp only | split)

theorem Dev.orBits_kb {d0 d : Dev} {x1 x2 : _} (h : Kb d0 d) : Kb d0 (Dev.orBits d x1 x2) := by
  unfold Dev.orBits
  repeat' (first
    | (with_reducible (first
      | assumption | refine ite_kb ?_ ?_ | refine Dev.sg_kb ?_ | refine Kb.to ?_))
    | (intro _) | (refine Kb.of ?_; dsimp only) | dsimp only | split)

theorem Dev.attn_kb {d0 d : Dev} {x1 : _} (h : Kb d0 d) : Kb d0 (Dev.attn d x1) := by
  unfold Dev.attn
  repeat' (first
    | (with_reducible (first
      | assumption | refine ite_kb ?_ ?_ | refine Dev.orBits_kb ?_ | refine Kb.to ?_))
    | (intro _) | (refine Kb.of ?_; dsimp only) | dsimp only | split)

theorem Dev.up_kb {d0 d : Dev} {x1 : _} (h : Kb d0 d) : Kb d0 (Dev.up d x1) := by
  unfold Dev.up
  repeat' (first
    | (with_reducible (first
      | assumption | refine ite_kb ?_ ?_ | refine Dev.sg_kb ?_ | refine Kb.to ?_))
    | (intro _) | (refine Kb.of ?_; dsimp only) | dsimp only | split)

theorem Dev.putCrust_kb {d0 d : Dev} {x1 x2 : _} (h : Kb d0 d) : Kb d0 (Dev.putCrust d x1 x2) := by
  unfold Dev.putCrust
  repeat' (first
    | (with_reducible (first
      | assumption | refine ite_kb ?_ ?_ | refine Kb.to ?_))
    | (intro _) | (refine Kb.of ?_; dsimp only) | dsimp only | split)

theorem Dev.crustHold_kb {d0 d : Dev} {x1 : _} (h : Kb d0 d) : Kb d0 (Dev.crustHold d x1) := by
  unfold Dev.crustHold
  repeat' (first
    | (with_reducible (first
      | assumption | refine ite_kb ?_ ?_ | refine Dev.each_kb ?_ ?_ | refine Dev.putCrust_kb ?_
      | refine Dev.up_kb ?_ | refine Dev.dn_kb ?_ | refine Kb.to ?_))
    | (intro _) | (refine Kb.of ?_; dsimp only) | dsimp only | split)

theorem Dev.crustObsolete_kb {d0 d : Dev} {x1 x2 : _} (h : Kb d0 d) : Kb d0 (Dev.crustObsolete d x1 x2) := by
  unfold Dev.crustObsolete
  repeat' (first
    | (with_reducible (first
      | assumption | refine ite_kb ?_ ?_ | refine Dev.putCrust_kb ?_ | refine Kb.to ?_))
    | (intro _) | (refine Kb.of ?_; dsimp only) | dsimp only | split)

theorem Dev.hintCount_kb {d0 d : Dev} (h : Kb d0 d) : Kb d0 (Dev.hintCount d) := by
  unfold Dev.hintCount
  repeat' (first
    | (with_reducible (first
      | assumption | refine ite_kb ?_ ?_ | refine Dev.each_kb ?_ ?_ | refine Dev.sg_kb ?_ | refine Kb.to ?_))
    | (intro _) | (refine Kb.of ?_; dsimp only) | dsimp only | split)

theorem Dev.putTile_kb {d0 d : Dev} {x1 x2 : _} (h : Kb d0 d) : Kb d0 (Dev.putTile d x1 x2) := by
  unfold Dev.putTile
  repeat' (first
    | (with_reducible (first
      | assumption | refine ite_kb ?_ ?_ | refine Kb.to ?_))
    | (intro _) | (refine Kb.of ?_; dsimp only) | dsimp only | split)

theorem Dev.damageTile_kb {d0 d : Dev} {x1 x2 x3 : _} (h : Kb d0 d) : Kb d0 (Dev.damageTile d x1 x2 x3) := by
  unfold Dev.damageTile
  repeat' (first
    | (with_reducible (first
      | assumption | refine ite_kb ?_ ?_ | refine Dev.putTile_kb ?_ | refine Kb.to ?_))
    | (intro _) | (refine Kb.of ?_; dsimp only) | dsimp only | split)

theorem Dev.hintMember_kb {d0 d : Dev} {x1 x2 x3 x4 : _} (h : Kb d0 d) : Kb d0 (Dev.hintMember d x1 x2 x3 x4) := by
  unfold Dev.hintMember
  repeat' (first
    | (with_reducible (first
      | assumption | refine ite_kb ?_ ?_ | refine Dev.each_kb ?_ ?_ | refine Dev.damageTile_kb ?_
      | refine Kb.to ?_))
    | (intro _) | (refine Kb.of ?_; dsimp only) | dsimp only | split)

theorem Dev.hintApply_kb {d0 d : Dev} {x1 : _} (h : Kb d0 d) : Kb d0 (Dev.hintApply d x1) := by
  unfold Dev.hintApply
  repeat' (first
    | (with_reducible (first
      | assumption | refine ite_kb ?_ ?_ | refine Dev.each_kb ?_ ?_ | refine Dev.change_kb ?_
      | refine Dev.hintMember_kb ?_ | refine Kb.to ?_))
    | (intro _) | (refine Kb.of ?_; dsimp only) | dsimp only | split)

theorem Dev.hintsDue_kb {d0 d : Dev} (h : Kb d0 d) : Kb d0 (Dev.hintsDue d) := by
  unfold Dev.hintsDue
  repeat' (first
    | (with_reducible (first
      | assumption | refine ite_kb ?_ ?_ | refine Dev.each_kb ?_ ?_ | refine Dev.hintApply_kb ?_
      | refine Dev.hintCount_kb ?_ | refine Kb.to ?_))
    | (intro _) | (refine Kb.of ?_; dsimp only) | dsimp only | split)

theorem Dev.send_kb {d0 d : Dev} {x1 : _} (h : Kb d0 d) : Kb d0 (Dev.send d x1) := by
  unfold Dev.send
  repeat' (first
    | (with_reducible (first
      | assumption | refine ite_kb ?_ ?_ | refine Kb.to ?_))
    | (intro _) | (refine Kb.of ?_; dsimp only) | dsimp only | split)

theorem Dev.msix_kb {d0 d : Dev} {x1 : _} (h : Kb d0 d) : Kb d0 (Dev.msix d x1) := by
  unfold Dev.msix
  repeat' (first
    | (with_reducible (first
      | assumption | refine ite_kb ?_ ?_ | refine Dev.send_kb ?_ | refine Kb.to ?_))
    | (intro _) | (refine Kb.of ?_; dsimp only) | dsimp only | split)

theorem Dev.watchOne_kb {d0 d : Dev} {x1 : _} (h : Kb d0 d) : Kb d0 (Dev.watchOne d x1) := by
  unfold Dev.watchOne
  repeat' (first
    | (with_reducible (first
      | assumption | refine ite_kb ?_ ?_ | refine Dev.orBits_kb ?_ | refine Dev.msix_kb ?_ | refine Kb.to ?_))
    | (intro _) | (refine Kb.of ?_; dsimp only) | dsimp only | split)

theorem Dev.watch_kb {d0 d : Dev} (h : Kb d0 d) : Kb d0 (Dev.watch d) := by
  unfold Dev.watch
  repeat' (first
    | (with_reducible (first
      | assumption | refine ite_kb ?_ ?_ | refine Dev.each_kb ?_ ?_ | refine Dev.watchOne_kb ?_ | refine Kb.to ?_))
    | (intro _) | (refine Kb.of ?_; dsimp only) | dsimp only | split)

theorem Dev.fenceNow_kb {d0 d : Dev} {x1 x2 : _} (h : Kb d0 d) : Kb d0 (Dev.fenceNow d x1 x2) := by
  unfold Dev.fenceNow
  repeat' (first
    | (with_reducible (first
      | assumption | refine ite_kb ?_ ?_ | refine Dev.putFence_kb ?_ | refine Dev.watch_kb ?_
      | refine Dev.hintsDue_kb ?_ | refine Kb.to ?_))
    | (intro _) | (refine Kb.of ?_; dsimp only) | dsimp only | split)

theorem Dev.signalAdd_kb {d0 d : Dev} {x1 x2 : _} (h : Kb d0 d) : Kb d0 (Dev.signalAdd d x1 x2) := by
  unfold Dev.signalAdd
  repeat' (first
    | (with_reducible (first
      | assumption | refine ite_kb ?_ ?_ | refine Dev.fenceNow_kb ?_ | refine Dev.up_kb ?_ | refine Kb.to ?_))
    | (intro _) | (refine Kb.of ?_; dsimp only) | dsimp only | split)

theorem Dev.occupancy_kb {d0 d : Dev} {x1 x2 x3 x4 x5 x6 : _} (h : Kb d0 d) :
    Kb d0 (Dev.occupancy d x1 x2 x3 x4 x5 x6) := by
  unfold Dev.occupancy
  repeat' (first
    | (with_reducible (first
      | assumption | refine ite_kb ?_ ?_ | refine Dev.dn_kb ?_ | refine Dev.up_kb ?_ | refine Dev.attn_kb ?_
      | refine Dev.sg_kb ?_ | refine Kb.to ?_))
    | (intro _) | (refine Kb.of ?_; dsimp only) | dsimp only | split)

theorem Dev.surfOcc_kb {d0 d : Dev} {x1 : _} (h : Kb d0 d) : Kb d0 (Dev.surfOcc d x1) := by
  unfold Dev.surfOcc
  repeat' (first
    | (with_reducible (first
      | assumption | refine ite_kb ?_ ?_ | refine Dev.occupancy_kb ?_ | refine Kb.to ?_))
    | (intro _) | (refine Kb.of ?_; dsimp only) | dsimp only | split)

theorem Dev.inc_kb {d0 d : Dev} {x1 : _} (h : Kb d0 d) : Kb d0 (Dev.inc d x1) := by
  unfold Dev.inc
  repeat' (first
    | (with_reducible (first
      | assumption | refine ite_kb ?_ ?_ | refine Dev.sg_kb ?_ | refine Kb.to ?_))
    | (intro _) | (refine Kb.of ?_; dsimp only) | dsimp only | split)

/-- R125: a lost descriptor that is released. -/
theorem Dev.lostOne_kb {d0 d : Dev} {x : Nat} (h : Kb d0 d) : Kb d0 (Dev.lostOne x d) := by
  unfold Dev.lostOne
  dsimp only
  split
  · split
    · exact Dev.signalAdd_kb (Dev.surfOcc_kb (Dev.putSurf_kb h))
    · exact Dev.surfOcc_kb (Dev.putSurf_kb h)
  · exact h

/-- R125: every lost descriptor is tested. -/
theorem Dev.lostSweep_kb {d0 d : Dev} (h : Kb d0 d) : Kb d0 d.lostSweep := by
  unfold Dev.lostSweep
  exact Dev.each_kb (fun _ _ h => Dev.lostOne_kb h) h

end Sys2Proof.Machine
end

