-- ==== Sys2Proof/Laws/Keep.lean ====
section
/-! SUPPORT.  What an operation keeps: the canonical form of the tables (`Kc`) and DRAM (`Km`), with the lemmas of the
    primitive operations. -/

namespace Sys2Proof.Machine

/-- `e` is canonical when `d` is. -/
structure Kc (d e : Dev) : Prop where
  /-- The claim itself. -/
  canon : d.canon = true → e.canon = true

/-- `Kc` said of the seven tables of `e` one by one. -/
structure Kt (d : Dev) (r p a : Tab Word) (m h : Tab Byte) (s : Tab Surf) (f : Tab Fence) : Prop where
  /-- The claim itself. -/
  canon : d.canon = true → (Tab.wf dfltU r && Tab.wf dfltB p && Tab.wf dfltB a && Tab.wf dfltMem m && Tab.wf dfltMem h
    && Tab.wf dfltSurf s && Tab.wf dfltFence f) = true

/-- `e` has the DRAM of `d`. -/
structure Km (d e : Dev) : Prop where
  /-- The claim itself. -/
  mem : e.mem = d.mem

/-- `Km` said of the DRAM of `e`. -/
structure Kn (d : Dev) (m : Tab Byte) : Prop where
  /-- The claim itself. -/
  mem : m = d.mem

/-- What an answer carries keeps the canonical form, and so does what begins after it. -/
def AnsKc (d : Dev) (a : Ans) : Prop := Kc d a.dev ∧ ∀ e, Kc d e → Kc d (a.after e)

/-- What an answer carries keeps the DRAM, and so does what begins after it. -/
def AnsKm (d : Dev) (a : Ans) : Prop := Km d a.dev ∧ ∀ e, Km d e → Km d (a.after e)

theorem Kc.refl (d : Dev) : Kc d d := ⟨fun h => h⟩

theorem Kc.trans {a b c : Dev} (h : Kc a b) (g : Kc b c) : Kc a c := ⟨fun x => g.canon (h.canon x)⟩

theorem Kc.of {d e : Dev} (h : Kt d e.regs e.proof e.active e.mem e.hostMem e.surf e.fence) : Kc d e := ⟨h.canon⟩

theorem Kc.to {d e : Dev} (h : Kc d e) : Kt d e.regs e.proof e.active e.mem e.hostMem e.surf e.fence := ⟨h.canon⟩

theorem Km.refl (d : Dev) : Km d d := ⟨rfl⟩

theorem Km.trans {a b c : Dev} (h : Km a b) (g : Km b c) : Km a c := ⟨Eq.trans g.mem h.mem⟩

theorem Km.of {d e : Dev} (h : Kn d e.mem) : Km d e := ⟨h.mem⟩

theorem Km.to {d e : Dev} (h : Km d e) : Kn d e.mem := ⟨h.mem⟩

/-- A device whose tables are canonical when those of `e` are keeps what `e` keeps. -/
theorem Kc.tabs {d e f : Dev} (h : Kc d e) (h1 : Tab.wf dfltU e.regs = true → Tab.wf dfltU f.regs = true)
    (h2 : Tab.wf dfltB e.proof = true → Tab.wf dfltB f.proof = true)
    (h3 : Tab.wf dfltB e.active = true → Tab.wf dfltB f.active = true)
    (h4 : Tab.wf dfltMem e.mem = true → Tab.wf dfltMem f.mem = true)
    (h5 : Tab.wf dfltMem e.hostMem = true → Tab.wf dfltMem f.hostMem = true)
    (h6 : Tab.wf dfltSurf e.surf = true → Tab.wf dfltSurf f.surf = true)
    (h7 : Tab.wf dfltFence e.fence = true → Tab.wf dfltFence f.fence = true) : Kc d f := by
  refine ⟨fun hd => ?_⟩
  have := h.canon hd
  simp only [Dev.canon, Bool.and_eq_true] at this ⊢
  obtain ⟨⟨⟨⟨⟨⟨a, b⟩, c⟩, e⟩, f⟩, g⟩, i⟩ := this
  exact ⟨⟨⟨⟨⟨⟨h1 a, h2 b⟩, h3 c⟩, h4 e⟩, h5 f⟩, h6 g⟩, h7 i⟩

/-- A field of a table is written in canonical form. -/
theorem Fld.wf_set {r : Nat → Word} {t : Tab Word} {f : Fld} {v : Nat} (h : Tab.wf r t = true) :
    Tab.wf r (f.set r t v) = true := by
  unfold Fld.set
  dsimp only
  split
  · exact Tab.wf_put (Tab.wf_put h)
  · exact Tab.wf_put h

/-- Replacing a block keeps a bank canonical. -/
theorem blkReplace_wf {b : BlkId} {u t : Tab Word} (h : Tab.wf dfltB t = true) :
    Tab.wf dfltB (blkReplace b u t) = true := Tab.wf_merge (Tab.wf_keep h)

/-- Steps over a list keep the canonical form. -/
theorem Dev.each_kc {α : Type} {d0 : Dev} {f : α → Dev → Dev} {l : List α} {d : Dev}
    (hf : ∀ x e, Kc d0 e → Kc d0 (f x e)) (h : Kc d0 d) : Kc d0 (Dev.each f l d) := by
  induction l generalizing d with
  | nil => exact h
  | cons a t ih => exact ih (hf a d h)

/-- Steps over a list keep the DRAM. -/
theorem Dev.each_km {α : Type} {d0 : Dev} {f : α → Dev → Dev} {l : List α} {d : Dev}
    (hf : ∀ x e, Km d0 e → Km d0 (f x e)) (h : Km d0 d) : Km d0 (Dev.each f l d) := by
  induction l generalizing d with
  | nil => exact h
  | cons a t ih => exact ih (hf a d h)

/-- A fold over a list keeps the canonical form. -/
theorem foldl_kc {α : Type} {d0 : Dev} {f : Dev → α → Dev} {l : List α} {d : Dev}
    (hf : ∀ e x, Kc d0 e → Kc d0 (f e x)) (h : Kc d0 d) : Kc d0 (l.foldl f d) := by
  induction l generalizing d with
  | nil => exact h
  | cons a t ih => exact ih (hf d a h)

/-- A fold over a list keeps the DRAM. -/
theorem foldl_km {α : Type} {d0 : Dev} {f : Dev → α → Dev} {l : List α} {d : Dev}
    (hf : ∀ e x, Km d0 e → Km d0 (f e x)) (h : Km d0 d) : Km d0 (l.foldl f d) := by
  induction l generalizing d with
  | nil => exact h
  | cons a t ih => exact ih (hf d a h)

theorem Dev.onlyIf_kc {d0 d : Dev} {c : Bool} {f : Dev → Dev} (hf : ∀ e, Kc d0 e → Kc d0 (f e)) (h : Kc d0 d) :
    Kc d0 (d.onlyIf c f) := by
  unfold Dev.onlyIf
  split
  · exact hf d h
  · exact h

theorem Dev.onlyIf_km {d0 d : Dev} {c : Bool} {f : Dev → Dev} (hf : ∀ e, Km d0 e → Km d0 (f e)) (h : Km d0 d) :
    Km d0 (d.onlyIf c f) := by
  unfold Dev.onlyIf
  split
  · exact hf d h
  · exact h

theorem Dev.engine_kc {d0 d : Dev} {f : Dev → Dev} (hf : ∀ e, Kc d0 e → Kc d0 (f e)) (h : Kc d0 d) :
    Kc d0 (Dev.engine f d) := by
  unfold Dev.engine
  split
  · exact h
  · exact hf d h

theorem Dev.engine_km {d0 d : Dev} {f : Dev → Dev} (hf : ∀ e, Km d0 e → Km d0 (f e)) (h : Km d0 d) :
    Km d0 (Dev.engine f d) := by
  unfold Dev.engine
  split
  · exact h
  · exact hf d h

theorem Dev.sg_kc {d0 d : Dev} {f : Fld} {v : Nat} (h : Kc d0 d) : Kc d0 (d.sg f v) :=
  h.tabs Fld.wf_set id id id id id id

theorem Dev.sgWord_kc {d0 d : Dev} {k : Nat} {v : Word} (h : Kc d0 d) : Kc d0 (d.sgWord k v) :=
  h.tabs Tab.wf_put id id id id id id

theorem Dev.spWord_kc {d0 d : Dev} {k : Nat} {v : Word} (h : Kc d0 d) : Kc d0 (d.spWord k v) :=
  h.tabs id Tab.wf_put id id id id id

theorem Dev.store_kc {d0 d : Dev} {a : Nat} {bs : List Byte} (h : Kc d0 d) : Kc d0 (d.store a bs) :=
  h.tabs id id id Tab.wf_putList id id id

theorem Dev.hostStore_kc {d0 d : Dev} {a : Nat} {bs : List Byte} (h : Kc d0 d) : Kc d0 (d.hostStore a bs) :=
  h.tabs id id id id Tab.wf_putList id id

theorem Dev.putSurf_kc {d0 d : Dev} {s : Nat} {x : Surf} (h : Kc d0 d) : Kc d0 (d.putSurf s x) :=
  h.tabs id id id id id Tab.wf_put id

theorem Dev.putFence_kc {d0 d : Dev} {s : Nat} {x : Fence} (h : Kc d0 d) : Kc d0 (d.putFence s x) :=
  h.tabs id id id id id id Tab.wf_put

theorem Dev.sg_km {d0 d : Dev} {f : Fld} {v : Nat} (h : Km d0 d) : Km d0 (d.sg f v) := ⟨h.mem⟩

theorem Dev.sgWord_km {d0 d : Dev} {k : Nat} {v : Word} (h : Km d0 d) : Km d0 (d.sgWord k v) := ⟨h.mem⟩

/-- Replacing blocks keeps a bank canonical. -/
theorem blkReplaces_wf {bs : List BlkId} {u t : Tab Word} (h : Tab.wf dfltB t = true) :
    Tab.wf dfltB (bs.foldl (fun t b => blkReplace b u t) t) = true := by
  induction bs generalizing t with
  | nil => exact h
  | cons b bs ih => exact ih (blkReplace_wf h)

/-- The registers changed in place. -/
theorem Kt.regsMap {d : Dev} {r p a : Tab Word} {m h : Tab Byte} {s : Tab Surf} {f : Tab Fence} {g : Nat → Word → Word}
    (k : Kt d r p a m h s f) : Kt d (Tab.mapEntries dfltU g r) p a m h s f := by
  refine ⟨fun hd => ?_⟩
  have := k.canon hd
  simp only [Bool.and_eq_true] at this ⊢
  obtain ⟨⟨⟨⟨⟨⟨c1, c2⟩, c3⟩, c4⟩, c5⟩, c6⟩, c7⟩ := this
  exact ⟨⟨⟨⟨⟨⟨Tab.wf_mapEntries c1, c2⟩, c3⟩, c4⟩, c5⟩, c6⟩, c7⟩

/-- A field of the proof bank set. -/
theorem Kt.proofSet {d : Dev} {r p a : Tab Word} {m h : Tab Byte} {s : Tab Surf} {f : Tab Fence} {x : Fld} {v : Nat}
    (k : Kt d r p a m h s f) : Kt d r (x.set dfltB p v) a m h s f := by
  refine ⟨fun hd => ?_⟩
  have := k.canon hd
  simp only [Bool.and_eq_true] at this ⊢
  obtain ⟨⟨⟨⟨⟨⟨c1, c2⟩, c3⟩, c4⟩, c5⟩, c6⟩, c7⟩ := this
  exact ⟨⟨⟨⟨⟨⟨c1, Fld.wf_set c2⟩, c3⟩, c4⟩, c5⟩, c6⟩, c7⟩

/-- A field of the active bank set. -/
theorem Kt.activeSet {d : Dev} {r p a : Tab Word} {m h : Tab Byte} {s : Tab Surf} {f : Tab Fence} {x : Fld} {v : Nat}
    (k : Kt d r p a m h s f) : Kt d r p (x.set dfltB a v) m h s f := by
  refine ⟨fun hd => ?_⟩
  have := k.canon hd
  simp only [Bool.and_eq_true] at this ⊢
  obtain ⟨⟨⟨⟨⟨⟨c1, c2⟩, c3⟩, c4⟩, c5⟩, c6⟩, c7⟩ := this
  exact ⟨⟨⟨⟨⟨⟨c1, c2⟩, Fld.wf_set c3⟩, c4⟩, c5⟩, c6⟩, c7⟩

/-- A block of the proof bank replaced. -/
theorem Kt.proofBlk {d : Dev} {r p a : Tab Word} {m h : Tab Byte} {s : Tab Surf} {f : Tab Fence} {b : BlkId} {u : Tab Word}
    (k : Kt d r p a m h s f) : Kt d r (blkReplace b u p) a m h s f := by
  refine ⟨fun hd => ?_⟩
  have := k.canon hd
  simp only [Bool.and_eq_true] at this ⊢
  obtain ⟨⟨⟨⟨⟨⟨c1, c2⟩, c3⟩, c4⟩, c5⟩, c6⟩, c7⟩ := this
  exact ⟨⟨⟨⟨⟨⟨c1, blkReplace_wf c2⟩, c3⟩, c4⟩, c5⟩, c6⟩, c7⟩

/-- A block of the active bank replaced. -/
theorem Kt.activeBlk {d : Dev} {r p a : Tab Word} {m h : Tab Byte} {s : Tab Surf} {f : Tab Fence} {b : BlkId} {u : Tab Word}
    (k : Kt d r p a m h s f) : Kt d r p (blkReplace b u a) m h s f := by
  refine ⟨fun hd => ?_⟩
  have := k.canon hd
  simp only [Bool.and_eq_true] at this ⊢
  obtain ⟨⟨⟨⟨⟨⟨c1, c2⟩, c3⟩, c4⟩, c5⟩, c6⟩, c7⟩ := this
  exact ⟨⟨⟨⟨⟨⟨c1, c2⟩, blkReplace_wf c3⟩, c4⟩, c5⟩, c6⟩, c7⟩

/-- Blocks of the proof bank replaced. -/
theorem Kt.proofBlks {d : Dev} {r p a : Tab Word} {m h : Tab Byte} {s : Tab Surf} {f : Tab Fence} {bs : List BlkId} {u : Tab Word}
    (k : Kt d r p a m h s f) : Kt d r (bs.foldl (fun t b => blkReplace b u t) p) a m h s f := by
  refine ⟨fun hd => ?_⟩
  have := k.canon hd
  simp only [Bool.and_eq_true] at this ⊢
  obtain ⟨⟨⟨⟨⟨⟨c1, c2⟩, c3⟩, c4⟩, c5⟩, c6⟩, c7⟩ := this
  exact ⟨⟨⟨⟨⟨⟨c1, blkReplaces_wf c2⟩, c3⟩, c4⟩, c5⟩, c6⟩, c7⟩

/-- Blocks of the active bank replaced. -/
theorem Kt.activeBlks {d : Dev} {r p a : Tab Word} {m h : Tab Byte} {s : Tab Surf} {f : Tab Fence} {bs : List BlkId} {u : Tab Word}
    (k : Kt d r p a m h s f) : Kt d r p (bs.foldl (fun t b => blkReplace b u t) a) m h s f := by
  refine ⟨fun hd => ?_⟩
  have := k.canon hd
  simp only [Bool.and_eq_true] at this ⊢
  obtain ⟨⟨⟨⟨⟨⟨c1, c2⟩, c3⟩, c4⟩, c5⟩, c6⟩, c7⟩ := this
  exact ⟨⟨⟨⟨⟨⟨c1, c2⟩, blkReplaces_wf c3⟩, c4⟩, c5⟩, c6⟩, c7⟩

/-- An empty table is canonical. -/
theorem Kt.memNil {d : Dev} {r p a : Tab Word} {m h : Tab Byte} {s : Tab Surf} {f : Tab Fence}
    (k : Kt d r p a m h s f) : Kt d r p a ([]) h s f := by
  refine ⟨fun hd => ?_⟩
  have := k.canon hd
  simp only [Bool.and_eq_true] at this ⊢
  obtain ⟨⟨⟨⟨⟨⟨c1, c2⟩, c3⟩, c4⟩, c5⟩, c6⟩, c7⟩ := this
  exact ⟨⟨⟨⟨⟨⟨c1, c2⟩, c3⟩, rfl⟩, c5⟩, c6⟩, c7⟩

/-- A fold that carries a device and something else keeps the canonical form. -/
theorem foldFst_kc {α β : Type} {d0 : Dev} {f : Dev × β → α → Dev × β} {l : List α} {r : Dev × β}
    (hf : ∀ e x, Kc d0 e.1 → Kc d0 (f e x).1) (h : Kc d0 r.1) : Kc d0 (l.foldl f r).1 := by
  induction l generalizing r with
  | nil => exact h
  | cons a t ih => exact ih (hf r a h)

theorem foldFst_km {α β : Type} {d0 : Dev} {f : Dev × β → α → Dev × β} {l : List α} {r : Dev × β}
    (hf : ∀ e x, Km d0 e.1 → Km d0 (f e x).1) (h : Km d0 r.1) : Km d0 (l.foldl f r).1 := by
  induction l generalizing r with
  | nil => exact h
  | cons a t ih => exact ih (hf r a h)

/-- Both branches keep the canonical form. -/
theorem ite_kc {d a b : Dev} {c : Prop} [Decidable c] (h : Kc d a) (g : Kc d b) : Kc d (if c then a else b) := by
  split <;> assumption

/-- Both branches keep the DRAM. -/
theorem ite_km {d a b : Dev} {c : Prop} [Decidable c] (h : Km d a) (g : Km d b) : Km d (if c then a else b) := by
  split <;> assumption

/-- Both answers keep the canonical form. -/
theorem iteAns_kc {d : Dev} {a b : Ans} {c : Prop} [Decidable c] (h : AnsKc d a) (g : AnsKc d b) :
    AnsKc d (if c then a else b) := by
  split <;> assumption

/-- Both answers keep the DRAM. -/
theorem iteAns_km {d : Dev} {a b : Ans} {c : Prop} [Decidable c] (h : AnsKm d a) (g : AnsKm d b) :
    AnsKm d (if c then a else b) := by
  split <;> assumption

/-- An identity keeps what its argument keeps. -/
theorem id_kc {d e : Dev} (h : Kc d e) : Kc d (id e) := h

/-- An identity keeps what its argument keeps. -/
theorem id_km {d e : Dev} (h : Km d e) : Km d (id e) := h

/-- Empty surface and fence tables are canonical. -/
theorem Kt.tablesNil {d : Dev} {r p a : Tab Word} {m h : Tab Byte} {s : Tab Surf} {f : Tab Fence}
    (k : Kt d r p a m h s f) : Kt d r p a m h [] [] := by
  refine ⟨fun hd => ?_⟩
  have := k.canon hd
  simp only [Bool.and_eq_true] at this ⊢
  obtain ⟨⟨⟨⟨⟨⟨c1, c2⟩, c3⟩, c4⟩, c5⟩, _⟩, _⟩ := this
  exact ⟨⟨⟨⟨⟨⟨c1, c2⟩, c3⟩, c4⟩, c5⟩, rfl⟩, rfl⟩

/-- Empty banks and tables are canonical. -/
theorem Kt.restNil {d : Dev} {r p a : Tab Word} {m h : Tab Byte} {s : Tab Surf} {f : Tab Fence}
    (k : Kt d r p a m h s f) : Kt d r [] [] m h [] [] := by
  refine ⟨fun hd => ?_⟩
  have := k.canon hd
  simp only [Bool.and_eq_true] at this ⊢
  obtain ⟨⟨⟨⟨⟨⟨c1, _⟩, _⟩, c4⟩, c5⟩, _⟩, _⟩ := this
  exact ⟨⟨⟨⟨⟨⟨c1, rfl⟩, rfl⟩, c4⟩, c5⟩, rfl⟩, rfl⟩

/-- Empty banks, tables and DRAM are canonical. -/
theorem Kt.allNil {d : Dev} {r p a : Tab Word} {m h : Tab Byte} {s : Tab Surf} {f : Tab Fence}
    (k : Kt d r p a m h s f) : Kt d r [] [] [] h [] [] := by
  refine ⟨fun hd => ?_⟩
  have := k.canon hd
  simp only [Bool.and_eq_true] at this ⊢
  obtain ⟨⟨⟨⟨⟨⟨c1, _⟩, _⟩, _⟩, c5⟩, _⟩, _⟩ := this
  exact ⟨⟨⟨⟨⟨⟨c1, rfl⟩, rfl⟩, rfl⟩, c5⟩, rfl⟩, rfl⟩

/-- DRAM kept or lost is canonical. -/
theorem iteMem_kt {d : Dev} {r p a : Tab Word} {m h : Tab Byte} {s : Tab Surf} {f : Tab Fence} {c : Prop} [Decidable c]
    (k : Kt d r p a m h s f) : Kt d r p a (if c then m else []) h s f := by
  split
  · exact k
  · exact k.memNil

theorem AnsKc.mk {d0 dev : Dev} {code : Nat} {pay : List Nat} {after : Dev → Dev} {later : Bool}
    (h : Kc d0 dev) (g : ∀ e, Kc d0 e → Kc d0 (after e)) : AnsKc d0 ⟨code, pay, dev, after, later⟩ := ⟨h, g⟩

theorem AnsKm.mk {d0 dev : Dev} {code : Nat} {pay : List Nat} {after : Dev → Dev} {later : Bool}
    (h : Km d0 dev) (g : ∀ e, Km d0 e → Km d0 (after e)) : AnsKm d0 ⟨code, pay, dev, after, later⟩ := ⟨h, g⟩

end Sys2Proof.Machine
end

