-- ==== Sys2Proof/Laws/CanonA.lean ====
section
/-! SUPPORT.  Every operation keeps the canonical form of the tables, part 1 of 4: one lemma for each operation that returns a device. -/

set_option linter.unusedTactic false
set_option linter.unreachableTactic false

namespace Sys2Proof.Machine

theorem Dev.mramStore_kc {d0 d : Dev} {x1 x2 : _} (h : Kc d0 d) : Kc d0 (Dev.mramStore d x1 x2) := by
  unfold Dev.mramStore
  repeat' (first
    | (with_reducible (first
      | assumption | refine ite_kc ?_ ?_ | refine Kc.to ?_))
    | (intro _) | (refine Kc.of ?_; dsimp only) | dsimp only | split)

theorem Dev.fwChunkDo_kc {d0 d e : Dev} {off : Nat} {bs : List Byte} (h : Kc d0 d) (he :
    d.fwChunkDo off bs = some e) :
    Kc d0 e := by
  unfold Dev.fwChunkDo at he
  dsimp only at he
  split at he
  · cases he
  · split at he
    · cases he
    · cases he
      refine Kc.of ?_
      dsimp only
      split
      · exact h.to
      · exact (Dev.mramStore_kc h).to

theorem Dev.dn_kc {d0 d : Dev} {x1 : _} (h : Kc d0 d) : Kc d0 (Dev.dn d x1) := by
  unfold Dev.dn
  repeat' (first
    | (with_reducible (first
      | assumption | refine ite_kc ?_ ?_ | refine Dev.sg_kc ?_ | refine Kc.to ?_))
    | (intro _) | (refine Kc.of ?_; dsimp only) | dsimp only | split)

theorem Dev.unhold_kc {d0 d : Dev} {x1 : _} (h : Kc d0 d) : Kc d0 (Dev.unhold d x1) := by
  unfold Dev.unhold
  repeat' (first
    | (with_reducible (first
      | assumption | refine ite_kc ?_ ?_ | refine Dev.dn_kc ?_ | refine Kc.to ?_))
    | (intro _) | (refine Kc.of ?_; dsimp only) | dsimp only | split)

theorem Dev.putPst_kc {d0 d : Dev} {x1 x2 : _} (h : Kc d0 d) : Kc d0 (Dev.putPst d x1 x2) := by
  unfold Dev.putPst
  repeat' (first
    | (with_reducible (first
      | assumption | refine ite_kc ?_ ?_ | refine Kc.to ?_))
    | (intro _) | (refine Kc.of ?_; dsimp only) | dsimp only | split)

theorem Dev.putFrame_kc {d0 d : Dev} {x1 x2 : _} (h : Kc d0 d) : Kc d0 (Dev.putFrame d x1 x2) := by
  unfold Dev.putFrame
  repeat' (first
    | (with_reducible (first
      | assumption | refine ite_kc ?_ ?_ | refine Dev.putPst_kc ?_ | refine Kc.to ?_))
    | (intro _) | (refine Kc.of ?_; dsimp only) | dsimp only | split)

theorem Dev.activeSeq_kc {d0 d : Dev} {x1 x2 : _} (h : Kc d0 d) : Kc d0 (Dev.activeSeq d x1 x2) := by
  unfold Dev.activeSeq
  repeat' (first
    | (with_reducible (first
      | assumption | refine ite_kc ?_ ?_ | refine Dev.sg_kc ?_ | refine Kc.to ?_))
    | (intro _) | (refine Kc.of ?_; dsimp only) | dsimp only | split)

theorem Dev.largeShow_kc {d0 d : Dev} {x1 : _} (h : Kc d0 d) : Kc d0 (Dev.largeShow d x1) := by
  unfold Dev.largeShow
  repeat' (first
    | (with_reducible (first
      | assumption | refine ite_kc ?_ ?_ | refine Dev.sg_kc ?_ | refine Kc.to ?_))
    | (intro _) | (refine Kc.of ?_; dsimp only) | dsimp only | split)

theorem Dev.clearRuns_kc {d0 d : Dev} {x1 : _} (h : Kc d0 d) : Kc d0 (Dev.clearRuns d x1) := by
  unfold Dev.clearRuns
  repeat' (first
    | (with_reducible (first
      | assumption | refine ite_kc ?_ ?_ | refine Dev.each_kc ?_ ?_ | refine Dev.dn_kc ?_ | refine Kc.to ?_))
    | (intro _) | (refine Kc.of ?_; dsimp only) | dsimp only | split)

theorem Dev.quietReset_kc {d0 d : Dev} {x1 : _} (h : Kc d0 d) : Kc d0 (Dev.quietReset d x1) := by
  unfold Dev.quietReset
  repeat' (first
    | (with_reducible (first
      | assumption | refine ite_kc ?_ ?_ | refine Dev.dn_kc ?_ | refine Kc.to ?_))
    | (intro _) | (refine Kc.of ?_; dsimp only) | dsimp only | split)

theorem Dev.needShow_kc {d0 d : Dev} {x1 x2 : _} (h : Kc d0 d) : Kc d0 (Dev.needShow d x1 x2) := by
  unfold Dev.needShow
  repeat' (first
    | (with_reducible (first
      | assumption | refine ite_kc ?_ ?_ | refine Dev.sg_kc ?_ | refine Kc.to ?_))
    | (intro _) | (refine Kc.of ?_; dsimp only) | dsimp only | split)

theorem Dev.release_kc {d0 d : Dev} {x1 x2 : _} (h : Kc d0 d) : Kc d0 (Dev.release d x1 x2) := by
  unfold Dev.release
  repeat' (first
    | (with_reducible (first
      | assumption | refine ite_kc ?_ ?_ | refine Kc.to ?_))
    | (intro _) | (refine Kc.of ?_; dsimp only) | dsimp only | split)

theorem Dev.moveGrant_kc {d0 d : Dev} {x1 x2 x3 : _} (h : Kc d0 d) : Kc d0 (Dev.moveGrant d x1 x2 x3) := by
  unfold Dev.moveGrant
  repeat' (first
    | (with_reducible (first
      | assumption | refine ite_kc ?_ ?_ | refine Dev.release_kc ?_ | refine Kc.to ?_))
    | (intro _) | (refine Kc.of ?_; dsimp only) | dsimp only | split)

theorem Dev.change_kc {d0 d : Dev} {x1 : _} (h : Kc d0 d) : Kc d0 (Dev.change d x1) := by
  unfold Dev.change
  repeat' (first
    | (with_reducible (first
      | assumption | refine ite_kc ?_ ?_ | refine Kc.to ?_))
    | (intro _) | (refine Kc.of ?_; dsimp only) | dsimp only | split)

theorem Dev.portChange_kc {d0 d : Dev} {x1 : _} (h : Kc d0 d) : Kc d0 (Dev.portChange d x1) := by
  unfold Dev.portChange
  repeat' (first
    | (with_reducible (first
      | assumption | refine ite_kc ?_ ?_ | refine Dev.change_kc ?_ | refine Kc.to ?_))
    | (intro _) | (refine Kc.of ?_; dsimp only) | dsimp only | split)

theorem Dev.orBits_kc {d0 d : Dev} {x1 x2 : _} (h : Kc d0 d) : Kc d0 (Dev.orBits d x1 x2) := by
  unfold Dev.orBits
  repeat' (first
    | (with_reducible (first
      | assumption | refine ite_kc ?_ ?_ | refine Dev.sg_kc ?_ | refine Kc.to ?_))
    | (intro _) | (refine Kc.of ?_; dsimp only) | dsimp only | split)

theorem Dev.attn_kc {d0 d : Dev} {x1 : _} (h : Kc d0 d) : Kc d0 (Dev.attn d x1) := by
  unfold Dev.attn
  repeat' (first
    | (with_reducible (first
      | assumption | refine ite_kc ?_ ?_ | refine Dev.orBits_kc ?_ | refine Kc.to ?_))
    | (intro _) | (refine Kc.of ?_; dsimp only) | dsimp only | split)

theorem Dev.hdcpTo_kc {d0 d : Dev} {x1 x2 : _} (h : Kc d0 d) : Kc d0 (Dev.hdcpTo d x1 x2) := by
  unfold Dev.hdcpTo
  repeat' (first
    | (with_reducible (first
      | assumption | refine ite_kc ?_ ?_ | refine Dev.attn_kc ?_ | refine Dev.dn_kc ?_ | refine Dev.sg_kc ?_
      | refine Dev.portChange_kc ?_ | refine Kc.to ?_))
    | (intro _) | (refine Kc.of ?_; dsimp only) | dsimp only | split)

theorem Dev.hdcpEnable_kc {d0 d : Dev} {x1 : _} (h : Kc d0 d) : Kc d0 (Dev.hdcpEnable d x1) := by
  unfold Dev.hdcpEnable
  repeat' (first
    | (with_reducible (first
      | assumption | refine ite_kc ?_ ?_ | refine Dev.hdcpTo_kc ?_ | refine Kc.to ?_))
    | (intro _) | (refine Kc.of ?_; dsimp only) | dsimp only | split)

theorem Dev.activate_kc {d0 d : Dev} {x1 x2 : _} (h : Kc d0 d) : Kc d0 (Dev.activate d x1 x2) := by
  unfold Dev.activate
  repeat' (first
    | (with_reducible (first
      | assumption | refine ite_kc ?_ ?_ | refine Dev.each_kc ?_ ?_ | refine Dev.hdcpEnable_kc ?_
      | refine Dev.moveGrant_kc ?_ | refine Dev.needShow_kc ?_ | refine Dev.quietReset_kc ?_
      | refine Dev.clearRuns_kc ?_ | refine Dev.largeShow_kc ?_ | refine Dev.putPst_kc ?_
      | refine Dev.activeSeq_kc ?_ | refine Kt.activeSet ?_ | refine Kt.activeBlk ?_ | refine Kt.proofSet ?_
      | refine Kt.proofBlk ?_ | refine Kt.regsMap ?_ | refine Kt.activeBlks ?_ | refine Kt.proofBlks ?_
      | refine Kc.to ?_ | refine Kt.memNil ?_))
    | (intro _) | (refine Kc.of ?_; dsimp only) | dsimp only | split)

theorem Dev.dropArmed_kc {d0 d : Dev} {x1 : _} (h : Kc d0 d) : Kc d0 (Dev.dropArmed d x1) := by
  unfold Dev.dropArmed
  repeat' (first
    | (with_reducible (first
      | assumption | refine ite_kc ?_ ?_ | refine Kc.to ?_))
    | (intro _) | (refine Kc.of ?_; dsimp only) | dsimp only | split)

theorem Dev.guardOut_kc {d0 d : Dev} {x1 : _} (h : Kc d0 d) : Kc d0 (Dev.guardOut d x1) := by
  unfold Dev.guardOut
  repeat' (first
    | (with_reducible (first
      | assumption | refine ite_kc ?_ ?_ | refine Dev.dn_kc ?_ | refine Kc.to ?_))
    | (intro _) | (refine Kc.of ?_; dsimp only) | dsimp only | split)

theorem Dev.leave_kc {d0 d : Dev} {x1 : _} (h : Kc d0 d) : Kc d0 (Dev.leave d x1) := by
  unfold Dev.leave
  repeat' (first
    | (with_reducible (first
      | assumption | refine ite_kc ?_ ?_ | refine Dev.release_kc ?_ | refine Dev.needShow_kc ?_
      | refine Dev.clearRuns_kc ?_ | refine Dev.quietReset_kc ?_ | refine Dev.unhold_kc ?_
      | refine Dev.guardOut_kc ?_ | refine Kt.activeSet ?_ | refine Kt.activeBlk ?_ | refine Kt.proofSet ?_
      | refine Kt.proofBlk ?_ | refine Kt.regsMap ?_ | refine Kt.activeBlks ?_ | refine Kt.proofBlks ?_
      | refine Kc.to ?_ | refine Kt.memNil ?_))
    | (intro _) | (refine Kc.of ?_; dsimp only) | dsimp only | split)

theorem Dev.logWrite_kc {d0 d : Dev} {x1 : _} (h : Kc d0 d) : Kc d0 (Dev.logWrite d x1) := by
  unfold Dev.logWrite
  repeat' (first
    | (with_reducible (first
      | assumption | refine ite_kc ?_ ?_ | refine Kc.to ?_))
    | (intro _) | (refine Kc.of ?_; dsimp only) | dsimp only | split)

theorem Dev.logMore_kc {d0 d : Dev} {x1 x2 x3 x4 x5 : _} (h : Kc d0 d) : Kc d0 (Dev.logMore d x1 x2 x3 x4 x5) := by
  unfold Dev.logMore
  repeat' (first
    | (with_reducible (first
      | assumption | refine ite_kc ?_ ?_ | refine Dev.logWrite_kc ?_ | refine Dev.attn_kc ?_
      | refine Dev.onlyIf_kc ?_ ?_ | refine Kc.to ?_))
    | (intro _) | (refine Kc.of ?_; dsimp only) | dsimp only | split)

theorem Dev.logE_kc {d0 d : Dev} {x1 x2 x3 x4 : _} (h : Kc d0 d) : Kc d0 (Dev.logE d x1 x2 x3 x4) := by
  unfold Dev.logE
  repeat' (first
    | (with_reducible (first
      | assumption | refine ite_kc ?_ ?_ | refine Dev.logMore_kc ?_ | refine Kc.to ?_))
    | (intro _) | (refine Kc.of ?_; dsimp only) | dsimp only | split)

theorem Dev.up_kc {d0 d : Dev} {x1 : _} (h : Kc d0 d) : Kc d0 (Dev.up d x1) := by
  unfold Dev.up
  repeat' (first
    | (with_reducible (first
      | assumption | refine ite_kc ?_ ?_ | refine Dev.sg_kc ?_ | refine Kc.to ?_))
    | (intro _) | (refine Kc.of ?_; dsimp only) | dsimp only | split)

theorem Dev.faultSum_kc {d0 d : Dev} {x1 : _} (h : Kc d0 d) : Kc d0 (Dev.faultSum d x1) := by
  unfold Dev.faultSum
  repeat' (first
    | (with_reducible (first
      | assumption | refine ite_kc ?_ ?_ | refine Dev.up_kc ?_ | refine Dev.attn_kc ?_ | refine Kc.to ?_))
    | (intro _) | (refine Kc.of ?_; dsimp only) | dsimp only | split)

theorem Dev.incSat_kc {d0 d : Dev} {x1 : _} (h : Kc d0 d) : Kc d0 (Dev.incSat d x1) := by
  unfold Dev.incSat
  repeat' (first
    | (with_reducible (first
      | assumption | refine ite_kc ?_ ?_ | refine Dev.sg_kc ?_ | refine Kc.to ?_))
    | (intro _) | (refine Kc.of ?_; dsimp only) | dsimp only | split)

theorem Dev.guardTest_kc {d0 d : Dev} {x1 x2 : _} (h : Kc d0 d) : Kc d0 (Dev.guardTest d x1 x2) := by
  unfold Dev.guardTest
  repeat' (first
    | (with_reducible (first
      | assumption | refine ite_kc ?_ ?_ | refine Dev.putFrame_kc ?_ | refine Dev.incSat_kc ?_
      | refine Dev.up_kc ?_ | refine Dev.faultSum_kc ?_ | refine Dev.logE_kc ?_ | refine Dev.dn_kc ?_
      | refine Kc.to ?_))
    | (intro _) | (refine Kc.of ?_; dsimp only) | dsimp only | split)

theorem Dev.curveTest_kc {d0 d : Dev} {x1 x2 : _} (h : Kc d0 d) : Kc d0 (Dev.curveTest d x1 x2) := by
  unfold Dev.curveTest
  repeat' (first
    | (with_reducible (first
      | assumption | refine ite_kc ?_ ?_ | refine Dev.up_kc ?_ | refine Dev.putFrame_kc ?_ | refine Kc.to ?_))
    | (intro _) | (refine Kc.of ?_; dsimp only) | dsimp only | split)

theorem Dev.takeOne_kc {d0 : Dev} {p : Nat} {s : Snap} {r : Dev × Taken} (h : Kc d0 r.1) :
    Kc d0 (Dev.takeOne p s r).1 := by
  have hg : ∀ e, Kc d0 e → Kc d0 (match s.id with
    | .layer l => ((e.dropArmed (fun x => x.id == s.id)).activate s 1).unhold l
    | _ => (e.dropArmed (fun x => x.id == s.id)).activate s 1) := by
    intro e k
    have := Dev.activate_kc (x1 := s) (x2 := 1) (Dev.dropArmed_kc (x1 := fun x => x.id == s.id) k)
    split
    · exact Dev.unhold_kc this
    · exact this
  unfold Dev.takeOne
  extract_lets d t go
  have h : Kc d0 d := h
  have hg : ∀ e, Kc d0 e → Kc d0 (go e) := hg
  clear_value d t go
  split
  · rename_i l _
    split
    · dsimp only
      have h1 : Kc d0 (d.leave l) := Dev.leave_kc h
      split
      · exact ite_kc h1 (hg _ h1)
      · split
        · refine Dev.curveTest_kc (ite_kc (Dev.guardTest_kc ?_) ?_) <;>
            exact ite_kc (Dev.putFrame_kc (hg _ h1)) (hg _ h1)
        · exact h1
    · exact hg _ h
  · exact hg _ h

theorem Dev.armedSeq_kc {d0 d : Dev} {x1 x2 : _} (h : Kc d0 d) : Kc d0 (Dev.armedSeq d x1 x2) := by
  unfold Dev.armedSeq
  repeat' (first
    | (with_reducible (first
      | assumption | refine ite_kc ?_ ?_ | refine Dev.sg_kc ?_ | refine Kc.to ?_))
    | (intro _) | (refine Kc.of ?_; dsimp only) | dsimp only | split)

theorem Dev.putCrust_kc {d0 d : Dev} {x1 x2 : _} (h : Kc d0 d) : Kc d0 (Dev.putCrust d x1 x2) := by
  unfold Dev.putCrust
  repeat' (first
    | (with_reducible (first
      | assumption | refine ite_kc ?_ ?_ | refine Kc.to ?_))
    | (intro _) | (refine Kc.of ?_; dsimp only) | dsimp only | split)

theorem Dev.crustHold_kc {d0 d : Dev} {x1 : _} (h : Kc d0 d) : Kc d0 (Dev.crustHold d x1) := by
  unfold Dev.crustHold
  repeat' (first
    | (with_reducible (first
      | assumption | refine ite_kc ?_ ?_ | refine Dev.each_kc ?_ ?_ | refine Dev.putCrust_kc ?_
      | refine Dev.up_kc ?_ | refine Dev.dn_kc ?_ | refine Kc.to ?_))
    | (intro _) | (refine Kc.of ?_; dsimp only) | dsimp only | split)

theorem Dev.crustObsolete_kc {d0 d : Dev} {x1 x2 : _} (h : Kc d0 d) : Kc d0 (Dev.crustObsolete d x1 x2) := by
  unfold Dev.crustObsolete
  repeat' (first
    | (with_reducible (first
      | assumption | refine ite_kc ?_ ?_ | refine Dev.putCrust_kc ?_ | refine Kc.to ?_))
    | (intro _) | (refine Kc.of ?_; dsimp only) | dsimp only | split)

theorem Dev.occupancy_kc {d0 d : Dev} {x1 x2 x3 x4 x5 x6 : _} (h : Kc d0 d) :
    Kc d0 (Dev.occupancy d x1 x2 x3 x4 x5 x6) := by
  unfold Dev.occupancy
  repeat' (first
    | (with_reducible (first
      | assumption | refine ite_kc ?_ ?_ | refine Dev.dn_kc ?_ | refine Dev.up_kc ?_ | refine Dev.attn_kc ?_
      | refine Dev.sg_kc ?_ | refine Kc.to ?_))
    | (intro _) | (refine Kc.of ?_; dsimp only) | dsimp only | split)

theorem Dev.surfOcc_kc {d0 d : Dev} {x1 : _} (h : Kc d0 d) : Kc d0 (Dev.surfOcc d x1) := by
  unfold Dev.surfOcc
  repeat' (first
    | (with_reducible (first
      | assumption | refine ite_kc ?_ ?_ | refine Dev.occupancy_kc ?_ | refine Kc.to ?_))
    | (intro _) | (refine Kc.of ?_; dsimp only) | dsimp only | split)

theorem Dev.hintCount_kc {d0 d : Dev} (h : Kc d0 d) : Kc d0 (Dev.hintCount d) := by
  unfold Dev.hintCount
  repeat' (first
    | (with_reducible (first
      | assumption | refine ite_kc ?_ ?_ | refine Dev.each_kc ?_ ?_ | refine Dev.sg_kc ?_ | refine Kc.to ?_))
    | (intro _) | (refine Kc.of ?_; dsimp only) | dsimp only | split)

theorem Dev.putTile_kc {d0 d : Dev} {x1 x2 : _} (h : Kc d0 d) : Kc d0 (Dev.putTile d x1 x2) := by
  unfold Dev.putTile
  repeat' (first
    | (with_reducible (first
      | assumption | refine ite_kc ?_ ?_ | refine Kc.to ?_))
    | (intro _) | (refine Kc.of ?_; dsimp only) | dsimp only | split)

theorem Dev.damageTile_kc {d0 d : Dev} {x1 x2 x3 : _} (h : Kc d0 d) : Kc d0 (Dev.damageTile d x1 x2 x3) := by
  unfold Dev.damageTile
  repeat' (first
    | (with_reducible (first
      | assumption | refine ite_kc ?_ ?_ | refine Dev.putTile_kc ?_ | refine Kc.to ?_))
    | (intro _) | (refine Kc.of ?_; dsimp only) | dsimp only | split)

theorem Dev.hintMember_kc {d0 d : Dev} {x1 x2 x3 x4 : _} (h : Kc d0 d) : Kc d0 (Dev.hintMember d x1 x2 x3 x4) := by
  unfold Dev.hintMember
  repeat' (first
    | (with_reducible (first
      | assumption | refine ite_kc ?_ ?_ | refine Dev.each_kc ?_ ?_ | refine Dev.damageTile_kc ?_
      | refine Kc.to ?_))
    | (intro _) | (refine Kc.of ?_; dsimp only) | dsimp only | split)

theorem Dev.hintApply_kc {d0 d : Dev} {x1 : _} (h : Kc d0 d) : Kc d0 (Dev.hintApply d x1) := by
  unfold Dev.hintApply
  repeat' (first
    | (with_reducible (first
      | assumption | refine ite_kc ?_ ?_ | refine Dev.each_kc ?_ ?_ | refine Dev.change_kc ?_
      | refine Dev.hintMember_kc ?_ | refine Kc.to ?_))
    | (intro _) | (refine Kc.of ?_; dsimp only) | dsimp only | split)

theorem Dev.hintsDue_kc {d0 d : Dev} (h : Kc d0 d) : Kc d0 (Dev.hintsDue d) := by
  unfold Dev.hintsDue
  repeat' (first
    | (with_reducible (first
      | assumption | refine ite_kc ?_ ?_ | refine Dev.each_kc ?_ ?_ | refine Dev.hintApply_kc ?_
      | refine Dev.hintCount_kc ?_ | refine Kc.to ?_))
    | (intro _) | (refine Kc.of ?_; dsimp only) | dsimp only | split)

theorem Dev.send_kc {d0 d : Dev} {x1 : _} (h : Kc d0 d) : Kc d0 (Dev.send d x1) := by
  unfold Dev.send
  repeat' (first
    | (with_reducible (first
      | assumption | refine ite_kc ?_ ?_ | refine Kc.to ?_))
    | (intro _) | (refine Kc.of ?_; dsimp only) | dsimp only | split)

theorem Dev.msix_kc {d0 d : Dev} {x1 : _} (h : Kc d0 d) : Kc d0 (Dev.msix d x1) := by
  unfold Dev.msix
  repeat' (first
    | (with_reducible (first
      | assumption | refine ite_kc ?_ ?_ | refine Dev.send_kc ?_ | refine Kc.to ?_))
    | (intro _) | (refine Kc.of ?_; dsimp only) | dsimp only | split)

theorem Dev.watchOne_kc {d0 d : Dev} {x1 : _} (h : Kc d0 d) : Kc d0 (Dev.watchOne d x1) := by
  unfold Dev.watchOne
  repeat' (first
    | (with_reducible (first
      | assumption | refine ite_kc ?_ ?_ | refine Dev.orBits_kc ?_ | refine Dev.msix_kc ?_ | refine Kc.to ?_))
    | (intro _) | (refine Kc.of ?_; dsimp only) | dsimp only | split)

theorem Dev.watch_kc {d0 d : Dev} (h : Kc d0 d) : Kc d0 (Dev.watch d) := by
  unfold Dev.watch
  repeat' (first
    | (with_reducible (first
      | assumption | refine ite_kc ?_ ?_ | refine Dev.each_kc ?_ ?_ | refine Dev.watchOne_kc ?_ | refine Kc.to ?_))
    | (intro _) | (refine Kc.of ?_; dsimp only) | dsimp only | split)

theorem Dev.fenceNow_kc {d0 d : Dev} {x1 x2 : _} (h : Kc d0 d) : Kc d0 (Dev.fenceNow d x1 x2) := by
  unfold Dev.fenceNow
  repeat' (first
    | (with_reducible (first
      | assumption | refine ite_kc ?_ ?_ | refine Dev.putFence_kc ?_ | refine Dev.watch_kc ?_
      | refine Dev.hintsDue_kc ?_ | refine Kc.to ?_))
    | (intro _) | (refine Kc.of ?_; dsimp only) | dsimp only | split)

theorem Dev.signalAdd_kc {d0 d : Dev} {x1 x2 : _} (h : Kc d0 d) : Kc d0 (Dev.signalAdd d x1 x2) := by
  unfold Dev.signalAdd
  repeat' (first
    | (with_reducible (first
      | assumption | refine ite_kc ?_ ?_ | refine Dev.fenceNow_kc ?_ | refine Dev.up_kc ?_ | refine Kc.to ?_))
    | (intro _) | (refine Kc.of ?_; dsimp only) | dsimp only | split)

theorem Dev.lostOne_kc {d0 d : Dev} {x0 : _} (h : Kc d0 d) : Kc d0 (Dev.lostOne x0 d) := by
  unfold Dev.lostOne
  repeat' (first
    | (with_reducible (first
      | assumption | refine ite_kc ?_ ?_ | refine Dev.signalAdd_kc ?_ | refine Dev.putSurf_kc ?_
      | refine Dev.surfOcc_kc ?_ | refine Kc.to ?_))
    | (intro _) | (refine Kc.of ?_; dsimp only) | dsimp only | split)

theorem Dev.lostSweep_kc {d0 d : Dev} (h : Kc d0 d) : Kc d0 (Dev.lostSweep d) := by
  unfold Dev.lostSweep
  repeat' (first
    | (with_reducible (first
      | assumption | refine ite_kc ?_ ?_ | refine Dev.each_kc ?_ ?_ | refine Dev.lostOne_kc ?_ | refine Kc.to ?_))
    | (intro _) | (refine Kc.of ?_; dsimp only) | dsimp only | split)

theorem Dev.retire_kc {d0 d : Dev} {x1 : _} (h : Kc d0 d) : Kc d0 (Dev.retire d x1) := by
  unfold Dev.retire
  repeat' (first
    | (with_reducible (first
      | assumption | refine ite_kc ?_ ?_ | refine Dev.signalAdd_kc ?_ | refine Kc.to ?_))
    | (intro _) | (refine Kc.of ?_; dsimp only) | dsimp only | split)

theorem Dev.discarded_kc {d0 d : Dev} {x1 : _} (h : Kc d0 d) : Kc d0 (Dev.discarded d x1) := by
  unfold Dev.discarded
  repeat' (first
    | (with_reducible (first
      | assumption | refine ite_kc ?_ ?_ | refine Dev.each_kc ?_ ?_ | refine Dev.retire_kc ?_
      | refine Dev.lostSweep_kc ?_ | refine Kc.to ?_))
    | (intro _) | (refine Kc.of ?_; dsimp only) | dsimp only | split)

theorem Dev.supersede_kc {d0 d : Dev} {x1 : _} (h : Kc d0 d) : Kc d0 (Dev.supersede d x1) := by
  unfold Dev.supersede
  repeat' (first
    | (with_reducible (first
      | assumption | refine ite_kc ?_ ?_ | refine Dev.each_kc ?_ ?_ | refine Dev.up_kc ?_
      | refine Dev.incSat_kc ?_ | refine Kc.to ?_))
    | (intro _) | (refine Kc.of ?_; dsimp only) | dsimp only | split)

theorem Dev.lateArm_kc {d0 d : Dev} {x1 : _} (h : Kc d0 d) : Kc d0 (Dev.lateArm d x1) := by
  unfold Dev.lateArm
  repeat' (first
    | (with_reducible (first
      | assumption | refine ite_kc ?_ ?_ | refine Dev.each_kc ?_ ?_ | refine Dev.supersede_kc ?_
      | refine Dev.discarded_kc ?_ | refine Dev.crustObsolete_kc ?_ | refine Dev.crustHold_kc ?_
      | refine Dev.armedSeq_kc ?_ | refine Dev.moveGrant_kc ?_ | refine Dev.unhold_kc ?_
      | refine Dev.dropArmed_kc ?_ | refine Kc.to ?_))
    | (intro _) | (refine Kc.of ?_; dsimp only) | dsimp only | split)

theorem Dev.surfStop_kc {d0 d : Dev} (h : Kc d0 d) : Kc d0 (Dev.surfStop d) := by
  unfold Dev.surfStop
  repeat' (first
    | (with_reducible (first
      | assumption | refine ite_kc ?_ ?_ | refine Dev.each_kc ?_ ?_ | refine Dev.putSurf_kc ?_
      | refine Dev.lostSweep_kc ?_ | refine Kc.to ?_))
    | (intro _) | (refine Kc.of ?_; dsimp only) | dsimp only | split)

theorem Dev.genEnter_kc {d0 d : Dev} {x1 x2 : _} (h : Kc d0 d) : Kc d0 (Dev.genEnter d x1 x2) := by
  unfold Dev.genEnter
  repeat' (first
    | (with_reducible (first
      | assumption | refine ite_kc ?_ ?_ | refine Dev.putPst_kc ?_ | refine Dev.sg_kc ?_ | refine Kc.to ?_))
    | (intro _) | (refine Kc.of ?_; dsimp only) | dsimp only | split)

theorem Dev.draw_kc {d0 d : Dev} (h : Kc d0 d) : Kc d0 (Dev.draw d).2 := by
  unfold Dev.draw
  repeat' (first
    | (with_reducible (first
      | assumption | refine ite_kc ?_ ?_ | refine Kc.to ?_))
    | (intro _) | (refine Kc.of ?_; dsimp only) | dsimp only | split)

theorem Dev.logOpen_kc {d0 d : Dev} (h : Kc d0 d) : Kc d0 (Dev.logOpen d) := by
  unfold Dev.logOpen
  repeat' (first
    | (with_reducible (first
      | assumption | refine ite_kc ?_ ?_ | refine Dev.logE_kc ?_ | refine Dev.draw_kc ?_ | refine Kc.to ?_))
    | (intro _) | (refine Kc.of ?_; dsimp only) | dsimp only | split)

theorem Dev.holdover_kc {d0 d : Dev} {x1 : _} (h : Kc d0 d) : Kc d0 (Dev.holdover d x1) := by
  unfold Dev.holdover
  repeat' (first
    | (with_reducible (first
      | assumption | refine ite_kc ?_ ?_ | refine Dev.genEnter_kc ?_ | refine Dev.up_kc ?_
      | refine Dev.incSat_kc ?_ | refine Dev.attn_kc ?_ | refine Dev.logOpen_kc ?_ | refine Kc.to ?_))
    | (intro _) | (refine Kc.of ?_; dsimp only) | dsimp only | split)

theorem Dev.genSync_kc {d0 d : Dev} {x1 x2 : _} (h : Kc d0 d) : Kc d0 (Dev.genSync d x1 x2) := by
  unfold Dev.genSync
  repeat' (first
    | (with_reducible (first
      | assumption | refine ite_kc ?_ ?_ | refine Dev.each_kc ?_ ?_ | refine Dev.putPst_kc ?_
      | refine Dev.holdover_kc ?_ | refine Dev.genEnter_kc ?_ | refine Kc.to ?_))
    | (intro _) | (refine Kc.of ?_; dsimp only) | dsimp only | split)

theorem Dev.clearOutRun_kc {d0 d : Dev} {x1 : _} (h : Kc d0 d) : Kc d0 (Dev.clearOutRun d x1) := by
  unfold Dev.clearOutRun
  repeat' (first
    | (with_reducible (first
      | assumption | refine ite_kc ?_ ?_ | refine Dev.putPst_kc ?_ | refine Dev.dn_kc ?_ | refine Kc.to ?_))
    | (intro _) | (refine Kc.of ?_; dsimp only) | dsimp only | split)

theorem Dev.setStep_kc {d0 d : Dev} {x1 x2 : _} (h : Kc d0 d) : Kc d0 (Dev.setStep d x1 x2) := by
  unfold Dev.setStep
  repeat' (first
    | (with_reducible (first
      | assumption | refine ite_kc ?_ ?_ | refine Dev.sg_kc ?_ | refine Kc.to ?_))
    | (intro _) | (refine Kc.of ?_; dsimp only) | dsimp only | split)

theorem Dev.poolShow_kc {d0 d : Dev} (h : Kc d0 d) : Kc d0 (Dev.poolShow d) := by
  unfold Dev.poolShow
  repeat' (first
    | (with_reducible (first
      | assumption | refine ite_kc ?_ ?_ | refine Dev.each_kc ?_ ?_ | refine Dev.sg_kc ?_ | refine Kc.to ?_))
    | (intro _) | (refine Kc.of ?_; dsimp only) | dsimp only | split)

theorem Dev.restShow_kc {d0 d : Dev} (h : Kc d0 d) : Kc d0 (Dev.restShow d) := by
  unfold Dev.restShow
  repeat' (first
    | (with_reducible (first
      | assumption | refine ite_kc ?_ ?_ | refine Dev.sg_kc ?_ | refine Kc.to ?_))
    | (intro _) | (refine Kc.of ?_; dsimp only) | dsimp only | split)

theorem Dev.overShow_kc {d0 d : Dev} (h : Kc d0 d) : Kc d0 (Dev.overShow d) := by
  unfold Dev.overShow
  repeat' (first
    | (with_reducible (first
      | assumption | refine ite_kc ?_ ?_ | refine Dev.each_kc ?_ ?_ | refine Dev.sg_kc ?_ | refine Kc.to ?_))
    | (intro _) | (refine Kc.of ?_; dsimp only) | dsimp only | split)

theorem Dev.armShow_kc {d0 d : Dev} (h : Kc d0 d) : Kc d0 (Dev.armShow d) := by
  unfold Dev.armShow
  repeat' (first
    | (with_reducible (first
      | assumption | refine ite_kc ?_ ?_ | refine Dev.each_kc ?_ ?_ | refine Dev.sg_kc ?_
      | refine Dev.overShow_kc ?_
      | refine Dev.restShow_kc ?_ | refine Kc.to ?_))
    | (intro _) | (refine Kc.of ?_; dsimp only) | dsimp only | split)

theorem Dev.freeFld_kc {d0 d : Dev} {x1 : _} (h : Kc d0 d) : Kc d0 (Dev.freeFld d x1) := by
  unfold Dev.freeFld
  repeat' (first
    | (with_reducible (first
      | assumption | refine ite_kc ?_ ?_ | refine Dev.draw_kc ?_ | refine Dev.sg_kc ?_ | refine Kc.to ?_))
    | (intro _) | (refine Kc.of ?_; dsimp only) | dsimp only | split)

theorem Dev.sq3Take_kc {d0 d : Dev} (h : Kc d0 d) : Kc d0 (Dev.sq3Take d) := by
  unfold Dev.sq3Take
  repeat' (first
    | (with_reducible (first
      | assumption | refine ite_kc ?_ ?_ | refine Dev.each_kc ?_ ?_ | refine Dev.freeFld_kc ?_
      | refine Dev.up_kc ?_ | refine Kc.to ?_))
    | (intro _) | (refine Kc.of ?_; dsimp only) | dsimp only | split)

theorem Dev.sq3Show_kc {d0 d : Dev} (h : Kc d0 d) : Kc d0 (Dev.sq3Show d) := by
  unfold Dev.sq3Show
  repeat' (first
    | (with_reducible (first
      | assumption | refine ite_kc ?_ ?_ | refine Dev.dn_kc ?_ | refine Dev.sq3Take_kc ?_
      | refine Dev.onlyIf_kc ?_ ?_ | refine Dev.up_kc ?_ | refine Kc.to ?_))
    | (intro _) | (refine Kc.of ?_; dsimp only) | dsimp only | split)

theorem Dev.ownerStep_kc {d0 d : Dev} {x1 x2 : _} (h : Kc d0 d) : Kc d0 (Dev.ownerStep d x1 x2) := by
  unfold Dev.ownerStep
  repeat' (first
    | (with_reducible (first
      | assumption | refine ite_kc ?_ ?_ | refine Dev.sg_kc ?_ | refine Dev.dn_kc ?_ | refine Dev.sq3Show_kc ?_
      | refine Kc.to ?_))
    | (intro _) | (refine Kc.of ?_; dsimp only) | dsimp only | split)

theorem Dev.overClear_kc {d0 d : Dev} (h : Kc d0 d) : Kc d0 (Dev.overClear d) := by
  unfold Dev.overClear
  repeat' (first
    | (with_reducible (first
      | assumption | refine ite_kc ?_ ?_ | refine Dev.dn_kc ?_ | refine Kc.to ?_))
    | (intro _) | (refine Kc.of ?_; dsimp only) | dsimp only | split)

theorem Dev.headroom_kc {d0 d : Dev} (h : Kc d0 d) : Kc d0 (Dev.headroom d) := by
  unfold Dev.headroom
  repeat' (first
    | (with_reducible (first
      | assumption | refine ite_kc ?_ ?_ | refine Dev.sg_kc ?_ | refine Kc.to ?_))
    | (intro _) | (refine Kc.of ?_; dsimp only) | dsimp only | split)

theorem Dev.needShowPipe_kc {d0 d : Dev} {x1 : _} (h : Kc d0 d) : Kc d0 (Dev.needShowPipe d x1) := by
  unfold Dev.needShowPipe
  repeat' (first
    | (with_reducible (first
      | assumption | refine ite_kc ?_ ?_ | refine Dev.sg_kc ?_ | refine Kc.to ?_))
    | (intro _) | (refine Kc.of ?_; dsimp only) | dsimp only | split)

theorem Dev.stopTake_kc {d0 d : Dev} {x1 : _} (h : Kc d0 d) : Kc d0 (Dev.stopTake d x1) := by
  unfold Dev.stopTake
  repeat' (first
    | (with_reducible (first
      | assumption | refine ite_kc ?_ ?_ | refine foldFst_kc ?_ ?_ | refine foldl_kc ?_ ?_
      | refine Dev.each_kc ?_ ?_ | refine Dev.needShowPipe_kc ?_ | refine Dev.headroom_kc ?_
      | refine Dev.overClear_kc ?_ | refine Dev.ownerStep_kc ?_ | refine Dev.armShow_kc ?_
      | refine Dev.poolShow_kc ?_ | refine Dev.dn_kc ?_ | refine Dev.setStep_kc ?_ | refine Dev.clearOutRun_kc ?_
      | refine Dev.genSync_kc ?_ | refine Dev.surfStop_kc ?_ | refine Dev.lateArm_kc ?_ | refine Dev.takeOne_kc ?_
      | refine Kt.activeSet ?_ | refine Kt.activeBlk ?_ | refine Kt.proofSet ?_ | refine Kt.proofBlk ?_
      | refine Kt.regsMap ?_ | refine Kt.activeBlks ?_ | refine Kt.proofBlks ?_ | refine Kc.to ?_
      | refine Kt.memNil ?_))
    | (intro _) | (refine Kc.of ?_; dsimp only) | dsimp only | split)

theorem Dev.freeBytes_kc {d0 d : Dev} {x1 : _} (h : Kc d0 d) : Kc d0 (Dev.freeBytes d x1).2 := by
  unfold Dev.freeBytes
  repeat' (first
    | (with_reducible (first
      | assumption | refine ite_kc ?_ ?_ | refine Kc.to ?_))
    | (intro _) | (refine Kc.of ?_; dsimp only) | dsimp only | split)

theorem Dev.freeLine_kc {d0 d : Dev} {l : List (List Byte)} (h : Kc d0 d) : Kc d0 (Dev.freeLine l d).2 := by
  induction l generalizing d with
  | nil => exact h
  | cons bs t ih => exact ih (Dev.freeBytes_kc h)

theorem Dev.dramGone_kc {d0 d : Dev} (h : Kc d0 d) : Kc d0 d.dramGone := Kc.of h.to.memNil

theorem Dev.dropWaiting_kc {d0 d : Dev} {x0 : _} (h : Kc d0 d) : Kc d0 (Dev.dropWaiting x0 d) := by
  unfold Dev.dropWaiting
  repeat' (first
    | (with_reducible (first
      | assumption | refine ite_kc ?_ ?_ | refine Dev.release_kc ?_ | refine Dev.unhold_kc ?_ | refine Kc.to ?_))
    | (intro _) | (refine Kc.of ?_; dsimp only) | dsimp only | split)

theorem Dev.damageAgain_kc {d0 d : Dev} {x1 x2 : _} (h : Kc d0 d) : Kc d0 (Dev.damageAgain d x1 x2) := by
  unfold Dev.damageAgain
  repeat' (first
    | (with_reducible (first
      | assumption | refine ite_kc ?_ ?_ | refine Dev.each_kc ?_ ?_ | refine Dev.putTile_kc ?_ | refine Kc.to ?_))
    | (intro _) | (refine Kc.of ?_; dsimp only) | dsimp only | split)

theorem Dev.repeated_kc {d0 d : Dev} {x1 : _} (h : Kc d0 d) : Kc d0 (Dev.repeated d x1).2 := by
  unfold Dev.repeated
  repeat' (first
    | (with_reducible (first
      | assumption | refine ite_kc ?_ ?_ | refine Dev.draw_kc ?_ | refine Kc.to ?_))
    | (intro _) | (refine Kc.of ?_; dsimp only) | dsimp only | split)

theorem Dev.publish_kc {d0 d : Dev} {x1 x2 : _} (h : Kc d0 d) : Kc d0 (Dev.publish d x1 x2) := by
  unfold Dev.publish
  repeat' (first
    | (with_reducible (first
      | assumption | refine ite_kc ?_ ?_ | refine Kc.to ?_))
    | (intro _) | (refine Kc.of ?_; dsimp only) | dsimp only | split)

theorem Dev.rise_kc {d0 d : Dev} {x1 x2 x3 x4 : _} (h : Kc d0 d) : Kc d0 (Dev.rise d x1 x2 x3 x4) := by
  unfold Dev.rise
  repeat' (first
    | (with_reducible (first
      | assumption | refine ite_kc ?_ ?_ | refine Kc.to ?_))
    | (intro _) | (refine Kc.of ?_; dsimp only) | dsimp only | split)

theorem Dev.staleStep_kc {d0 d : Dev} {x1 x2 x3 : _} (h : Kc d0 d) : Kc d0 (Dev.staleStep d x1 x2 x3) := by
  unfold Dev.staleStep
  repeat' (first
    | (with_reducible (first
      | assumption | refine ite_kc ?_ ?_ | refine Dev.up_kc ?_ | refine Dev.rise_kc ?_ | refine Dev.dn_kc ?_
      | refine Dev.incSat_kc ?_ | refine Kc.to ?_))
    | (intro _) | (refine Kc.of ?_; dsimp only) | dsimp only | split)

theorem Dev.blackStep_kc {d0 d : Dev} {x1 x2 x3 : _} (h : Kc d0 d) : Kc d0 (Dev.blackStep d x1 x2 x3) := by
  unfold Dev.blackStep
  repeat' (first
    | (with_reducible (first
      | assumption | refine ite_kc ?_ ?_ | refine Dev.up_kc ?_ | refine Dev.rise_kc ?_ | refine Dev.dn_kc ?_
      | refine Dev.incSat_kc ?_ | refine Dev.sg_kc ?_ | refine Kc.to ?_))
    | (intro _) | (refine Kc.of ?_; dsimp only) | dsimp only | split)

theorem Dev.publishLayer_kc {d0 d : Dev} {x1 x2 : _} (h : Kc d0 d) : Kc d0 (Dev.publishLayer d x1 x2) := by
  unfold Dev.publishLayer
  repeat' (first
    | (with_reducible (first
      | assumption | refine ite_kc ?_ ?_ | refine Dev.blackStep_kc ?_ | refine Dev.staleStep_kc ?_
      | refine Dev.publish_kc ?_ | refine Dev.draw_kc ?_ | refine Dev.repeated_kc ?_ | refine Kc.to ?_))
    | (intro _) | (refine Kc.of ?_; dsimp only) | dsimp only | split)

theorem Dev.frameValue_kc {d0 d : Dev} {x1 : _} (h : Kc d0 d) : Kc d0 (Dev.frameValue d x1).2 := by
  unfold Dev.frameValue
  repeat' (first
    | (with_reducible (first
      | assumption | refine ite_kc ?_ ?_ | refine Dev.draw_kc ?_ | refine Dev.repeated_kc ?_ | refine Kc.to ?_))
    | (intro _) | (refine Kc.of ?_; dsimp only) | dsimp only | split)

theorem Dev.outStep_kc {d0 d : Dev} {x1 x2 : _} (h : Kc d0 d) : Kc d0 (Dev.outStep d x1 x2) := by
  unfold Dev.outStep
  repeat' (first
    | (with_reducible (first
      | assumption | refine ite_kc ?_ ?_ | refine Dev.up_kc ?_ | refine Dev.rise_kc ?_ | refine Dev.dn_kc ?_
      | refine Dev.putPst_kc ?_ | refine Dev.incSat_kc ?_ | refine Kc.to ?_))
    | (intro _) | (refine Kc.of ?_; dsimp only) | dsimp only | split)

theorem Dev.publishFrame_kc {d0 d : Dev} {x1 : _} (h : Kc d0 d) : Kc d0 (Dev.publishFrame d x1) := by
  unfold Dev.publishFrame
  repeat' (first
    | (with_reducible (first
      | assumption | refine ite_kc ?_ ?_ | refine Dev.each_kc ?_ ?_ | refine Dev.putPst_kc ?_
      | refine Dev.incSat_kc ?_ | refine Dev.publish_kc ?_ | refine Dev.outStep_kc ?_
      | refine Dev.frameValue_kc ?_ | refine Dev.publishLayer_kc ?_ | refine Kc.to ?_))
    | (intro _) | (refine Kc.of ?_; dsimp only) | dsimp only | split)

theorem Dev.fillWord_kc {d0 d : Dev} {x1 x2 : _} (h : Kc d0 d) : Kc d0 (Dev.fillWord d x1 x2) := by
  unfold Dev.fillWord
  repeat' (first
    | (with_reducible (first
      | assumption | refine ite_kc ?_ ?_ | refine Dev.sgWord_kc ?_ | refine Kc.to ?_))
    | (intro _) | (refine Kc.of ?_; dsimp only) | dsimp only | split)

theorem Dev.underMode_kc {d0 d : Dev} {x1 : _} (h : Kc d0 d) : Kc d0 (Dev.underMode d x1).2 := by
  unfold Dev.underMode
  repeat' (first
    | (with_reducible (first
      | assumption | refine ite_kc ?_ ?_ | refine Dev.up_kc ?_ | refine Kc.to ?_))
    | (intro _) | (refine Kc.of ?_; dsimp only) | dsimp only | split)

theorem Dev.readSink_kc {d0 d : Dev} {x1 x2 : _} (h : Kc d0 d) : Kc d0 (Dev.readSink d x1 x2) := by
  unfold Dev.readSink
  repeat' (first
    | (with_reducible (first
      | assumption | refine ite_kc ?_ ?_ | refine Dev.each_kc ?_ ?_ | refine Dev.underMode_kc ?_
      | refine Dev.fillWord_kc ?_ | refine Kc.to ?_))
    | (intro _) | (refine Kc.of ?_; dsimp only) | dsimp only | split)

theorem Dev.hdcpAgain_kc {d0 d : Dev} {x1 : _} (h : Kc d0 d) : Kc d0 (Dev.hdcpAgain d x1) := by
  unfold Dev.hdcpAgain
  repeat' (first
    | (with_reducible (first
      | assumption | refine ite_kc ?_ ?_ | refine Dev.hdcpTo_kc ?_ | refine Kc.to ?_))
    | (intro _) | (refine Kc.of ?_; dsimp only) | dsimp only | split)

theorem Dev.train_kc {d0 d : Dev} {x1 : _} (h : Kc d0 d) : Kc d0 (Dev.train d x1) := by
  unfold Dev.train
  repeat' (first
    | (with_reducible (first
      | assumption | refine ite_kc ?_ ?_ | refine Dev.hdcpAgain_kc ?_ | refine Dev.dn_kc ?_ | refine Kc.to ?_))
    | (intro _) | (refine Kc.of ?_; dsimp only) | dsimp only | split)

theorem hpdPlug_kc {d0 d : Dev} {x0 x1 : _} (h : Kc d0 d) : Kc d0 (hpdPlug x0 x1 d) := by
  unfold hpdPlug
  repeat' (first
    | (with_reducible (first
      | assumption | refine ite_kc ?_ ?_ | refine Dev.train_kc ?_ | refine Dev.up_kc ?_ | refine Dev.attn_kc ?_
      | refine Dev.readSink_kc ?_ | refine Kc.to ?_))
    | (intro _) | (refine Kc.of ?_; dsimp only) | dsimp only | split)

theorem Dev.guardClear_kc {d0 d : Dev} {x1 : _} (h : Kc d0 d) : Kc d0 (Dev.guardClear d x1) := by
  unfold Dev.guardClear
  repeat' (first
    | (with_reducible (first
      | assumption | refine ite_kc ?_ ?_ | refine Dev.each_kc ?_ ?_ | refine Dev.guardOut_kc ?_ | refine Kc.to ?_))
    | (intro _) | (refine Kc.of ?_; dsimp only) | dsimp only | split)

theorem Dev.lutTest_kc {d0 d : Dev} {x1 : _} (h : Kc d0 d) : Kc d0 (Dev.lutTest d x1) := by
  unfold Dev.lutTest
  repeat' (first
    | (with_reducible (first
      | assumption | refine ite_kc ?_ ?_ | refine Dev.up_kc ?_ | refine Dev.putFrame_kc ?_ | refine Kc.to ?_))
    | (intro _) | (refine Kc.of ?_; dsimp only) | dsimp only | split)

theorem Dev.openFrame_kc {d0 d : Dev} {x1 x2 x3 : _} (h : Kc d0 d) : Kc d0 (Dev.openFrame d x1 x2 x3) := by
  unfold Dev.openFrame
  repeat' (first
    | (with_reducible (first
      | assumption | refine ite_kc ?_ ?_ | refine foldFst_kc ?_ ?_ | refine foldl_kc ?_ ?_
      | refine Dev.each_kc ?_ ?_ | refine Dev.guardTest_kc ?_ | refine Dev.curveTest_kc ?_
      | refine Dev.lutTest_kc ?_ | refine Dev.putFrame_kc ?_ | refine Dev.guardClear_kc ?_ | refine Kc.to ?_))
    | (intro _) | (refine Kc.of ?_; dsimp only) | dsimp only | split)

theorem Dev.panelTiming_kc {d0 d : Dev} (h : Kc d0 d) : Kc d0 (Dev.panelTiming d) := by
  unfold Dev.panelTiming
  repeat' (first
    | (with_reducible (first
      | assumption | refine ite_kc ?_ ?_ | refine Dev.each_kc ?_ ?_ | refine Dev.sg_kc ?_
      | refine Kt.activeSet ?_ | refine Kc.to ?_))
    | (intro _) | (refine Kc.of ?_; dsimp only) | dsimp only | split)

theorem Dev.statusPicture_kc {d0 d : Dev} (h : Kc d0 d) : Kc d0 (Dev.statusPicture d) := by
  unfold Dev.statusPicture
  repeat' (first
    | (with_reducible (first
      | assumption | refine ite_kc ?_ ?_ | refine foldFst_kc ?_ ?_ | refine foldl_kc ?_ ?_ | refine Dev.sg_kc ?_
      | refine Dev.panelTiming_kc ?_ | refine Dev.openFrame_kc ?_ | refine Dev.up_kc ?_ | refine Kt.activeSet ?_ | refine Kt.activeBlk ?_
      | refine Kt.proofSet ?_ | refine Kt.proofBlk ?_ | refine Kt.regsMap ?_ | refine Kt.activeBlks ?_
      | refine Kt.proofBlks ?_ | refine Kc.to ?_ | refine Kt.memNil ?_))
    | (intro _) | (refine Kc.of ?_; dsimp only) | dsimp only | split)

theorem Dev.plugDone_kc {d0 d : Dev} {x1 x2 : _} (h : Kc d0 d) : Kc d0 (Dev.plugDone d x1 x2) := by
  unfold Dev.plugDone
  repeat' (first
    | (with_reducible (first
      | assumption | refine ite_kc ?_ ?_ | refine Dev.statusPicture_kc ?_ | refine Dev.onlyIf_kc ?_ ?_
      | refine hpdPlug_kc ?_ | refine Kc.to ?_))
    | (intro _) | (refine Kc.of ?_; dsimp only) | dsimp only | split)

theorem Dev.rasterStart_kc {d0 d : Dev} {x1 : _} (h : Kc d0 d) : Kc d0 (Dev.rasterStart d x1) := by
  unfold Dev.rasterStart
  repeat' (first
    | (with_reducible (first
      | assumption | refine ite_kc ?_ ?_ | refine Dev.sg_kc ?_ | refine Dev.genEnter_kc ?_
      | refine Dev.putPst_kc ?_ | refine Dev.setStep_kc ?_ | refine Dev.up_kc ?_ | refine Dev.openFrame_kc ?_
      | refine Kc.to ?_))
    | (intro _) | (refine Kc.of ?_; dsimp only) | dsimp only | split)

theorem Dev.stepDone_kc {d0 d : Dev} {x1 : _} (h : Kc d0 d) : Kc d0 (Dev.stepDone d x1) := by
  unfold Dev.stepDone
  repeat' (first
    | (with_reducible (first
      | assumption | refine ite_kc ?_ ?_ | refine Dev.rasterStart_kc ?_ | refine Kc.to ?_))
    | (intro _) | (refine Kc.of ?_; dsimp only) | dsimp only | split)

theorem Dev.trainDone_kc {d0 d : Dev} {x1 : _} (h : Kc d0 d) : Kc d0 (Dev.trainDone d x1) := by
  unfold Dev.trainDone
  repeat' (first
    | (with_reducible (first
      | assumption | refine ite_kc ?_ ?_ | refine Kc.to ?_))
    | (intro _) | (refine Kc.of ?_; dsimp only) | dsimp only | split)

theorem hpdUnplug_kc {d0 d : Dev} {x0 : _} (h : Kc d0 d) : Kc d0 (hpdUnplug x0 d) := by
  unfold hpdUnplug
  repeat' (first
    | (with_reducible (first
      | assumption | refine ite_kc ?_ ?_ | refine Dev.hdcpTo_kc ?_ | refine Dev.trainDone_kc ?_
      | refine Dev.stepDone_kc ?_ | refine Dev.dn_kc ?_ | refine Dev.up_kc ?_ | refine Dev.attn_kc ?_
      | refine Kc.to ?_))
    | (intro _) | (refine Kc.of ?_; dsimp only) | dsimp only | split)

theorem irqHpd_kc {d0 d : Dev} {x0 x1 x2 : _} (h : Kc d0 d) : Kc d0 (irqHpd x0 x1 x2 d) := by
  unfold irqHpd
  repeat' (first
    | (with_reducible (first
      | assumption | refine ite_kc ?_ ?_ | refine Dev.hdcpAgain_kc ?_ | refine Dev.incSat_kc ?_
      | refine Dev.dn_kc ?_ | refine Dev.train_kc ?_ | refine Dev.up_kc ?_ | refine Kc.to ?_))
    | (intro _) | (refine Kc.of ?_; dsimp only) | dsimp only | split)

theorem hpdAnswer_kc {d0 d : Dev} {x0 : _} (h : Kc d0 d) : Kc d0 (hpdAnswer x0 d) := by
  unfold hpdAnswer
  repeat' (first
    | (with_reducible (first
      | assumption | refine ite_kc ?_ ?_ | refine irqHpd_kc ?_ | refine hpdUnplug_kc ?_
      | refine Dev.plugDone_kc ?_ | refine Kc.to ?_))
    | (intro _) | (refine Kc.of ?_; dsimp only) | dsimp only | split)

theorem Dev.hpdFlush_kc {d0 d : Dev} (h : Kc d0 d) : Kc d0 (Dev.hpdFlush d) := by
  unfold Dev.hpdFlush
  repeat' (first
    | (with_reducible (first
      | assumption | refine ite_kc ?_ ?_ | refine Dev.each_kc ?_ ?_ | refine hpdAnswer_kc ?_ | refine Kc.to ?_))
    | (intro _) | (refine Kc.of ?_; dsimp only) | dsimp only | split)

theorem Dev.tickCarry_kc {d0 d : Dev} (h : Kc d0 d) : Kc d0 (Dev.tickCarry d) := by
  unfold Dev.tickCarry
  repeat' (first
    | (with_reducible (first
      | assumption | refine ite_kc ?_ ?_ | refine Dev.sg_kc ?_ | refine Kc.to ?_))
    | (intro _) | (refine Kc.of ?_; dsimp only) | dsimp only | split)

theorem Dev.sliceStart_kc {d0 d : Dev} {x1 x2 : _} (h : Kc d0 d) : Kc d0 (Dev.sliceStart d x1 x2) := by
  unfold Dev.sliceStart
  repeat' (first
    | (with_reducible (first
      | assumption | refine ite_kc ?_ ?_ | refine Dev.up_kc ?_ | refine Dev.sg_kc ?_ | refine Kc.to ?_))
    | (intro _) | (refine Kc.of ?_; dsimp only) | dsimp only | split)

theorem Dev.testNext_kc {d0 d : Dev} (h : Kc d0 d) : Kc d0 (Dev.testNext d).1 := by
  unfold Dev.testNext
  repeat' (first
    | (with_reducible (first
      | assumption | refine ite_kc ?_ ?_ | refine Dev.sliceStart_kc ?_ | refine Kc.to ?_))
    | (intro _) | (refine Kc.of ?_; dsimp only) | dsimp only | split)

theorem Dev.mark_kc {d0 d : Dev} {x1 x2 x3 x4 : _} (h : Kc d0 d) : Kc d0 (Dev.mark d x1 x2 x3 x4) := by
  unfold Dev.mark
  repeat' (first
    | (with_reducible (first
      | assumption | refine ite_kc ?_ ?_ | refine foldFst_kc ?_ ?_ | refine foldl_kc ?_ ?_
      | refine Dev.putFrame_kc ?_ | refine Kc.to ?_))
    | (intro _) | (refine Kc.of ?_; dsimp only) | dsimp only | split)

theorem Dev.tileInvalid_kc {d0 d : Dev} {x1 x2 x3 x4 x5 : _} (h : Kc d0 d) :
    Kc d0 (Dev.tileInvalid d x1 x2 x3 x4 x5) := by
  unfold Dev.tileInvalid
  repeat' (first
    | (with_reducible (first
      | assumption | refine ite_kc ?_ ?_ | refine Dev.mark_kc ?_ | refine Dev.putTile_kc ?_
      | refine Dev.putCrust_kc ?_ | refine Dev.onlyIf_kc ?_ ?_ | refine Dev.up_kc ?_ | refine Dev.logOpen_kc ?_
      | refine Kc.to ?_))
    | (intro _) | (refine Kc.of ?_; dsimp only) | dsimp only | split)

theorem crustDataParity_kc {d0 d : Dev} {x0 x1 x2 : _} (h : Kc d0 d) : Kc d0 (crustDataParity x0 x1 x2 d) := by
  unfold crustDataParity
  repeat' (first
    | (with_reducible (first
      | assumption | refine ite_kc ?_ ?_ | refine Dev.tileInvalid_kc ?_ | refine Kc.to ?_))
    | (intro _) | (refine Kc.of ?_; dsimp only) | dsimp only | split)

theorem Dev.ramParity_kc {d0 d : Dev} {x1 x2 : _} (h : Kc d0 d) : Kc d0 (Dev.ramParity d x1 x2) := by
  unfold Dev.ramParity
  repeat' (first
    | (with_reducible (first
      | assumption | refine ite_kc ?_ ?_ | refine Dev.sg_kc ?_ | refine Dev.up_kc ?_ | refine Dev.logOpen_kc ?_
      | refine Kc.to ?_))
    | (intro _) | (refine Kc.of ?_; dsimp only) | dsimp only | split)

theorem debugChallengeExpiry_kc {d0 d : Dev} (h : Kc d0 d) : Kc d0 (debugChallengeExpiry d) := by
  unfold debugChallengeExpiry
  repeat' (first
    | (with_reducible (first
      | assumption | refine ite_kc ?_ ?_ | refine Kc.to ?_))
    | (intro _) | (refine Kc.of ?_; dsimp only) | dsimp only | split)

theorem Dev.enterActive_kc {d0 d : Dev} {x1 : _} (h : Kc d0 d) : Kc d0 (Dev.enterActive d x1).1 := by
  unfold Dev.enterActive
  repeat' (first
    | (with_reducible (first
      | assumption | refine ite_kc ?_ ?_ | refine Dev.each_kc ?_ ?_ | refine Dev.armedSeq_kc ?_
      | refine Dev.activate_kc ?_ | refine Dev.unhold_kc ?_ | refine Dev.dropArmed_kc ?_ | refine Kc.to ?_))
    | (intro _) | (refine Kc.of ?_; dsimp only) | dsimp only | split)

theorem Dev.enter_kc {d0 d : Dev} {x1 x2 : _} (h : Kc d0 d) : Kc d0 (Dev.enter d x1 x2).1 := by
  unfold Dev.enter
  repeat' (first
    | (with_reducible (first
      | assumption | refine ite_kc ?_ ?_ | refine Dev.each_kc ?_ ?_ | refine Dev.armedSeq_kc ?_
      | refine Dev.unhold_kc ?_ | refine Dev.dropArmed_kc ?_ | refine Kc.to ?_))
    | (intro _) | (refine Kc.of ?_; dsimp only) | dsimp only | split)

theorem Dev.lateFirst_kc {d0 d : Dev} {x1 : _} (h : Kc d0 d) : Kc d0 (Dev.lateFirst d x1).2 := by
  unfold Dev.lateFirst
  repeat' (first
    | (with_reducible (first
      | assumption | refine ite_kc ?_ ?_ | refine Dev.draw_kc ?_ | refine Kc.to ?_))
    | (intro _) | (refine Kc.of ?_; dsimp only) | dsimp only | split)

theorem Dev.enterAll_kc {d0 : Dev} {st : Strobe} {v : View} {l : List Snap} {r : Dev × List Snap} (h : Kc d0 r.1) :
    Kc d0 (Dev.enterAll st v l r).1 := by
  induction l generalizing r with
  | nil => exact h
  | cons s t ih =>
    obtain ⟨d, old⟩ := r
    unfold Dev.enterAll
    dsimp only
    apply ih
    dsimp only
    split
    · exact Dev.enterActive_kc (Dev.lateFirst_kc h)
    · exact Dev.enter_kc (Dev.lateFirst_kc h)

theorem Dev.grant_kc {d0 d : Dev} {x1 x2 x3 : _} (h : Kc d0 d) : Kc d0 (Dev.grant d x1 x2 x3) := by
  unfold Dev.grant
  repeat' (first
    | (with_reducible (first
      | assumption | refine ite_kc ?_ ?_ | refine foldFst_kc ?_ ?_ | refine foldl_kc ?_ ?_ | refine Kc.to ?_))
    | (intro _) | (refine Kc.of ?_; dsimp only) | dsimp only | split)

theorem Dev.releaseFor_kc {d0 d : Dev} {x1 x2 : _} (h : Kc d0 d) : Kc d0 (Dev.releaseFor d x1 x2) := by
  unfold Dev.releaseFor
  repeat' (first
    | (with_reducible (first
      | assumption | refine ite_kc ?_ ?_ | refine Dev.release_kc ?_ | refine Kc.to ?_))
    | (intro _) | (refine Kc.of ?_; dsimp only) | dsimp only | split)

theorem Dev.regrant_kc {d0 d : Dev} {x1 : _} (h : Kc d0 d) : Kc d0 (Dev.regrant d x1) := by
  unfold Dev.regrant
  repeat' (first
    | (with_reducible (first
      | assumption | refine ite_kc ?_ ?_ | refine Dev.each_kc ?_ ?_ | refine Dev.releaseFor_kc ?_
      | refine Dev.grant_kc ?_ | refine Kc.to ?_))
    | (intro _) | (refine Kc.of ?_; dsimp only) | dsimp only | split)

theorem Dev.timingActive_kc {d0 d : Dev} {x1 : _} (h : Kc d0 d) : Kc d0 (Dev.timingActive d x1) := by
  unfold Dev.timingActive
  repeat' (first
    | (with_reducible (first
      | assumption | refine ite_kc ?_ ?_ | refine Dev.each_kc ?_ ?_ | refine Dev.largeShow_kc ?_
      | refine Dev.activeSeq_kc ?_ | refine Kt.activeSet ?_ | refine Kt.activeBlk ?_ | refine Kt.proofSet ?_
      | refine Kt.proofBlk ?_ | refine Kt.regsMap ?_ | refine Kt.activeBlks ?_ | refine Kt.proofBlks ?_
      | refine Kc.to ?_ | refine Kt.memNil ?_))
    | (intro _) | (refine Kc.of ?_; dsimp only) | dsimp only | split)

theorem Dev.startPipe_kc {d0 d : Dev} {x1 : _} (h : Kc d0 d) : Kc d0 (Dev.startPipe d x1) := by
  unfold Dev.startPipe
  repeat' (first
    | (with_reducible (first
      | assumption | refine ite_kc ?_ ?_ | refine Dev.up_kc ?_ | refine Dev.timingActive_kc ?_
      | refine Dev.setStep_kc ?_ | refine Dev.putPst_kc ?_ | refine Kc.to ?_))
    | (intro _) | (refine Kc.of ?_; dsimp only) | dsimp only | split)

theorem Dev.accept_kc {d0 d : Dev} {x1 x2 : _} (h : Kc d0 d) : Kc d0 (Dev.accept d x1 x2) := by
  unfold Dev.accept
  repeat' (first
    | (with_reducible (first
      | assumption | refine ite_kc ?_ ?_ | refine Dev.each_kc ?_ ?_ | refine Dev.armShow_kc ?_
      | refine Dev.poolShow_kc ?_ | refine Dev.needShowPipe_kc ?_ | refine Dev.headroom_kc ?_
      | refine Dev.lostSweep_kc ?_ | refine Dev.change_kc ?_ | refine Dev.discarded_kc ?_
      | refine Dev.crustObsolete_kc ?_ | refine Dev.crustHold_kc ?_ | refine Dev.supersede_kc ?_
      | refine Dev.startPipe_kc ?_ | refine Dev.regrant_kc ?_ | refine Dev.enterAll_kc ?_ | refine Kc.to ?_))
    | (intro _) | (refine Kc.of ?_; dsimp only) | dsimp only | split)

theorem Dev.straps_kc {d0 d : Dev} {x1 : _} (h : Kc d0 d) : Kc d0 (Dev.straps d x1) := by
  unfold Dev.straps
  repeat' (first
    | (with_reducible (first
      | assumption | refine ite_kc ?_ ?_ | refine Dev.sg_kc ?_ | refine Kc.to ?_))
    | (intro _) | (refine Kc.of ?_; dsimp only) | dsimp only | split)

theorem Dev.strapSeen_kc {d0 d : Dev} {x1 : _} (h : Kc d0 d) : Kc d0 (Dev.strapSeen d x1) := by
  unfold Dev.strapSeen
  repeat' (first
    | (with_reducible (first
      | assumption | refine ite_kc ?_ ?_ | refine Dev.up_kc ?_ | refine Dev.onlyIf_kc ?_ ?_ | refine Kc.to ?_))
    | (intro _) | (refine Kc.of ?_; dsimp only) | dsimp only | split)

theorem Dev.edpStrap_kc {d0 d : Dev} (h : Kc d0 d) : Kc d0 (Dev.edpStrap d) := by
  unfold Dev.edpStrap
  repeat' (first
    | (with_reducible (first
      | assumption | refine ite_kc ?_ ?_ | refine Kt.activeSet ?_ | refine Kt.activeBlk ?_ | refine Kt.proofSet ?_
      | refine Kt.proofBlk ?_ | refine Kt.regsMap ?_ | refine Kt.activeBlks ?_ | refine Kt.proofBlks ?_
      | refine Kc.to ?_ | refine Kt.memNil ?_))
    | (intro _) | (refine Kc.of ?_; dsimp only) | dsimp only | split)

theorem Dev.cfgApply_kc {d0 d : Dev} (h : Kc d0 d) : Kc d0 (Dev.cfgApply d) := by
  unfold Dev.cfgApply
  repeat' (first
    | (with_reducible (first
      | assumption | refine ite_kc ?_ ?_ | refine Dev.sg_kc ?_ | refine Dev.logE_kc ?_ | refine Dev.attn_kc ?_
      | refine Dev.onlyIf_kc ?_ ?_ | refine Kc.to ?_))
    | (intro _) | (refine Kc.of ?_; dsimp only) | dsimp only | split)

theorem Dev.logSev_kc {d0 d : Dev} {x1 : _} (h : Kc d0 d) : Kc d0 (Dev.logSev d x1) := by
  unfold Dev.logSev
  repeat' (first
    | (with_reducible (first
      | assumption | refine ite_kc ?_ ?_ | refine Dev.logE_kc ?_ | refine Dev.draw_kc ?_ | refine Kc.to ?_))
    | (intro _) | (refine Kc.of ?_; dsimp only) | dsimp only | split)

theorem Dev.fenceOff_kc {d0 d : Dev} (h : Kc d0 d) : Kc d0 (Dev.fenceOff d) := by
  unfold Dev.fenceOff
  repeat' (first
    | (with_reducible (first
      | assumption | refine ite_kc ?_ ?_ | refine Dev.each_kc ?_ ?_ | refine Dev.logSev_kc ?_
      | refine Dev.attn_kc ?_ | refine Dev.onlyIf_kc ?_ ?_ | refine Dev.sg_kc ?_ | refine Kc.to ?_))
    | (intro _) | (refine Kc.of ?_; dsimp only) | dsimp only | split)

theorem Dev.healthApply_kc {d0 d : Dev} (h : Kc d0 d) : Kc d0 (Dev.healthApply d) := by
  unfold Dev.healthApply
  repeat' (first
    | (with_reducible (first
      | assumption | refine ite_kc ?_ ?_ | refine Dev.sg_kc ?_ | refine Kc.to ?_))
    | (intro _) | (refine Kc.of ?_; dsimp only) | dsimp only | split)

theorem Dev.judge_kc {d0 d : Dev} (h : Kc d0 d) : Kc d0 (Dev.judge d) := by
  unfold Dev.judge
  repeat' (first
    | (with_reducible (first
      | assumption | refine ite_kc ?_ ?_ | refine Dev.incSat_kc ?_ | refine Kc.to ?_))
    | (intro _) | (refine Kc.of ?_; dsimp only) | dsimp only | split)

theorem Dev.slotTo_kc {d0 d : Dev} {x1 x2 : _} (h : Kc d0 d) : Kc d0 (Dev.slotTo d x1 x2) := by
  unfold Dev.slotTo
  repeat' (first
    | (with_reducible (first
      | assumption | refine ite_kc ?_ ?_ | refine Kc.to ?_))
    | (intro _) | (refine Kc.of ?_; dsimp only) | dsimp only | split)

theorem Dev.slotChoose_kc {d0 d : Dev} {pass : BitVec 2} {l : List Nat} (h : Kc d0 d) :
    Kc d0 (Dev.slotChoose pass l d).1 := by
  induction l generalizing d with
  | nil => exact h
  | cons s t ih =>
    unfold Dev.slotChoose
    split
    · exact h
    · exact ih (Dev.attn_kc (Dev.logE_kc (Dev.slotTo_kc h)))

theorem Dev.keyStep_kc {d0 d : Dev} {x1 : _} (h : Kc d0 d) : Kc d0 (Dev.keyStep d x1) := by
  unfold Dev.keyStep
  repeat' (first
    | (with_reducible (first
      | assumption | refine ite_kc ?_ ?_ | refine Dev.up_kc ?_ | refine Kc.to ?_))
    | (intro _) | (refine Kc.of ?_; dsimp only) | dsimp only | split)

theorem Dev.startBoot_kc {d0 d : Dev} {x1 : _} (h : Kc d0 d) : Kc d0 (Dev.startBoot d x1).1 := by
  unfold Dev.startBoot
  repeat' (first
    | (with_reducible (first
      | assumption | refine ite_kc ?_ ?_ | refine Dev.sg_kc ?_ | refine Dev.keyStep_kc ?_
      | refine Dev.slotChoose_kc ?_ | refine Dev.up_kc ?_ | refine Dev.judge_kc ?_ | refine Dev.healthApply_kc ?_
      | refine Dev.fenceOff_kc ?_ | refine Dev.cfgApply_kc ?_ | refine Kc.to ?_))
    | (intro _) | (refine Kc.of ?_; dsimp only) | dsimp only | split)

theorem Dev.healthWrite_kc {d0 d : Dev} {x0 : _} (h : Kc d0 d) : Kc d0 (Dev.healthWrite x0 d) := by
  unfold Dev.healthWrite
  repeat' (first
    | (with_reducible (first
      | assumption | refine ite_kc ?_ ?_ | refine Dev.mramStore_kc ?_ | refine Kc.to ?_))
    | (intro _) | (refine Kc.of ?_; dsimp only) | dsimp only | split)

theorem Dev.healthUpdate_kc {d0 d : Dev} {x1 : _} (h : Kc d0 d) : Kc d0 (Dev.healthUpdate d x1) := by
  unfold Dev.healthUpdate
  repeat' (first
    | (with_reducible (first
      | assumption | refine ite_kc ?_ ?_ | refine Dev.healthWrite_kc ?_ | refine Kc.to ?_))
    | (intro _) | (refine Kc.of ?_; dsimp only) | dsimp only | split)

theorem Dev.startTest_kc {d0 d : Dev} {x1 : _} (h : Kc d0 d) : Kc d0 (Dev.startTest d x1) := by
  unfold Dev.startTest
  repeat' (first
    | (with_reducible (first
      | assumption | refine ite_kc ?_ ?_ | refine Dev.attn_kc ?_ | refine Dev.healthUpdate_kc ?_
      | refine Dev.onlyIf_kc ?_ ?_ | refine Kc.to ?_))
    | (intro _) | (refine Kc.of ?_; dsimp only) | dsimp only | split)

theorem Dev.starterReason_kc {d0 d : Dev} {x1 : _} (h : Kc d0 d) : Kc d0 (Dev.starterReason d x1) := by
  unfold Dev.starterReason
  repeat' (first
    | (with_reducible (first
      | assumption | refine ite_kc ?_ ?_ | refine Dev.sg_kc ?_ | refine Kc.to ?_))
    | (intro _) | (refine Kc.of ?_; dsimp only) | dsimp only | split)

theorem Dev.starterEnter_kc {d0 d : Dev} {x1 x2 : _} (h : Kc d0 d) : Kc d0 (Dev.starterEnter d x1 x2) := by
  unfold Dev.starterEnter
  repeat' (first
    | (with_reducible (first
      | assumption | refine ite_kc ?_ ?_ | refine Dev.statusPicture_kc ?_ | refine Dev.poolShow_kc ?_
      | refine Dev.sg_kc ?_ | refine Dev.starterReason_kc ?_ | refine Dev.dn_kc ?_ | refine Dev.attn_kc ?_
      | refine Kc.to ?_))
    | (intro _) | (refine Kc.of ?_; dsimp only) | dsimp only | split)

theorem Dev.coefLoad_kc {d0 d : Dev} (h : Kc d0 d) : Kc d0 d.coefLoad := by
  unfold Dev.coefLoad
  generalize coefTab = t
  exact h.tabs Tab.wf_merge id id id id id id

theorem Dev.minToRun_kc {d0 d : Dev} (h : Kc d0 d) : Kc d0 (Dev.minToRun d) := by
  unfold Dev.minToRun
  repeat' (first
    | (with_reducible (first
      | assumption | refine ite_kc ?_ ?_ | refine Dev.sg_kc ?_ | refine Kc.to ?_))
    | (intro _) | (refine Kc.of ?_; dsimp only) | dsimp only | split)

theorem Dev.marginShow_kc {d0 d : Dev} (h : Kc d0 d) : Kc d0 (Dev.marginShow d) := by
  unfold Dev.marginShow
  repeat' (first
    | (with_reducible (first
      | assumption | refine ite_kc ?_ ?_ | refine Dev.each_kc ?_ ?_ | refine Dev.sg_kc ?_ | refine Kc.to ?_))
    | (intro _) | (refine Kc.of ?_; dsimp only) | dsimp only | split)

theorem Dev.targets_kc {d0 d : Dev} (h : Kc d0 d) : Kc d0 (Dev.targets d) := by
  unfold Dev.targets
  repeat' (first
    | (with_reducible (first
      | assumption | refine ite_kc ?_ ?_ | refine Dev.each_kc ?_ ?_ | refine Dev.sg_kc ?_ | refine Kc.to ?_))
    | (intro _) | (refine Kc.of ?_; dsimp only) | dsimp only | split)

theorem Dev.setTrim_kc {d0 d : Dev} {x1 x2 : _} (h : Kc d0 d) : Kc d0 (Dev.setTrim d x1 x2) := by
  unfold Dev.setTrim
  repeat' (first
    | (with_reducible (first
      | assumption | refine ite_kc ?_ ?_ | refine Dev.sg_kc ?_ | refine Dev.targets_kc ?_ | refine Kc.to ?_))
    | (intro _) | (refine Kc.of ?_; dsimp only) | dsimp only | split)

theorem Dev.capShow_kc {d0 d : Dev} (h : Kc d0 d) : Kc d0 (Dev.capShow d) := by
  unfold Dev.capShow
  repeat' (first
    | (with_reducible (first
      | assumption | refine ite_kc ?_ ?_ | refine Dev.each_kc ?_ ?_ | refine Dev.overShow_kc ?_ | refine Dev.sg_kc ?_ | refine Kc.to ?_))
    | (intro _) | (refine Kc.of ?_; dsimp only) | dsimp only | split)

theorem Dev.planApply_kc {d0 d : Dev} {x0 : _} (h : Kc d0 d) : Kc d0 (Dev.planApply x0 d) := by
  unfold Dev.planApply
  repeat' (first
    | (with_reducible (first
      | assumption | refine ite_kc ?_ ?_ | refine Dev.sg_kc ?_ | refine Dev.capShow_kc ?_
      | refine Dev.setTrim_kc ?_ | refine Kc.to ?_))
    | (intro _) | (refine Kc.of ?_; dsimp only) | dsimp only | split)

theorem Dev.planLog_kc {d0 d : Dev} {x0 : _} (h : Kc d0 d) : Kc d0 (Dev.planLog x0 d) := by
  unfold Dev.planLog
  repeat' (first
    | (with_reducible (first
      | assumption | refine ite_kc ?_ ?_ | refine Dev.planApply_kc ?_ | refine Dev.logE_kc ?_ | refine Kc.to ?_))
    | (intro _) | (refine Kc.of ?_; dsimp only) | dsimp only | split)

theorem Dev.causeSet_kc {d0 d : Dev} {x1 : _} (h : Kc d0 d) : Kc d0 (Dev.causeSet d x1) := by
  unfold Dev.causeSet
  repeat' (first
    | (with_reducible (first
      | assumption | refine ite_kc ?_ ?_ | refine Dev.logE_kc ?_ | refine Dev.capShow_kc ?_
      | refine Dev.orBits_kc ?_ | refine Kc.to ?_))
    | (intro _) | (refine Kc.of ?_; dsimp only) | dsimp only | split)

theorem Dev.clrBits_kc {d0 d : Dev} {x1 x2 : _} (h : Kc d0 d) : Kc d0 (Dev.clrBits d x1 x2) := by
  unfold Dev.clrBits
  repeat' (first
    | (with_reducible (first
      | assumption | refine ite_kc ?_ ?_ | refine Dev.sg_kc ?_ | refine Kc.to ?_))
    | (intro _) | (refine Kc.of ?_; dsimp only) | dsimp only | split)

theorem Dev.causeClear_kc {d0 d : Dev} {x1 : _} (h : Kc d0 d) : Kc d0 (Dev.causeClear d x1) := by
  unfold Dev.causeClear
  repeat' (first
    | (with_reducible (first
      | assumption | refine ite_kc ?_ ?_ | refine Dev.clrBits_kc ?_ | refine Dev.capShow_kc ?_ | refine Kc.to ?_))
    | (intro _) | (refine Kc.of ?_; dsimp only) | dsimp only | split)

theorem Dev.planTake_kc {d0 d : Dev} {x1 : _} (h : Kc d0 d) : Kc d0 (Dev.planTake d x1) := by
  unfold Dev.planTake
  repeat' (first
    | (with_reducible (first
      | assumption | refine ite_kc ?_ ?_ | refine Dev.each_kc ?_ ?_ | refine Dev.causeClear_kc ?_
      | refine Dev.causeSet_kc ?_ | refine Dev.onlyIf_kc ?_ ?_ | refine Dev.incSat_kc ?_ | refine Dev.attn_kc ?_
      | refine Dev.healthUpdate_kc ?_ | refine Dev.planLog_kc ?_ | refine Dev.marginShow_kc ?_ | refine Kc.to ?_))
    | (intro _) | (refine Kc.of ?_; dsimp only) | dsimp only | split)

theorem Dev.leavenTick_kc {d0 d : Dev} (h : Kc d0 d) : Kc d0 (Dev.leavenTick d) := by
  unfold Dev.leavenTick
  repeat' (first
    | (with_reducible (first
      | assumption | refine ite_kc ?_ ?_ | refine Dev.planTake_kc ?_ | refine Kc.to ?_))
    | (intro _) | (refine Kc.of ?_; dsimp only) | dsimp only | split)

end Sys2Proof.Machine
end

