-- ==== Sys2Proof/Laws/CanonB.lean ====
section
/-! SUPPORT.  Every operation keeps the canonical form of the tables, part 2 of 4: one lemma for each operation that returns a device. -/

set_option linter.unusedTactic false
set_option linter.unreachableTactic false

namespace Sys2Proof.Machine

theorem Dev.leavenMeasure_kc {d0 d : Dev} {x1 x2 : _} (h : Kc d0 d) : Kc d0 (Dev.leavenMeasure d x1 x2) := by
  unfold Dev.leavenMeasure
  repeat' (first
    | (with_reducible (first
      | assumption | refine ite_kc ?_ ?_ | refine Dev.each_kc ?_ ?_ | refine Dev.marginShow_kc ?_
      | refine Dev.sg_kc ?_ | refine Kc.to ?_))
    | (intro _) | (refine Kc.of ?_; dsimp only) | dsimp only | split)

theorem Dev.dramStart_kc {d0 d : Dev} {seen : StartSeen} (h : Kc d0 d) : Kc d0 (d.dramStart seen) := by
  unfold Dev.dramStart
  extract_lets ok size d1 raw d2 d3 kept
  have h3 : Kc d0 d3 := Dev.each_kc (fun _ _ k => Dev.sg_kc (Dev.sg_kc k)) (Dev.sg_kc (Dev.sg_kc (Dev.sg_kc h)))
  clear_value d3 kept
  exact Dev.sg_kc (Kc.of (iteMem_kt h3.to))

theorem Dev.startDram_kc {d0 d : Dev} {x1 : _} (h : Kc d0 d) : Kc d0 (Dev.startDram d x1) := by
  unfold Dev.startDram
  repeat' (first
    | (with_reducible (first
      | assumption | refine ite_kc ?_ ?_ | refine Dev.dramStart_kc ?_ | refine Dev.leavenMeasure_kc ?_
      | refine Dev.leavenTick_kc ?_ | refine Dev.minToRun_kc ?_ | refine Dev.coefLoad_kc ?_ | refine Kc.to ?_))
    | (intro _) | (refine Kc.of ?_; dsimp only) | dsimp only | split)

theorem Dev.timingProof_kc {d0 d : Dev} {x1 x2 : _} (h : Kc d0 d) : Kc d0 (Dev.timingProof d x1 x2) := by
  unfold Dev.timingProof
  repeat' (first
    | (with_reducible (first
      | assumption | refine ite_kc ?_ ?_ | refine foldFst_kc ?_ ?_ | refine foldl_kc ?_ ?_
      | refine Dev.spWord_kc ?_ | refine Kc.to ?_))
    | (intro _) | (refine Kc.of ?_; dsimp only) | dsimp only | split)

theorem Dev.register_kc {d0 d : Dev} {x1 x2 x3 : _} (h : Kc d0 d) : Kc d0 (Dev.register d x1 x2 x3).2.2 := by
  unfold Dev.register
  repeat' (first
    | (with_reducible (first
      | assumption | refine ite_kc ?_ ?_ | refine Dev.sg_kc ?_ | refine Dev.dn_kc ?_ | refine Dev.up_kc ?_
      | refine Dev.putSurf_kc ?_ | refine Dev.surfOcc_kc ?_ | refine Kc.to ?_))
    | (intro _) | (refine Kc.of ?_; dsimp only) | dsimp only | split)

theorem Dev.putSvc_kc {d0 d : Dev} {x1 x2 : _} (h : Kc d0 d) : Kc d0 (Dev.putSvc d x1 x2) := by
  unfold Dev.putSvc
  repeat' (first
    | (with_reducible (first
      | assumption | refine ite_kc ?_ ?_ | refine Kc.to ?_))
    | (intro _) | (refine Kc.of ?_; dsimp only) | dsimp only | split)

theorem Dev.overlaysOn_kc {d0 d : Dev} {x1 x2 : _} (h : Kc d0 d) : Kc d0 (Dev.overlaysOn d x1 x2) := by
  unfold Dev.overlaysOn
  repeat' (first
    | (with_reducible (first
      | assumption | refine ite_kc ?_ ?_ | refine Dev.each_kc ?_ ?_ | refine Dev.putSvc_kc ?_
      | refine Dev.register_kc ?_ | refine Kc.to ?_))
    | (intro _) | (refine Kc.of ?_; dsimp only) | dsimp only | split)

theorem Dev.capture_kc {d0 d : Dev} {x1 x2 : _} (h : Kc d0 d) : Kc d0 (Dev.capture d x1 x2) := by
  unfold Dev.capture
  repeat' (first
    | (with_reducible (first
      | assumption | refine ite_kc ?_ ?_ | refine Dev.each_kc ?_ ?_ | refine Dev.sg_kc ?_ | refine Dev.up_kc ?_
      | refine Kc.to ?_))
    | (intro _) | (refine Kc.of ?_; dsimp only) | dsimp only | split)

theorem Dev.parityReport_kc {d0 d : Dev} {x1 : _} (h : Kc d0 d) : Kc d0 (Dev.parityReport d x1) := by
  unfold Dev.parityReport
  repeat' (first
    | (with_reducible (first
      | assumption | refine ite_kc ?_ ?_ | refine Dev.logE_kc ?_ | refine Dev.capture_kc ?_ | refine Dev.up_kc ?_
      | refine Dev.faultSum_kc ?_ | refine Kc.to ?_))
    | (intro _) | (refine Kc.of ?_; dsimp only) | dsimp only | split)

theorem Dev.snapParity_kc {d0 d : Dev} {x1 : _} (h : Kc d0 d) : Kc d0 (Dev.snapParity d x1) := by
  unfold Dev.snapParity
  repeat' (first
    | (with_reducible (first
      | assumption | refine ite_kc ?_ ?_ | refine Dev.each_kc ?_ ?_ | refine Dev.parityReport_kc ?_
      | refine Kc.to ?_))
    | (intro _) | (refine Kc.of ?_; dsimp only) | dsimp only | split)

theorem Dev.declShow_kc {d0 d : Dev} (h : Kc d0 d) : Kc d0 (Dev.declShow d) := by
  unfold Dev.declShow
  repeat' (first
    | (with_reducible (first
      | assumption | refine ite_kc ?_ ?_ | refine Dev.headroom_kc ?_ | refine Kc.to ?_))
    | (intro _) | (refine Kc.of ?_; dsimp only) | dsimp only | split)

theorem declTestEnd_kc {d0 d : Dev} (h : Kc d0 d) : Kc d0 (declTestEnd d) := by
  unfold declTestEnd
  repeat' (first
    | (with_reducible (first
      | assumption | refine ite_kc ?_ ?_ | refine Dev.up_kc ?_ | refine Dev.declShow_kc ?_ | refine Dev.sg_kc ?_
      | refine Dev.dn_kc ?_ | refine Kc.to ?_))
    | (intro _) | (refine Kc.of ?_; dsimp only) | dsimp only | split)

theorem Dev.report_kc {d0 d : Dev} {x1 x2 : _} (h : Kc d0 d) : Kc d0 (Dev.report d x1 x2) := by
  unfold Dev.report
  repeat' (first
    | (with_reducible (first
      | assumption | refine ite_kc ?_ ?_ | refine Dev.dn_kc ?_ | refine Dev.up_kc ?_ | refine Dev.incSat_kc ?_
      | refine Dev.sg_kc ?_ | refine Kc.to ?_))
    | (intro _) | (refine Kc.of ?_; dsimp only) | dsimp only | split)

theorem commitValidationEnd_kc {d0 d : Dev} {x0 : _} (h : Kc d0 d) : Kc d0 (commitValidationEnd x0 d) := by
  unfold commitValidationEnd
  repeat' (first
    | (with_reducible (first
      | assumption | refine ite_kc ?_ ?_ | refine Dev.accept_kc ?_ | refine Dev.report_kc ?_
      | refine Dev.lostSweep_kc ?_ | refine Kc.to ?_))
    | (intro _) | (refine Kc.of ?_; dsimp only) | dsimp only | split)

theorem Dev.drain_kc {d0 d : Dev} (h : Kc d0 d) : Kc d0 (Dev.drain d) := by
  unfold Dev.drain
  repeat' (first
    | (with_reducible (first
      | assumption | refine ite_kc ?_ ?_ | refine Dev.each_kc ?_ ?_ | refine commitValidationEnd_kc ?_
      | refine declTestEnd_kc ?_ | refine Kc.to ?_))
    | (intro _) | (refine Kc.of ?_; dsimp only) | dsimp only | split)

theorem Dev.lateCount_kc {d0 d : Dev} {x1 : _} (h : Kc d0 d) : Kc d0 (Dev.lateCount d x1) := by
  unfold Dev.lateCount
  repeat' (first
    | (with_reducible (first
      | assumption | refine ite_kc ?_ ?_ | refine Dev.up_kc ?_ | refine Dev.incSat_kc ?_ | refine Kc.to ?_))
    | (intro _) | (refine Kc.of ?_; dsimp only) | dsimp only | split)

theorem Dev.fwCommit_kc {d0 d : Dev} {x1 : _} (h : Kc d0 d) : Kc d0 (Dev.fwCommit d x1).2.2 := by
  unfold Dev.fwCommit
  repeat' (first
    | (with_reducible (first
      | assumption | refine ite_kc ?_ ?_ | refine Dev.each_kc ?_ ?_ | refine Dev.accept_kc ?_
      | refine Dev.report_kc ?_ | refine Dev.lostSweep_kc ?_ | refine Dev.sg_kc ?_ | refine Dev.attn_kc ?_
      | refine Dev.lateCount_kc ?_ | refine Dev.onlyIf_kc ?_ ?_ | refine Dev.drain_kc ?_
      | refine Dev.snapParity_kc ?_ | refine Kc.to ?_))
    | (intro _) | (refine Kc.of ?_; dsimp only) | dsimp only | split)

theorem Dev.serviceRestart_kc {d0 d : Dev} {x1 : _} (h : Kc d0 d) : Kc d0 (Dev.serviceRestart d x1) := by
  unfold Dev.serviceRestart
  repeat' (first
    | (with_reducible (first
      | assumption | refine ite_kc ?_ ?_ | refine Dev.logE_kc ?_ | refine Dev.fwCommit_kc ?_
      | refine Dev.overlaysOn_kc ?_ | refine Dev.timingProof_kc ?_ | refine Kc.to ?_))
    | (intro _) | (refine Kc.of ?_; dsimp only) | dsimp only | split)

theorem Dev.storeShow_kc {d0 d : Dev} (h : Kc d0 d) : Kc d0 (Dev.storeShow d) := by
  unfold Dev.storeShow
  repeat' (first
    | (with_reducible (first
      | assumption | refine ite_kc ?_ ?_ | refine Dev.sg_kc ?_ | refine Kc.to ?_))
    | (intro _) | (refine Kc.of ?_; dsimp only) | dsimp only | split)

theorem Dev.planBudget_kc {d0 d : Dev} (h : Kc d0 d) : Kc d0 (Dev.planBudget d) := by
  unfold Dev.planBudget
  repeat' (first
    | (with_reducible (first
      | assumption | refine ite_kc ?_ ?_ | refine Dev.each_kc ?_ ?_ | refine Dev.dn_kc ?_ | refine Dev.up_kc ?_
      | refine Dev.attn_kc ?_ | refine Dev.logOpen_kc ?_ | refine Dev.needShowPipe_kc ?_
      | refine Dev.headroom_kc ?_ | refine Dev.sg_kc ?_ | refine Kc.to ?_))
    | (intro _) | (refine Kc.of ?_; dsimp only) | dsimp only | split)

theorem Dev.serviceBegin_kc {d0 d : Dev} (h : Kc d0 d) : Kc d0 (Dev.serviceBegin d) := by
  unfold Dev.serviceBegin
  repeat' (first
    | (with_reducible (first
      | assumption | refine ite_kc ?_ ?_ | refine Dev.each_kc ?_ ?_ | refine Dev.targets_kc ?_
      | refine Dev.planBudget_kc ?_ | refine Dev.storeShow_kc ?_ | refine Dev.serviceRestart_kc ?_
      | refine Dev.sq3Show_kc ?_ | refine Dev.sg_kc ?_ | refine Dev.starterReason_kc ?_ | refine Dev.dn_kc ?_
      | refine Dev.poolShow_kc ?_ | refine Dev.capShow_kc ?_ | refine Kc.to ?_))
    | (intro _) | (refine Kc.of ?_; dsimp only) | dsimp only | split)

theorem Dev.startRun_kc {d0 d : Dev} {x1 x2 : _} (h : Kc d0 d) : Kc d0 (Dev.startRun d x1 x2) := by
  unfold Dev.startRun
  repeat' (first
    | (with_reducible (first
      | assumption | refine ite_kc ?_ ?_ | refine Dev.serviceBegin_kc ?_ | refine Dev.startDram_kc ?_
      | refine Dev.starterEnter_kc ?_ | refine Dev.sg_kc ?_ | refine Dev.startTest_kc ?_ | refine Dev.attn_kc ?_
      | refine Dev.logE_kc ?_ | refine Kc.to ?_))
    | (intro _) | (refine Kc.of ?_; dsimp only) | dsimp only | split)

theorem resetRelease_kc {d0 d : Dev} {x0 : _} (h : Kc d0 d) : Kc d0 (resetRelease x0 d) := by
  unfold resetRelease
  repeat' (first
    | (with_reducible (first
      | assumption | refine ite_kc ?_ ?_ | refine Dev.startRun_kc ?_ | refine Dev.startBoot_kc ?_
      | refine Dev.dn_kc ?_ | refine Dev.edpStrap_kc ?_ | refine Dev.sg_kc ?_ | refine Dev.up_kc ?_
      | refine Dev.strapSeen_kc ?_ | refine Dev.straps_kc ?_ | refine Kc.to ?_))
    | (intro _) | (refine Kc.of ?_; dsimp only) | dsimp only | split)

theorem Dev.hpdSeen_kc {d0 d : Dev} {x1 x2 : _} (h : Kc d0 d) : Kc d0 (Dev.hpdSeen d x1 x2) := by
  unfold Dev.hpdSeen
  repeat' (first
    | (with_reducible (first
      | assumption | refine ite_kc ?_ ?_ | refine hpdAnswer_kc ?_ | refine Kc.to ?_))
    | (intro _) | (refine Kc.of ?_; dsimp only) | dsimp only | split)

theorem Dev.hpdServe_kc {d0 d : Dev} (h : Kc d0 d) : Kc d0 (Dev.hpdServe d) := by
  unfold Dev.hpdServe
  repeat' (first
    | (with_reducible (first
      | assumption | refine ite_kc ?_ ?_ | refine Dev.each_kc ?_ ?_ | refine Dev.hpdSeen_kc ?_ | refine Kc.to ?_))
    | (intro _) | (refine Kc.of ?_; dsimp only) | dsimp only | split)

theorem resetReleaseEvent_kc {d0 d : Dev} {x0 : _} (h : Kc d0 d) : Kc d0 (resetReleaseEvent x0 d) := by
  unfold resetReleaseEvent
  repeat' (first
    | (with_reducible (first
      | assumption | refine ite_kc ?_ ?_ | refine Dev.hpdServe_kc ?_ | refine resetRelease_kc ?_ | refine Kc.to ?_))
    | (intro _) | (refine Kc.of ?_; dsimp only) | dsimp only | split)

theorem Dev.unregister_kc {d0 d : Dev} {x1 : _} (h : Kc d0 d) : Kc d0 (Dev.unregister d x1).2 := by
  unfold Dev.unregister
  repeat' (first
    | (with_reducible (first
      | assumption | refine ite_kc ?_ ?_ | refine Dev.putSurf_kc ?_ | refine Dev.surfOcc_kc ?_ | refine Kc.to ?_))
    | (intro _) | (refine Kc.of ?_; dsimp only) | dsimp only | split)

theorem opSurfUnregister_kc {d0 d : Dev} {x0 : _} (h : Kc d0 d) : AnsKc d0 (opSurfUnregister x0 d) := by
  unfold opSurfUnregister
  repeat' (first
    | (with_reducible (first
      | assumption | refine ite_kc ?_ ?_ | refine AnsKc.mk ?_ ?_ | refine id_kc ?_ | refine iteAns_kc ?_ ?_
      | refine Dev.unregister_kc ?_ | refine Kc.to ?_))
    | (intro _) | (refine Kc.of ?_; dsimp only) | dsimp only | split)

theorem Dev.alsoCause_kc {d0 d : Dev} {x1 x2 : _} (h : Kc d0 d) : Kc d0 (Dev.alsoCause d x1 x2) := by
  unfold Dev.alsoCause
  repeat' (first
    | (with_reducible (first
      | assumption | refine ite_kc ?_ ?_ | refine Dev.sgWord_kc ?_ | refine Dev.dramGone_kc ?_ | refine Kc.to ?_))
    | (intro _) | (refine Kc.of ?_; dsimp only) | dsimp only | split)

theorem Dev.restore_kc {d0 d : Dev} {x1 x2 : _} (h : Kc d0 d) : Kc d0 (Dev.restore d x1 x2) := by
  unfold Dev.restore
  repeat' (first
    | (with_reducible (first
      | assumption | refine ite_kc ?_ ?_ | refine Kc.to ?_))
    | (intro _) | (refine Kc.of ?_; dsimp only) | dsimp only | split)

theorem Dev.w1c_kc {d0 d : Dev} {x1 x2 x3 x4 x5 : _} (h : Kc d0 d) : Kc d0 (Dev.w1c d x1 x2 x3 x4 x5) := by
  unfold Dev.w1c
  repeat' (first
    | (with_reducible (first
      | assumption | refine ite_kc ?_ ?_ | refine Dev.each_kc ?_ ?_ | refine Dev.dn_kc ?_
      | refine Dev.sgWord_kc ?_ | refine Kc.to ?_))
    | (intro _) | (refine Kc.of ?_; dsimp only) | dsimp only | split)

theorem Dev.putUnbanked_kc {d0 d : Dev} {x1 x2 x3 x4 : _} (h : Kc d0 d) : Kc d0 (Dev.putUnbanked d x1 x2 x3 x4) := by
  unfold Dev.putUnbanked
  repeat' (first
    | (with_reducible (first
      | assumption | refine ite_kc ?_ ?_ | refine Dev.w1c_kc ?_ | refine Dev.sgWord_kc ?_
      | refine Dev.restore_kc ?_ | refine Kc.to ?_))
    | (intro _) | (refine Kc.of ?_; dsimp only) | dsimp only | split)

theorem Dev.ownViolation_kc {d0 d : Dev} {x1 : _} (h : Kc d0 d) : Kc d0 (Dev.ownViolation d x1) := by
  unfold Dev.ownViolation
  repeat' (first
    | (with_reducible (first
      | assumption | refine ite_kc ?_ ?_ | refine Dev.up_kc ?_ | refine Dev.incSat_kc ?_ | refine Kc.to ?_))
    | (intro _) | (refine Kc.of ?_; dsimp only) | dsimp only | split)

theorem Dev.bankGate_kc {d0 d e : Dev} {q : Rq} {off : Nat} (h : Kc d0 d) (he : d.bankGate q off = some e) :
    Kc d0 e := by
  unfold Dev.bankGate at he
  split at he
  · cases he
    exact Dev.up_kc h
  · split at he
    · cases he
    · cases he
      exact Dev.each_kc (fun _ _ k => Dev.ownViolation_kc k) h

theorem Dev.putBanked_kc {d0 d : Dev} {x1 x2 : _} (h : Kc d0 d) : Kc d0 (Dev.putBanked d x1 x2) := by
  unfold Dev.putBanked
  repeat' (first
    | (with_reducible (first
      | assumption | refine ite_kc ?_ ?_ | refine Dev.spWord_kc ?_ | refine Dev.restore_kc ?_ | refine Kc.to ?_))
    | (intro _) | (refine Kc.of ?_; dsimp only) | dsimp only | split)

theorem plainWrite_kc {d0 d : Dev} {q : Rq} {al : Bool} {ws : List (Nat × Word)} (h : Kc d0 d) :
    Kc d0 (plainWrite q al ws d) := by
  unfold plainWrite
  dsimp only
  have h1 : Kc d0 (Dev.each (fun (x : Nat × Word) d => d.putUnbanked q al x.1 x.2) ws d) :=
    Dev.each_kc (fun _ _ k => Dev.putUnbanked_kc k) h
  split
  · split
    · rename_i he
      exact Dev.bankGate_kc h1 he
    · exact Dev.each_kc (fun _ _ k => Dev.putBanked_kc k) h1
  · exact h1

theorem storeWrite_kc {d0 d : Dev} {x0 x1 x2 : _} (h : Kc d0 d) : Kc d0 (storeWrite x0 x1 x2 d) := by
  unfold storeWrite
  repeat' (first
    | (with_reducible (first
      | assumption | refine ite_kc ?_ ?_ | refine Dev.storeShow_kc ?_ | refine Dev.up_kc ?_
      | refine plainWrite_kc ?_ | refine Kc.to ?_))
    | (intro _) | (refine Kc.of ?_; dsimp only) | dsimp only | split)

theorem Dev.inc_kc {d0 d : Dev} {x1 : _} (h : Kc d0 d) : Kc d0 (Dev.inc d x1) := by
  unfold Dev.inc
  repeat' (first
    | (with_reducible (first
      | assumption | refine ite_kc ?_ ?_ | refine Dev.sg_kc ?_ | refine Kc.to ?_))
    | (intro _) | (refine Kc.of ?_; dsimp only) | dsimp only | split)

theorem Dev.staleBook_kc {d0 d : Dev} (h : Kc d0 d) : Kc d0 (Dev.staleBook d) := by
  unfold Dev.staleBook
  repeat' (first
    | (with_reducible (first
      | assumption | refine ite_kc ?_ ?_ | refine Dev.each_kc ?_ ?_ | refine Dev.up_kc ?_ | refine Dev.attn_kc ?_
      | refine Dev.logMore_kc ?_ | refine Kc.to ?_))
    | (intro _) | (refine Kc.of ?_; dsimp only) | dsimp only | split)

theorem Dev.logFlush_kc {d0 d : Dev} (h : Kc d0 d) : Kc d0 (Dev.logFlush d) := by
  unfold Dev.logFlush
  repeat' (first
    | (with_reducible (first
      | assumption | refine ite_kc ?_ ?_ | refine Dev.each_kc ?_ ?_ | refine Dev.logWrite_kc ?_ | refine Kc.to ?_))
    | (intro _) | (refine Kc.of ?_; dsimp only) | dsimp only | split)

theorem Dev.logTick_kc {d0 d : Dev} (h : Kc d0 d) : Kc d0 (Dev.logTick d) := by
  unfold Dev.logTick
  repeat' (first
    | (with_reducible (first
      | assumption | refine ite_kc ?_ ?_ | refine Dev.logE_kc ?_ | refine Dev.logFlush_kc ?_ | refine Kc.to ?_))
    | (intro _) | (refine Kc.of ?_; dsimp only) | dsimp only | split)

theorem Dev.refRaise_kc {d0 d : Dev} (h : Kc d0 d) : Kc d0 (Dev.refRaise d) := by
  unfold Dev.refRaise
  repeat' (first
    | (with_reducible (first
      | assumption | refine ite_kc ?_ ?_ | refine Dev.planLog_kc ?_ | refine Dev.attn_kc ?_ | refine Kc.to ?_))
    | (intro _) | (refine Kc.of ?_; dsimp only) | dsimp only | split)

theorem Dev.noteWrite_kc {d0 d : Dev} {x1 x2 x3 : _} (h : Kc d0 d) : Kc d0 (Dev.noteWrite d x1 x2 x3) := by
  unfold Dev.noteWrite
  repeat' (first
    | (with_reducible (first
      | assumption | refine ite_kc ?_ ?_ | refine Dev.each_kc ?_ ?_ | refine Dev.change_kc ?_ | refine Kc.to ?_))
    | (intro _) | (refine Kc.of ?_; dsimp only) | dsimp only | split)

theorem Dev.freeRect_kc {d0 d : Dev} {x1 x2 x3 : _} (h : Kc d0 d) : Kc d0 (Dev.freeRect d x1 x2 x3) := by
  unfold Dev.freeRect
  repeat' (first
    | (with_reducible (first
      | assumption | refine ite_kc ?_ ?_ | refine Dev.each_kc ?_ ?_ | refine Dev.store_kc ?_
      | refine Dev.noteWrite_kc ?_ | refine Dev.freeBytes_kc ?_ | refine Kc.to ?_))
    | (intro _) | (refine Kc.of ?_; dsimp only) | dsimp only | split)

theorem Dev.sq3Jobs_kc {d0 d : Dev} (h : Kc d0 d) : Kc d0 (Dev.sq3Jobs d) := by
  unfold Dev.sq3Jobs
  repeat' (first
    | (with_reducible (first
      | assumption | refine ite_kc ?_ ?_ | refine Dev.freeFld_kc ?_ | refine Dev.sg_kc ?_ | refine Dev.draw_kc ?_
      | refine Kc.to ?_))
    | (intro _) | (refine Kc.of ?_; dsimp only) | dsimp only | split)

theorem Dev.drawBars_kc {d0 d : Dev} {x1 x2 x3 : _} (h : Kc d0 d) : Kc d0 (Dev.drawBars d x1 x2 x3) := by
  unfold Dev.drawBars
  repeat' (first
    | (with_reducible (first
      | assumption | refine ite_kc ?_ ?_ | refine Dev.each_kc ?_ ?_ | refine Dev.sq3Jobs_kc ?_
      | refine Dev.freeRect_kc ?_ | refine Kc.to ?_))
    | (intro _) | (refine Kc.of ?_; dsimp only) | dsimp only | split)

theorem Dev.barsShow_kc {d0 d : Dev} {x1 : _} (h : Kc d0 d) : Kc d0 (Dev.barsShow d x1) := by
  unfold Dev.barsShow
  repeat' (first
    | (with_reducible (first
      | assumption | refine ite_kc ?_ ?_ | refine Dev.drawBars_kc ?_ | refine Dev.putSvc_kc ?_ | refine Kc.to ?_))
    | (intro _) | (refine Kc.of ?_; dsimp only) | dsimp only | split)

theorem Dev.meterTick_kc {d0 d : Dev} (h : Kc d0 d) : Kc d0 (Dev.meterTick d) := by
  unfold Dev.meterTick
  repeat' (first
    | (with_reducible (first
      | assumption | refine ite_kc ?_ ?_ | refine Dev.each_kc ?_ ?_ | refine Dev.barsShow_kc ?_ | refine Dev.change_kc ?_
      | refine Dev.putSvc_kc ?_ | refine Dev.sq3Jobs_kc ?_ | refine Kc.to ?_))
    | (intro _) | (refine Kc.of ?_; dsimp only) | dsimp only | split)

theorem Dev.flattenStart_kc {d0 d : Dev} {x1 : _} (h : Kc d0 d) : Kc d0 (Dev.flattenStart d x1) := by
  unfold Dev.flattenStart
  repeat' (first
    | (with_reducible (first
      | assumption | refine ite_kc ?_ ?_ | refine Dev.each_kc ?_ ?_ | refine Dev.putTile_kc ?_
      | refine Dev.putCrust_kc ?_ | refine Kc.to ?_))
    | (intro _) | (refine Kc.of ?_; dsimp only) | dsimp only | split)

theorem Dev.rebuildClaims_kc {d0 d : Dev} (h : Kc d0 d) : Kc d0 (Dev.rebuildClaims d) := by
  unfold Dev.rebuildClaims
  repeat' (first
    | (with_reducible (first
      | assumption | refine ite_kc ?_ ?_ | refine Dev.each_kc ?_ ?_ | refine Dev.up_kc ?_
      | refine Dev.poolShow_kc ?_ | refine Dev.grant_kc ?_ | refine Kc.to ?_))
    | (intro _) | (refine Kc.of ?_; dsimp only) | dsimp only | split)

theorem Dev.tick_kc {d0 d : Dev} {x1 x2 : _} (h : Kc d0 d) : Kc d0 (Dev.tick d x1 x2) := by
  unfold Dev.tick
  repeat' (first
    | (with_reducible (first
      | assumption | refine ite_kc ?_ ?_ | refine Dev.each_kc ?_ ?_ | refine Dev.rebuildClaims_kc ?_
      | refine Dev.flattenStart_kc ?_ | refine Dev.meterTick_kc ?_ | refine Dev.engine_kc ?_ ?_
      | refine Dev.planBudget_kc ?_ | refine Dev.leavenTick_kc ?_ | refine Dev.refRaise_kc ?_
      | refine Dev.logTick_kc ?_ | refine Dev.staleBook_kc ?_ | refine Dev.inc_kc ?_ | refine Dev.sg_kc ?_
      | refine Dev.tickCarry_kc ?_ | refine Kc.to ?_))
    | (intro _) | (refine Kc.of ?_; dsimp only) | dsimp only | split)

theorem Dev.refEvent_kc {d0 d : Dev} {x1 x2 : _} (h : Kc d0 d) : Kc d0 (Dev.refEvent d x1 x2) := by
  unfold Dev.refEvent
  repeat' (first
    | (with_reducible (first
      | assumption | refine ite_kc ?_ ?_ | refine Dev.holdover_kc ?_ | refine Dev.genEnter_kc ?_
      | refine Dev.putPst_kc ?_ | refine Kc.to ?_))
    | (intro _) | (refine Kc.of ?_; dsimp only) | dsimp only | split)

theorem Dev.refInEvent_kc {d0 d : Dev} (h : Kc d0 d) : Kc d0 (Dev.refInEvent d) := by
  unfold Dev.refInEvent
  repeat' (first
    | (with_reducible (first
      | assumption | refine ite_kc ?_ ?_ | refine Dev.each_kc ?_ ?_ | refine Dev.refEvent_kc ?_ | refine Kc.to ?_))
    | (intro _) | (refine Kc.of ?_; dsimp only) | dsimp only | split)

theorem Dev.psr_kc {d0 d : Dev} {x1 x2 : _} (h : Kc d0 d) : Kc d0 (Dev.psr d x1 x2) := by
  unfold Dev.psr
  repeat' (first
    | (with_reducible (first
      | assumption | refine ite_kc ?_ ?_ | refine Dev.sg_kc ?_ | refine Kc.to ?_))
    | (intro _) | (refine Kc.of ?_; dsimp only) | dsimp only | split)

theorem Dev.restStep_kc {d0 d : Dev} {x1 x2 x3 : _} (h : Kc d0 d) : Kc d0 (Dev.restStep d x1 x2 x3) := by
  unfold Dev.restStep
  repeat' (first
    | (with_reducible (first
      | assumption | refine ite_kc ?_ ?_ | refine Dev.psr_kc ?_ | refine Dev.sg_kc ?_ | refine Dev.dn_kc ?_
      | refine Dev.incSat_kc ?_ | refine Kc.to ?_))
    | (intro _) | (refine Kc.of ?_; dsimp only) | dsimp only | split)

theorem Dev.accErr_kc {d0 d : Dev} {x1 x2 x3 x4 : _} (h : Kc d0 d) : Kc d0 (Dev.accErr d x1 x2 x3 x4) := by
  unfold Dev.accErr
  repeat' (first
    | (with_reducible (first
      | assumption | refine ite_kc ?_ ?_ | refine Dev.orBits_kc ?_ | refine Dev.capture_kc ?_
      | refine Dev.incSat_kc ?_ | refine Kc.to ?_))
    | (intro _) | (refine Kc.of ?_; dsimp only) | dsimp only | split)

theorem Dev.postedDrop_kc {d0 d : Dev} {x1 x2 x3 x4 : _} (h : Kc d0 d) : Kc d0 (Dev.postedDrop d x1 x2 x3 x4) := by
  unfold Dev.postedDrop
  repeat' (first
    | (with_reducible (first
      | assumption | refine ite_kc ?_ ?_ | refine Dev.accErr_kc ?_ | refine Dev.sg_kc ?_ | refine Kc.to ?_))
    | (intro _) | (refine Kc.of ?_; dsimp only) | dsimp only | split)

theorem Dev.aliasFlag_kc {d0 d : Dev} {x1 x2 x3 x4 x5 : _} (h : Kc d0 d) :
    Kc d0 (Dev.aliasFlag d x1 x2 x3 x4 x5) := by
  unfold Dev.aliasFlag
  repeat' (first
    | (with_reducible (first
      | assumption | refine ite_kc ?_ ?_ | refine Dev.accErr_kc ?_ | refine Kc.to ?_))
    | (intro _) | (refine Kc.of ?_; dsimp only) | dsimp only | split)

theorem Dev.postedShow_kc {d0 d : Dev} (h : Kc d0 d) : Kc d0 (Dev.postedShow d) := by
  unfold Dev.postedShow
  repeat' (first
    | (with_reducible (first
      | assumption | refine ite_kc ?_ ?_ | refine Dev.sg_kc ?_ | refine Kc.to ?_))
    | (intro _) | (refine Kc.of ?_; dsimp only) | dsimp only | split)

theorem Dev.unlockOff_kc {d0 d : Dev} {x1 : _} (h : Kc d0 d) : Kc d0 (Dev.unlockOff d x1) := by
  unfold Dev.unlockOff
  repeat' (first
    | (with_reducible (first
      | assumption | refine ite_kc ?_ ?_ | refine Dev.dn_kc ?_ | refine Kc.to ?_))
    | (intro _) | (refine Kc.of ?_; dsimp only) | dsimp only | split)

theorem unlockWrite_kc {d0 d : Dev} {x0 x1 x2 : _} (h : Kc d0 d) : Kc d0 (unlockWrite x0 x1 x2 d) := by
  unfold unlockWrite
  repeat' (first
    | (with_reducible (first
      | assumption | refine ite_kc ?_ ?_ | refine Dev.unlockOff_kc ?_ | refine Dev.accErr_kc ?_
      | refine Dev.up_kc ?_ | refine Dev.sg_kc ?_ | refine Dev.restore_kc ?_ | refine Kc.to ?_))
    | (intro _) | (refine Kc.of ?_; dsimp only) | dsimp only | split)

theorem Dev.keyed_kc {d0 d : Dev} {x1 x2 x3 x4 : _} (h4 : ∀ e, Kc d0 e → Kc d0 (x4 e)) (h : Kc d0 d) :
    Kc d0 (Dev.keyed d x1 x2 x3 x4) := by
  unfold Dev.keyed
  repeat' (first
    | (with_reducible (first
      | assumption | refine ite_kc ?_ ?_ | refine h4 _ ?_ | refine h4 _ _ ?_ | refine Dev.accErr_kc ?_
      | refine Dev.unlockOff_kc ?_ | refine Kc.to ?_))
    | (intro _) | (refine Kc.of ?_; dsimp only) | dsimp only | split)

theorem Dev.dmaMove_kc {d0 d : Dev} {x1 x2 : _} (h : Kc d0 d) : Kc d0 (Dev.dmaMove d x1 x2) := by
  unfold Dev.dmaMove
  repeat' (first
    | (with_reducible (first
      | assumption | refine ite_kc ?_ ?_ | refine Dev.store_kc ?_ | refine Dev.noteWrite_kc ?_
      | refine Dev.hostStore_kc ?_ | refine Dev.sg_kc ?_ | refine Kc.to ?_))
    | (intro _) | (refine Kc.of ?_; dsimp only) | dsimp only | split)

theorem Dev.hostSource_kc {d0 d : Dev} {x1 x2 : _} (h : Kc d0 d) : Kc d0 (Dev.hostSource d x1 x2) := by
  unfold Dev.hostSource
  repeat' (first
    | (with_reducible (first
      | assumption | refine ite_kc ?_ ?_ | refine Dev.hostStore_kc ?_ | refine Kc.to ?_))
    | (intro _) | (refine Kc.of ?_; dsimp only) | dsimp only | split)

theorem Dev.dmaFar_kc {d0 d : Dev} {x1 : _} (h : Kc d0 d) : Kc d0 (Dev.dmaFar d x1).2 := by
  unfold Dev.dmaFar
  repeat' (first
    | (with_reducible (first
      | assumption | refine ite_kc ?_ ?_ | refine Dev.hostSource_kc ?_ | refine Dev.freeBytes_kc ?_
      | refine Dev.draw_kc ?_ | refine Kc.to ?_))
    | (intro _) | (refine Kc.of ?_; dsimp only) | dsimp only | split)

theorem Dev.dmaCut_kc {d0 d : Dev} {x0 : _} (h : Kc d0 d) : Kc d0 (Dev.dmaCut x0 d) := by
  unfold Dev.dmaCut
  repeat' (first
    | (with_reducible (first
      | assumption | refine ite_kc ?_ ?_ | refine Dev.dmaFar_kc ?_ | refine Dev.dmaMove_kc ?_
      | refine Dev.engine_kc ?_ ?_ | refine Kc.to ?_))
    | (intro _) | (refine Kc.of ?_; dsimp only) | dsimp only | split)

theorem Dev.dmaOff_kc {d0 d : Dev} (h : Kc d0 d) : Kc d0 (Dev.dmaOff d) := by
  unfold Dev.dmaOff
  repeat' (first
    | (with_reducible (first
      | assumption | refine ite_kc ?_ ?_ | refine Dev.each_kc ?_ ?_ | refine Dev.dmaCut_kc ?_ | refine Kc.to ?_))
    | (intro _) | (refine Kc.of ?_; dsimp only) | dsimp only | split)

theorem ScJob.put_kc {d0 d : Dev} {x0 x1 x2 : _} (h : Kc d0 d) : Kc d0 (ScJob.put x0 x1 x2 d) := by
  unfold ScJob.put
  repeat' (first
    | (with_reducible (first
      | assumption | refine ite_kc ?_ ?_ | refine Dev.store_kc ?_ | refine Kc.to ?_))
    | (intro _) | (refine Kc.of ?_; dsimp only) | dsimp only | split)

theorem Dev.scRow_kc {d0 d : Dev} {x1 : _} (h : Kc d0 d) : Kc d0 (Dev.scRow d x1) := by
  unfold Dev.scRow
  repeat' (first
    | (with_reducible (first
      | assumption | refine ite_kc ?_ ?_ | refine Dev.each_kc ?_ ?_ | refine ScJob.put_kc ?_
      | refine Dev.noteWrite_kc ?_ | refine Kc.to ?_))
    | (intro _) | (refine Kc.of ?_; dsimp only) | dsimp only | split)

theorem Dev.scStop_kc {d0 d : Dev} (h : Kc d0 d) : Kc d0 (Dev.scStop d) := by
  unfold Dev.scStop
  repeat' (first
    | (with_reducible (first
      | assumption | refine ite_kc ?_ ?_ | refine Dev.scRow_kc ?_ | refine Dev.engine_kc ?_ ?_ | refine Kc.to ?_))
    | (intro _) | (refine Kc.of ?_; dsimp only) | dsimp only | split)

theorem Dev.enginesStop_kc {d0 d : Dev} {x1 : _} (h : Kc d0 d) : Kc d0 (Dev.enginesStop d x1) := by
  unfold Dev.enginesStop
  repeat' (first
    | (with_reducible (first
      | assumption | refine ite_kc ?_ ?_ | refine Dev.scStop_kc ?_ | refine Dev.dmaOff_kc ?_ | refine Kc.to ?_))
    | (intro _) | (refine Kc.of ?_; dsimp only) | dsimp only | split)

theorem Dev.resetRegs_kc {d0 d : Dev} {x1 x2 : _} (h : Kc d0 d) : Kc d0 (Dev.resetRegs d x1 x2) := by
  unfold Dev.resetRegs
  repeat' (first
    | (with_reducible (first
      | assumption | refine ite_kc ?_ ?_ | refine Kt.activeSet ?_ | refine Kt.activeBlk ?_ | refine Kt.proofSet ?_
      | refine Kt.proofBlk ?_ | refine Kt.regsMap ?_ | refine Kt.activeBlks ?_ | refine Kt.proofBlks ?_
      | refine Kc.to ?_ | refine Kt.memNil ?_))
    | (intro _) | (refine Kc.of ?_; dsimp only) | dsimp only | split)

theorem Dev.keepLive_kc {d0 d : Dev} {x1 : _} (h : Kc d0 d) : Kc d0 (Dev.keepLive d x1) := by
  unfold Dev.keepLive
  repeat' (first
    | (with_reducible (first
      | assumption | refine ite_kc ?_ ?_ | refine Dev.each_kc ?_ ?_ | refine Dev.sg_kc ?_ | refine Kc.to ?_))
    | (intro _) | (refine Kc.of ?_; dsimp only) | dsimp only | split)

theorem Dev.restart_kc {d0 d : Dev} {c : ResetCause} {i : Nat} (h : Kc d0 d) : Kc d0 (d.restart c i) := by
  unfold Dev.restart
  extract_lets e d1 keep hr x y z
  have h1 : Kc d0 d1 := ite_kc h (Dev.enginesStop_kc h)
  have hx : Kc d0 x := by
    refine Kc.of ?_
    dsimp only [x]
    split
    · exact Kt.restNil h1.to
    · exact Kt.allNil h1.to
  clear_value x
  have hy : Kc d0 y := Dev.sgWord_kc (Dev.resetRegs_kc hx)
  exact Dev.targets_kc (Dev.edpStrap_kc (ite_kc hy (Dev.keepLive_kc hy)))

theorem Dev.warmBy_kc {d0 d : Dev} {x1 x2 : _} (h : Kc d0 d) : Kc d0 (Dev.warmBy d x1 x2) := by
  unfold Dev.warmBy
  repeat' (first
    | (with_reducible (first
      | assumption | refine ite_kc ?_ ?_ | refine Dev.restart_kc ?_ | refine Dev.alsoCause_kc ?_ | refine Kc.to ?_))
    | (intro _) | (refine Kc.of ?_; dsimp only) | dsimp only | split)

theorem Dev.warmReset_kc {d0 d : Dev} {x1 : _} (h : Kc d0 d) : Kc d0 (Dev.warmReset d x1) := by
  unfold Dev.warmReset
  repeat' (first
    | (with_reducible (first
      | assumption | refine ite_kc ?_ ?_ | refine Dev.warmBy_kc ?_ | refine Kc.to ?_))
    | (intro _) | (refine Kc.of ?_; dsimp only) | dsimp only | split)

theorem resetCtrlWrite_kc {d0 d : Dev} {x0 : _} (h : Kc d0 d) : Kc d0 (resetCtrlWrite x0 d) := by
  unfold resetCtrlWrite
  repeat' (first
    | (with_reducible (first
      | assumption | refine ite_kc ?_ ?_ | refine Dev.warmReset_kc ?_ | refine Dev.sg_kc ?_
      | refine Dev.restore_kc ?_ | refine Kc.to ?_))
    | (intro _) | (refine Kc.of ?_; dsimp only) | dsimp only | split)

theorem lockdownWrite_kc {d0 d : Dev} {x0 x1 x2 : _} (h : Kc d0 d) : Kc d0 (lockdownWrite x0 x1 x2 d) := by
  unfold lockdownWrite
  repeat' (first
    | (with_reducible (first
      | assumption | refine ite_kc ?_ ?_ | refine plainWrite_kc ?_ | refine Dev.incSat_kc ?_
      | refine Dev.accErr_kc ?_ | refine Dev.onlyIf_kc ?_ ?_ | refine Kc.to ?_))
    | (intro _) | (refine Kc.of ?_; dsimp only) | dsimp only | split)

theorem tickCtrlWrite_kc {d0 d : Dev} {x0 x1 x2 : _} (h : Kc d0 d) : Kc d0 (tickCtrlWrite x0 x1 x2 d) := by
  unfold tickCtrlWrite
  repeat' (first
    | (with_reducible (first
      | assumption | refine ite_kc ?_ ?_ | refine plainWrite_kc ?_ | refine Dev.up_kc ?_ | refine Kc.to ?_))
    | (intro _) | (refine Kc.of ?_; dsimp only) | dsimp only | split)

theorem tickStatusWrite_kc {d0 d : Dev} {x0 x1 : _} (h : Kc d0 d) : Kc d0 (tickStatusWrite x0 x1 d) := by
  unfold tickStatusWrite
  repeat' (first
    | (with_reducible (first
      | assumption | refine ite_kc ?_ ?_ | refine Dev.dn_kc ?_ | refine plainWrite_kc ?_ | refine Kc.to ?_))
    | (intro _) | (refine Kc.of ?_; dsimp only) | dsimp only | split)

theorem parityStatusWrite_kc {d0 d : Dev} {x0 x1 x2 : _} (h : Kc d0 d) : Kc d0 (parityStatusWrite x0 x1 x2 d) := by
  unfold parityStatusWrite
  repeat' (first
    | (with_reducible (first
      | assumption | refine ite_kc ?_ ?_ | refine Dev.up_kc ?_ | refine Dev.onlyIf_kc ?_ ?_
      | refine plainWrite_kc ?_ | refine Kc.to ?_))
    | (intro _) | (refine Kc.of ?_; dsimp only) | dsimp only | split)

theorem commitStrobe_kc {d0 d : Dev} {x0 x1 : _} (h : Kc d0 d) : Kc d0 (commitStrobe x0 x1 d) := by
  unfold commitStrobe
  repeat' (first
    | (with_reducible (first
      | assumption | refine ite_kc ?_ ?_ | refine Dev.each_kc ?_ ?_ | refine Dev.sg_kc ?_ | refine Dev.dn_kc ?_
      | refine Dev.attn_kc ?_ | refine Dev.lateCount_kc ?_ | refine Dev.snapParity_kc ?_
      | refine Dev.ownViolation_kc ?_ | refine Dev.up_kc ?_ | refine Dev.onlyIf_kc ?_ ?_ | refine Kc.to ?_))
    | (intro _) | (refine Kc.of ?_; dsimp only) | dsimp only | split)

theorem commitClrCounts_kc {d0 d : Dev} {x0 x1 : _} (h : Kc d0 d) : Kc d0 (commitClrCounts x0 x1 d) := by
  unfold commitClrCounts
  repeat' (first
    | (with_reducible (first
      | assumption | refine ite_kc ?_ ?_ | refine Dev.dn_kc ?_ | refine Kc.to ?_))
    | (intro _) | (refine Kc.of ?_; dsimp only) | dsimp only | split)

theorem Dev.ramLoad_kc {d0 d : Dev} {x1 x2 x3 : _} (h : Kc d0 d) : Kc d0 (Dev.ramLoad d x1 x2 x3) := by
  unfold Dev.ramLoad
  repeat' (first
    | (with_reducible (first
      | assumption | refine ite_kc ?_ ?_ | refine Dev.sg_kc ?_ | refine Dev.up_kc ?_ | refine Dev.onlyIf_kc ?_ ?_
      | refine Kc.to ?_))
    | (intro _) | (refine Kc.of ?_; dsimp only) | dsimp only | split)

theorem lutLoad_kc {d0 d : Dev} {x0 x1 : _} (h : Kc d0 d) : Kc d0 (lutLoad x0 x1 d) := by
  unfold lutLoad
  repeat' (first
    | (with_reducible (first
      | assumption | refine ite_kc ?_ ?_ | refine Dev.ramLoad_kc ?_ | refine Kc.to ?_))
    | (intro _) | (refine Kc.of ?_; dsimp only) | dsimp only | split)

theorem tmLoad_kc {d0 d : Dev} {x0 x1 : _} (h : Kc d0 d) : Kc d0 (tmLoad x0 x1 d) := by
  unfold tmLoad
  repeat' (first
    | (with_reducible (first
      | assumption | refine ite_kc ?_ ?_ | refine Dev.ramLoad_kc ?_ | refine Kc.to ?_))
    | (intro _) | (refine Kc.of ?_; dsimp only) | dsimp only | split)

theorem Dev.restoreIf_kc {d0 d : Dev} {x1 x2 x3 : _} (h : Kc d0 d) : Kc d0 (Dev.restoreIf d x1 x2 x3) := by
  unfold Dev.restoreIf
  repeat' (first
    | (with_reducible (first
      | assumption | refine ite_kc ?_ ?_ | refine Dev.restore_kc ?_ | refine Kc.to ?_))
    | (intro _) | (refine Kc.of ?_; dsimp only) | dsimp only | split)

theorem coefWrite_kc {d0 d : Dev} {x0 x1 x2 : _} (h : Kc d0 d) : Kc d0 (coefWrite x0 x1 x2 d) := by
  unfold coefWrite
  repeat' (first
    | (with_reducible (first
      | assumption | refine ite_kc ?_ ?_ | refine Dev.up_kc ?_ | refine Dev.sgWord_kc ?_ | refine Kc.to ?_))
    | (intro _) | (refine Kc.of ?_; dsimp only) | dsimp only | split)

theorem crustHintGo_kc {d0 d : Dev} {x0 x1 : _} (h : Kc d0 d) : Kc d0 (crustHintGo x0 x1 d) := by
  unfold crustHintGo
  repeat' (first
    | (with_reducible (first
      | assumption | refine ite_kc ?_ ?_ | refine Dev.hintsDue_kc ?_ | refine Dev.hintApply_kc ?_
      | refine Dev.up_kc ?_ | refine Kc.to ?_))
    | (intro _) | (refine Kc.of ?_; dsimp only) | dsimp only | split)

theorem crustTileSelWrite_kc {d0 d : Dev} {x0 : _} (h : Kc d0 d) : Kc d0 (crustTileSelWrite x0 d) := by
  unfold crustTileSelWrite
  repeat' (first
    | (with_reducible (first
      | assumption | refine ite_kc ?_ ?_ | refine Dev.each_kc ?_ ?_ | refine Dev.sg_kc ?_ | refine Kc.to ?_))
    | (intro _) | (refine Kc.of ?_; dsimp only) | dsimp only | split)

theorem crustStatusWrite_kc {d0 d : Dev} {x0 x1 x2 : _} (h : Kc d0 d) : Kc d0 (crustStatusWrite x0 x1 x2 d) := by
  unfold crustStatusWrite
  repeat' (first
    | (with_reducible (first
      | assumption | refine ite_kc ?_ ?_ | refine Dev.dn_kc ?_ | refine plainWrite_kc ?_ | refine Kc.to ?_))
    | (intro _) | (refine Kc.of ?_; dsimp only) | dsimp only | split)

theorem fetchEffWrite_kc {d0 d : Dev} {x0 : _} (h : Kc d0 d) : Kc d0 (fetchEffWrite x0 d) := by
  unfold fetchEffWrite
  repeat' (first
    | (with_reducible (first
      | assumption | refine ite_kc ?_ ?_ | refine Dev.up_kc ?_ | refine Dev.sg_kc ?_ | refine Dev.onlyIf_kc ?_ ?_
      | refine Dev.dn_kc ?_ | refine Kc.to ?_))
    | (intro _) | (refine Kc.of ?_; dsimp only) | dsimp only | split)

theorem fetchDeclCtrl_kc {d0 d : Dev} {x0 x1 : _} (h : Kc d0 d) : Kc d0 (fetchDeclCtrl x0 x1 d) := by
  unfold fetchDeclCtrl
  repeat' (first
    | (with_reducible (first
      | assumption | refine ite_kc ?_ ?_ | refine Dev.sg_kc ?_ | refine Dev.declShow_kc ?_ | refine Dev.up_kc ?_
      | refine Kc.to ?_))
    | (intro _) | (refine Kc.of ?_; dsimp only) | dsimp only | split)

theorem fetchDeclOther_kc {d0 d : Dev} {x1 : _} (h1 : ∀ e, Kc d0 e → Kc d0 (x1 e)) (h : Kc d0 d) :
    Kc d0 (fetchDeclOther d x1) := by
  unfold fetchDeclOther
  repeat' (first
    | (with_reducible (first
      | assumption | refine ite_kc ?_ ?_ | refine h1 _ ?_ | refine h1 _ _ ?_ | refine Dev.up_kc ?_
      | refine Kc.to ?_))
    | (intro _) | (refine Kc.of ?_; dsimp only) | dsimp only | split)

theorem declWrite_kc {d0 d : Dev} {x0 x1 x2 x3 x4 x5 : _} (h : Kc d0 d) : Kc d0 (declWrite x0 x1 x2 x3 x4 x5 d) := by
  unfold declWrite
  repeat' (first
    | (with_reducible (first
      | assumption | refine ite_kc ?_ ?_ | refine plainWrite_kc ?_ | refine fetchDeclOther_kc ?_ ?_
      | refine fetchDeclCtrl_kc ?_ | refine Dev.restoreIf_kc ?_ | refine Kc.to ?_))
    | (intro _) | (refine Kc.of ?_; dsimp only) | dsimp only | split)

theorem Dev.showEntry_kc {d0 d : Dev} {x1 x2 x3 : _} (h : Kc d0 d) : Kc d0 (Dev.showEntry d x1 x2 x3) := by
  unfold Dev.showEntry
  repeat' (first
    | (with_reducible (first
      | assumption | refine ite_kc ?_ ?_ | refine Dev.sgWord_kc ?_ | refine Kc.to ?_))
    | (intro _) | (refine Kc.of ?_; dsimp only) | dsimp only | split)

theorem sigSnapSelWrite_kc {d0 d : Dev} {x0 x1 : _} (h : Kc d0 d) : Kc d0 (sigSnapSelWrite x0 x1 d) := by
  unfold sigSnapSelWrite
  repeat' (first
    | (with_reducible (first
      | assumption | refine ite_kc ?_ ?_ | refine Dev.dn_kc ?_ | refine Dev.showEntry_kc ?_ | refine Dev.up_kc ?_
      | refine Dev.sg_kc ?_ | refine Kc.to ?_))
    | (intro _) | (refine Kc.of ?_; dsimp only) | dsimp only | split)

theorem sigStatusWrite_kc {d0 d : Dev} {x0 x1 x2 : _} (h : Kc d0 d) : Kc d0 (sigStatusWrite x0 x1 x2 d) := by
  unfold sigStatusWrite
  repeat' (first
    | (with_reducible (first
      | assumption | refine ite_kc ?_ ?_ | refine Dev.dn_kc ?_ | refine plainWrite_kc ?_ | refine Kc.to ?_))
    | (intro _) | (refine Kc.of ?_; dsimp only) | dsimp only | split)

theorem sqOwned_kc {d0 d : Dev} {x0 x1 x3 : _} (h3 : ∀ e, Kc d0 e → Kc d0 (x3 e)) (h : Kc d0 d) :
    Kc d0 (sqOwned x0 x1 d x3) := by
  unfold sqOwned
  repeat' (first
    | (with_reducible (first
      | assumption | refine ite_kc ?_ ?_ | refine h3 _ ?_ | refine h3 _ _ ?_ | refine Dev.up_kc ?_
      | refine Kc.to ?_))
    | (intro _) | (refine Kc.of ?_; dsimp only) | dsimp only | split)

theorem sqCtrlWrite_kc {d0 d : Dev} {x0 x1 x3 : _} (h3 : ∀ e, Kc d0 e → Kc d0 (x3 e)) (h : Kc d0 d) :
    Kc d0 (sqCtrlWrite x0 x1 d x3) := by
  unfold sqCtrlWrite
  repeat' (first
    | (with_reducible (first
      | assumption | refine ite_kc ?_ ?_ | refine h3 _ ?_ | refine h3 _ _ ?_ | refine Dev.up_kc ?_
      | refine Kc.to ?_))
    | (intro _) | (refine Kc.of ?_; dsimp only) | dsimp only | split)

theorem sqBaseWrite_kc {d0 d : Dev} {x0 x2 : _} (h2 : ∀ e, Kc d0 e → Kc d0 (x2 e)) (h : Kc d0 d) :
    Kc d0 (sqBaseWrite x0 d x2) := by
  unfold sqBaseWrite
  repeat' (first
    | (with_reducible (first
      | assumption | refine ite_kc ?_ ?_ | refine h2 _ ?_ | refine h2 _ _ ?_ | refine Dev.up_kc ?_
      | refine Kc.to ?_))
    | (intro _) | (refine Kc.of ?_; dsimp only) | dsimp only | split)

theorem Dev.sqIdle_kc {d0 d : Dev} {x1 : _} (h : Kc d0 d) : Kc d0 (Dev.sqIdle d x1) := by
  unfold Dev.sqIdle
  repeat' (first
    | (with_reducible (first
      | assumption | refine ite_kc ?_ ?_ | refine Dev.sg_kc ?_ | refine Kc.to ?_))
    | (intro _) | (refine Kc.of ?_; dsimp only) | dsimp only | split)

theorem sqTailWrite_kc {d0 d : Dev} {x0 x1 : _} (h : Kc d0 d) : Kc d0 (sqTailWrite x0 x1 d) := by
  unfold sqTailWrite
  repeat' (first
    | (with_reducible (first
      | assumption | refine ite_kc ?_ ?_ | refine Dev.sg_kc ?_ | refine Dev.sqIdle_kc ?_ | refine Dev.up_kc ?_
      | refine Kc.to ?_))
    | (intro _) | (refine Kc.of ?_; dsimp only) | dsimp only | split)

theorem sqWrite_kc {d0 d : Dev} {x0 x1 x2 x3 x4 x5 : _} (h : Kc d0 d) : Kc d0 (sqWrite x0 x1 x2 x3 x4 x5 d) := by
  unfold sqWrite
  repeat' (first
    | (with_reducible (first
      | assumption | refine ite_kc ?_ ?_ | refine sqTailWrite_kc ?_ | refine Dev.restoreIf_kc ?_
      | refine sqBaseWrite_kc ?_ ?_ | refine plainWrite_kc ?_ | refine sqCtrlWrite_kc ?_ ?_
      | refine sqOwned_kc ?_ ?_ | refine Kc.to ?_))
    | (intro _) | (refine Kc.of ?_; dsimp only) | dsimp only | split)

theorem dmaEngineCtrl_kc {d0 d : Dev} {x0 : _} (h : Kc d0 d) : Kc d0 (dmaEngineCtrl x0 d) := by
  unfold dmaEngineCtrl
  repeat' (first
    | (with_reducible (first
      | assumption | refine ite_kc ?_ ?_ | refine Dev.dn_kc ?_ | refine Dev.up_kc ?_ | refine Dev.sg_kc ?_
      | refine Kc.to ?_))
    | (intro _) | (refine Kc.of ?_; dsimp only) | dsimp only | split)

theorem dmaDescWrite_kc {d0 d : Dev} {x0 x2 : _} (h2 : ∀ e, Kc d0 e → Kc d0 (x2 e)) (h : Kc d0 d) :
    Kc d0 (dmaDescWrite x0 d x2) := by
  unfold dmaDescWrite
  repeat' (first
    | (with_reducible (first
      | assumption | refine ite_kc ?_ ?_ | refine h2 _ ?_ | refine h2 _ _ ?_ | refine Dev.up_kc ?_
      | refine Kc.to ?_))
    | (intro _) | (refine Kc.of ?_; dsimp only) | dsimp only | split)

theorem Dev.dmaShow_kc {d0 d : Dev} (h : Kc d0 d) : Kc d0 (Dev.dmaShow d) := by
  unfold Dev.dmaShow
  repeat' (first
    | (with_reducible (first
      | assumption | refine ite_kc ?_ ?_ | refine Dev.sg_kc ?_ | refine Dev.restShow_kc ?_ | refine Kc.to ?_))
    | (intro _) | (refine Kc.of ?_; dsimp only) | dsimp only | split)

theorem Dev.dmaTo_kc {d0 d : Dev} {x1 x2 : _} (h : Kc d0 d) : Kc d0 (Dev.dmaTo d x1 x2) := by
  unfold Dev.dmaTo
  repeat' (first
    | (with_reducible (first
      | assumption | refine ite_kc ?_ ?_ | refine Dev.sg_kc ?_ | refine Dev.dmaShow_kc ?_ | refine Kc.to ?_))
    | (intro _) | (refine Kc.of ?_; dsimp only) | dsimp only | split)

theorem Dev.dmaHaltAll_kc {d0 d : Dev} {x1 x2 x3 : _} (h3 : ∀ y0 e, Kc d0 e → Kc d0 (x3 y0 e)) (h : Kc d0 d) :
    Kc d0 (Dev.dmaHaltAll d x1 x2 x3) := by
  unfold Dev.dmaHaltAll
  repeat' (first
    | (with_reducible (first
      | assumption | refine ite_kc ?_ ?_ | refine h3 _ ?_ | refine h3 _ _ ?_ | refine Dev.each_kc ?_ ?_
      | refine Dev.logE_kc ?_ | refine Dev.msix_kc ?_ | refine Dev.faultSum_kc ?_ | refine Dev.attn_kc ?_
      | refine Dev.up_kc ?_ | refine Dev.sg_kc ?_ | refine Dev.incSat_kc ?_ | refine Kc.to ?_))
    | (intro _) | (refine Kc.of ?_; dsimp only) | dsimp only | split)

theorem Dev.dmaRecord_kc {d0 d : Dev} {x1 x2 x3 x4 x5 : _} (h : Kc d0 d) :
    Kc d0 (Dev.dmaRecord d x1 x2 x3 x4 x5) := by
  unfold Dev.dmaRecord
  repeat' (first
    | (with_reducible (first
      | assumption | refine ite_kc ?_ ?_ | refine Dev.store_kc ?_ | refine Dev.noteWrite_kc ?_ | refine Kc.to ?_))
    | (intro _) | (refine Kc.of ?_; dsimp only) | dsimp only | split)

theorem Dev.dmaFail_kc {d0 d : Dev} {x1 x2 x3 x4 x5 : _} (h : Kc d0 d) : Kc d0 (Dev.dmaFail d x1 x2 x3 x4 x5) := by
  unfold Dev.dmaFail
  repeat' (first
    | (with_reducible (first
      | assumption | refine ite_kc ?_ ?_ | refine Dev.msix_kc ?_ | refine Dev.onlyIf_kc ?_ ?_
      | refine Dev.up_kc ?_ | refine Dev.sg_kc ?_ | refine Dev.dmaTo_kc ?_ | refine Dev.dmaRecord_kc ?_
      | refine Kc.to ?_))
    | (intro _) | (refine Kc.of ?_; dsimp only) | dsimp only | split)

theorem Dev.signalSet_kc {d0 d : Dev} {x1 x2 : _} (h : Kc d0 d) : Kc d0 (Dev.signalSet d x1 x2) := by
  unfold Dev.signalSet
  repeat' (first
    | (with_reducible (first
      | assumption | refine ite_kc ?_ ?_ | refine Dev.fenceNow_kc ?_ | refine Dev.up_kc ?_ | refine Kc.to ?_))
    | (intro _) | (refine Kc.of ?_; dsimp only) | dsimp only | split)

theorem Dev.dmaFinish_kc {d0 d : Dev} {x1 : _} (h : Kc d0 d) : Kc d0 (Dev.dmaFinish d x1) := by
  unfold Dev.dmaFinish
  repeat' (first
    | (with_reducible (first
      | assumption | refine ite_kc ?_ ?_ | refine Dev.msix_kc ?_ | refine Dev.dmaRecord_kc ?_
      | refine Dev.inc_kc ?_ | refine Dev.signalSet_kc ?_ | refine Dev.onlyIf_kc ?_ ?_ | refine Kc.to ?_))
    | (intro _) | (refine Kc.of ?_; dsimp only) | dsimp only | split)

theorem Dev.dmaHalt_kc {d0 d : Dev} {x1 x2 : _} (h : Kc d0 d) : Kc d0 (Dev.dmaHalt d x1 x2) := by
  unfold Dev.dmaHalt
  repeat' (first
    | (with_reducible (first
      | assumption | refine ite_kc ?_ ?_ | refine Dev.sg_kc ?_ | refine Dev.dn_kc ?_ | refine Dev.dmaFinish_kc ?_
      | refine Dev.dmaTo_kc ?_ | refine Dev.dmaFail_kc ?_ | refine Dev.dmaMove_kc ?_ | refine Kc.to ?_))
    | (intro _) | (refine Kc.of ?_; dsimp only) | dsimp only | split)

theorem Dev.dmaHaltFree_kc {d0 d : Dev} {x0 : _} (h : Kc d0 d) : Kc d0 (Dev.dmaHaltFree x0 d) := by
  unfold Dev.dmaHaltFree
  repeat' (first
    | (with_reducible (first
      | assumption | refine ite_kc ?_ ?_ | refine Dev.dmaFar_kc ?_ | refine Dev.dmaHalt_kc ?_ | refine Kc.to ?_))
    | (intro _) | (refine Kc.of ?_; dsimp only) | dsimp only | split)

theorem Dev.surfErr_kc {d0 d : Dev} {x1 : _} (h : Kc d0 d) : Kc d0 (Dev.surfErr d x1) := by
  unfold Dev.surfErr
  repeat' (first
    | (with_reducible (first
      | assumption | refine ite_kc ?_ ?_ | refine Dev.capture_kc ?_ | refine Kc.to ?_))
    | (intro _) | (refine Kc.of ?_; dsimp only) | dsimp only | split)

theorem Dev.protFlags_kc {d0 d : Dev} {x1 x2 : _} (h : Kc d0 d) : Kc d0 (Dev.protFlags d x1 x2) := by
  unfold Dev.protFlags
  repeat' (first
    | (with_reducible (first
      | assumption | refine ite_kc ?_ ?_ | refine Dev.each_kc ?_ ?_ | refine Dev.up_kc ?_
      | refine Dev.surfErr_kc ?_ | refine Dev.onlyIf_kc ?_ ?_ | refine Kc.to ?_))
    | (intro _) | (refine Kc.of ?_; dsimp only) | dsimp only | split)

theorem Dev.dmaStart_kc {d0 d : Dev} {x1 x2 x3 : _} (h : Kc d0 d) : Kc d0 (Dev.dmaStart d x1 x2 x3) := by
  unfold Dev.dmaStart
  repeat' (first
    | (with_reducible (first
      | assumption | refine ite_kc ?_ ?_ | refine Dev.protFlags_kc ?_ | refine Dev.dmaHaltFree_kc ?_
      | refine Dev.dmaFail_kc ?_ | refine Dev.dmaHaltAll_kc ?_ ?_ | refine Dev.sg_kc ?_ | refine Dev.dmaTo_kc ?_
      | refine Kc.to ?_))
    | (intro _) | (refine Kc.of ?_; dsimp only) | dsimp only | split)

theorem dmaGoWrite_kc {d0 d : Dev} {x0 x1 : _} (h : Kc d0 d) : Kc d0 (dmaGoWrite x0 x1 d) := by
  unfold dmaGoWrite
  repeat' (first
    | (with_reducible (first
      | assumption | refine ite_kc ?_ ?_ | refine Dev.dmaStart_kc ?_ | refine Dev.up_kc ?_ | refine Kc.to ?_))
    | (intro _) | (refine Kc.of ?_; dsimp only) | dsimp only | split)

theorem dmaChWrite_kc {d0 d : Dev} {x0 x1 x2 x3 x4 x5 : _} (h : Kc d0 d) :
    Kc d0 (dmaChWrite x0 x1 x2 x3 x4 x5 d) := by
  unfold dmaChWrite
  repeat' (first
    | (with_reducible (first
      | assumption | refine ite_kc ?_ ?_ | refine dmaGoWrite_kc ?_ | refine plainWrite_kc ?_
      | refine dmaDescWrite_kc ?_ ?_ | refine Kc.to ?_))
    | (intro _) | (refine Kc.of ?_; dsimp only) | dsimp only | split)

theorem chkOwned_kc {d0 d : Dev} {x0 x1 x3 : _} (h3 : ∀ e, Kc d0 e → Kc d0 (x3 e)) (h : Kc d0 d) :
    Kc d0 (chkOwned x0 x1 d x3) := by
  unfold chkOwned
  repeat' (first
    | (with_reducible (first
      | assumption | refine ite_kc ?_ ?_ | refine h3 _ ?_ | refine h3 _ _ ?_ | refine Dev.up_kc ?_
      | refine Kc.to ?_))
    | (intro _) | (refine Kc.of ?_; dsimp only) | dsimp only | split)

theorem chkAlg_kc {d0 d : Dev} {x0 x1 : _} (h : Kc d0 d) : Kc d0 (chkAlg x0 x1 d) := by
  unfold chkAlg
  repeat' (first
    | (with_reducible (first
      | assumption | refine ite_kc ?_ ?_ | refine Dev.sg_kc ?_ | refine Dev.up_kc ?_ | refine Kc.to ?_))
    | (intro _) | (refine Kc.of ?_; dsimp only) | dsimp only | split)

theorem Dev.putChk_kc {d0 d : Dev} {x1 x2 : _} (h : Kc d0 d) : Kc d0 (Dev.putChk d x1 x2) := by
  unfold Dev.putChk
  repeat' (first
    | (with_reducible (first
      | assumption | refine ite_kc ?_ ?_ | refine Dev.sg_kc ?_ | refine Kc.to ?_))
    | (intro _) | (refine Kc.of ?_; dsimp only) | dsimp only | split)

theorem chkCtrl_kc {d0 d : Dev} {x0 x1 x2 : _} (h : Kc d0 d) : Kc d0 (chkCtrl x0 x1 x2 d) := by
  unfold chkCtrl
  repeat' (first
    | (with_reducible (first
      | assumption | refine ite_kc ?_ ?_ | refine Dev.putChk_kc ?_ | refine chkAlg_kc ?_
      | refine chkOwned_kc ?_ ?_ | refine Kc.to ?_))
    | (intro _) | (refine Kc.of ?_; dsimp only) | dsimp only | split)

theorem chkFeed_kc {d0 d : Dev} {x0 x1 x2 x3 : _} (h : Kc d0 d) : Kc d0 (chkFeed x0 x1 x2 x3 d) := by
  unfold chkFeed
  repeat' (first
    | (with_reducible (first
      | assumption | refine ite_kc ?_ ?_ | refine foldFst_kc ?_ ?_ | refine foldl_kc ?_ ?_
      | refine Dev.putChk_kc ?_ | refine chkOwned_kc ?_ ?_ | refine Kc.to ?_))
    | (intro _) | (refine Kc.of ?_; dsimp only) | dsimp only | split)

theorem chkStateWrite_kc {d0 d : Dev} {x0 x1 x2 : _} (h : Kc d0 d) : Kc d0 (chkStateWrite x0 x1 x2 d) := by
  unfold chkStateWrite
  repeat' (first
    | (with_reducible (first
      | assumption | refine ite_kc ?_ ?_ | refine Dev.sg_kc ?_ | refine chkOwned_kc ?_ ?_ | refine Kc.to ?_))
    | (intro _) | (refine Kc.of ?_; dsimp only) | dsimp only | split)

theorem chkWrite_kc {d0 d : Dev} {x0 x1 x2 x3 x4 x5 : _} (h : Kc d0 d) : Kc d0 (chkWrite x0 x1 x2 x3 x4 x5 d) := by
  unfold chkWrite
  repeat' (first
    | (with_reducible (first
      | assumption | refine ite_kc ?_ ?_ | refine plainWrite_kc ?_ | refine chkStateWrite_kc ?_
      | refine chkFeed_kc ?_ | refine chkCtrl_kc ?_ | refine Dev.restoreIf_kc ?_ | refine chkOwned_kc ?_ ?_
      | refine Kc.to ?_))
    | (intro _) | (refine Kc.of ?_; dsimp only) | dsimp only | split)

theorem Dev.cmdTaken_kc {d0 d : Dev} {x1 : _} (h : Kc d0 d) : Kc d0 (Dev.cmdTaken d x1) := by
  unfold Dev.cmdTaken
  repeat' (first
    | (with_reducible (first
      | assumption | refine ite_kc ?_ ?_ | refine Kc.to ?_))
    | (intro _) | (refine Kc.of ?_; dsimp only) | dsimp only | split)

theorem Dev.ifIdle_kc {d0 d : Dev} {x1 x2 : _} (h2 : ∀ e, Kc d0 e → Kc d0 (x2 e)) (h : Kc d0 d) :
    Kc d0 (Dev.ifIdle d x1 x2) := by
  unfold Dev.ifIdle
  repeat' (first
    | (with_reducible (first
      | assumption | refine ite_kc ?_ ?_ | refine h2 _ ?_ | refine h2 _ _ ?_ | refine Dev.cmdTaken_kc ?_
      | refine Dev.up_kc ?_ | refine Kc.to ?_))
    | (intro _) | (refine Kc.of ?_; dsimp only) | dsimp only | split)

theorem Dev.surfResult_kc {d0 d : Dev} {x1 x2 x3 : _} (h : Kc d0 d) : Kc d0 (Dev.surfResult d x1 x2 x3) := by
  unfold Dev.surfResult
  repeat' (first
    | (with_reducible (first
      | assumption | refine ite_kc ?_ ?_ | refine Dev.sg_kc ?_ | refine Dev.up_kc ?_ | refine Kc.to ?_))
    | (intro _) | (refine Kc.of ?_; dsimp only) | dsimp only | split)

theorem surfCmdRegister_kc {d0 d : Dev} {x0 x1 : _} (h : Kc d0 d) : Kc d0 (surfCmdRegister x0 x1 d) := by
  unfold surfCmdRegister
  repeat' (first
    | (with_reducible (first
      | assumption | refine ite_kc ?_ ?_ | refine Dev.surfResult_kc ?_ | refine Dev.register_kc ?_
      | refine Kc.to ?_))
    | (intro _) | (refine Kc.of ?_; dsimp only) | dsimp only | split)

theorem surfCmdUnregister_kc {d0 d : Dev} {x0 x1 : _} (h : Kc d0 d) : Kc d0 (surfCmdUnregister x0 x1 d) := by
  unfold surfCmdUnregister
  repeat' (first
    | (with_reducible (first
      | assumption | refine ite_kc ?_ ?_ | refine Dev.surfResult_kc ?_ | refine Dev.unregister_kc ?_
      | refine Kc.to ?_))
    | (intro _) | (refine Kc.of ?_; dsimp only) | dsimp only | split)

theorem Dev.clearTorn_kc {d0 d : Dev} {x1 : _} (h : Kc d0 d) : Kc d0 (Dev.clearTorn d x1).2 := by
  unfold Dev.clearTorn
  repeat' (first
    | (with_reducible (first
      | assumption | refine ite_kc ?_ ?_ | refine Dev.putSurf_kc ?_ | refine Kc.to ?_))
    | (intro _) | (refine Kc.of ?_; dsimp only) | dsimp only | split)

theorem surfCmdClearTorn_kc {d0 d : Dev} {x0 x1 : _} (h : Kc d0 d) : Kc d0 (surfCmdClearTorn x0 x1 d) := by
  unfold surfCmdClearTorn
  repeat' (first
    | (with_reducible (first
      | assumption | refine ite_kc ?_ ?_ | refine Dev.surfResult_kc ?_ | refine Dev.clearTorn_kc ?_
      | refine Kc.to ?_))
    | (intro _) | (refine Kc.of ?_; dsimp only) | dsimp only | split)

theorem surfCmdBadOp_kc {d0 d : Dev} {x0 x1 : _} (h : Kc d0 d) : Kc d0 (surfCmdBadOp x0 x1 d) := by
  unfold surfCmdBadOp
  repeat' (first
    | (with_reducible (first
      | assumption | refine ite_kc ?_ ?_ | refine Dev.surfResult_kc ?_ | refine Kc.to ?_))
    | (intro _) | (refine Kc.of ?_; dsimp only) | dsimp only | split)

theorem surfCmdWrite_kc {d0 d : Dev} {x0 x1 : _} (h : Kc d0 d) : Kc d0 (surfCmdWrite x0 x1 d) := by
  unfold surfCmdWrite
  repeat' (first
    | (with_reducible (first
      | assumption | refine ite_kc ?_ ?_ | refine surfCmdBadOp_kc ?_ | refine surfCmdClearTorn_kc ?_
      | refine surfCmdUnregister_kc ?_ | refine surfCmdRegister_kc ?_ | refine Dev.ifIdle_kc ?_ ?_
      | refine Kc.to ?_))
    | (intro _) | (refine Kc.of ?_; dsimp only) | dsimp only | split)

theorem Dev.fenceOcc_kc {d0 d : Dev} {x1 : _} (h : Kc d0 d) : Kc d0 (Dev.fenceOcc d x1) := by
  unfold Dev.fenceOcc
  repeat' (first
    | (with_reducible (first
      | assumption | refine ite_kc ?_ ?_ | refine Dev.occupancy_kc ?_ | refine Kc.to ?_))
    | (intro _) | (refine Kc.of ?_; dsimp only) | dsimp only | split)

theorem Dev.fenceAllocate_kc {d0 d : Dev} {x1 x2 x3 : _} (h : Kc d0 d) :
    Kc d0 (Dev.fenceAllocate d x1 x2 x3).2.2 := by
  unfold Dev.fenceAllocate
  repeat' (first
    | (with_reducible (first
      | assumption | refine ite_kc ?_ ?_ | refine Dev.fenceOcc_kc ?_ | refine Dev.fenceNow_kc ?_
      | refine Dev.up_kc ?_ | refine Kc.to ?_))
    | (intro _) | (refine Kc.of ?_; dsimp only) | dsimp only | split)

theorem Dev.fenceResult_kc {d0 d : Dev} {x1 x2 x3 : _} (h : Kc d0 d) : Kc d0 (Dev.fenceResult d x1 x2 x3) := by
  unfold Dev.fenceResult
  repeat' (first
    | (with_reducible (first
      | assumption | refine ite_kc ?_ ?_ | refine Dev.sg_kc ?_ | refine Dev.up_kc ?_ | refine Kc.to ?_))
    | (intro _) | (refine Kc.of ?_; dsimp only) | dsimp only | split)

theorem fenceCmdAlloc_kc {d0 d : Dev} {x0 x1 : _} (h : Kc d0 d) : Kc d0 (fenceCmdAlloc x0 x1 d) := by
  unfold fenceCmdAlloc
  repeat' (first
    | (with_reducible (first
      | assumption | refine ite_kc ?_ ?_ | refine Dev.fenceResult_kc ?_ | refine Dev.fenceAllocate_kc ?_
      | refine Kc.to ?_))
    | (intro _) | (refine Kc.of ?_; dsimp only) | dsimp only | split)

theorem Dev.fenceRelease_kc {d0 d : Dev} {x1 : _} (h : Kc d0 d) : Kc d0 (Dev.fenceRelease d x1).2 := by
  unfold Dev.fenceRelease
  repeat' (first
    | (with_reducible (first
      | assumption | refine ite_kc ?_ ?_ | refine Dev.fenceOcc_kc ?_ | refine Dev.fenceNow_kc ?_ | refine Kc.to ?_))
    | (intro _) | (refine Kc.of ?_; dsimp only) | dsimp only | split)

theorem fenceCmdFree_kc {d0 d : Dev} {x0 x1 : _} (h : Kc d0 d) : Kc d0 (fenceCmdFree x0 x1 d) := by
  unfold fenceCmdFree
  repeat' (first
    | (with_reducible (first
      | assumption | refine ite_kc ?_ ?_ | refine Dev.fenceResult_kc ?_ | refine Dev.fenceRelease_kc ?_
      | refine Kc.to ?_))
    | (intro _) | (refine Kc.of ?_; dsimp only) | dsimp only | split)

theorem fenceCmdBadOp_kc {d0 d : Dev} {x0 x1 : _} (h : Kc d0 d) : Kc d0 (fenceCmdBadOp x0 x1 d) := by
  unfold fenceCmdBadOp
  repeat' (first
    | (with_reducible (first
      | assumption | refine ite_kc ?_ ?_ | refine Dev.fenceResult_kc ?_ | refine Kc.to ?_))
    | (intro _) | (refine Kc.of ?_; dsimp only) | dsimp only | split)

theorem fenceCmdWrite_kc {d0 d : Dev} {x0 x1 : _} (h : Kc d0 d) : Kc d0 (fenceCmdWrite x0 x1 d) := by
  unfold fenceCmdWrite
  repeat' (first
    | (with_reducible (first
      | assumption | refine ite_kc ?_ ?_ | refine fenceCmdBadOp_kc ?_ | refine fenceCmdFree_kc ?_
      | refine fenceCmdAlloc_kc ?_ | refine Dev.ifIdle_kc ?_ ?_ | refine Kc.to ?_))
    | (intro _) | (refine Kc.of ?_; dsimp only) | dsimp only | split)

theorem Dev.doorbell_kc {d0 d : Dev} {x1 x2 : _} (h : Kc d0 d) : Kc d0 (Dev.doorbell d x1 x2) := by
  unfold Dev.doorbell
  repeat' (first
    | (with_reducible (first
      | assumption | refine ite_kc ?_ ?_ | refine Dev.fenceNow_kc ?_ | refine Dev.up_kc ?_ | refine Kc.to ?_))
    | (intro _) | (refine Kc.of ?_; dsimp only) | dsimp only | split)

theorem doorbellWrite_kc {d0 d : Dev} {x0 : _} (h : Kc d0 d) : Kc d0 (doorbellWrite x0 d) := by
  unfold doorbellWrite
  repeat' (first
    | (with_reducible (first
      | assumption | refine ite_kc ?_ ?_ | refine Dev.doorbell_kc ?_ | refine Kc.to ?_))
    | (intro _) | (refine Kc.of ?_; dsimp only) | dsimp only | split)

theorem Dev.watchWritten_kc {d0 d : Dev} {x1 : _} (h : Kc d0 d) : Kc d0 (Dev.watchWritten d x1) := by
  unfold Dev.watchWritten
  repeat' (first
    | (with_reducible (first
      | assumption | refine ite_kc ?_ ?_ | refine Dev.watch_kc ?_ | refine Kc.to ?_))
    | (intro _) | (refine Kc.of ?_; dsimp only) | dsimp only | split)

theorem fenceRegWrite_kc {d0 d : Dev} {x0 x1 x2 x3 : _} (h : Kc d0 d) : Kc d0 (fenceRegWrite x0 x1 x2 x3 d) := by
  unfold fenceRegWrite
  repeat' (first
    | (with_reducible (first
      | assumption | refine ite_kc ?_ ?_ | refine Dev.watch_kc ?_ | refine Dev.watchWritten_kc ?_
      | refine plainWrite_kc ?_ | refine Kc.to ?_))
    | (intro _) | (refine Kc.of ?_; dsimp only) | dsimp only | split)

theorem Dev.moveTo_kc {d0 d : Dev} {x1 : _} (h : Kc d0 d) : Kc d0 (Dev.moveTo d x1) := by
  unfold Dev.moveTo
  repeat' (first
    | (with_reducible (first
      | assumption | refine ite_kc ?_ ?_ | refine Kc.to ?_))
    | (intro _) | (refine Kc.of ?_; dsimp only) | dsimp only | split)

theorem Dev.tapLines_kc {d0 d : Dev} {x0 : Nat → List (List Byte)} {x1 : Nat → Bool} {l : List Nat} (h : Kc d0 d) :
    Kc d0 (Dev.tapLines x0 x1 l d).2 := by
  induction l generalizing d with
  | nil => exact h
  | cons y t ih =>
    unfold Dev.tapLines
    split
    · exact ih (Dev.freeLine_kc h)
    · exact ih h

theorem Dev.wbWrites_kc {d0 d : Dev} {x1 x2 x3 x4 : _} (h : Kc d0 d) : Kc d0 (Dev.wbWrites d x1 x2 x3 x4).2 := by
  unfold Dev.wbWrites
  repeat' (first
    | (with_reducible (first
      | assumption | refine ite_kc ?_ ?_ | refine Dev.tapLines_kc ?_ | refine Kc.to ?_))
    | (intro _) | (refine Kc.of ?_; dsimp only) | dsimp only | split)

theorem Dev.putWrites_kc {d0 d : Dev} {x1 x2 : _} (h : Kc d0 d) : Kc d0 (Dev.putWrites d x1 x2) := by
  unfold Dev.putWrites
  repeat' (first
    | (with_reducible (first
      | assumption | refine ite_kc ?_ ?_ | refine Dev.each_kc ?_ ?_ | refine Dev.store_kc ?_
      | refine Dev.noteWrite_kc ?_ | refine Kc.to ?_))
    | (intro _) | (refine Kc.of ?_; dsimp only) | dsimp only | split)

theorem Dev.wbReset_kc {d0 d : Dev} {x1 : _} (h : Kc d0 d) : Kc d0 (Dev.wbReset d x1) := by
  unfold Dev.wbReset
  repeat' (first
    | (with_reducible (first
      | assumption | refine ite_kc ?_ ?_ | refine Dev.putPst_kc ?_ | refine Dev.putWrites_kc ?_
      | refine Dev.wbWrites_kc ?_ | refine Dev.draw_kc ?_ | refine Kc.to ?_))
    | (intro _) | (refine Kc.of ?_; dsimp only) | dsimp only | split)

theorem Dev.holdStop_kc {d0 d : Dev} {x0 x1 : _} (h : Kc d0 d) : Kc d0 (Dev.holdStop x0 x1 d) := by
  unfold Dev.holdStop
  repeat' (first
    | (with_reducible (first
      | assumption | refine ite_kc ?_ ?_ | refine Dev.restShow_kc ?_ | refine Dev.dn_kc ?_
      | refine Dev.setStep_kc ?_ | refine Dev.putPst_kc ?_ | refine Dev.wbReset_kc ?_ | refine Kc.to ?_))
    | (intro _) | (refine Kc.of ?_; dsimp only) | dsimp only | split)

theorem Dev.waitStop_kc {d0 d : Dev} (h : Kc d0 d) : Kc d0 (Dev.waitStop d) := by
  unfold Dev.waitStop
  repeat' (first
    | (with_reducible (first
      | assumption | refine ite_kc ?_ ?_ | refine Dev.each_kc ?_ ?_ | refine Dev.holdStop_kc ?_ | refine Kc.to ?_))
    | (intro _) | (refine Kc.of ?_; dsimp only) | dsimp only | split)

theorem Dev.holdBegin_kc {d0 d : Dev} {x1 : _} (h : Kc d0 d) : Kc d0 (Dev.holdBegin d x1) := by
  unfold Dev.holdBegin
  repeat' (first
    | (with_reducible (first
      | assumption | refine ite_kc ?_ ?_ | refine Dev.waitStop_kc ?_ | refine Dev.moveTo_kc ?_
      | refine Dev.up_kc ?_ | refine Dev.onlyIf_kc ?_ ?_ | refine Kc.to ?_))
    | (intro _) | (refine Kc.of ?_; dsimp only) | dsimp only | split)

end Sys2Proof.Machine
end

