-- ==== Sys2Proof/Laws/CanonC.lean ====
section
/-! SUPPORT.  Every operation keeps the canonical form of the tables, part 3 of 4: one lemma for each operation that returns a device. -/

set_option linter.unusedTactic false
set_option linter.unreachableTactic false

namespace Sys2Proof.Machine

theorem Dev.portsOff_kc {d0 d : Dev} (h : Kc d0 d) : Kc d0 (Dev.portsOff d) := by
  unfold Dev.portsOff
  repeat' (first
    | (with_reducible (first
      | assumption | refine ite_kc ?_ ?_ | refine Dev.each_kc ?_ ?_ | refine Dev.dn_kc ?_
      | refine Dev.hdcpTo_kc ?_ | refine Dev.up_kc ?_ | refine Kc.to ?_))
    | (intro _) | (refine Kc.of ?_; dsimp only) | dsimp only | split)

theorem Dev.cutAll_kc {d0 d : Dev} (h : Kc d0 d) : Kc d0 (Dev.cutAll d) := by
  unfold Dev.cutAll
  repeat' (first
    | (with_reducible (first
      | assumption | refine ite_kc ?_ ?_ | refine Dev.each_kc ?_ ?_ | refine Dev.holdStop_kc ?_ | refine Kc.to ?_))
    | (intro _) | (refine Kc.of ?_; dsimp only) | dsimp only | split)

theorem Dev.logAll_kc {d0 d : Dev} (h : Kc d0 d) : Kc d0 (Dev.logAll d) := by
  unfold Dev.logAll
  repeat' (first
    | (with_reducible (first
      | assumption | refine ite_kc ?_ ?_ | refine Dev.each_kc ?_ ?_ | refine Dev.logWrite_kc ?_ | refine Kc.to ?_))
    | (intro _) | (refine Kc.of ?_; dsimp only) | dsimp only | split)

theorem Dev.abandon_kc {d0 d : Dev} (h : Kc d0 d) : Kc d0 (Dev.abandon d) := by
  unfold Dev.abandon
  repeat' (first
    | (with_reducible (first
      | assumption | refine ite_kc ?_ ?_ | refine Kc.to ?_))
    | (intro _) | (refine Kc.of ?_; dsimp only) | dsimp only | split)

theorem Dev.deepBegin_kc {d0 d : Dev} {x1 : _} (h : Kc d0 d) : Kc d0 (Dev.deepBegin d x1) := by
  unfold Dev.deepBegin
  repeat' (first
    | (with_reducible (first
      | assumption | refine ite_kc ?_ ?_ | refine Dev.abandon_kc ?_ | refine Dev.logAll_kc ?_
      | refine Dev.moveTo_kc ?_ | refine Dev.waitStop_kc ?_ | refine Dev.cutAll_kc ?_ | refine Dev.portsOff_kc ?_
      | refine Kc.to ?_))
    | (intro _) | (refine Kc.of ?_; dsimp only) | dsimp only | split)

theorem Dev.holdExit_kc {d0 d : Dev} {x1 : _} (h : Kc d0 d) : Kc d0 (Dev.holdExit d x1) := by
  unfold Dev.holdExit
  repeat' (first
    | (with_reducible (first
      | assumption | refine ite_kc ?_ ?_ | refine Dev.moveTo_kc ?_ | refine Dev.up_kc ?_ | refine Dev.sg_kc ?_
      | refine Kc.to ?_))
    | (intro _) | (refine Kc.of ?_; dsimp only) | dsimp only | split)

theorem Dev.powerTake_kc {d0 d : Dev} {x1 : _} (h : Kc d0 d) : Kc d0 (Dev.powerTake d x1) := by
  unfold Dev.powerTake
  repeat' (first
    | (with_reducible (first
      | assumption | refine ite_kc ?_ ?_ | refine Dev.holdExit_kc ?_ | refine Dev.deepBegin_kc ?_
      | refine Dev.holdBegin_kc ?_ | refine Dev.sg_kc ?_ | refine Kc.to ?_))
    | (intro _) | (refine Kc.of ?_; dsimp only) | dsimp only | split)

theorem powerCtrlWrite_kc {d0 d : Dev} {x0 : _} (h : Kc d0 d) : Kc d0 (powerCtrlWrite x0 d) := by
  unfold powerCtrlWrite
  repeat' (first
    | (with_reducible (first
      | assumption | refine ite_kc ?_ ?_ | refine Dev.powerTake_kc ?_ | refine Dev.up_kc ?_ | refine Kc.to ?_))
    | (intro _) | (refine Kc.of ?_; dsimp only) | dsimp only | split)

theorem Dev.clearHist_kc {d0 d : Dev} {x1 : _} (h : Kc d0 d) : Kc d0 (Dev.clearHist d x1) := by
  unfold Dev.clearHist
  repeat' (first
    | (with_reducible (first
      | assumption | refine ite_kc ?_ ?_ | refine Kc.to ?_))
    | (intro _) | (refine Kc.of ?_; dsimp only) | dsimp only | split)

theorem Dev.raceEnd_kc {d0 d : Dev} {x1 : _} (h : Kc d0 d) : Kc d0 (Dev.raceEnd d x1) := by
  unfold Dev.raceEnd
  repeat' (first
    | (with_reducible (first
      | assumption | refine ite_kc ?_ ?_ | refine Kc.to ?_))
    | (intro _) | (refine Kc.of ?_; dsimp only) | dsimp only | split)

theorem Dev.releaseAll_kc {d0 d : Dev} {x1 : _} (h : Kc d0 d) : Kc d0 (Dev.releaseAll d x1) := by
  unfold Dev.releaseAll
  repeat' (first
    | (with_reducible (first
      | assumption | refine ite_kc ?_ ?_ | refine Dev.release_kc ?_ | refine Kc.to ?_))
    | (intro _) | (refine Kc.of ?_; dsimp only) | dsimp only | split)

theorem Dev.holdOff_kc {d0 d : Dev} {x1 : _} (h : Kc d0 d) : Kc d0 (Dev.holdOff d x1) := by
  unfold Dev.holdOff
  repeat' (first
    | (with_reducible (first
      | assumption | refine ite_kc ?_ ?_ | refine Dev.putCrust_kc ?_ | refine Dev.dn_kc ?_ | refine Kc.to ?_))
    | (intro _) | (refine Kc.of ?_; dsimp only) | dsimp only | split)

theorem Dev.planeShow_kc {d0 d : Dev} {x1 : _} (h : Kc d0 d) : Kc d0 (Dev.planeShow d x1) := by
  unfold Dev.planeShow
  repeat' (first
    | (with_reducible (first
      | assumption | refine ite_kc ?_ ?_ | refine Dev.sg_kc ?_ | refine Kc.to ?_))
    | (intro _) | (refine Kc.of ?_; dsimp only) | dsimp only | split)

theorem Dev.crustShow_kc {d0 d : Dev} {x1 : _} (h : Kc d0 d) : Kc d0 (Dev.crustShow d x1) := by
  unfold Dev.crustShow
  repeat' (first
    | (with_reducible (first
      | assumption | refine ite_kc ?_ ?_ | refine Dev.largeShow_kc ?_ | refine Dev.sg_kc ?_ | refine Kc.to ?_))
    | (intro _) | (refine Kc.of ?_; dsimp only) | dsimp only | split)

theorem Dev.dissolve_kc {d0 d : Dev} {x1 x2 : _} (h : Kc d0 d) : Kc d0 (Dev.dissolve d x1 x2) := by
  unfold Dev.dissolve
  repeat' (first
    | (with_reducible (first
      | assumption | refine ite_kc ?_ ?_ | refine Dev.each_kc ?_ ?_ | refine Dev.putCrust_kc ?_
      | refine Dev.crustShow_kc ?_ | refine Dev.planeShow_kc ?_ | refine Dev.storeShow_kc ?_ | refine Dev.up_kc ?_
      | refine Dev.onlyIf_kc ?_ ?_ | refine Dev.dn_kc ?_ | refine Kc.to ?_))
    | (intro _) | (refine Kc.of ?_; dsimp only) | dsimp only | split)

theorem Dev.safeBlackOff_kc {d0 d : Dev} {x1 : _} (h : Kc d0 d) : Kc d0 (Dev.safeBlackOff d x1) := by
  unfold Dev.safeBlackOff
  repeat' (first
    | (with_reducible (first
      | assumption | refine ite_kc ?_ ?_ | refine Dev.putPst_kc ?_ | refine Dev.sg_kc ?_ | refine Kc.to ?_))
    | (intro _) | (refine Kc.of ?_; dsimp only) | dsimp only | split)

theorem Dev.resetBanks_kc {d0 d : Dev} {x1 : _} (h : Kc d0 d) : Kc d0 (Dev.resetBanks d x1) := by
  unfold Dev.resetBanks
  repeat' (first
    | (with_reducible (first
      | assumption | refine ite_kc ?_ ?_ | refine foldFst_kc ?_ ?_ | refine foldl_kc ?_ ?_
      | refine Kt.activeSet ?_ | refine Kt.activeBlk ?_ | refine Kt.proofSet ?_ | refine Kt.proofBlk ?_
      | refine Kt.regsMap ?_ | refine Kt.activeBlks ?_ | refine Kt.proofBlks ?_ | refine Kc.to ?_
      | refine Kt.memNil ?_))
    | (intro _) | (refine Kc.of ?_; dsimp only) | dsimp only | split)

theorem Dev.surfReset_kc {d0 d : Dev} (h : Kc d0 d) : Kc d0 (Dev.surfReset d) := by
  unfold Dev.surfReset
  repeat' (first
    | (with_reducible (first
      | assumption | refine ite_kc ?_ ?_ | refine Dev.each_kc ?_ ?_ | refine Dev.putSurf_kc ?_
      | refine Dev.retire_kc ?_ | refine Dev.lostSweep_kc ?_ | refine Kc.to ?_))
    | (intro _) | (refine Kc.of ?_; dsimp only) | dsimp only | split)

theorem Dev.showAll_kc {d0 d : Dev} (h : Kc d0 d) : Kc d0 (Dev.showAll d) := by
  unfold Dev.showAll
  repeat' (first
    | (with_reducible (first
      | assumption | refine ite_kc ?_ ?_ | refine Dev.armShow_kc ?_ | refine Dev.poolShow_kc ?_
      | refine Dev.capShow_kc ?_ | refine Kc.to ?_))
    | (intro _) | (refine Kc.of ?_; dsimp only) | dsimp only | split)

theorem Dev.pipeReset_kc {d0 d : Dev} {x1 x2 : _} (h : Kc d0 d) : Kc d0 (Dev.pipeReset d x1 x2) := by
  unfold Dev.pipeReset
  repeat' (first
    | (with_reducible (first
      | assumption | refine ite_kc ?_ ?_ | refine Dev.each_kc ?_ ?_ | refine Dev.crustShow_kc ?_
      | refine Dev.planeShow_kc ?_ | refine Dev.storeShow_kc ?_ | refine Dev.showAll_kc ?_
      | refine Dev.edpStrap_kc ?_ | refine Dev.surfReset_kc ?_ | refine Dev.discarded_kc ?_
      | refine Dev.genSync_kc ?_ | refine Dev.resetRegs_kc ?_ | refine Dev.keepLive_kc ?_
      | refine Dev.putPst_kc ?_ | refine Dev.resetBanks_kc ?_ | refine Dev.safeBlackOff_kc ?_
      | refine Dev.dissolve_kc ?_ | refine Dev.holdOff_kc ?_ | refine Dev.ownerStep_kc ?_
      | refine Dev.putSvc_kc ?_ | refine Dev.quietReset_kc ?_ | refine Dev.releaseAll_kc ?_
      | refine Dev.dropWaiting_kc ?_ | refine Dev.guardClear_kc ?_ | refine Dev.raceEnd_kc ?_
      | refine Dev.wbReset_kc ?_ | refine Dev.clearRuns_kc ?_ | refine Dev.clearHist_kc ?_
      | refine Dev.clearOutRun_kc ?_ | refine Kc.to ?_))
    | (intro _) | (refine Kc.of ?_; dsimp only) | dsimp only | split)

theorem powerPipeReset_kc {d0 d : Dev} {x0 x1 : _} (h : Kc d0 d) : Kc d0 (powerPipeReset x0 x1 d) := by
  unfold powerPipeReset
  repeat' (first
    | (with_reducible (first
      | assumption | refine ite_kc ?_ ?_ | refine Dev.each_kc ?_ ?_ | refine Dev.pipeReset_kc ?_
      | refine Dev.ownViolation_kc ?_ | refine Kc.to ?_))
    | (intro _) | (refine Kc.of ?_; dsimp only) | dsimp only | split)

theorem Dev.keysOff_kc {d0 d : Dev} (h : Kc d0 d) : Kc d0 (Dev.keysOff d) := by
  unfold Dev.keysOff
  repeat' (first
    | (with_reducible (first
      | assumption | refine ite_kc ?_ ?_ | refine Dev.each_kc ?_ ?_ | refine Dev.sg_kc ?_ | refine Dev.up_kc ?_
      | refine Dev.dn_kc ?_ | refine Dev.hdcpTo_kc ?_ | refine Kc.to ?_))
    | (intro _) | (refine Kc.of ?_; dsimp only) | dsimp only | split)

theorem Dev.scanEnter_kc {d0 d : Dev} (h : Kc d0 d) : Kc d0 (Dev.scanEnter d) := by
  unfold Dev.scanEnter
  repeat' (first
    | (with_reducible (first
      | assumption | refine ite_kc ?_ ?_ | refine Dev.keysOff_kc ?_ | refine Dev.cutAll_kc ?_
      | refine Dev.portsOff_kc ?_ | refine Kc.to ?_))
    | (intro _) | (refine Kc.of ?_; dsimp only) | dsimp only | split)

theorem scanReq_kc {d0 d : Dev} {x0 : _} (h : Kc d0 d) : Kc d0 (scanReq x0 d) := by
  unfold scanReq
  repeat' (first
    | (with_reducible (first
      | assumption | refine ite_kc ?_ ?_ | refine Dev.up_kc ?_ | refine Dev.scanEnter_kc ?_ | refine Kc.to ?_))
    | (intro _) | (refine Kc.of ?_; dsimp only) | dsimp only | split)

theorem Dev.w1cAt_kc {d0 d : Dev} {x1 x2 : _} (h : Kc d0 d) : Kc d0 (Dev.w1cAt d x1 x2) := by
  unfold Dev.w1cAt
  repeat' (first
    | (with_reducible (first
      | assumption | refine ite_kc ?_ ?_ | refine Dev.w1c_kc ?_ | refine Kc.to ?_))
    | (intro _) | (refine Kc.of ?_; dsimp only) | dsimp only | split)

theorem regBody_kc {d0 d : Dev} {x0 x1 x2 x3 x4 x5 : _} (h : Kc d0 d) : Kc d0 (regBody x0 x1 x2 x3 x4 x5 d) := by
  unfold regBody
  repeat' (first
    | (with_reducible (first
      | assumption | refine ite_kc ?_ ?_ | refine Dev.w1cAt_kc ?_ | refine scanReq_kc ?_
      | refine powerPipeReset_kc ?_ | refine powerCtrlWrite_kc ?_ | refine fenceRegWrite_kc ?_
      | refine doorbellWrite_kc ?_ | refine fenceCmdWrite_kc ?_ | refine surfCmdWrite_kc ?_
      | refine chkWrite_kc ?_ | refine dmaChWrite_kc ?_ | refine dmaEngineCtrl_kc ?_ | refine sqWrite_kc ?_
      | refine sigStatusWrite_kc ?_ | refine sigSnapSelWrite_kc ?_ | refine declWrite_kc ?_
      | refine fetchEffWrite_kc ?_ | refine Dev.restore_kc ?_ | refine crustStatusWrite_kc ?_
      | refine crustTileSelWrite_kc ?_ | refine crustHintGo_kc ?_ | refine storeWrite_kc ?_
      | refine coefWrite_kc ?_ | refine Dev.restoreIf_kc ?_ | refine tmLoad_kc ?_ | refine lutLoad_kc ?_
      | refine commitClrCounts_kc ?_ | refine commitStrobe_kc ?_ | refine parityStatusWrite_kc ?_
      | refine tickStatusWrite_kc ?_ | refine tickCtrlWrite_kc ?_ | refine lockdownWrite_kc ?_
      | refine resetCtrlWrite_kc ?_ | refine Dev.keyed_kc ?_ ?_ | refine unlockWrite_kc ?_
      | refine plainWrite_kc ?_ | refine Kc.to ?_))
    | (intro _) | (refine Kc.of ?_; dsimp only) | dsimp only | split)

theorem regApply_kc {d0 d : Dev} {x0 x1 x2 x3 x4 : _} (h : Kc d0 d) : Kc d0 (regApply x0 x1 x2 x3 x4 d) := by
  unfold regApply
  repeat' (first
    | (with_reducible (first
      | assumption | refine ite_kc ?_ ?_ | refine regBody_kc ?_ | refine Dev.up_kc ?_ | refine Kc.to ?_))
    | (intro _) | (refine Kc.of ?_; dsimp only) | dsimp only | split)

theorem regFull_kc {d0 d : Dev} {x0 x1 x2 : _} (h : Kc d0 d) : Kc d0 (regFull x0 x1 x2 d) := by
  unfold regFull
  repeat' (first
    | (with_reducible (first
      | assumption | refine ite_kc ?_ ?_ | refine regApply_kc ?_ | refine Dev.postedShow_kc ?_
      | refine Dev.aliasFlag_kc ?_ | refine Dev.postedDrop_kc ?_ | refine Kc.to ?_))
    | (intro _) | (refine Kc.of ?_; dsimp only) | dsimp only | split)

theorem regWrite_kc {d0 d : Dev} {x0 x1 x2 x3 : _} (h : Kc d0 d) : Kc d0 (regWrite x0 x1 x2 x3 d) := by
  unfold regWrite
  repeat' (first
    | (with_reducible (first
      | assumption | refine ite_kc ?_ ?_ | refine regFull_kc ?_ | refine Dev.accErr_kc ?_ | refine Kc.to ?_))
    | (intro _) | (refine Kc.of ?_; dsimp only) | dsimp only | split)

theorem Dev.slotStore_kc {d0 d : Dev} {x1 x2 : _} (h : Kc d0 d) : Kc d0 (Dev.slotStore d x1 x2) := by
  unfold Dev.slotStore
  repeat' (first
    | (with_reducible (first
      | assumption | refine ite_kc ?_ ?_ | refine Kc.to ?_))
    | (intro _) | (refine Kc.of ?_; dsimp only) | dsimp only | split)

theorem icpCmdTailWrite_kc {d0 d : Dev} {x0 : _} (h : Kc d0 d) : Kc d0 (icpCmdTailWrite x0 d) := by
  unfold icpCmdTailWrite
  repeat' (first
    | (with_reducible (first
      | assumption | refine ite_kc ?_ ?_ | refine Dev.sg_kc ?_ | refine Dev.up_kc ?_ | refine Kc.to ?_))
    | (intro _) | (refine Kc.of ?_; dsimp only) | dsimp only | split)

theorem icpRplHeadWrite_kc {d0 d : Dev} {x0 : _} (h : Kc d0 d) : Kc d0 (icpRplHeadWrite x0 d) := by
  unfold icpRplHeadWrite
  repeat' (first
    | (with_reducible (first
      | assumption | refine ite_kc ?_ ?_ | refine Dev.sg_kc ?_ | refine Dev.up_kc ?_ | refine Kc.to ?_))
    | (intro _) | (refine Kc.of ?_; dsimp only) | dsimp only | split)

theorem ringWrite_kc {d0 d : Dev} {x0 x1 x2 x3 : _} (h : Kc d0 d) : Kc d0 (ringWrite x0 x1 x2 x3 d) := by
  unfold ringWrite
  repeat' (first
    | (with_reducible (first
      | assumption | refine ite_kc ?_ ?_ | refine Dev.each_kc ?_ ?_ | refine plainWrite_kc ?_
      | refine icpRplHeadWrite_kc ?_ | refine icpCmdTailWrite_kc ?_ | refine Dev.restoreIf_kc ?_
      | refine Dev.accErr_kc ?_ | refine Dev.up_kc ?_ | refine Dev.slotStore_kc ?_ | refine Kc.to ?_))
    | (intro _) | (refine Kc.of ?_; dsimp only) | dsimp only | split)

theorem winWrite_kc {d0 d : Dev} {x0 x1 x2 x3 x4 : _} (h : Kc d0 d) : Kc d0 (winWrite x0 x1 x2 x3 x4 d) := by
  unfold winWrite
  repeat' (first
    | (with_reducible (first
      | assumption | refine ite_kc ?_ ?_ | refine ringWrite_kc ?_ | refine regWrite_kc ?_ | refine Kc.to ?_))
    | (intro _) | (refine Kc.of ?_; dsimp only) | dsimp only | split)

theorem Dev.svcTake_kc {d0 d : Dev} {x1 : _} (h : Kc d0 d) : Kc d0 (Dev.svcTake d x1).2 := by
  unfold Dev.svcTake
  repeat' (first
    | (with_reducible (first
      | assumption | refine ite_kc ?_ ?_ | refine Kc.to ?_))
    | (intro _) | (refine Kc.of ?_; dsimp only) | dsimp only | split)

theorem Dev.chkRun_kc {d0 d : Dev} {x1 x2 x3 : _} (h : Kc d0 d) : Kc d0 (Dev.chkRun d x1 x2 x3).2 := by
  unfold Dev.chkRun
  repeat' (first
    | (with_reducible (first
      | assumption | refine ite_kc ?_ ?_ | refine foldFst_kc ?_ ?_ | refine foldl_kc ?_ ?_
      | refine Dev.putChk_kc ?_ | refine Kc.to ?_))
    | (intro _) | (refine Kc.of ?_; dsimp only) | dsimp only | split)

theorem Dev.trailer_kc {d0 d : Dev} {x1 : _} (h : Kc d0 d) : Kc d0 (Dev.trailer d x1).2 := by
  unfold Dev.trailer
  repeat' (first
    | (with_reducible (first
      | assumption | refine ite_kc ?_ ?_ | refine Dev.chkRun_kc ?_ | refine Kc.to ?_))
    | (intro _) | (refine Kc.of ?_; dsimp only) | dsimp only | split)

theorem Dev.putSide_kc {d0 d : Dev} {x1 x2 : _} (h : Kc d0 d) : Kc d0 (Dev.putSide d x1 x2) := by
  unfold Dev.putSide
  repeat' (first
    | (with_reducible (first
      | assumption | refine ite_kc ?_ ?_ | refine Kc.to ?_))
    | (intro _) | (refine Kc.of ?_; dsimp only) | dsimp only | split)

theorem Dev.post_kc {d0 d : Dev} {x1 x2 x3 : _} (h : Kc d0 d) : Kc d0 (Dev.post d x1 x2 x3) := by
  unfold Dev.post
  repeat' (first
    | (with_reducible (first
      | assumption | refine ite_kc ?_ ?_ | refine Dev.putSide_kc ?_ | refine Dev.slotStore_kc ?_
      | refine Dev.sg_kc ?_ | refine Dev.msix_kc ?_ | refine Dev.trailer_kc ?_ | refine Kc.to ?_))
    | (intro _) | (refine Kc.of ?_; dsimp only) | dsimp only | split)

theorem Dev.resend_kc {d0 d : Dev} {x1 x2 x3 : _} (h : Kc d0 d) : Kc d0 (Dev.resend d x1 x2 x3) := by
  unfold Dev.resend
  repeat' (first
    | (with_reducible (first
      | assumption | refine ite_kc ?_ ?_ | refine Dev.post_kc ?_ | refine Dev.svcTake_kc ?_ | refine Kc.to ?_))
    | (intro _) | (refine Kc.of ?_; dsimp only) | dsimp only | split)

theorem Dev.replayWrite_kc {d0 d : Dev} {x1 : _} (h : Kc d0 d) : Kc d0 (Dev.replayWrite d x1) := by
  unfold Dev.replayWrite
  repeat' (first
    | (with_reducible (first
      | assumption | refine ite_kc ?_ ?_ | refine Dev.store_kc ?_ | refine Dev.noteWrite_kc ?_
      | refine Dev.freeBytes_kc ?_ | refine Kc.to ?_))
    | (intro _) | (refine Kc.of ?_; dsimp only) | dsimp only | split)

theorem functionLevelReset_kc {d0 d : Dev} (h : Kc d0 d) : Kc d0 (functionLevelReset d) := by
  unfold functionLevelReset
  repeat' (first
    | (with_reducible (first
      | assumption | refine ite_kc ?_ ?_ | refine Dev.resetRegs_kc ?_ | refine Dev.hintCount_kc ?_
      | refine Dev.postedShow_kc ?_ | refine Dev.restShow_kc ?_ | refine Dev.enginesStop_kc ?_ | refine Kc.to ?_))
    | (intro _) | (refine Kc.of ?_; dsimp only) | dsimp only | split)

theorem Dev.layerData_kc {d0 d : Dev} {x1 x2 : _} (h : Kc d0 d) : Kc d0 (Dev.layerData d x1 x2) := by
  unfold Dev.layerData
  repeat' (first
    | (with_reducible (first
      | assumption | refine ite_kc ?_ ?_ | refine Dev.mark_kc ?_ | refine Kc.to ?_))
    | (intro _) | (refine Kc.of ?_; dsimp only) | dsimp only | split)

theorem Dev.crustData_kc {d0 d : Dev} {x1 x2 : _} (h : Kc d0 d) : Kc d0 (Dev.crustData d x1 x2) := by
  unfold Dev.crustData
  repeat' (first
    | (with_reducible (first
      | assumption | refine ite_kc ?_ ?_ | refine Dev.mark_kc ?_ | refine Kc.to ?_))
    | (intro _) | (refine Kc.of ?_; dsimp only) | dsimp only | split)

theorem storeParity_kc {d0 d : Dev} {x0 x1 : _} (h : Kc d0 d) : Kc d0 (storeParity x0 x1 d) := by
  unfold storeParity
  repeat' (first
    | (with_reducible (first
      | assumption | refine ite_kc ?_ ?_ | refine Dev.crustData_kc ?_ | refine Dev.layerData_kc ?_
      | refine Dev.up_kc ?_ | refine Kc.to ?_))
    | (intro _) | (refine Kc.of ?_; dsimp only) | dsimp only | split)

theorem opSurfClearTorn_kc {d0 d : Dev} {x0 : _} (h : Kc d0 d) : AnsKc d0 (opSurfClearTorn x0 d) := by
  unfold opSurfClearTorn
  repeat' (first
    | (with_reducible (first
      | assumption | refine ite_kc ?_ ?_ | refine AnsKc.mk ?_ ?_ | refine id_kc ?_ | refine iteAns_kc ?_ ?_
      | refine Dev.clearTorn_kc ?_ | refine Kc.to ?_))
    | (intro _) | (refine Kc.of ?_; dsimp only) | dsimp only | split)

theorem Dev.lanes_kc {d0 d : Dev} {x1 : _} (h : Kc d0 d) : Kc d0 (Dev.lanes d x1) := by
  unfold Dev.lanes
  repeat' (first
    | (with_reducible (first
      | assumption | refine ite_kc ?_ ?_ | refine Dev.each_kc ?_ ?_ | refine Dev.sg_kc ?_ | refine Dev.draw_kc ?_
      | refine Kc.to ?_))
    | (intro _) | (refine Kc.of ?_; dsimp only) | dsimp only | split)

theorem Dev.deepWake_kc {d0 d : Dev} {x1 : _} (h : Kc d0 d) : Kc d0 (Dev.deepWake d x1) := by
  unfold Dev.deepWake
  repeat' (first
    | (with_reducible (first
      | assumption | refine ite_kc ?_ ?_ | refine Dev.restart_kc ?_ | refine Dev.sg_kc ?_ | refine Kc.to ?_))
    | (intro _) | (refine Kc.of ?_; dsimp only) | dsimp only | split)

theorem Dev.wakeEvent_kc {d0 d : Dev} {x1 : _} (h : Kc d0 d) : Kc d0 (Dev.wakeEvent d x1) := by
  unfold Dev.wakeEvent
  repeat' (first
    | (with_reducible (first
      | assumption | refine ite_kc ?_ ?_ | refine Dev.holdExit_kc ?_ | refine Dev.deepWake_kc ?_ | refine Kc.to ?_))
    | (intro _) | (refine Kc.of ?_; dsimp only) | dsimp only | split)

theorem perstDeassert_kc {d0 d : Dev} (h : Kc d0 d) : Kc d0 (perstDeassert d) := by
  unfold perstDeassert
  repeat' (first
    | (with_reducible (first
      | assumption | refine ite_kc ?_ ?_ | refine Dev.wakeEvent_kc ?_ | refine Dev.onlyIf_kc ?_ ?_
      | refine Kc.to ?_))
    | (intro _) | (refine Kc.of ?_; dsimp only) | dsimp only | split)

theorem lutLoadComplete_kc {d0 d : Dev} {x0 : _} (h : Kc d0 d) : Kc d0 (lutLoadComplete x0 d) := by
  unfold lutLoadComplete
  repeat' (first
    | (with_reducible (first
      | assumption | refine ite_kc ?_ ?_ | refine Dev.sg_kc ?_ | refine Kc.to ?_))
    | (intro _) | (refine Kc.of ?_; dsimp only) | dsimp only | split)

theorem Dev.testBegin_kc {d0 d : Dev} {x1 : _} (h : Kc d0 d) : Kc d0 (Dev.testBegin d x1).1 := by
  unfold Dev.testBegin
  repeat' (first
    | (with_reducible (first
      | assumption | refine ite_kc ?_ ?_ | refine Dev.sg_kc ?_ | refine Dev.testNext_kc ?_ | refine Kc.to ?_))
    | (intro _) | (refine Kc.of ?_; dsimp only) | dsimp only | split)

theorem Dev.shutEnd_kc {d0 d : Dev} (h : Kc d0 d) : Kc d0 (Dev.shutEnd d) := by
  unfold Dev.shutEnd
  repeat' (first
    | (with_reducible (first
      | assumption | refine ite_kc ?_ ?_ | refine Dev.deepBegin_kc ?_ | refine Dev.holdBegin_kc ?_
      | refine Kc.to ?_))
    | (intro _) | (refine Kc.of ?_; dsimp only) | dsimp only | split)

theorem Dev.testOver_kc {d0 d : Dev} (h : Kc d0 d) : Kc d0 (Dev.testOver d) := by
  unfold Dev.testOver
  repeat' (first
    | (with_reducible (first
      | assumption | refine ite_kc ?_ ?_ | refine Dev.sg_kc ?_ | refine Dev.shutEnd_kc ?_ | refine Kc.to ?_))
    | (intro _) | (refine Kc.of ?_; dsimp only) | dsimp only | split)

theorem Dev.shutGo_kc {d0 d : Dev} (h : Kc d0 d) : Kc d0 (Dev.shutGo d) := by
  unfold Dev.shutGo
  repeat' (first
    | (with_reducible (first
      | assumption | refine ite_kc ?_ ?_ | refine Dev.testOver_kc ?_ | refine Dev.portsOff_kc ?_
      | refine Dev.testBegin_kc ?_ | refine Kc.to ?_))
    | (intro _) | (refine Kc.of ?_; dsimp only) | dsimp only | split)

theorem Dev.shutBegin_kc {d0 d : Dev} {x1 : _} (h : Kc d0 d) : Kc d0 (Dev.shutBegin d x1) := by
  unfold Dev.shutBegin
  repeat' (first
    | (with_reducible (first
      | assumption | refine ite_kc ?_ ?_ | refine Dev.shutEnd_kc ?_ | refine Dev.waitStop_kc ?_
      | refine Dev.moveTo_kc ?_ | refine Dev.shutGo_kc ?_ | refine Kc.to ?_))
    | (intro _) | (refine Kc.of ?_; dsimp only) | dsimp only | split)

theorem opShutdown_kc {d0 d : Dev} {x0 : _} (h : Kc d0 d) : AnsKc d0 (opShutdown x0 d) := by
  unfold opShutdown
  repeat' (first
    | (with_reducible (first
      | assumption | refine ite_kc ?_ ?_ | refine AnsKc.mk ?_ ?_ | refine id_kc ?_ | refine iteAns_kc ?_ ?_
      | refine Dev.shutBegin_kc ?_ | refine Kc.to ?_))
    | (intro _) | (refine Kc.of ?_; dsimp only) | dsimp only | split)

theorem lineZero_kc {d0 d : Dev} {x0 : _} (h : Kc d0 d) : Kc d0 (lineZero x0 d) := by
  unfold lineZero
  repeat' (first
    | (with_reducible (first
      | assumption | refine ite_kc ?_ ?_ | refine Dev.putFrame_kc ?_ | refine Dev.up_kc ?_
      | refine Dev.hdcpEnable_kc ?_ | refine Dev.incSat_kc ?_ | refine Dev.putPst_kc ?_ | refine Kc.to ?_))
    | (intro _) | (refine Kc.of ?_; dsimp only) | dsimp only | split)

theorem Dev.ack_kc {d0 d : Dev} {x1 x2 x3 : _} (h : Kc d0 d) : Kc d0 (Dev.ack d x1 x2 x3) := by
  unfold Dev.ack
  repeat' (first
    | (with_reducible (first
      | assumption | refine ite_kc ?_ ?_ | refine Dev.sgWord_kc ?_ | refine Kc.to ?_))
    | (intro _) | (refine Kc.of ?_; dsimp only) | dsimp only | split)

theorem Dev.cfgStore_kc {d0 d : Dev} {x1 : _} (h : Kc d0 d) : Kc d0 (Dev.cfgStore d x1) := by
  unfold Dev.cfgStore
  repeat' (first
    | (with_reducible (first
      | assumption | refine ite_kc ?_ ?_ | refine Dev.mramStore_kc ?_ | refine Kc.to ?_))
    | (intro _) | (refine Kc.of ?_; dsimp only) | dsimp only | split)

theorem Dev.fwState_kc {d0 d : Dev} {x1 x2 : _} (h : Kc d0 d) : Kc d0 (Dev.fwState d x1 x2) := by
  unfold Dev.fwState
  repeat' (first
    | (with_reducible (first
      | assumption | refine ite_kc ?_ ?_ | refine Dev.slotTo_kc ?_ | refine Kc.to ?_))
    | (intro _) | (refine Kc.of ?_; dsimp only) | dsimp only | split)

theorem Dev.fwCommitDo_kc {d0 d : Dev} {x1 : _} (h : Kc d0 d) : Kc d0 (Dev.fwCommitDo d x1).2 := by
  unfold Dev.fwCommitDo
  repeat' (first
    | (with_reducible (first
      | assumption | refine ite_kc ?_ ?_ | refine Dev.onlyIf_kc ?_ ?_ | refine Dev.attn_kc ?_
      | refine Dev.fwState_kc ?_ | refine Dev.cfgStore_kc ?_ | refine Dev.sg_kc ?_ | refine Dev.abandon_kc ?_
      | refine Kc.to ?_))
    | (intro _) | (refine Kc.of ?_; dsimp only) | dsimp only | split)

theorem opFwCommit_kc {d0 d : Dev} {x0 : _} (h : Kc d0 d) : AnsKc d0 (opFwCommit x0 d) := by
  unfold opFwCommit
  repeat' (first
    | (with_reducible (first
      | assumption | refine ite_kc ?_ ?_ | refine AnsKc.mk ?_ ?_ | refine id_kc ?_ | refine iteAns_kc ?_ ?_
      | refine Dev.fwCommitDo_kc ?_ | refine Kc.to ?_))
    | (intro _) | (refine Kc.of ?_; dsimp only) | dsimp only | split)

theorem Dev.svcQueue_kc {d0 d : Dev} {x1 : _} (h : Kc d0 d) : Kc d0 (Dev.svcQueue d x1) := by
  unfold Dev.svcQueue
  repeat' (first
    | (with_reducible (first
      | assumption | refine ite_kc ?_ ?_ | refine Kc.to ?_))
    | (intro _) | (refine Kc.of ?_; dsimp only) | dsimp only | split)

theorem icpRingTake_kc {d0 d : Dev} (h : Kc d0 d) : Kc d0 (icpRingTake d) := by
  unfold icpRingTake
  repeat' (first
    | (with_reducible (first
      | assumption | refine ite_kc ?_ ?_ | refine Dev.svcQueue_kc ?_ | refine Dev.sg_kc ?_ | refine Kc.to ?_))
    | (intro _) | (refine Kc.of ?_; dsimp only) | dsimp only | split)

theorem Dev.ownerBegin_kc {d0 d : Dev} {x1 : _} (h : Kc d0 d) : Kc d0 (Dev.ownerBegin d x1) := by
  unfold Dev.ownerBegin
  repeat' (first
    | (with_reducible (first
      | assumption | refine ite_kc ?_ ?_ | refine Dev.ownerStep_kc ?_ | refine Dev.up_kc ?_ | refine Kc.to ?_))
    | (intro _) | (refine Kc.of ?_; dsimp only) | dsimp only | split)

theorem opPipeHandover_kc {d0 d : Dev} {x0 : _} (h : Kc d0 d) : AnsKc d0 (opPipeHandover x0 d) := by
  unfold opPipeHandover
  repeat' (first
    | (with_reducible (first
      | assumption | refine ite_kc ?_ ?_ | refine AnsKc.mk ?_ ?_ | refine id_kc ?_ | refine iteAns_kc ?_ ?_
      | refine Dev.overlaysOn_kc ?_ | refine Dev.ownerBegin_kc ?_ | refine Dev.putSvc_kc ?_ | refine Kc.to ?_))
    | (intro _) | (refine Kc.of ?_; dsimp only) | dsimp only | split)

theorem Dev.lineShow_kc {d0 d : Dev} {x1 : _} (h : Kc d0 d) : Kc d0 (Dev.lineShow d x1) := by
  unfold Dev.lineShow
  repeat' (first
    | (with_reducible (first
      | assumption | refine ite_kc ?_ ?_ | refine Dev.dn_kc ?_ | refine Dev.draw_kc ?_ | refine Dev.sg_kc ?_
      | refine Kc.to ?_))
    | (intro _) | (refine Kc.of ?_; dsimp only) | dsimp only | split)

theorem Dev.setLatch_kc {d0 d : Dev} {x1 x2 x3 : _} (h : Kc d0 d) : Kc d0 (Dev.setLatch d x1 x2 x3) := by
  unfold Dev.setLatch
  repeat' (first
    | (with_reducible (first
      | assumption | refine ite_kc ?_ ?_ | refine Kc.to ?_))
    | (intro _) | (refine Kc.of ?_; dsimp only) | dsimp only | split)

theorem Dev.readWord_kc {d0 d : Dev} {x1 x2 x3 : _} (h : Kc d0 d) : Kc d0 (Dev.readWord d x1 x2 x3).2 := by
  unfold Dev.readWord
  repeat' (first
    | (with_reducible (first
      | assumption | refine ite_kc ?_ ?_ | refine Dev.setLatch_kc ?_ | refine Kc.to ?_))
    | (intro _) | (refine Kc.of ?_; dsimp only) | dsimp only | split)

theorem readNow_kc {d0 d : Dev} {x0 x1 x2 : _} (h : Kc d0 d) : Kc d0 (readNow x0 x1 x2 d) := by
  unfold readNow
  repeat' (first
    | (with_reducible (first
      | assumption | refine ite_kc ?_ ?_ | refine Dev.readWord_kc ?_ | refine Dev.lineShow_kc ?_
      | refine Dev.accErr_kc ?_ | refine Dev.send_kc ?_ | refine Kc.to ?_))
    | (intro _) | (refine Kc.of ?_; dsimp only) | dsimp only | split)

theorem regRead_kc {d0 d : Dev} {x0 x1 x2 : _} (h : Kc d0 d) : Kc d0 (regRead x0 x1 x2 d) := by
  unfold regRead
  repeat' (first
    | (with_reducible (first
      | assumption | refine ite_kc ?_ ?_ | refine readNow_kc ?_ | refine Kc.to ?_))
    | (intro _) | (refine Kc.of ?_; dsimp only) | dsimp only | split)

theorem pairRead_kc {d0 d : Dev} {x0 x1 x2 : _} (h : Kc d0 d) : Kc d0 (pairRead x0 x1 x2 d) := by
  unfold pairRead
  repeat' (first
    | (with_reducible (first
      | assumption | refine ite_kc ?_ ?_ | refine regRead_kc ?_ | refine Kc.to ?_))
    | (intro _) | (refine Kc.of ?_; dsimp only) | dsimp only | split)

theorem Dev.overlayFit_kc {d0 d : Dev} {x1 x2 : _} (h : Kc d0 d) : Kc d0 (Dev.overlayFit d x1 x2) := by
  unfold Dev.overlayFit
  repeat' (first
    | (with_reducible (first
      | assumption | refine ite_kc ?_ ?_ | refine Dev.each_kc ?_ ?_ | refine Dev.unregister_kc ?_
      | refine Dev.register_kc ?_ | refine Kc.to ?_))
    | (intro _) | (refine Kc.of ?_; dsimp only) | dsimp only | split)

theorem fenceUpset_kc {d0 d : Dev} {x0 : _} (h : Kc d0 d) : Kc d0 (fenceUpset x0 d) := by
  unfold fenceUpset
  repeat' (first
    | (with_reducible (first
      | assumption | refine ite_kc ?_ ?_ | refine Dev.up_kc ?_ | refine Dev.capture_kc ?_
      | refine Dev.logOpen_kc ?_ | refine Dev.fenceNow_kc ?_ | refine Kc.to ?_))
    | (intro _) | (refine Kc.of ?_; dsimp only) | dsimp only | split)

theorem Dev.sliceOff_kc {d0 d : Dev} (h : Kc d0 d) : Kc d0 (Dev.sliceOff d) := by
  unfold Dev.sliceOff
  repeat' (first
    | (with_reducible (first
      | assumption | refine ite_kc ?_ ?_ | refine Dev.dn_kc ?_ | refine Kc.to ?_))
    | (intro _) | (refine Kc.of ?_; dsimp only) | dsimp only | split)

theorem Dev.resume_kc {d0 d : Dev} (h : Kc d0 d) : Kc d0 (Dev.resume d) := by
  unfold Dev.resume
  repeat' (first
    | (with_reducible (first
      | assumption | refine ite_kc ?_ ?_ | refine Dev.each_kc ?_ ?_ | refine Dev.stopTake_kc ?_
      | refine Dev.startPipe_kc ?_ | refine Dev.putPst_kc ?_ | refine Dev.armShow_kc ?_ | refine Kc.to ?_))
    | (intro _) | (refine Kc.of ?_; dsimp only) | dsimp only | split)

theorem Dev.testStop_kc {d0 d : Dev} (h : Kc d0 d) : Kc d0 (Dev.testStop d) := by
  unfold Dev.testStop
  repeat' (first
    | (with_reducible (first
      | assumption | refine ite_kc ?_ ?_ | refine Dev.resume_kc ?_ | refine Dev.sliceOff_kc ?_
      | refine Dev.up_kc ?_ | refine Dev.sg_kc ?_ | refine Kc.to ?_))
    | (intro _) | (refine Kc.of ?_; dsimp only) | dsimp only | split)

theorem Dev.refusePacket_kc {d0 d : Dev} {x1 x2 x3 x4 x5 x6 : _} (h : Kc d0 d) :
    Kc d0 (Dev.refusePacket d x1 x2 x3 x4 x5 x6) := by
  unfold Dev.refusePacket
  repeat' (first
    | (with_reducible (first
      | assumption | refine ite_kc ?_ ?_ | refine Dev.post_kc ?_ | refine Dev.svcTake_kc ?_ | refine Kc.to ?_))
    | (intro _) | (refine Kc.of ?_; dsimp only) | dsimp only | split)

theorem Dev.svcStage_kc {d0 d : Dev} {x1 x2 : _} (h : Kc d0 d) : Kc d0 (Dev.svcStage d x1 x2) := by
  unfold Dev.svcStage
  repeat' (first
    | (with_reducible (first
      | assumption | refine ite_kc ?_ ?_ | refine Kc.to ?_))
    | (intro _) | (refine Kc.of ?_; dsimp only) | dsimp only | split)

theorem Dev.packetTests_kc {d0 d : Dev} {x1 x2 : _} (h : Kc d0 d) : Kc d0 (Dev.packetTests d x1 x2) := by
  unfold Dev.packetTests
  repeat' (first
    | (with_reducible (first
      | assumption | refine ite_kc ?_ ?_ | refine Dev.svcStage_kc ?_ | refine Dev.resend_kc ?_
      | refine Dev.trailer_kc ?_ | refine Dev.refusePacket_kc ?_ | refine Kc.to ?_))
    | (intro _) | (refine Kc.of ?_; dsimp only) | dsimp only | split)

theorem Dev.settle_kc {d0 d : Dev} {tr : Tr} {n : Nat} (h : Kc d0 d) : Kc d0 (d.settle tr n) := by
  induction n generalizing d with
  | zero => exact h
  | succ n ih =>
    unfold Dev.settle
    split
    · split
      · exact ih (Dev.packetTests_kc h)
      · exact h
    · exact h

theorem Dev.settleAll_kc {d0 d : Dev} {x1 : _} (h : Kc d0 d) : Kc d0 (Dev.settleAll d x1) := by
  unfold Dev.settleAll
  repeat' (first
    | (with_reducible (first
      | assumption | refine ite_kc ?_ ?_ | refine Dev.settle_kc ?_ | refine Kc.to ?_))
    | (intro _) | (refine Kc.of ?_; dsimp only) | dsimp only | split)

theorem Dev.storeReply_kc {d0 d : Dev} {x1 x2 : _} (h : Kc d0 d) : Kc d0 (Dev.storeReply d x1 x2) := by
  unfold Dev.storeReply
  repeat' (first
    | (with_reducible (first
      | assumption | refine ite_kc ?_ ?_ | refine Kc.to ?_))
    | (intro _) | (refine Kc.of ?_; dsimp only) | dsimp only | split)

theorem Dev.reply_kc {d0 d : Dev} {x1 x2 x3 x4 x5 x6 x7 : _} (h : Kc d0 d) :
    Kc d0 (Dev.reply d x1 x2 x3 x4 x5 x6 x7) := by
  unfold Dev.reply
  repeat' (first
    | (with_reducible (first
      | assumption | refine ite_kc ?_ ?_ | refine Dev.post_kc ?_ | refine Dev.storeReply_kc ?_
      | refine Dev.svcTake_kc ?_ | refine Kc.to ?_))
    | (intro _) | (refine Kc.of ?_; dsimp only) | dsimp only | split)

theorem Dev.answer_kc {d0 d : Dev} {x1 x2 x3 x4 x5 x6 x7 : _} (h : Kc d0 d) :
    Kc d0 (Dev.answer d x1 x2 x3 x4 x5 x6 x7) := by
  unfold Dev.answer
  repeat' (first
    | (with_reducible (first
      | assumption | refine ite_kc ?_ ?_ | refine Dev.reply_kc ?_ | refine Dev.settleAll_kc ?_ | refine Kc.to ?_))
    | (intro _) | (refine Kc.of ?_; dsimp only) | dsimp only | split)

theorem Dev.fwResume_kc {d0 d : Dev} (h : Kc d0 d) : Kc d0 (Dev.fwResume d) := by
  unfold Dev.fwResume
  repeat' (first
    | (with_reducible (first
      | assumption | refine ite_kc ?_ ?_ | refine Dev.hpdServe_kc ?_ | refine Kc.to ?_))
    | (intro _) | (refine Kc.of ?_; dsimp only) | dsimp only | split)

theorem icpRun_kc {d0 d : Dev} {op : Nat} {bad : List Nat → Bool} {f : List Nat → Dev → Ans} {tr : Tr} {seq :
    BitVec 16}
    {ps : List Word} (hf : ∀ p e, Kc d0 e → AnsKc d0 (f p e)) (h : Kc d0 d) :
    Kc d0 (icpRun op bad f tr seq ps d) := by
  unfold icpRun
  extract_lets q d1 e p
  split
  · exact h
  have he : Kc d0 e := ite_kc (Dev.testStop_kc (Dev.fwResume_kc h)) (Dev.fwResume_kc h)
  have ha := hf p e he
  split
  · exact he
  · split
    · exact Dev.answer_kc he
    · refine ite_kc (Dev.answer_kc he) (ite_kc (Dev.answer_kc he) (ite_kc (Dev.answer_kc ha.1) (ite_kc ?_ ?_)))
      · exact Kc.of ha.1.to
      · exact ha.2 _ (Dev.answer_kc ha.1)

theorem opHdcpTopology_kc {d0 d : Dev} {x0 x1 : _} (h : Kc d0 d) : AnsKc d0 (opHdcpTopology x0 x1 d) := by
  unfold opHdcpTopology
  repeat' (first
    | (with_reducible (first
      | assumption | refine ite_kc ?_ ?_ | refine AnsKc.mk ?_ ?_ | refine id_kc ?_ | refine iteAns_kc ?_ ?_
      | refine Kc.to ?_))
    | (intro _) | (refine Kc.of ?_; dsimp only) | dsimp only | split)

theorem brownoutWarn_kc {d0 d : Dev} {x0 : _} (h : Kc d0 d) : Kc d0 (brownoutWarn x0 d) := by
  unfold brownoutWarn
  repeat' (first
    | (with_reducible (first
      | assumption | refine ite_kc ?_ ?_ | refine Dev.orBits_kc ?_ | refine Dev.incSat_kc ?_
      | refine Dev.attn_kc ?_ | refine Kc.to ?_))
    | (intro _) | (refine Kc.of ?_; dsimp only) | dsimp only | split)

theorem Dev.dropSnap_kc {d0 d : Dev} {x1 : _} (h : Kc d0 d) : Kc d0 (Dev.dropSnap d x1) := by
  unfold Dev.dropSnap
  repeat' (first
    | (with_reducible (first
      | assumption | refine ite_kc ?_ ?_ | refine Dev.release_kc ?_ | refine Dev.unhold_kc ?_
      | refine Dev.dropArmed_kc ?_ | refine Kc.to ?_))
    | (intro _) | (refine Kc.of ?_; dsimp only) | dsimp only | split)

theorem Dev.armedParity_kc {d0 d : Dev} {x1 : _} (h : Kc d0 d) : Kc d0 (Dev.armedParity d x1) := by
  unfold Dev.armedParity
  repeat' (first
    | (with_reducible (first
      | assumption | refine ite_kc ?_ ?_ | refine Dev.each_kc ?_ ?_ | refine Dev.crustObsolete_kc ?_
      | refine Dev.armShow_kc ?_ | refine Dev.poolShow_kc ?_ | refine Dev.dropSnap_kc ?_
      | refine Dev.discarded_kc ?_ | refine Kc.to ?_))
    | (intro _) | (refine Kc.of ?_; dsimp only) | dsimp only | split)

theorem Dev.nextLine_kc {d0 d : Dev} {x1 : _} (h : Kc d0 d) : Kc d0 (Dev.nextLine d x1).2 := by
  unfold Dev.nextLine
  repeat' (first
    | (with_reducible (first
      | assumption | refine ite_kc ?_ ?_ | refine Dev.draw_kc ?_ | refine Kc.to ?_))
    | (intro _) | (refine Kc.of ?_; dsimp only) | dsimp only | split)

theorem Dev.enterSafeBlack_kc {d0 d : Dev} {x1 : _} (h : Kc d0 d) : Kc d0 (Dev.enterSafeBlack d x1) := by
  unfold Dev.enterSafeBlack
  repeat' (first
    | (with_reducible (first
      | assumption | refine ite_kc ?_ ?_ | refine Dev.mark_kc ?_ | refine Dev.logE_kc ?_ | refine Dev.putPst_kc ?_
      | refine Dev.nextLine_kc ?_ | refine Dev.orBits_kc ?_ | refine Dev.faultSum_kc ?_ | refine Kc.to ?_))
    | (intro _) | (refine Kc.of ?_; dsimp only) | dsimp only | split)

theorem Dev.parityAct_kc {d0 d : Dev} {x0 : _} (h : Kc d0 d) : Kc d0 (Dev.parityAct x0 d) := by
  unfold Dev.parityAct
  repeat' (first
    | (with_reducible (first
      | assumption | refine ite_kc ?_ ?_ | refine Dev.enterSafeBlack_kc ?_ | refine Dev.armedParity_kc ?_
      | refine Dev.parityReport_kc ?_ | refine Kc.to ?_))
    | (intro _) | (refine Kc.of ?_; dsimp only) | dsimp only | split)

theorem Dev.parityFound_kc {d0 d : Dev} {x0 : _} (h : Kc d0 d) : Kc d0 (Dev.parityFound x0 d) := by
  unfold Dev.parityFound
  repeat' (first
    | (with_reducible (first
      | assumption | refine ite_kc ?_ ?_ | refine Dev.parityAct_kc ?_ | refine Kc.to ?_))
    | (intro _) | (refine Kc.of ?_; dsimp only) | dsimp only | split)

theorem Dev.holdPassed_kc {d0 d : Dev} {x1 : _} (h : Kc d0 d) : Kc d0 (Dev.holdPassed d x1) := by
  unfold Dev.holdPassed
  repeat' (first
    | (with_reducible (first
      | assumption | refine ite_kc ?_ ?_ | refine Dev.up_kc ?_ | refine Dev.logOpen_kc ?_
      | refine Dev.incSat_kc ?_ | refine Kc.to ?_))
    | (intro _) | (refine Kc.of ?_; dsimp only) | dsimp only | split)

theorem Dev.holdDrop_kc {d0 d : Dev} {x1 x2 : _} (h : Kc d0 d) : Kc d0 (Dev.holdDrop d x1 x2) := by
  unfold Dev.holdDrop
  repeat' (first
    | (with_reducible (first
      | assumption | refine ite_kc ?_ ?_ | refine foldFst_kc ?_ ?_ | refine foldl_kc ?_ ?_
      | refine Dev.each_kc ?_ ?_ | refine Dev.up_kc ?_ | refine Dev.sg_kc ?_ | refine Dev.crustObsolete_kc ?_
      | refine Dev.dropSnap_kc ?_ | refine Dev.discarded_kc ?_ | refine Dev.putPst_kc ?_ | refine Kc.to ?_))
    | (intro _) | (refine Kc.of ?_; dsimp only) | dsimp only | split)

theorem Dev.holdCount_kc {d0 d : Dev} {x1 x2 : _} (h : Kc d0 d) : Kc d0 (Dev.holdCount d x1 x2) := by
  unfold Dev.holdCount
  repeat' (first
    | (with_reducible (first
      | assumption | refine ite_kc ?_ ?_ | refine foldFst_kc ?_ ?_ | refine foldl_kc ?_ ?_
      | refine Dev.each_kc ?_ ?_ | refine Dev.putPst_kc ?_ | refine Dev.sg_kc ?_ | refine Dev.up_kc ?_
      | refine Dev.incSat_kc ?_ | refine Kc.to ?_))
    | (intro _) | (refine Kc.of ?_; dsimp only) | dsimp only | split)

theorem Dev.takeArmed_kc {d0 d : Dev} {x1 : _} (h : Kc d0 d) : Kc d0 (Dev.takeArmed d x1).1 := by
  unfold Dev.takeArmed
  repeat' (first
    | (with_reducible (first
      | assumption | refine ite_kc ?_ ?_ | refine foldFst_kc ?_ ?_ | refine foldl_kc ?_ ?_
      | refine Dev.takeOne_kc ?_ | refine Dev.holdCount_kc ?_ | refine Dev.holdDrop_kc ?_ | refine Kc.to ?_))
    | (intro _) | (refine Kc.of ?_; dsimp only) | dsimp only | split)

theorem Dev.swapParity_kc {d0 d : Dev} {x1 : _} (h : Kc d0 d) : Kc d0 (Dev.swapParity d x1) := by
  unfold Dev.swapParity
  repeat' (first
    | (with_reducible (first
      | assumption | refine ite_kc ?_ ?_ | refine Dev.each_kc ?_ ?_ | refine Dev.parityReport_kc ?_
      | refine Dev.armedParity_kc ?_ | refine Kc.to ?_))
    | (intro _) | (refine Kc.of ?_; dsimp only) | dsimp only | split)

theorem Dev.versionShow_kc {d0 d : Dev} {x1 x2 : _} (h : Kc d0 d) : Kc d0 (Dev.versionShow d x1 x2) := by
  unfold Dev.versionShow
  repeat' (first
    | (with_reducible (first
      | assumption | refine ite_kc ?_ ?_ | refine Dev.each_kc ?_ ?_ | refine Dev.inc_kc ?_
      | refine Dev.crustShow_kc ?_ | refine Dev.planeShow_kc ?_ | refine Dev.dn_kc ?_ | refine Dev.sg_kc ?_
      | refine Dev.putCrust_kc ?_ | refine Dev.putTile_kc ?_ | refine Kc.to ?_))
    | (intro _) | (refine Kc.of ?_; dsimp only) | dsimp only | split)

theorem Dev.showMarked_kc {d0 d : Dev} {x1 x2 : _} (h : Kc d0 d) : Kc d0 (Dev.showMarked d x1 x2).1 := by
  unfold Dev.showMarked
  repeat' (first
    | (with_reducible (first
      | assumption | refine ite_kc ?_ ?_ | refine Dev.versionShow_kc ?_ | refine Kc.to ?_))
    | (intro _) | (refine Kc.of ?_; dsimp only) | dsimp only | split)

theorem Dev.quietLayers_kc {d0 d : Dev} {x1 x2 : _} (h : Kc d0 d) : Kc d0 (Dev.quietLayers d x1 x2) := by
  unfold Dev.quietLayers
  repeat' (first
    | (with_reducible (first
      | assumption | refine ite_kc ?_ ?_ | refine Dev.each_kc ?_ ?_ | refine Dev.quietReset_kc ?_
      | refine Dev.incSat_kc ?_ | refine Kc.to ?_))
    | (intro _) | (refine Kc.of ?_; dsimp only) | dsimp only | split)

theorem Dev.wbFlag_kc {d0 d : Dev} {x1 x2 : _} (h : Kc d0 d) : Kc d0 (Dev.wbFlag d x1 x2) := by
  unfold Dev.wbFlag
  repeat' (first
    | (with_reducible (first
      | assumption | refine ite_kc ?_ ?_ | refine Dev.surfErr_kc ?_ | refine Dev.up_kc ?_ | refine Dev.sg_kc ?_
      | refine Dev.onlyIf_kc ?_ ?_ | refine Kc.to ?_))
    | (intro _) | (refine Kc.of ?_; dsimp only) | dsimp only | split)

theorem Dev.wbDestAt_kc {d0 d : Dev} {x1 x2 : _} (h : Kc d0 d) : Kc d0 (Dev.wbDestAt d x1 x2).2 := by
  unfold Dev.wbDestAt
  repeat' (first
    | (with_reducible (first
      | assumption | refine ite_kc ?_ ?_ | refine Dev.draw_kc ?_ | refine Kc.to ?_))
    | (intro _) | (refine Kc.of ?_; dsimp only) | dsimp only | split)

theorem Dev.wbOpen_kc {d0 d : Dev} {x1 : _} (h : Kc d0 d) : Kc d0 (Dev.wbOpen d x1) := by
  unfold Dev.wbOpen
  repeat' (first
    | (with_reducible (first
      | assumption | refine ite_kc ?_ ?_ | refine Dev.putPst_kc ?_ | refine Dev.wbDestAt_kc ?_
      | refine Dev.incSat_kc ?_ | refine Dev.wbFlag_kc ?_ | refine Dev.onlyIf_kc ?_ ?_ | refine Dev.inc_kc ?_
      | refine Kc.to ?_))
    | (intro _) | (refine Kc.of ?_; dsimp only) | dsimp only | split)

theorem Dev.surfSwap_kc {d0 d : Dev} (h : Kc d0 d) : Kc d0 (Dev.surfSwap d) := by
  unfold Dev.surfSwap
  repeat' (first
    | (with_reducible (first
      | assumption | refine ite_kc ?_ ?_ | refine Dev.each_kc ?_ ?_ | refine Dev.putSurf_kc ?_
      | refine Dev.lostSweep_kc ?_ | refine Kc.to ?_))
    | (intro _) | (refine Kc.of ?_; dsimp only) | dsimp only | split)

theorem Dev.swapTake_kc {d0 d : Dev} {x1 : _} (h : Kc d0 d) : Kc d0 (Dev.swapTake d x1) := by
  unfold Dev.swapTake
  repeat' (first
    | (with_reducible (first
      | assumption | refine ite_kc ?_ ?_ | refine Dev.genSync_kc ?_ | refine Dev.surfSwap_kc ?_
      | refine Dev.openFrame_kc ?_ | refine Dev.wbOpen_kc ?_ | refine Dev.safeBlackOff_kc ?_
      | refine Dev.quietLayers_kc ?_ | refine Dev.restStep_kc ?_ | refine Dev.lateArm_kc ?_
      | refine Dev.showMarked_kc ?_ | refine Dev.holdOff_kc ?_ | refine Dev.swapParity_kc ?_
      | refine Dev.takeArmed_kc ?_ | refine Dev.holdPassed_kc ?_ | refine Dev.sg_kc ?_ | refine Dev.dn_kc ?_
      | refine Kc.to ?_))
    | (intro _) | (refine Kc.of ?_; dsimp only) | dsimp only | split)

theorem Dev.classBEnd_kc {d0 d : Dev} {x1 : _} (h : Kc d0 d) : Kc d0 (Dev.classBEnd d x1) := by
  unfold Dev.classBEnd
  repeat' (first
    | (with_reducible (first
      | assumption | refine ite_kc ?_ ?_ | refine Dev.dn_kc ?_ | refine Dev.setStep_kc ?_
      | refine Dev.clearOutRun_kc ?_ | refine Dev.swapTake_kc ?_ | refine Kc.to ?_))
    | (intro _) | (refine Kc.of ?_; dsimp only) | dsimp only | split)

theorem Dev.wakePending_kc {d0 d : Dev} (h : Kc d0 d) : Kc d0 (Dev.wakePending d) := by
  unfold Dev.wakePending
  repeat' (first
    | (with_reducible (first
      | assumption | refine ite_kc ?_ ?_ | refine Dev.wakeEvent_kc ?_ | refine Kc.to ?_))
    | (intro _) | (refine Kc.of ?_; dsimp only) | dsimp only | split)

theorem thermalHoldExit_kc {d0 d : Dev} (h : Kc d0 d) : Kc d0 (thermalHoldExit d) := by
  unfold thermalHoldExit
  repeat' (first
    | (with_reducible (first
      | assumption | refine ite_kc ?_ ?_ | refine Dev.holdExit_kc ?_ | refine Kc.to ?_))
    | (intro _) | (refine Kc.of ?_; dsimp only) | dsimp only | split)

theorem opAckAttention_kc {d0 d : Dev} {x0 : _} (h : Kc d0 d) : AnsKc d0 (opAckAttention x0 d) := by
  unfold opAckAttention
  repeat' (first
    | (with_reducible (first
      | assumption | refine ite_kc ?_ ?_ | refine AnsKc.mk ?_ ?_ | refine id_kc ?_ | refine iteAns_kc ?_ ?_
      | refine Dev.clrBits_kc ?_ | refine Kc.to ?_))
    | (intro _) | (refine Kc.of ?_; dsimp only) | dsimp only | split)

theorem opMeterTableSet_kc {d0 d : Dev} {p : List Nat} (h : Kc d0 d) : AnsKc d0 (opMeterTableSet p d) := by
  unfold opMeterTableSet
  exact iteAns_kc (AnsKc.mk h fun _ k => k) (AnsKc.mk (Kc.of h.to) fun _ k => k)

theorem opHealthRead_kc {d0 d : Dev} {x0 : _} (h : Kc d0 d) : AnsKc d0 (opHealthRead x0 d) := by
  unfold opHealthRead
  repeat' (first
    | (with_reducible (first
      | assumption | refine ite_kc ?_ ?_ | refine AnsKc.mk ?_ ?_ | refine id_kc ?_ | refine iteAns_kc ?_ ?_
      | refine Kc.to ?_))
    | (intro _) | (refine Kc.of ?_; dsimp only) | dsimp only | split)

theorem perstAssert_kc {d0 d : Dev} (h : Kc d0 d) : Kc d0 (perstAssert d) := by
  unfold perstAssert
  repeat' (first
    | (with_reducible (first
      | assumption | refine ite_kc ?_ ?_ | refine functionLevelReset_kc ?_ | refine Kc.to ?_))
    | (intro _) | (refine Kc.of ?_; dsimp only) | dsimp only | split)

theorem Dev.scraperReset_kc {d0 d : Dev} (h : Kc d0 d) : Kc d0 (Dev.scraperReset d) := by
  unfold Dev.scraperReset
  repeat' (first
    | (with_reducible (first
      | assumption | refine ite_kc ?_ ?_ | refine Dev.scStop_kc ?_ | refine Dev.resetRegs_kc ?_
      | refine Dev.sq3Show_kc ?_ | refine Dev.restShow_kc ?_ | refine Kc.to ?_))
    | (intro _) | (refine Kc.of ?_; dsimp only) | dsimp only | split)

theorem refclkLost_kc {d0 d : Dev} (h : Kc d0 d) : Kc d0 (refclkLost d) := by
  unfold refclkLost
  repeat' (first
    | (with_reducible (first
      | assumption | refine ite_kc ?_ ?_ | refine Dev.logOpen_kc ?_ | refine Dev.up_kc ?_ | refine Dev.attn_kc ?_
      | refine Dev.onlyIf_kc ?_ ?_ | refine Kc.to ?_))
    | (intro _) | (refine Kc.of ?_; dsimp only) | dsimp only | split)

theorem Dev.sp_kc {d0 d : Dev} {x1 x2 : _} (h : Kc d0 d) : Kc d0 (Dev.sp d x1 x2) := by
  unfold Dev.sp
  repeat' (first
    | (with_reducible (first
      | assumption | refine ite_kc ?_ ?_ | refine Kt.activeSet ?_ | refine Kt.activeBlk ?_ | refine Kt.proofSet ?_
      | refine Kt.proofBlk ?_ | refine Kt.regsMap ?_ | refine Kt.activeBlks ?_ | refine Kt.proofBlks ?_
      | refine Kc.to ?_ | refine Kt.memNil ?_))
    | (intro _) | (refine Kc.of ?_; dsimp only) | dsimp only | split)

theorem Dev.chkReset_kc {d0 d : Dev} (h : Kc d0 d) : Kc d0 (Dev.chkReset d) := by
  unfold Dev.chkReset
  repeat' (first
    | (with_reducible (first
      | assumption | refine ite_kc ?_ ?_ | refine Dev.resetRegs_kc ?_ | refine Kc.to ?_))
    | (intro _) | (refine Kc.of ?_; dsimp only) | dsimp only | split)

theorem Dev.exclShow_kc {d0 d : Dev} {x0 : _} (h : Kc d0 d) : Kc d0 (Dev.exclShow x0 d) := by
  unfold Dev.exclShow
  repeat' (first
    | (with_reducible (first
      | assumption | refine ite_kc ?_ ?_ | refine Dev.each_kc ?_ ?_ | refine Dev.sg_kc ?_ | refine Kc.to ?_))
    | (intro _) | (refine Kc.of ?_; dsimp only) | dsimp only | split)

theorem Dev.recordSlice_kc {d0 d : Dev} {x1 x2 x3 : _} (h : Kc d0 d) : Kc d0 (Dev.recordSlice d x1 x2 x3) := by
  unfold Dev.recordSlice
  repeat' (first
    | (with_reducible (first
      | assumption | refine ite_kc ?_ ?_ | refine Dev.attn_kc ?_ | refine Dev.healthUpdate_kc ?_
      | refine Dev.exclShow_kc ?_ | refine Dev.onlyIf_kc ?_ ?_ | refine Kc.to ?_))
    | (intro _) | (refine Kc.of ?_; dsimp only) | dsimp only | split)

theorem Dev.testSlice_kc {d0 d : Dev} {x1 : _} (h : Kc d0 d) : Kc d0 (Dev.testSlice d x1).1 := by
  unfold Dev.testSlice
  repeat' (first
    | (with_reducible (first
      | assumption | refine ite_kc ?_ ?_ | refine Dev.testNext_kc ?_ | refine Dev.recordSlice_kc ?_
      | refine Dev.sliceOff_kc ?_ | refine Kc.to ?_))
    | (intro _) | (refine Kc.of ?_; dsimp only) | dsimp only | split)

theorem Dev.testEnd_kc {d0 d : Dev} {x1 : _} (h : Kc d0 d) : Kc d0 (Dev.testEnd d x1) := by
  unfold Dev.testEnd
  repeat' (first
    | (with_reducible (first
      | assumption | refine ite_kc ?_ ?_ | refine Dev.testOver_kc ?_ | refine Dev.testSlice_kc ?_
      | refine Kc.to ?_))
    | (intro _) | (refine Kc.of ?_; dsimp only) | dsimp only | split)

theorem Dev.remainShow_kc {d0 d : Dev} (h : Kc d0 d) : Kc d0 (Dev.remainShow d) := by
  unfold Dev.remainShow
  repeat' (first
    | (with_reducible (first
      | assumption | refine ite_kc ?_ ?_ | refine Dev.sg_kc ?_ | refine Kc.to ?_))
    | (intro _) | (refine Kc.of ?_; dsimp only) | dsimp only | split)

theorem opFenceRead_kc {d0 d : Dev} {x0 : _} (h : Kc d0 d) : AnsKc d0 (opFenceRead x0 d) := by
  unfold opFenceRead
  repeat' (first
    | (with_reducible (first
      | assumption | refine ite_kc ?_ ?_ | refine AnsKc.mk ?_ ?_ | refine id_kc ?_ | refine iteAns_kc ?_ ?_
      | refine Kc.to ?_))
    | (intro _) | (refine Kc.of ?_; dsimp only) | dsimp only | split)

theorem Dev.scDramError_kc {d0 d : Dev} (h : Kc d0 d) : Kc d0 (Dev.scDramError d) := by
  unfold Dev.scDramError
  repeat' (first
    | (with_reducible (first
      | assumption | refine ite_kc ?_ ?_ | refine Kc.to ?_))
    | (intro _) | (refine Kc.of ?_; dsimp only) | dsimp only | split)

theorem Dev.dmaEcc_kc {d0 d : Dev} {x1 x2 : _} (h : Kc d0 d) : Kc d0 (Dev.dmaEcc d x1 x2) := by
  unfold Dev.dmaEcc
  repeat' (first
    | (with_reducible (first
      | assumption | refine ite_kc ?_ ?_ | refine Dev.dmaHaltFree_kc ?_ | refine Dev.dmaHaltAll_kc ?_ ?_
      | refine Kc.to ?_))
    | (intro _) | (refine Kc.of ?_; dsimp only) | dsimp only | split)

theorem Dev.loadError_kc {d0 d : Dev} {x1 x2 : _} (h : Kc d0 d) : Kc d0 (Dev.loadError d x1 x2) := by
  unfold Dev.loadError
  repeat' (first
    | (with_reducible (first
      | assumption | refine ite_kc ?_ ?_ | refine Dev.sg_kc ?_ | refine Kc.to ?_))
    | (intro _) | (refine Kc.of ?_; dsimp only) | dsimp only | split)

theorem Dev.eccReader_kc {d0 d : Dev} {x1 x2 : _} (h : Kc d0 d) : Kc d0 (Dev.eccReader d x1 x2) := by
  unfold Dev.eccReader
  repeat' (first
    | (with_reducible (first
      | assumption | refine ite_kc ?_ ?_ | refine Dev.loadError_kc ?_ | refine Dev.putCrust_kc ?_
      | refine Dev.dmaEcc_kc ?_ | refine Dev.scDramError_kc ?_ | refine Dev.crustData_kc ?_
      | refine Dev.layerData_kc ?_ | refine Kc.to ?_))
    | (intro _) | (refine Kc.of ?_; dsimp only) | dsimp only | split)

theorem Dev.uncorrected_kc {d0 d : Dev} {x1 : _} (h : Kc d0 d) : Kc d0 (Dev.uncorrected d x1) := by
  unfold Dev.uncorrected
  repeat' (first
    | (with_reducible (first
      | assumption | refine ite_kc ?_ ?_ | refine Dev.incSat_kc ?_ | refine Dev.up_kc ?_ | refine Dev.logE_kc ?_
      | refine Kc.to ?_))
    | (intro _) | (refine Kc.of ?_; dsimp only) | dsimp only | split)

theorem Dev.corrected_kc {d0 d : Dev} {x1 : _} (h : Kc d0 d) : Kc d0 (Dev.corrected d x1) := by
  unfold Dev.corrected
  repeat' (first
    | (with_reducible (first
      | assumption | refine ite_kc ?_ ?_ | refine Dev.logE_kc ?_ | refine Dev.up_kc ?_ | refine Dev.attn_kc ?_
      | refine Dev.onlyIf_kc ?_ ?_ | refine Dev.incSat_kc ?_ | refine Kc.to ?_))
    | (intro _) | (refine Kc.of ?_; dsimp only) | dsimp only | split)

theorem dramEccError_kc {d0 d : Dev} {x0 x1 x2 x3 : _} (h : Kc d0 d) : Kc d0 (dramEccError x0 x1 x2 x3 d) := by
  unfold dramEccError
  repeat' (first
    | (with_reducible (first
      | assumption | refine ite_kc ?_ ?_ | refine Dev.corrected_kc ?_ | refine Dev.uncorrected_kc ?_
      | refine Dev.eccReader_kc ?_ | refine Kc.to ?_))
    | (intro _) | (refine Kc.of ?_; dsimp only) | dsimp only | split)

theorem Dev.masterEvent_kc {d0 d : Dev} {x1 : _} (h : Kc d0 d) : Kc d0 (Dev.masterEvent d x1) := by
  unfold Dev.masterEvent
  repeat' (first
    | (with_reducible (first
      | assumption | refine ite_kc ?_ ?_ | refine Dev.incSat_kc ?_ | refine Dev.tick_kc ?_ | refine Kc.to ?_))
    | (intro _) | (refine Kc.of ?_; dsimp only) | dsimp only | split)

theorem Dev.tickSwap_kc {d0 d : Dev} {x1 : _} (h : Kc d0 d) : Kc d0 (Dev.tickSwap d x1) := by
  unfold Dev.tickSwap
  repeat' (first
    | (with_reducible (first
      | assumption | refine ite_kc ?_ ?_ | refine Dev.tick_kc ?_ | refine Dev.masterEvent_kc ?_ | refine Kc.to ?_))
    | (intro _) | (refine Kc.of ?_; dsimp only) | dsimp only | split)

theorem opPortStatus_kc {d0 d : Dev} {x0 : _} (h : Kc d0 d) : AnsKc d0 (opPortStatus x0 d) := by
  unfold opPortStatus
  repeat' (first
    | (with_reducible (first
      | assumption | refine ite_kc ?_ ?_ | refine AnsKc.mk ?_ ?_ | refine id_kc ?_ | refine iteAns_kc ?_ ?_
      | refine Kc.to ?_))
    | (intro _) | (refine Kc.of ?_; dsimp only) | dsimp only | split)

theorem Dev.hpdGuard_kc {d0 d : Dev} {x1 x2 : _} (h : Kc d0 d) : Kc d0 (Dev.hpdGuard d x1 x2) := by
  unfold Dev.hpdGuard
  repeat' (first
    | (with_reducible (first
      | assumption | refine ite_kc ?_ ?_ | refine Dev.hpdSeen_kc ?_ | refine Kc.to ?_))
    | (intro _) | (refine Kc.of ?_; dsimp only) | dsimp only | split)

theorem hpdUnplugEvent_kc {d0 d : Dev} {x0 x1 : _} (h : Kc d0 d) : Kc d0 (hpdUnplugEvent x0 x1 d) := by
  unfold hpdUnplugEvent
  repeat' (first
    | (with_reducible (first
      | assumption | refine ite_kc ?_ ?_ | refine Dev.hpdGuard_kc ?_ | refine Dev.onlyIf_kc ?_ ?_
      | refine Dev.dn_kc ?_ | refine Kc.to ?_))
    | (intro _) | (refine Kc.of ?_; dsimp only) | dsimp only | split)

theorem Dev.coolShow_kc {d0 d : Dev} (h : Kc d0 d) : Kc d0 (Dev.coolShow d) := by
  unfold Dev.coolShow
  repeat' (first
    | (with_reducible (first
      | assumption | refine ite_kc ?_ ?_ | refine Kc.to ?_))
    | (intro _) | (refine Kc.of ?_; dsimp only) | dsimp only | split)

theorem opFwChunk_kc {d0 d : Dev} {p : List Nat} (h : Kc d0 d) : AnsKc d0 (opFwChunk p d) := by
  unfold opFwChunk
  split
  · rename_i he
    exact ⟨Dev.fwChunkDo_kc h he, fun _ k => k⟩
  · exact ⟨h, fun _ k => k⟩

theorem refclkReturn_kc {d0 d : Dev} (h : Kc d0 d) : Kc d0 (refclkReturn d) := by
  unfold refclkReturn
  repeat' (first
    | (with_reducible (first
      | assumption | refine ite_kc ?_ ?_ | refine Dev.dn_kc ?_ | refine Kc.to ?_))
    | (intro _) | (refine Kc.of ?_; dsimp only) | dsimp only | split)

theorem Dev.poisonedBy_kc {d0 d : Dev} {x1 : _} (h : Kc d0 d) : Kc d0 (Dev.poisonedBy d x1) := by
  unfold Dev.poisonedBy
  repeat' (first
    | (with_reducible (first
      | assumption | refine ite_kc ?_ ?_ | refine Dev.each_kc ?_ ?_ | refine Dev.store_kc ?_
      | refine Dev.freeBytes_kc ?_ | refine Kc.to ?_))
    | (intro _) | (refine Kc.of ?_; dsimp only) | dsimp only | split)

theorem Dev.refMeasure_kc {d0 d : Dev} (h : Kc d0 d) : Kc d0 (Dev.refMeasure d) := by
  unfold Dev.refMeasure
  repeat' (first
    | (with_reducible (first
      | assumption | refine ite_kc ?_ ?_ | refine Dev.sg_kc ?_ | refine Dev.up_kc ?_ | refine Kc.to ?_))
    | (intro _) | (refine Kc.of ?_; dsimp only) | dsimp only | split)

theorem opLogInfo_kc {d0 d : Dev} {x0 : _} (h : Kc d0 d) : AnsKc d0 (opLogInfo x0 d) := by
  unfold opLogInfo
  repeat' (first
    | (with_reducible (first
      | assumption | refine ite_kc ?_ ?_ | refine AnsKc.mk ?_ ?_ | refine id_kc ?_ | refine iteAns_kc ?_ ?_
      | refine Kc.to ?_))
    | (intro _) | (refine Kc.of ?_; dsimp only) | dsimp only | split)

theorem Dev.mramFlush_kc {d0 d : Dev} (h : Kc d0 d) : Kc d0 (Dev.mramFlush d) := by
  unfold Dev.mramFlush
  repeat' (first
    | (with_reducible (first
      | assumption | refine ite_kc ?_ ?_ | refine foldFst_kc ?_ ?_ | refine foldl_kc ?_ ?_ | refine Kc.to ?_))
    | (intro _) | (refine Kc.of ?_; dsimp only) | dsimp only | split)

theorem brownoutReset_kc {d0 d : Dev} {x0 : _} (h : Kc d0 d) : Kc d0 (brownoutReset x0 d) := by
  unfold brownoutReset
  repeat' (first
    | (with_reducible (first
      | assumption | refine ite_kc ?_ ?_ | refine brownoutWarn_kc ?_ | refine Dev.sg_kc ?_
      | refine Dev.warmBy_kc ?_ | refine Kc.to ?_))
    | (intro _) | (refine Kc.of ?_; dsimp only) | dsimp only | split)

theorem Dev.refReport_kc {d0 d : Dev} {x0 : _} (h : Kc d0 d) : Kc d0 (Dev.refReport x0 d) := by
  unfold Dev.refReport
  repeat' (first
    | (with_reducible (first
      | assumption | refine ite_kc ?_ ?_ | refine Dev.sg_kc ?_ | refine Kc.to ?_))
    | (intro _) | (refine Kc.of ?_; dsimp only) | dsimp only | split)

theorem Dev.discardReady_kc {d0 d : Dev} {x1 : _} (h : Kc d0 d) : Kc d0 (Dev.discardReady d x1) := by
  unfold Dev.discardReady
  repeat' (first
    | (with_reducible (first
      | assumption | refine ite_kc ?_ ?_ | refine Dev.each_kc ?_ ?_ | refine Dev.putCrust_kc ?_
      | refine Dev.up_kc ?_ | refine Dev.crustShow_kc ?_ | refine Dev.storeShow_kc ?_ | refine Dev.putTile_kc ?_
      | refine Kc.to ?_))
    | (intro _) | (refine Kc.of ?_; dsimp only) | dsimp only | split)

theorem Dev.versionTest_kc {d0 d : Dev} {x1 : _} (h : Kc d0 d) : Kc d0 (Dev.versionTest d x1) := by
  unfold Dev.versionTest
  repeat' (first
    | (with_reducible (first
      | assumption | refine ite_kc ?_ ?_ | refine Dev.putCrust_kc ?_ | refine Dev.discardReady_kc ?_
      | refine Kc.to ?_))
    | (intro _) | (refine Kc.of ?_; dsimp only) | dsimp only | split)

theorem Dev.freeze_kc {d0 d : Dev} {x1 : _} (h : Kc d0 d) : Kc d0 (Dev.freeze d x1) := by
  unfold Dev.freeze
  repeat' (first
    | (with_reducible (first
      | assumption | refine ite_kc ?_ ?_ | refine Dev.putPst_kc ?_ | refine Dev.versionTest_kc ?_
      | refine Kc.to ?_))
    | (intro _) | (refine Kc.of ?_; dsimp only) | dsimp only | split)

theorem cutoff_kc {d0 d : Dev} {x0 : _} (h : Kc d0 d) : Kc d0 (cutoff x0 d) := by
  unfold cutoff
  repeat' (first
    | (with_reducible (first
      | assumption | refine ite_kc ?_ ?_ | refine Dev.each_kc ?_ ?_ | refine Dev.freeze_kc ?_ | refine Kc.to ?_))
    | (intro _) | (refine Kc.of ?_; dsimp only) | dsimp only | split)

theorem Dev.strobesCut_kc {d0 d : Dev} {x1 : _} (h : Kc d0 d) : Kc d0 (Dev.strobesCut d x1) := by
  unfold Dev.strobesCut
  repeat' (first
    | (with_reducible (first
      | assumption | refine ite_kc ?_ ?_ | refine Dev.each_kc ?_ ?_ | refine Dev.attn_kc ?_
      | refine Dev.lateCount_kc ?_ | refine Dev.onlyIf_kc ?_ ?_ | refine Kc.to ?_))
    | (intro _) | (refine Kc.of ?_; dsimp only) | dsimp only | split)

theorem Dev.wbClose_kc {d0 d : Dev} {x1 : _} (h : Kc d0 d) : Kc d0 (Dev.wbClose d x1) := by
  unfold Dev.wbClose
  repeat' (first
    | (with_reducible (first
      | assumption | refine ite_kc ?_ ?_ | refine Dev.putPst_kc ?_ | refine Dev.wbWrites_kc ?_ | refine Kc.to ?_))
    | (intro _) | (refine Kc.of ?_; dsimp only) | dsimp only | split)

theorem Dev.swapBlack_kc {d0 d : Dev} {x1 : _} (h : Kc d0 d) : Kc d0 (Dev.swapBlack d x1) := by
  unfold Dev.swapBlack
  repeat' (first
    | (with_reducible (first
      | assumption | refine ite_kc ?_ ?_ | refine Dev.restStep_kc ?_ | refine Dev.lateArm_kc ?_
      | refine Dev.surfSwap_kc ?_ | refine Dev.openFrame_kc ?_ | refine Dev.sg_kc ?_ | refine Dev.dn_kc ?_
      | refine Kc.to ?_))
    | (intro _) | (refine Kc.of ?_; dsimp only) | dsimp only | split)

theorem Dev.classBStart_kc {d0 d : Dev} {x1 : _} (h : Kc d0 d) : Kc d0 (Dev.classBStart d x1) := by
  unfold Dev.classBStart
  repeat' (first
    | (with_reducible (first
      | assumption | refine ite_kc ?_ ?_ | refine Dev.dissolve_kc ?_ | refine Dev.holdOff_kc ?_
      | refine Dev.up_kc ?_ | refine Dev.setStep_kc ?_ | refine Dev.putPst_kc ?_ | refine Dev.swapBlack_kc ?_
      | refine Kc.to ?_))
    | (intro _) | (refine Kc.of ?_; dsimp only) | dsimp only | split)

end Sys2Proof.Machine
end

