-- ==== Sys2Proof/Laws/CanonD.lean ====
section
/-! SUPPORT.  Every operation keeps the canonical form of the tables, part 4 of 4: one lemma for each operation that returns a device. -/

set_option linter.unusedTactic false
set_option linter.unreachableTactic false

namespace Sys2Proof.Machine

theorem Dev.lockStep_kc {d0 d : Dev} {x1 : _} (h : Kc d0 d) : Kc d0 (Dev.lockStep d x1) := by
  unfold Dev.lockStep
  repeat' (first
    | (with_reducible (first
      | assumption | refine ite_kc ?_ ?_ | refine Dev.genEnter_kc ?_ | refine Dev.putPst_kc ?_
      | refine Dev.sg_kc ?_ | refine Kc.to ?_))
    | (intro _) | (refine Kc.of ?_; dsimp only) | dsimp only | split)

theorem Dev.leadEvent_kc {d0 d : Dev} {x1 : _} (h : Kc d0 d) : Kc d0 (Dev.leadEvent d x1) := by
  unfold Dev.leadEvent
  repeat' (first
    | (with_reducible (first
      | assumption | refine ite_kc ?_ ?_ | refine Dev.each_kc ?_ ?_ | refine Dev.refEvent_kc ?_ | refine Kc.to ?_))
    | (intro _) | (refine Kc.of ?_; dsimp only) | dsimp only | split)

theorem Dev.swapCore_kc {d0 d : Dev} {x1 : _} (h : Kc d0 d) : Kc d0 (Dev.swapCore d x1) := by
  unfold Dev.swapCore
  repeat' (first
    | (with_reducible (first
      | assumption | refine ite_kc ?_ ?_ | refine Dev.each_kc ?_ ?_ | refine Dev.needShowPipe_kc ?_
      | refine Dev.headroom_kc ?_ | refine Dev.overClear_kc ?_ | refine Dev.leadEvent_kc ?_
      | refine Dev.lockStep_kc ?_ | refine Dev.sg_kc ?_ | refine Dev.armShow_kc ?_ | refine Dev.poolShow_kc ?_
      | refine Dev.ownerStep_kc ?_ | refine Dev.swapTake_kc ?_ | refine Dev.classBStart_kc ?_
      | refine Dev.swapBlack_kc ?_ | refine Dev.classBEnd_kc ?_ | refine Dev.putPst_kc ?_ | refine Dev.inc_kc ?_
      | refine Dev.publishFrame_kc ?_ | refine Dev.wbClose_kc ?_ | refine Dev.replayWrite_kc ?_
      | refine Dev.strobesCut_kc ?_ | refine cutoff_kc ?_ | refine Kc.to ?_))
    | (intro _) | (refine Kc.of ?_; dsimp only) | dsimp only | split)

theorem genlockRefLost_kc {d0 d : Dev} {x0 : _} (h : Kc d0 d) : Kc d0 (genlockRefLost x0 d) := by
  unfold genlockRefLost
  repeat' (first
    | (with_reducible (first
      | assumption | refine ite_kc ?_ ?_ | refine Dev.holdover_kc ?_ | refine Kc.to ?_))
    | (intro _) | (refine Kc.of ?_; dsimp only) | dsimp only | split)

theorem holdEntryComplete_kc {d0 d : Dev} (h : Kc d0 d) : Kc d0 (holdEntryComplete d) := by
  unfold holdEntryComplete
  repeat' (first
    | (with_reducible (first
      | assumption | refine ite_kc ?_ ?_ | refine Dev.shutGo_kc ?_ | refine Dev.wakePending_kc ?_
      | refine Dev.up_kc ?_ | refine Dev.cutAll_kc ?_ | refine Dev.portsOff_kc ?_ | refine Dev.sg_kc ?_
      | refine Dev.dn_kc ?_ | refine Dev.incSat_kc ?_ | refine Kc.to ?_))
    | (intro _) | (refine Kc.of ?_; dsimp only) | dsimp only | split)

theorem retrainTimer_kc {d0 d : Dev} {x0 : _} (h : Kc d0 d) : Kc d0 (retrainTimer x0 d) := by
  unfold retrainTimer
  repeat' (first
    | (with_reducible (first
      | assumption | refine ite_kc ?_ ?_ | refine Dev.train_kc ?_ | refine Kc.to ?_))
    | (intro _) | (refine Kc.of ?_; dsimp only) | dsimp only | split)

theorem opDsiDcs_kc {d0 d : Dev} {x0 x1 : _} (h : Kc d0 d) : AnsKc d0 (opDsiDcs x0 x1 d) := by
  unfold opDsiDcs
  repeat' (first
    | (with_reducible (first
      | assumption | refine ite_kc ?_ ?_ | refine AnsKc.mk ?_ ?_ | refine id_kc ?_ | refine iteAns_kc ?_ ?_
      | refine Kc.to ?_))
    | (intro _) | (refine Kc.of ?_; dsimp only) | dsimp only | split)

theorem dsiErrorReport_kc {d0 d : Dev} {x0 : _} (h : Kc d0 d) : Kc d0 (dsiErrorReport x0 d) := by
  unfold dsiErrorReport
  repeat' (first
    | (with_reducible (first
      | assumption | refine ite_kc ?_ ?_ | refine Dev.up_kc ?_ | refine Dev.incSat_kc ?_ | refine Kc.to ?_))
    | (intro _) | (refine Kc.of ?_; dsimp only) | dsimp only | split)

theorem opDeviceInfo_kc {d0 d : Dev} {x0 : _} (h : Kc d0 d) : AnsKc d0 (opDeviceInfo x0 d) := by
  unfold opDeviceInfo
  repeat' (first
    | (with_reducible (first
      | assumption | refine ite_kc ?_ ?_ | refine AnsKc.mk ?_ ?_ | refine id_kc ?_ | refine iteAns_kc ?_ ?_
      | refine Kc.to ?_))
    | (intro _) | (refine Kc.of ?_; dsimp only) | dsimp only | split)

theorem tileScrub_kc {d0 d : Dev} {x0 : _} (h : Kc d0 d) : Kc d0 (tileScrub x0 d) := by
  unfold tileScrub
  repeat' (first
    | (with_reducible (first
      | assumption | refine ite_kc ?_ ?_ | refine Dev.each_kc ?_ ?_ | refine Dev.tileInvalid_kc ?_
      | refine Dev.nextLine_kc ?_ | refine Kc.to ?_))
    | (intro _) | (refine Kc.of ?_; dsimp only) | dsimp only | split)

theorem Dev.trainStep_kc {d0 d : Dev} {x1 : _} (h : Kc d0 d) : Kc d0 (Dev.trainStep d x1) := by
  unfold Dev.trainStep
  repeat' (first
    | (with_reducible (first
      | assumption | refine ite_kc ?_ ?_ | refine Dev.rasterStart_kc ?_ | refine Dev.train_kc ?_
      | refine Dev.setStep_kc ?_ | refine Kc.to ?_))
    | (intro _) | (refine Kc.of ?_; dsimp only) | dsimp only | split)

theorem pixelPllLock_kc {d0 d : Dev} {x0 : _} (h : Kc d0 d) : Kc d0 (pixelPllLock x0 d) := by
  unfold pixelPllLock
  repeat' (first
    | (with_reducible (first
      | assumption | refine ite_kc ?_ ?_ | refine Dev.trainStep_kc ?_ | refine Kc.to ?_))
    | (intro _) | (refine Kc.of ?_; dsimp only) | dsimp only | split)

theorem dramRetrain_kc {d0 d : Dev} {x0 : _} (h : Kc d0 d) : Kc d0 (dramRetrain x0 d) := by
  unfold dramRetrain
  repeat' (first
    | (with_reducible (first
      | assumption | refine ite_kc ?_ ?_ | refine Kc.to ?_))
    | (intro _) | (refine Kc.of ?_; dsimp only) | dsimp only | split)

theorem crustSlotDrain_kc {d0 d : Dev} {x0 : _} (h : Kc d0 d) : Kc d0 (crustSlotDrain x0 d) := by
  unfold crustSlotDrain
  repeat' (first
    | (with_reducible (first
      | assumption | refine ite_kc ?_ ?_ | refine Dev.each_kc ?_ ?_ | refine Dev.putCrust_kc ?_
      | refine Dev.storeShow_kc ?_ | refine Dev.putTile_kc ?_ | refine Kc.to ?_))
    | (intro _) | (refine Kc.of ?_; dsimp only) | dsimp only | split)

theorem startSuccess_kc {d0 d : Dev} (h : Kc d0 d) : Kc d0 (startSuccess d) := by
  unfold startSuccess
  repeat' (first
    | (with_reducible (first
      | assumption | refine ite_kc ?_ ?_ | refine Dev.sg_kc ?_ | refine Dev.dn_kc ?_ | refine Kc.to ?_))
    | (intro _) | (refine Kc.of ?_; dsimp only) | dsimp only | split)

theorem configScrubPass_kc {d0 d : Dev} {x0 : _} (h : Kc d0 d) : Kc d0 (configScrubPass x0 d) := by
  unfold configScrubPass
  repeat' (first
    | (with_reducible (first
      | assumption | refine ite_kc ?_ ?_ | refine Dev.each_kc ?_ ?_ | refine Dev.parityAct_kc ?_
      | refine Dev.parityFound_kc ?_ | refine Dev.inc_kc ?_ | refine Kc.to ?_))
    | (intro _) | (refine Kc.of ?_; dsimp only) | dsimp only | split)

theorem Dev.layerProof_kc {d0 d : Dev} {x1 x2 x3 x4 x5 x6 : _} (h : Kc d0 d) :
    Kc d0 (Dev.layerProof d x1 x2 x3 x4 x5 x6) := by
  unfold Dev.layerProof
  repeat' (first
    | (with_reducible (first
      | assumption | refine ite_kc ?_ ?_ | refine foldFst_kc ?_ ?_ | refine foldl_kc ?_ ?_ | refine Dev.sp_kc ?_
      | refine Kt.activeSet ?_ | refine Kt.activeBlk ?_ | refine Kt.proofSet ?_ | refine Kt.proofBlk ?_
      | refine Kt.regsMap ?_ | refine Kt.activeBlks ?_ | refine Kt.proofBlks ?_ | refine Kc.to ?_
      | refine Kt.memNil ?_))
    | (intro _) | (refine Kc.of ?_; dsimp only) | dsimp only | split)

theorem tmParity_kc {d0 d : Dev} {x0 x1 : _} (h : Kc d0 d) : Kc d0 (tmParity x0 x1 d) := by
  unfold tmParity
  repeat' (first
    | (with_reducible (first
      | assumption | refine ite_kc ?_ ?_ | refine Dev.ramParity_kc ?_ | refine Dev.mark_kc ?_ | refine Kc.to ?_))
    | (intro _) | (refine Kc.of ?_; dsimp only) | dsimp only | split)

theorem Dev.drawOverlay_kc {d0 d : Dev} {x1 x2 x3 : _} (h : Kc d0 d) : Kc d0 (Dev.drawOverlay d x1 x2 x3) := by
  unfold Dev.drawOverlay
  repeat' (first
    | (with_reducible (first
      | assumption | refine ite_kc ?_ ?_ | refine Dev.each_kc ?_ ?_ | refine Dev.store_kc ?_
      | refine Dev.noteWrite_kc ?_ | refine Kc.to ?_))
    | (intro _) | (refine Kc.of ?_; dsimp only) | dsimp only | split)

theorem Dev.wrapFail_kc {d0 d : Dev} (h : Kc d0 d) : Kc d0 (Dev.wrapFail d) := by
  unfold Dev.wrapFail
  repeat' (first
    | (with_reducible (first
      | assumption | refine ite_kc ?_ ?_ | refine Dev.each_kc ?_ ?_ | refine Dev.up_kc ?_
      | refine Dev.hdcpTo_kc ?_ | refine Dev.dn_kc ?_ | refine Dev.sg_kc ?_ | refine Dev.attn_kc ?_
      | refine Dev.logSev_kc ?_ | refine Kc.to ?_))
    | (intro _) | (refine Kc.of ?_; dsimp only) | dsimp only | split)

theorem Dev.watchDiff_kc {d0 d : Dev} {x0 : _} (h : Kc d0 d) : Kc d0 (Dev.watchDiff x0 d) := by
  unfold Dev.watchDiff
  repeat' (first
    | (with_reducible (first
      | assumption | refine ite_kc ?_ ?_ | refine Dev.targets_kc ?_ | refine Kc.to ?_))
    | (intro _) | (refine Kc.of ?_; dsimp only) | dsimp only | split)

theorem Dev.beat_kc {d0 d : Dev} {x1 : _} (h : Kc d0 d) : Kc d0 (Dev.beat d x1) := by
  unfold Dev.beat
  repeat' (first
    | (with_reducible (first
      | assumption | refine ite_kc ?_ ?_ | refine Dev.dn_kc ?_ | refine Kc.to ?_))
    | (intro _) | (refine Kc.of ?_; dsimp only) | dsimp only | split)

theorem Dev.arrive_kc {d0 d : Dev} {x1 x2 : _} (h : Kc d0 d) : Kc d0 (Dev.arrive d x1 x2) := by
  unfold Dev.arrive
  repeat' (first
    | (with_reducible (first
      | assumption | refine ite_kc ?_ ?_ | refine Dev.beat_kc ?_ | refine Dev.testStop_kc ?_
      | refine Dev.trailer_kc ?_ | refine Kc.to ?_))
    | (intro _) | (refine Kc.of ?_; dsimp only) | dsimp only | split)

theorem unlockTimeout_kc {d0 d : Dev} {x0 : _} (h : Kc d0 d) : Kc d0 (unlockTimeout x0 d) := by
  unfold unlockTimeout
  repeat' (first
    | (with_reducible (first
      | assumption | refine ite_kc ?_ ?_ | refine Dev.unlockOff_kc ?_ | refine Kc.to ?_))
    | (intro _) | (refine Kc.of ?_; dsimp only) | dsimp only | split)

theorem Dev.windowFlags_kc {d0 d : Dev} {x1 x2 : _} (h : Kc d0 d) : Kc d0 (Dev.windowFlags d x1 x2) := by
  unfold Dev.windowFlags
  repeat' (first
    | (with_reducible (first
      | assumption | refine ite_kc ?_ ?_ | refine Dev.each_kc ?_ ?_ | refine Dev.up_kc ?_
      | refine Dev.onlyIf_kc ?_ ?_ | refine Kc.to ?_))
    | (intro _) | (refine Kc.of ?_; dsimp only) | dsimp only | split)

theorem Dev.recentShow_kc {d0 d : Dev} (h : Kc d0 d) : Kc d0 (Dev.recentShow d) := by
  unfold Dev.recentShow
  repeat' (first
    | (with_reducible (first
      | assumption | refine ite_kc ?_ ?_ | refine Dev.sg_kc ?_ | refine Kc.to ?_))
    | (intro _) | (refine Kc.of ?_; dsimp only) | dsimp only | split)

theorem Dev.advance_kc {d0 d : Dev} {x1 : _} (h : Kc d0 d) : Kc d0 (Dev.advance d x1) := by
  unfold Dev.advance
  repeat' (first
    | (with_reducible (first
      | assumption | refine ite_kc ?_ ?_ | refine Dev.dn_kc ?_ | refine Dev.recentShow_kc ?_
      | refine Dev.remainShow_kc ?_ | refine Kc.to ?_))
    | (intro _) | (refine Kc.of ?_; dsimp only) | dsimp only | split)

theorem teEdge_kc {d0 d : Dev} {x0 x1 : _} (h : Kc d0 d) : Kc d0 (teEdge x0 x1 d) := by
  unfold teEdge
  repeat' (first
    | (with_reducible (first
      | assumption | refine ite_kc ?_ ?_ | refine Dev.dn_kc ?_ | refine Dev.putPst_kc ?_
      | refine Dev.advance_kc ?_ | refine Kc.to ?_))
    | (intro _) | (refine Kc.of ?_; dsimp only) | dsimp only | split)

theorem opGetStatus_kc {d0 d : Dev} {x0 : _} (h : Kc d0 d) : AnsKc d0 (opGetStatus x0 d) := by
  unfold opGetStatus
  repeat' (first
    | (with_reducible (first
      | assumption | refine ite_kc ?_ ?_ | refine AnsKc.mk ?_ ?_ | refine id_kc ?_ | refine iteAns_kc ?_ ?_
      | refine Kc.to ?_))
    | (intro _) | (refine Kc.of ?_; dsimp only) | dsimp only | split)

theorem opDpcdWrite_kc {d0 d : Dev} {x0 x1 : _} (h : Kc d0 d) : AnsKc d0 (opDpcdWrite x0 x1 d) := by
  unfold opDpcdWrite
  repeat' (first
    | (with_reducible (first
      | assumption | refine ite_kc ?_ ?_ | refine AnsKc.mk ?_ ?_ | refine id_kc ?_ | refine iteAns_kc ?_ ?_
      | refine Kc.to ?_))
    | (intro _) | (refine Kc.of ?_; dsimp only) | dsimp only | split)

theorem hostLost_kc {d0 d : Dev} (h : Kc d0 d) : Kc d0 (hostLost d) := by
  unfold hostLost
  repeat' (first
    | (with_reducible (first
      | assumption | refine ite_kc ?_ ?_ | refine Dev.up_kc ?_ | refine Dev.logE_kc ?_ | refine Kc.to ?_))
    | (intro _) | (refine Kc.of ?_; dsimp only) | dsimp only | split)

theorem holdExitComplete_kc {d0 d : Dev} (h : Kc d0 d) : Kc d0 (holdExitComplete d) := by
  unfold holdExitComplete
  repeat' (first
    | (with_reducible (first
      | assumption | refine ite_kc ?_ ?_ | refine Dev.each_kc ?_ ?_ | refine Dev.dn_kc ?_
      | refine Dev.moveTo_kc ?_ | refine Dev.resume_kc ?_ | refine Kc.to ?_))
    | (intro _) | (refine Kc.of ?_; dsimp only) | dsimp only | split)

theorem Dev.fwBeginDo_kc {d0 d : Dev} {x1 x2 : _} (h : Kc d0 d) : Kc d0 (Dev.fwBeginDo d x1 x2) := by
  unfold Dev.fwBeginDo
  repeat' (first
    | (with_reducible (first
      | assumption | refine ite_kc ?_ ?_ | refine Dev.sg_kc ?_ | refine Dev.fwState_kc ?_ | refine Kc.to ?_))
    | (intro _) | (refine Kc.of ?_; dsimp only) | dsimp only | split)

theorem opFwBegin_kc {d0 d : Dev} {x0 : _} (h : Kc d0 d) : AnsKc d0 (opFwBegin x0 d) := by
  unfold opFwBegin
  repeat' (first
    | (with_reducible (first
      | assumption | refine ite_kc ?_ ?_ | refine AnsKc.mk ?_ ?_ | refine id_kc ?_ | refine iteAns_kc ?_ ?_
      | refine Dev.fwBeginDo_kc ?_ | refine Kc.to ?_))
    | (intro _) | (refine Kc.of ?_; dsimp only) | dsimp only | split)

theorem Dev.thermalHold_kc {d0 d : Dev} (h : Kc d0 d) : Kc d0 (Dev.thermalHold d) := by
  unfold Dev.thermalHold
  repeat' (first
    | (with_reducible (first
      | assumption | refine ite_kc ?_ ?_ | refine Dev.up_kc ?_ | refine Dev.holdBegin_kc ?_
      | refine Dev.logE_kc ?_ | refine Kc.to ?_))
    | (intro _) | (refine Kc.of ?_; dsimp only) | dsimp only | split)

theorem Dev.readBy_kc {d0 d : Dev} {x1 x2 : _} (h : Kc d0 d) : Kc d0 (Dev.readBy d x1 x2) := by
  unfold Dev.readBy
  repeat' (first
    | (with_reducible (first
      | assumption | refine ite_kc ?_ ?_ | refine Dev.each_kc ?_ ?_ | refine Dev.store_kc ?_ | refine Kc.to ?_))
    | (intro _) | (refine Kc.of ?_; dsimp only) | dsimp only | split)

theorem opPipeTimingSet_kc {d0 d : Dev} {x0 : _} (h : Kc d0 d) : AnsKc d0 (opPipeTimingSet x0 d) := by
  unfold opPipeTimingSet
  repeat' (first
    | (with_reducible (first
      | assumption | refine ite_kc ?_ ?_ | refine AnsKc.mk ?_ ?_ | refine id_kc ?_ | refine iteAns_kc ?_ ?_
      | refine Dev.putSvc_kc ?_ | refine Dev.fwCommit_kc ?_ | refine Dev.timingProof_kc ?_ | refine Kc.to ?_))
    | (intro _) | (refine Kc.of ?_; dsimp only) | dsimp only | split)

theorem opSinkRead_kc {d0 d : Dev} {x0 x1 : _} (h : Kc d0 d) : AnsKc d0 (opSinkRead x0 x1 d) := by
  unfold opSinkRead
  repeat' (first
    | (with_reducible (first
      | assumption | refine ite_kc ?_ ?_ | refine AnsKc.mk ?_ ?_ | refine id_kc ?_ | refine iteAns_kc ?_ ?_
      | refine Kc.to ?_))
    | (intro _) | (refine Kc.of ?_; dsimp only) | dsimp only | split)

theorem descUpset_kc {d0 d : Dev} {x0 : _} (h : Kc d0 d) : Kc d0 (descUpset x0 d) := by
  unfold descUpset
  repeat' (first
    | (with_reducible (first
      | assumption | refine ite_kc ?_ ?_ | refine Dev.up_kc ?_ | refine Dev.surfErr_kc ?_
      | refine Dev.logOpen_kc ?_ | refine Dev.putSurf_kc ?_ | refine Dev.lostOne_kc ?_ | refine Kc.to ?_))
    | (intro _) | (refine Kc.of ?_; dsimp only) | dsimp only | split)

theorem sidebandBadCommand_kc {d0 d : Dev} {x0 : _} (h : Kc d0 d) : Kc d0 (sidebandBadCommand x0 d) := by
  unfold sidebandBadCommand
  repeat' (first
    | (with_reducible (first
      | assumption | refine ite_kc ?_ ?_ | refine Dev.putSide_kc ?_ | refine Kc.to ?_))
    | (intro _) | (refine Kc.of ?_; dsimp only) | dsimp only | split)

theorem Dev.scEnd_kc {d0 d : Dev} {x1 x2 : _} (h : Kc d0 d) : Kc d0 (Dev.scEnd d x1 x2) := by
  unfold Dev.scEnd
  repeat' (first
    | (with_reducible (first
      | assumption | refine ite_kc ?_ ?_ | refine Dev.sqIdle_kc ?_ | refine Dev.sq3Show_kc ?_
      | refine Dev.restShow_kc ?_ | refine Dev.dn_kc ?_ | refine Dev.incSat_kc ?_ | refine Dev.sg_kc ?_
      | refine Dev.msix_kc ?_ | refine Dev.store_kc ?_ | refine Dev.noteWrite_kc ?_ | refine Dev.inc_kc ?_
      | refine Dev.up_kc ?_ | refine Dev.signalSet_kc ?_ | refine Dev.onlyIf_kc ?_ ?_ | refine Kc.to ?_))
    | (intro _) | (refine Kc.of ?_; dsimp only) | dsimp only | split)

theorem opSurfQuery_kc {d0 d : Dev} {x0 : _} (h : Kc d0 d) : AnsKc d0 (opSurfQuery x0 d) := by
  unfold opSurfQuery
  repeat' (first
    | (with_reducible (first
      | assumption | refine ite_kc ?_ ?_ | refine AnsKc.mk ?_ ?_ | refine id_kc ?_ | refine iteAns_kc ?_ ?_
      | refine Kc.to ?_))
    | (intro _) | (refine Kc.of ?_; dsimp only) | dsimp only | split)

theorem regAt_kc {d0 d : Dev} {x0 x1 x2 : _} (h : Kc d0 d) : Kc d0 (regAt x0 x1 x2 d) := by
  unfold regAt
  repeat' (first
    | (with_reducible (first
      | assumption | refine ite_kc ?_ ?_ | refine regWrite_kc ?_ | refine Kc.to ?_))
    | (intro _) | (refine Kc.of ?_; dsimp only) | dsimp only | split)

theorem refInEdge_kc {d0 d : Dev} {x0 : _} (h : Kc d0 d) : Kc d0 (refInEdge x0 d) := by
  unfold refInEdge
  repeat' (first
    | (with_reducible (first
      | assumption | refine ite_kc ?_ ?_ | refine Dev.masterEvent_kc ?_ | refine Dev.advance_kc ?_
      | refine Dev.refMeasure_kc ?_ | refine Dev.refInEvent_kc ?_ | refine Kc.to ?_))
    | (intro _) | (refine Kc.of ?_; dsimp only) | dsimp only | split)

theorem Dev.sampleAttn_kc {d0 d : Dev} {x1 : _} (h : Kc d0 d) : Kc d0 (Dev.sampleAttn d x1) := by
  unfold Dev.sampleAttn
  repeat' (first
    | (with_reducible (first
      | assumption | refine ite_kc ?_ ?_ | refine Dev.attn_kc ?_ | refine Dev.onlyIf_kc ?_ ?_ | refine Kc.to ?_))
    | (intro _) | (refine Kc.of ?_; dsimp only) | dsimp only | split)

theorem Dev.dmaReset_kc {d0 d : Dev} (h : Kc d0 d) : Kc d0 (Dev.dmaReset d) := by
  unfold Dev.dmaReset
  repeat' (first
    | (with_reducible (first
      | assumption | refine ite_kc ?_ ?_ | refine Dev.dmaOff_kc ?_ | refine Dev.resetRegs_kc ?_
      | refine Dev.restShow_kc ?_ | refine Kc.to ?_))
    | (intro _) | (refine Kc.of ?_; dsimp only) | dsimp only | split)

theorem opMarginRead_kc {d0 d : Dev} {x0 : _} (h : Kc d0 d) : AnsKc d0 (opMarginRead x0 d) := by
  unfold opMarginRead
  repeat' (first
    | (with_reducible (first
      | assumption | refine ite_kc ?_ ?_ | refine AnsKc.mk ?_ ?_ | refine id_kc ?_ | refine iteAns_kc ?_ ?_
      | refine Kc.to ?_))
    | (intro _) | (refine Kc.of ?_; dsimp only) | dsimp only | split)

theorem opFenceSignal_kc {d0 d : Dev} {x0 : _} (h : Kc d0 d) : AnsKc d0 (opFenceSignal x0 d) := by
  unfold opFenceSignal
  repeat' (first
    | (with_reducible (first
      | assumption | refine ite_kc ?_ ?_ | refine AnsKc.mk ?_ ?_ | refine id_kc ?_ | refine iteAns_kc ?_ ?_
      | refine Dev.doorbell_kc ?_ | refine Kc.to ?_))
    | (intro _) | (refine Kc.of ?_; dsimp only) | dsimp only | split)

theorem opLayoutWindow_kc {d0 d : Dev} {x0 : _} (h : Kc d0 d) : AnsKc d0 (opLayoutWindow x0 d) := by
  unfold opLayoutWindow
  repeat' (first
    | (with_reducible (first
      | assumption | refine ite_kc ?_ ?_ | refine AnsKc.mk ?_ ?_ | refine id_kc ?_ | refine iteAns_kc ?_ ?_
      | refine Dev.putSvc_kc ?_ | refine Kc.to ?_))
    | (intro _) | (refine Kc.of ?_; dsimp only) | dsimp only | split)

theorem Dev.demandEnd_kc {d0 d : Dev} {x1 : _} (h : Kc d0 d) : Kc d0 (Dev.demandEnd d x1) := by
  unfold Dev.demandEnd
  repeat' (first
    | (with_reducible (first
      | assumption | refine ite_kc ?_ ?_ | refine Dev.hpdFlush_kc ?_ | refine Dev.shutGo_kc ?_
      | refine Dev.answer_kc ?_ | refine Dev.recordSlice_kc ?_ | refine Dev.sliceOff_kc ?_ | refine Kc.to ?_))
    | (intro _) | (refine Kc.of ?_; dsimp only) | dsimp only | split)

theorem Dev.sliceOver_kc {d0 d : Dev} {x1 : _} (h : Kc d0 d) : Kc d0 (Dev.sliceOver d x1) := by
  unfold Dev.sliceOver
  repeat' (first
    | (with_reducible (first
      | assumption | refine ite_kc ?_ ?_ | refine Dev.demandEnd_kc ?_ | refine Dev.testEnd_kc ?_ | refine Kc.to ?_))
    | (intro _) | (refine Kc.of ?_; dsimp only) | dsimp only | split)

theorem sliceEnd_kc {d0 d : Dev} {x0 : _} (h : Kc d0 d) : Kc d0 (sliceEnd x0 d) := by
  unfold sliceEnd
  repeat' (first
    | (with_reducible (first
      | assumption | refine ite_kc ?_ ?_ | refine Dev.sliceOver_kc ?_ | refine Kc.to ?_))
    | (intro _) | (refine Kc.of ?_; dsimp only) | dsimp only | split)

theorem Dev.debugOpen_kc {d0 d : Dev} (h : Kc d0 d) : Kc d0 (Dev.debugOpen d) := by
  unfold Dev.debugOpen
  repeat' (first
    | (with_reducible (first
      | assumption | refine ite_kc ?_ ?_ | refine Dev.keysOff_kc ?_ | refine Dev.up_kc ?_
      | refine Dev.logSev_kc ?_ | refine Dev.attn_kc ?_ | refine Kc.to ?_))
    | (intro _) | (refine Kc.of ?_; dsimp only) | dsimp only | split)

theorem opDebugOpen_kc {d0 d : Dev} {x0 : _} (h : Kc d0 d) : AnsKc d0 (opDebugOpen x0 d) := by
  unfold opDebugOpen
  repeat' (first
    | (with_reducible (first
      | assumption | refine ite_kc ?_ ?_ | refine AnsKc.mk ?_ ?_ | refine id_kc ?_ | refine iteAns_kc ?_ ?_
      | refine Dev.incSat_kc ?_ | refine Dev.attn_kc ?_ | refine Dev.debugOpen_kc ?_ | refine Kc.to ?_))
    | (intro _) | (refine Kc.of ?_; dsimp only) | dsimp only | split)

theorem brownoutRecovery_kc {d0 d : Dev} {x0 x1 x2 : _} (h : Kc d0 d) : Kc d0 (brownoutRecovery x0 x1 x2 d) := by
  unfold brownoutRecovery
  repeat' (first
    | (with_reducible (first
      | assumption | refine ite_kc ?_ ?_ | refine Dev.logE_kc ?_ | refine Dev.clrBits_kc ?_
      | refine Dev.mramFlush_kc ?_ | refine Dev.logFlush_kc ?_ | refine Kc.to ?_))
    | (intro _) | (refine Kc.of ?_; dsimp only) | dsimp only | split)

theorem startTimeout_kc {d0 d : Dev} (h : Kc d0 d) : Kc d0 (startTimeout d) := by
  unfold startTimeout
  repeat' (first
    | (with_reducible (first
      | assumption | refine ite_kc ?_ ?_ | refine Dev.warmReset_kc ?_ | refine Kc.to ?_))
    | (intro _) | (refine Kc.of ?_; dsimp only) | dsimp only | split)

theorem irqHpdEvent_kc {d0 d : Dev} {x0 x1 : _} (h : Kc d0 d) : Kc d0 (irqHpdEvent x0 x1 d) := by
  unfold irqHpdEvent
  repeat' (first
    | (with_reducible (first
      | assumption | refine ite_kc ?_ ?_ | refine Dev.hpdGuard_kc ?_ | refine Dev.onlyIf_kc ?_ ?_
      | refine Kc.to ?_))
    | (intro _) | (refine Kc.of ?_; dsimp only) | dsimp only | split)

theorem Dev.tornWrite_kc {d0 d : Dev} {x1 x2 x3 : _} (h : Kc d0 d) : Kc d0 (Dev.tornWrite d x1 x2 x3) := by
  unfold Dev.tornWrite
  repeat' (first
    | (with_reducible (first
      | assumption | refine ite_kc ?_ ?_ | refine Dev.each_kc ?_ ?_ | refine Dev.putFrame_kc ?_
      | refine Dev.putSurf_kc ?_ | refine Dev.orBits_kc ?_ | refine Dev.sg_kc ?_ | refine Dev.up_kc ?_
      | refine Dev.change_kc ?_ | refine Kc.to ?_))
    | (intro _) | (refine Kc.of ?_; dsimp only) | dsimp only | split)

theorem dramWindowWrite_kc {d0 d : Dev} {x0 x1 : _} (h : Kc d0 d) : Kc d0 (dramWindowWrite x0 x1 d) := by
  unfold dramWindowWrite
  repeat' (first
    | (with_reducible (first
      | assumption | refine ite_kc ?_ ?_ | refine Dev.each_kc ?_ ?_ | refine Dev.noteWrite_kc ?_
      | refine Dev.tornWrite_kc ?_ | refine Dev.windowFlags_kc ?_ | refine Dev.store_kc ?_ | refine Kc.to ?_))
    | (intro _) | (refine Kc.of ?_; dsimp only) | dsimp only | split)

theorem opFwInfo_kc {d0 d : Dev} {x0 : _} (h : Kc d0 d) : AnsKc d0 (opFwInfo x0 d) := by
  unfold opFwInfo
  repeat' (first
    | (with_reducible (first
      | assumption | refine ite_kc ?_ ?_ | refine AnsKc.mk ?_ ?_ | refine id_kc ?_ | refine iteAns_kc ?_ ?_
      | refine Kc.to ?_))
    | (intro _) | (refine Kc.of ?_; dsimp only) | dsimp only | split)

theorem sliceBudgetExpiry_kc {d0 d : Dev} {x0 : _} (h : Kc d0 d) : Kc d0 (sliceBudgetExpiry x0 d) := by
  unfold sliceBudgetExpiry
  repeat' (first
    | (with_reducible (first
      | assumption | refine ite_kc ?_ ?_ | refine Dev.sliceOver_kc ?_ | refine Kc.to ?_))
    | (intro _) | (refine Kc.of ?_; dsimp only) | dsimp only | split)

theorem opSelftestResult_kc {d0 d : Dev} {x0 : _} (h : Kc d0 d) : AnsKc d0 (opSelftestResult x0 d) := by
  unfold opSelftestResult
  repeat' (first
    | (with_reducible (first
      | assumption | refine ite_kc ?_ ?_ | refine AnsKc.mk ?_ ?_ | refine id_kc ?_ | refine iteAns_kc ?_ ?_
      | refine Kc.to ?_))
    | (intro _) | (refine Kc.of ?_; dsimp only) | dsimp only | split)

theorem writePacket_kc {d0 d : Dev} {x0 x1 : _} (h : Kc d0 d) : Kc d0 (writePacket x0 x1 d) := by
  unfold writePacket
  repeat' (first
    | (with_reducible (first
      | assumption | refine ite_kc ?_ ?_ | refine Dev.svcQueue_kc ?_ | refine Dev.putSide_kc ?_ | refine Kc.to ?_))
    | (intro _) | (refine Kc.of ?_; dsimp only) | dsimp only | split)

theorem opSelftestRun_kc {d0 d : Dev} {x0 : _} (h : Kc d0 d) : AnsKc d0 (opSelftestRun x0 d) := by
  unfold opSelftestRun
  repeat' (first
    | (with_reducible (first
      | assumption | refine ite_kc ?_ ?_ | refine AnsKc.mk ?_ ?_ | refine id_kc ?_ | refine iteAns_kc ?_ ?_
      | refine Dev.sliceStart_kc ?_ | refine Kc.to ?_))
    | (intro _) | (refine Kc.of ?_; dsimp only) | dsimp only | split)

theorem Dev.svcAdd_kc {d0 d : Dev} {x1 x2 : _} (h : Kc d0 d) : Kc d0 (Dev.svcAdd d x1 x2) := by
  unfold Dev.svcAdd
  repeat' (first
    | (with_reducible (first
      | assumption | refine ite_kc ?_ ?_ | refine Dev.svcQueue_kc ?_ | refine Dev.svcStage_kc ?_ | refine Kc.to ?_))
    | (intro _) | (refine Kc.of ?_; dsimp only) | dsimp only | split)

theorem lsParity_kc {d0 d : Dev} {x0 x1 : _} (h : Kc d0 d) : Kc d0 (lsParity x0 x1 d) := by
  unfold lsParity
  repeat' (first
    | (with_reducible (first
      | assumption | refine ite_kc ?_ ?_ | refine Dev.up_kc ?_ | refine Dev.incSat_kc ?_
      | refine Dev.layerData_kc ?_ | refine Kc.to ?_))
    | (intro _) | (refine Kc.of ?_; dsimp only) | dsimp only | split)

theorem Dev.dmaBurst_kc {d0 d : Dev} (h : Kc d0 d) : Kc d0 (Dev.dmaBurst d) := by
  unfold Dev.dmaBurst
  repeat' (first
    | (with_reducible (first
      | assumption | refine ite_kc ?_ ?_ | refine Dev.dmaMove_kc ?_ | refine Kc.to ?_))
    | (intro _) | (refine Kc.of ?_; dsimp only) | dsimp only | split)

theorem Dev.dmaServe_kc {d0 d : Dev} {c n : Nat} (h : Kc d0 d) : Kc d0 (Dev.dmaServe c n d) := by
  induction n generalizing d with
  | zero => exact h
  | succ n ih =>
    unfold Dev.dmaServe
    exact ite_kc (ih (Dev.dmaBurst_kc h)) h

theorem dmaDescComplete_kc {d0 d : Dev} {x0 x1 : _} (h : Kc d0 d) : Kc d0 (dmaDescComplete x0 x1 d) := by
  unfold dmaDescComplete
  repeat' (first
    | (with_reducible (first
      | assumption | refine ite_kc ?_ ?_ | refine Dev.dmaStart_kc ?_ | refine Dev.dmaTo_kc ?_
      | refine Dev.dmaFinish_kc ?_ | refine Dev.dmaServe_kc ?_ | refine Dev.hostSource_kc ?_ | refine Kc.to ?_))
    | (intro _) | (refine Kc.of ?_; dsimp only) | dsimp only | split)

theorem postedLanded_kc {d0 d : Dev} {x0 : _} (h : Kc d0 d) : Kc d0 (postedLanded x0 d) := by
  unfold postedLanded
  repeat' (first
    | (with_reducible (first
      | assumption | refine ite_kc ?_ ?_ | refine Dev.each_kc ?_ ?_ | refine readNow_kc ?_
      | refine Dev.postedShow_kc ?_ | refine regApply_kc ?_ | refine Kc.to ?_))
    | (intro _) | (refine Kc.of ?_; dsimp only) | dsimp only | split)

theorem Dev.hearthRestart_kc {d0 d : Dev} (h : Kc d0 d) : Kc d0 (Dev.hearthRestart d) := by
  unfold Dev.hearthRestart
  repeat' (first
    | (with_reducible (first
      | assumption | refine ite_kc ?_ ?_ | refine Dev.each_kc ?_ ?_ | refine Dev.abandon_kc ?_
      | refine Dev.putSvc_kc ?_ | refine Kc.to ?_))
    | (intro _) | (refine Kc.of ?_; dsimp only) | dsimp only | split)

theorem deepEntryComplete_kc {d0 d : Dev} (h : Kc d0 d) : Kc d0 (deepEntryComplete d) := by
  unfold deepEntryComplete
  split
  · extract_lets d1
    have h1 : Kc d0 d1 := Dev.sg_kc (Dev.portsOff_kc (Dev.cutAll_kc (Dev.enginesStop_kc h)))
    clear_value d1
    exact Dev.wakePending_kc (Kc.of h1.to.memNil)
  · exact h

theorem fallbackTimerTick_kc {d0 d : Dev} {x0 : _} (h : Kc d0 d) : Kc d0 (fallbackTimerTick x0 d) := by
  unfold fallbackTimerTick
  repeat' (first
    | (with_reducible (first
      | assumption | refine ite_kc ?_ ?_ | refine Dev.tick_kc ?_ | refine Dev.advance_kc ?_ | refine Kc.to ?_))
    | (intro _) | (refine Kc.of ?_; dsimp only) | dsimp only | split)

theorem Dev.tablesReset_kc {d0 d : Dev} (h : Kc d0 d) : Kc d0 d.tablesReset :=
  Dev.resetRegs_kc (Kc.of (Kt.tablesNil h.to))

theorem opSoftReset_kc {d0 d : Dev} {x0 : _} (h : Kc d0 d) : AnsKc d0 (opSoftReset x0 d) := by
  unfold opSoftReset
  repeat' (first
    | (with_reducible (first
      | assumption | refine ite_kc ?_ ?_ | refine AnsKc.mk ?_ ?_ | refine id_kc ?_ | refine iteAns_kc ?_ ?_
      | refine Dev.each_kc ?_ ?_ | refine Dev.tablesReset_kc ?_ | refine Dev.chkReset_kc ?_
      | refine Dev.dmaReset_kc ?_ | refine Dev.scraperReset_kc ?_ | refine Dev.onlyIf_kc ?_ ?_
      | refine Dev.pipeReset_kc ?_ | refine Dev.warmReset_kc ?_ | refine Dev.dn_kc ?_ | refine Kc.to ?_))
    | (intro _) | (refine Kc.of ?_; dsimp only) | dsimp only | split)

theorem scanOutFetchIssue_kc {d0 d : Dev} {x0 x1 : _} (h : Kc d0 d) : Kc d0 (scanOutFetchIssue x0 x1 d) := by
  unfold scanOutFetchIssue
  repeat' (first
    | (with_reducible (first
      | assumption | refine ite_kc ?_ ?_ | refine Dev.up_kc ?_ | refine Dev.incSat_kc ?_ | refine Dev.sg_kc ?_
      | refine Dev.putFrame_kc ?_ | refine Kc.to ?_))
    | (intro _) | (refine Kc.of ?_; dsimp only) | dsimp only | split)

theorem Dev.lowDone_kc {d0 d : Dev} {x1 x2 : _} (h : Kc d0 d) : Kc d0 (Dev.lowDone d x1 x2) := by
  unfold Dev.lowDone
  repeat' (first
    | (with_reducible (first
      | assumption | refine ite_kc ?_ ?_ | refine Kc.to ?_))
    | (intro _) | (refine Kc.of ?_; dsimp only) | dsimp only | split)

theorem aonPowerOn_kc {d0 d : Dev} (h : Kc d0 d) : Kc d0 (aonPowerOn d) := by
  unfold aonPowerOn
  repeat' (first
    | (with_reducible (first
      | assumption | refine ite_kc ?_ ?_ | refine Dev.restart_kc ?_ | refine Kc.to ?_))
    | (intro _) | (refine Kc.of ?_; dsimp only) | dsimp only | split)

theorem opSurfRegister_kc {d0 d : Dev} {x0 : _} (h : Kc d0 d) : AnsKc d0 (opSurfRegister x0 d) := by
  unfold opSurfRegister
  repeat' (first
    | (with_reducible (first
      | assumption | refine ite_kc ?_ ?_ | refine AnsKc.mk ?_ ?_ | refine id_kc ?_ | refine iteAns_kc ?_ ?_
      | refine Dev.register_kc ?_ | refine Kc.to ?_))
    | (intro _) | (refine Kc.of ?_; dsimp only) | dsimp only | split)

theorem opPipeStatus_kc {d0 d : Dev} {x0 : _} (h : Kc d0 d) : AnsKc d0 (opPipeStatus x0 d) := by
  unfold opPipeStatus
  repeat' (first
    | (with_reducible (first
      | assumption | refine ite_kc ?_ ?_ | refine AnsKc.mk ?_ ?_ | refine id_kc ?_ | refine iteAns_kc ?_ ?_
      | refine Dev.lineShow_kc ?_ | refine Kc.to ?_))
    | (intro _) | (refine Kc.of ?_; dsimp only) | dsimp only | split)

theorem healthRecordMinutes_kc {d0 d : Dev} (h : Kc d0 d) : Kc d0 (healthRecordMinutes d) := by
  unfold healthRecordMinutes
  repeat' (first
    | (with_reducible (first
      | assumption | refine ite_kc ?_ ?_ | refine Dev.healthUpdate_kc ?_ | refine Dev.minToRun_kc ?_
      | refine Kc.to ?_))
    | (intro _) | (refine Kc.of ?_; dsimp only) | dsimp only | split)

theorem hdcpRetry_kc {d0 d : Dev} {x0 : _} (h : Kc d0 d) : Kc d0 (hdcpRetry x0 d) := by
  unfold hdcpRetry
  repeat' (first
    | (with_reducible (first
      | assumption | refine ite_kc ?_ ?_ | refine Dev.hdcpTo_kc ?_ | refine Kc.to ?_))
    | (intro _) | (refine Kc.of ?_; dsimp only) | dsimp only | split)

theorem Dev.sampleWords_kc {d0 d : Dev} {x1 x2 : _} (h : Kc d0 d) : Kc d0 (Dev.sampleWords d x1 x2) := by
  unfold Dev.sampleWords
  repeat' (first
    | (with_reducible (first
      | assumption | refine ite_kc ?_ ?_ | refine Dev.each_kc ?_ ?_ | refine Dev.sg_kc ?_ | refine Kc.to ?_))
    | (intro _) | (refine Kc.of ?_; dsimp only) | dsimp only | split)

theorem Dev.islandShow_kc {d0 d : Dev} {x0 : _} (h : Kc d0 d) : Kc d0 (Dev.islandShow x0 d) := by
  unfold Dev.islandShow
  repeat' (first
    | (with_reducible (first
      | assumption | refine ite_kc ?_ ?_ | refine Dev.sg_kc ?_ | refine Dev.up_kc ?_ | refine Dev.orBits_kc ?_
      | refine Dev.dn_kc ?_ | refine Kc.to ?_))
    | (intro _) | (refine Kc.of ?_; dsimp only) | dsimp only | split)

theorem Dev.sampleCauses_kc {d0 d : Dev} (h : Kc d0 d) : Kc d0 (Dev.sampleCauses d) := by
  unfold Dev.sampleCauses
  repeat' (first
    | (with_reducible (first
      | assumption | refine ite_kc ?_ ?_ | refine Dev.causeClear_kc ?_ | refine Dev.causeSet_kc ?_
      | refine Kc.to ?_))
    | (intro _) | (refine Kc.of ?_; dsimp only) | dsimp only | split)

theorem sensorSample_kc {d0 d : Dev} {x0 x1 x2 : _} (h : Kc d0 d) : Kc d0 (sensorSample x0 x1 x2 d) := by
  unfold sensorSample
  repeat' (first
    | (with_reducible (first
      | assumption | refine ite_kc ?_ ?_ | refine Dev.each_kc ?_ ?_ | refine Dev.sampleCauses_kc ?_
      | refine Dev.coolShow_kc ?_ | refine Dev.thermalHold_kc ?_ | refine Dev.sampleAttn_kc ?_
      | refine Dev.watchDiff_kc ?_ | refine Dev.islandShow_kc ?_ | refine Dev.sampleWords_kc ?_
      | refine Dev.advance_kc ?_ | refine Dev.fwResume_kc ?_ | refine Kc.to ?_))
    | (intro _) | (refine Kc.of ?_; dsimp only) | dsimp only | split)

theorem opPipeReclaim_kc {d0 d : Dev} {x0 : _} (h : Kc d0 d) : AnsKc d0 (opPipeReclaim x0 d) := by
  unfold opPipeReclaim
  repeat' (first
    | (with_reducible (first
      | assumption | refine ite_kc ?_ ?_ | refine AnsKc.mk ?_ ?_ | refine id_kc ?_ | refine iteAns_kc ?_ ?_
      | refine Dev.putSvc_kc ?_ | refine Dev.ownerBegin_kc ?_ | refine Kc.to ?_))
    | (intro _) | (refine Kc.of ?_; dsimp only) | dsimp only | split)

theorem opPipeReset_kc {d0 d : Dev} {x0 : _} (h : Kc d0 d) : AnsKc d0 (opPipeReset x0 d) := by
  unfold opPipeReset
  repeat' (first
    | (with_reducible (first
      | assumption | refine ite_kc ?_ ?_ | refine AnsKc.mk ?_ ?_ | refine id_kc ?_ | refine iteAns_kc ?_ ?_
      | refine Dev.pipeReset_kc ?_ | refine Kc.to ?_))
    | (intro _) | (refine Kc.of ?_; dsimp only) | dsimp only | split)

theorem wakeNFall_kc {d0 d : Dev} (h : Kc d0 d) : Kc d0 (wakeNFall d) := by
  unfold wakeNFall
  repeat' (first
    | (with_reducible (first
      | assumption | refine ite_kc ?_ ?_ | refine Dev.wakeEvent_kc ?_ | refine Dev.onlyIf_kc ?_ ?_
      | refine Dev.testStop_kc ?_ | refine Dev.sg_kc ?_ | refine Kc.to ?_))
    | (intro _) | (refine Kc.of ?_; dsimp only) | dsimp only | split)

theorem Dev.layoutProof_kc {d0 d : Dev} {x1 x2 x3 x4 : _} (h : Kc d0 d) : Kc d0 (Dev.layoutProof d x1 x2 x3 x4) := by
  unfold Dev.layoutProof
  repeat' (first
    | (with_reducible (first
      | assumption | refine ite_kc ?_ ?_ | refine Dev.each_kc ?_ ?_ | refine Dev.layerProof_kc ?_
      | refine Dev.sp_kc ?_ | refine Kc.to ?_))
    | (intro _) | (refine Kc.of ?_; dsimp only) | dsimp only | split)

theorem dmaHaltSettled_kc {d0 d : Dev} (h : Kc d0 d) : Kc d0 (dmaHaltSettled d) := by
  unfold dmaHaltSettled
  repeat' (first
    | (with_reducible (first
      | assumption | refine ite_kc ?_ ?_ | refine Dev.up_kc ?_ | refine Kc.to ?_))
    | (intro _) | (refine Kc.of ?_; dsimp only) | dsimp only | split)

theorem opLayoutBegin_kc {d0 d : Dev} {x0 : _} (h : Kc d0 d) : AnsKc d0 (opLayoutBegin x0 d) := by
  unfold opLayoutBegin
  repeat' (first
    | (with_reducible (first
      | assumption | refine ite_kc ?_ ?_ | refine AnsKc.mk ?_ ?_ | refine id_kc ?_ | refine iteAns_kc ?_ ?_
      | refine Dev.putSvc_kc ?_ | refine Kc.to ?_))
    | (intro _) | (refine Kc.of ?_; dsimp only) | dsimp only | split)

theorem fallbackTick_kc {d0 d : Dev} {x0 : _} (h : Kc d0 d) : Kc d0 (fallbackTick x0 d) := by
  unfold fallbackTick
  repeat' (first
    | (with_reducible (first
      | assumption | refine ite_kc ?_ ?_ | refine Dev.tick_kc ?_ | refine Dev.advance_kc ?_ | refine Kc.to ?_))
    | (intro _) | (refine Kc.of ?_; dsimp only) | dsimp only | split)

theorem lutParity_kc {d0 d : Dev} {x0 x1 : _} (h : Kc d0 d) : Kc d0 (lutParity x0 x1 d) := by
  unfold lutParity
  repeat' (first
    | (with_reducible (first
      | assumption | refine ite_kc ?_ ?_ | refine Dev.ramParity_kc ?_ | refine Dev.mark_kc ?_ | refine Kc.to ?_))
    | (intro _) | (refine Kc.of ?_; dsimp only) | dsimp only | split)

theorem opFenceAlloc_kc {d0 d : Dev} {x0 : _} (h : Kc d0 d) : AnsKc d0 (opFenceAlloc x0 d) := by
  unfold opFenceAlloc
  repeat' (first
    | (with_reducible (first
      | assumption | refine ite_kc ?_ ?_ | refine AnsKc.mk ?_ ?_ | refine id_kc ?_ | refine iteAns_kc ?_ ?_
      | refine Dev.fenceAllocate_kc ?_ | refine Kc.to ?_))
    | (intro _) | (refine Kc.of ?_; dsimp only) | dsimp only | split)

theorem opLayoutGet_kc {d0 d : Dev} {x0 : _} (h : Kc d0 d) : AnsKc d0 (opLayoutGet x0 d) := by
  unfold opLayoutGet
  repeat' (first
    | (with_reducible (first
      | assumption | refine ite_kc ?_ ?_ | refine AnsKc.mk ?_ ?_ | refine id_kc ?_ | refine iteAns_kc ?_ ?_
      | refine Kc.to ?_))
    | (intro _) | (refine Kc.of ?_; dsimp only) | dsimp only | split)

theorem opClaimControl_kc {d0 d : Dev} {x0 x1 : _} (h : Kc d0 d) : AnsKc d0 (opClaimControl x0 x1 d) := by
  unfold opClaimControl
  repeat' (first
    | (with_reducible (first
      | assumption | refine ite_kc ?_ ?_ | refine AnsKc.mk ?_ ?_ | refine id_kc ?_ | refine iteAns_kc ?_ ?_
      | refine Dev.sg_kc ?_ | refine Dev.dn_kc ?_ | refine Kc.to ?_))
    | (intro _) | (refine Kc.of ?_; dsimp only) | dsimp only | split)

theorem opSensorRead_kc {d0 d : Dev} {x0 : _} (h : Kc d0 d) : AnsKc d0 (opSensorRead x0 d) := by
  unfold opSensorRead
  repeat' (first
    | (with_reducible (first
      | assumption | refine ite_kc ?_ ?_ | refine AnsKc.mk ?_ ?_ | refine id_kc ?_ | refine iteAns_kc ?_ ?_
      | refine Kc.to ?_))
    | (intro _) | (refine Kc.of ?_; dsimp only) | dsimp only | split)

theorem replayAbort_kc {d0 d : Dev} {x0 x1 : _} (h : Kc d0 d) : Kc d0 (replayAbort x0 x1 d) := by
  unfold replayAbort
  repeat' (first
    | (with_reducible (first
      | assumption | refine ite_kc ?_ ?_ | refine Dev.mark_kc ?_ | refine Dev.up_kc ?_ | refine Dev.dn_kc ?_
      | refine Dev.restShow_kc ?_ | refine Kc.to ?_))
    | (intro _) | (refine Kc.of ?_; dsimp only) | dsimp only | split)

theorem railRetry_kc {d0 d : Dev} (h : Kc d0 d) : Kc d0 (railRetry d) := by
  unfold railRetry
  repeat' (first
    | (with_reducible (first
      | assumption | refine ite_kc ?_ ?_ | refine Kc.to ?_))
    | (intro _) | (refine Kc.of ?_; dsimp only) | dsimp only | split)

theorem refreshMultUpdate_kc {d0 d : Dev} {x0 : _} (h : Kc d0 d) : Kc d0 (refreshMultUpdate x0 d) := by
  unfold refreshMultUpdate
  repeat' (first
    | (with_reducible (first
      | assumption | refine ite_kc ?_ ?_ | refine Dev.each_kc ?_ ?_ | refine Dev.sg_kc ?_
      | refine Dev.refReport_kc ?_ | refine Kc.to ?_))
    | (intro _) | (refine Kc.of ?_; dsimp only) | dsimp only | split)

theorem sealCheckEnd_kc {d0 d : Dev} (h : Kc d0 d) : Kc d0 (sealCheckEnd d) := by
  unfold sealCheckEnd
  repeat' (first
    | (with_reducible (first
      | assumption | refine ite_kc ?_ ?_ | refine Dev.surfOcc_kc ?_ | refine Dev.putSurf_kc ?_
      | refine Dev.store_kc ?_ | refine Dev.noteWrite_kc ?_ | refine Dev.draw_kc ?_ | refine Dev.sg_kc ?_
      | refine Dev.up_kc ?_ | refine Dev.dn_kc ?_ | refine Dev.chkRun_kc ?_ | refine Kc.to ?_))
    | (intro _) | (refine Kc.of ?_; dsimp only) | dsimp only | split)

theorem opFenceFree_kc {d0 d : Dev} {x0 : _} (h : Kc d0 d) : AnsKc d0 (opFenceFree x0 d) := by
  unfold opFenceFree
  repeat' (first
    | (with_reducible (first
      | assumption | refine ite_kc ?_ ?_ | refine AnsKc.mk ?_ ?_ | refine id_kc ?_ | refine iteAns_kc ?_ ?_
      | refine Dev.fenceRelease_kc ?_ | refine Kc.to ?_))
    | (intro _) | (refine Kc.of ?_; dsimp only) | dsimp only | split)

theorem hdcpAuthComplete_kc {d0 d : Dev} {x0 x1 x2 x3 : _} (h : Kc d0 d) :
    Kc d0 (hdcpAuthComplete x0 x1 x2 x3 d) := by
  unfold hdcpAuthComplete
  repeat' (first
    | (with_reducible (first
      | assumption | refine ite_kc ?_ ?_ | refine Dev.hdcpTo_kc ?_ | refine Dev.incSat_kc ?_ | refine Dev.sg_kc ?_
      | refine Dev.wrapFail_kc ?_ | refine Kc.to ?_))
    | (intro _) | (refine Kc.of ?_; dsimp only) | dsimp only | split)

theorem Dev.fwActivateDo_kc {d0 d : Dev} {x1 : _} (h : Kc d0 d) : Kc d0 (Dev.fwActivateDo d x1).2 := by
  unfold Dev.fwActivateDo
  repeat' (first
    | (with_reducible (first
      | assumption | refine ite_kc ?_ ?_ | refine Dev.attn_kc ?_ | refine Kc.to ?_))
    | (intro _) | (refine Kc.of ?_; dsimp only) | dsimp only | split)

theorem readStatus_kc {d0 d : Dev} {x0 : _} (h : Kc d0 d) : Kc d0 (readStatus x0 d) := by
  unfold readStatus
  repeat' (first
    | (with_reducible (first
      | assumption | refine ite_kc ?_ ?_ | refine Dev.send_kc ?_ | refine Dev.putSide_kc ?_ | refine Kc.to ?_))
    | (intro _) | (refine Kc.of ?_; dsimp only) | dsimp only | split)

theorem surfaceRetireDrain_kc {d0 d : Dev} {x0 : _} (h : Kc d0 d) : Kc d0 (surfaceRetireDrain x0 d) := by
  unfold surfaceRetireDrain
  repeat' (first
    | (with_reducible (first
      | assumption | refine ite_kc ?_ ?_ | refine Dev.putSurf_kc ?_ | refine Dev.retire_kc ?_ | refine Kc.to ?_))
    | (intro _) | (refine Kc.of ?_; dsimp only) | dsimp only | split)

theorem safeBlackReload_kc {d0 d : Dev} {x0 : _} (h : Kc d0 d) : Kc d0 (safeBlackReload x0 d) := by
  unfold safeBlackReload
  repeat' (first
    | (with_reducible (first
      | assumption | refine ite_kc ?_ ?_ | refine Dev.safeBlackOff_kc ?_ | refine Dev.putPst_kc ?_
      | refine Kc.to ?_))
    | (intro _) | (refine Kc.of ?_; dsimp only) | dsimp only | split)

theorem leavenRun_kc {d0 d : Dev} (h : Kc d0 d) : Kc d0 (leavenRun d) := by
  unfold leavenRun
  repeat' (first
    | (with_reducible (first
      | assumption | refine ite_kc ?_ ?_ | refine Kc.to ?_))
    | (intro _) | (refine Kc.of ?_; dsimp only) | dsimp only | split)

theorem scraperJobEnd_kc {d0 d : Dev} (h : Kc d0 d) : Kc d0 (scraperJobEnd d) := by
  unfold scraperJobEnd
  repeat' (first
    | (with_reducible (first
      | assumption | refine ite_kc ?_ ?_ | refine Dev.scEnd_kc ?_ | refine Kc.to ?_))
    | (intro _) | (refine Kc.of ?_; dsimp only) | dsimp only | split)

theorem claimScrub_kc {d0 d : Dev} {x0 : _} (h : Kc d0 d) : Kc d0 (claimScrub x0 d) := by
  unfold claimScrub
  repeat' (first
    | (with_reducible (first
      | assumption | refine ite_kc ?_ ?_ | refine Dev.each_kc ?_ ?_ | refine Dev.up_kc ?_ | refine Dev.logE_kc ?_
      | refine Dev.poolShow_kc ?_ | refine Kc.to ?_))
    | (intro _) | (refine Kc.of ?_; dsimp only) | dsimp only | split)

theorem burstWrite_kc {d0 d : Dev} {q : Rq} {w : Win} {o : Nat} {l : List (BitVec 4 × Word)} (h : Kc d0 d) :
    Kc d0 (burstWrite q w o l d) := by
  induction l generalizing o d with
  | nil => exact h
  | cons x t ih => exact ih (winWrite_kc h)

theorem underrun_kc {d0 d : Dev} {x0 x1 x2 x3 : _} (h : Kc d0 d) : Kc d0 (underrun x0 x1 x2 x3 d) := by
  unfold underrun
  repeat' (first
    | (with_reducible (first
      | assumption | refine ite_kc ?_ ?_ | refine Dev.logMore_kc ?_ | refine Dev.faultSum_kc ?_
      | refine Dev.mark_kc ?_ | refine Dev.attn_kc ?_ | refine Dev.incSat_kc ?_ | refine Dev.up_kc ?_
      | refine Dev.sg_kc ?_ | refine Dev.underMode_kc ?_ | refine Kc.to ?_))
    | (intro _) | (refine Kc.of ?_; dsimp only) | dsimp only | split)

theorem opHeartbeat_kc {d0 d : Dev} {x0 : _} (h : Kc d0 d) : AnsKc d0 (opHeartbeat x0 d) := by
  unfold opHeartbeat
  repeat' (first
    | (with_reducible (first
      | assumption | refine ite_kc ?_ ?_ | refine AnsKc.mk ?_ ?_ | refine id_kc ?_ | refine iteAns_kc ?_ ?_
      | refine Kc.to ?_))
    | (intro _) | (refine Kc.of ?_; dsimp only) | dsimp only | split)

theorem timed_kc {d0 d : Dev} {x0 x1 : _} (h1 : ∀ e, Kc d0 e → Kc d0 (x1 e)) (h : Kc d0 d) :
    Kc d0 (timed x0 x1 d) := by
  unfold timed
  repeat' (first
    | (with_reducible (first
      | assumption | refine ite_kc ?_ ?_ | refine h1 _ ?_ | refine h1 _ _ ?_ | refine Kc.to ?_))
    | (intro _) | (refine Kc.of ?_; dsimp only) | dsimp only | split)

theorem dramWindowRead_kc {d0 d : Dev} {x0 x1 : _} (h : Kc d0 d) : Kc d0 (dramWindowRead x0 x1 d) := by
  unfold dramWindowRead
  repeat' (first
    | (with_reducible (first
      | assumption | refine ite_kc ?_ ?_ | refine Dev.send_kc ?_ | refine Dev.poisonedBy_kc ?_
      | refine Dev.up_kc ?_ | refine Dev.surfErr_kc ?_ | refine Dev.windowFlags_kc ?_ | refine Kc.to ?_))
    | (intro _) | (refine Kc.of ?_; dsimp only) | dsimp only | split)

theorem writebackLineOverflow_kc {d0 d : Dev} {x0 x1 : _} (h : Kc d0 d) : Kc d0 (writebackLineOverflow x0 x1 d) := by
  unfold writebackLineOverflow
  repeat' (first
    | (with_reducible (first
      | assumption | refine ite_kc ?_ ?_ | refine Dev.putPst_kc ?_ | refine Dev.up_kc ?_ | refine Kc.to ?_))
    | (intro _) | (refine Kc.of ?_; dsimp only) | dsimp only | split)

theorem Dev.drawLayout_kc {d0 d : Dev} {x1 x2 x3 : _} (h : Kc d0 d) : Kc d0 (Dev.drawLayout d x1 x2 x3) := by
  unfold Dev.drawLayout
  repeat' (first
    | (with_reducible (first
      | assumption | refine ite_kc ?_ ?_ | refine Dev.each_kc ?_ ?_ | refine Dev.drawBars_kc ?_
      | refine Dev.sq3Jobs_kc ?_ | refine Dev.freeRect_kc ?_ | refine Dev.drawOverlay_kc ?_ | refine Kc.to ?_))
    | (intro _) | (refine Kc.of ?_; dsimp only) | dsimp only | split)

theorem opLayoutSet_kc {d0 d : Dev} {x0 : _} (h : Kc d0 d) : AnsKc d0 (opLayoutSet x0 d) := by
  unfold opLayoutSet
  repeat' (first
    | (with_reducible (first
      | assumption | refine ite_kc ?_ ?_ | refine AnsKc.mk ?_ ?_ | refine id_kc ?_ | refine iteAns_kc ?_ ?_
      | refine Dev.drawLayout_kc ?_ | refine Dev.putSvc_kc ?_ | refine Dev.fwCommit_kc ?_
      | refine Dev.overlayFit_kc ?_ | refine Dev.layoutProof_kc ?_ | refine Kc.to ?_))
    | (intro _) | (refine Kc.of ?_; dsimp only) | dsimp only | split)

theorem aonBrownout_kc {d0 d : Dev} (h : Kc d0 d) : Kc d0 (aonBrownout d) := by
  unfold aonBrownout
  repeat' (first
    | (with_reducible (first
      | assumption | refine ite_kc ?_ ?_ | refine Dev.restart_kc ?_ | refine Kc.to ?_))
    | (intro _) | (refine Kc.of ?_; dsimp only) | dsimp only | split)

theorem reloadFail_kc {d0 d : Dev} {x0 : _} (h : Kc d0 d) : Kc d0 (reloadFail x0 d) := by
  unfold reloadFail
  repeat' (first
    | (with_reducible (first
      | assumption | refine ite_kc ?_ ?_ | refine Dev.putPst_kc ?_ | refine Dev.up_kc ?_ | refine Dev.logE_kc ?_
      | refine Kc.to ?_))
    | (intro _) | (refine Kc.of ?_; dsimp only) | dsimp only | split)

theorem sidebandWake_kc {d0 d : Dev} {x0 : _} (h : Kc d0 d) : Kc d0 (sidebandWake x0 d) := by
  unfold sidebandWake
  repeat' (first
    | (with_reducible (first
      | assumption | refine ite_kc ?_ ?_ | refine Dev.wakeEvent_kc ?_ | refine Dev.send_kc ?_
      | refine Dev.onlyIf_kc ?_ ?_ | refine Kc.to ?_))
    | (intro _) | (refine Kc.of ?_; dsimp only) | dsimp only | split)

theorem opReleaseControl_kc {d0 d : Dev} {x0 : _} (h : Kc d0 d) : AnsKc d0 (opReleaseControl x0 d) := by
  unfold opReleaseControl
  repeat' (first
    | (with_reducible (first
      | assumption | refine ite_kc ?_ ?_ | refine AnsKc.mk ?_ ?_ | refine id_kc ?_ | refine iteAns_kc ?_ ?_
      | refine Dev.dn_kc ?_ | refine Kc.to ?_))
    | (intro _) | (refine Kc.of ?_; dsimp only) | dsimp only | split)

theorem readReply_kc {d0 d : Dev} {x0 x1 : _} (h : Kc d0 d) : Kc d0 (readReply x0 x1 d) := by
  unfold readReply
  repeat' (first
    | (with_reducible (first
      | assumption | refine ite_kc ?_ ?_ | refine Dev.putSide_kc ?_ | refine Dev.send_kc ?_ | refine Kc.to ?_))
    | (intro _) | (refine Kc.of ?_; dsimp only) | dsimp only | split)

theorem teTimeout_kc {d0 d : Dev} {x0 : _} (h : Kc d0 d) : Kc d0 (teTimeout x0 d) := by
  unfold teTimeout
  repeat' (first
    | (with_reducible (first
      | assumption | refine ite_kc ?_ ?_ | refine Dev.up_kc ?_ | refine Dev.attn_kc ?_ | refine Kc.to ?_))
    | (intro _) | (refine Kc.of ?_; dsimp only) | dsimp only | split)

theorem resetNAssert_kc {d0 d : Dev} (h : Kc d0 d) : Kc d0 (resetNAssert d) := by
  unfold resetNAssert
  repeat' (first
    | (with_reducible (first
      | assumption | refine ite_kc ?_ ?_ | refine Dev.warmReset_kc ?_ | refine Kc.to ?_))
    | (intro _) | (refine Kc.of ?_; dsimp only) | dsimp only | split)

theorem icpPacketReceived_kc {d0 d : Dev} {x0 x1 : _} (h : Kc d0 d) : Kc d0 (icpPacketReceived x0 x1 d) := by
  unfold icpPacketReceived
  repeat' (first
    | (with_reducible (first
      | assumption | refine ite_kc ?_ ?_ | refine Dev.arrive_kc ?_ | refine Dev.svcAdd_kc ?_
      | refine Dev.settleAll_kc ?_ | refine Dev.putSide_kc ?_ | refine Kc.to ?_))
    | (intro _) | (refine Kc.of ?_; dsimp only) | dsimp only | split)

theorem scraperJobStart_kc {d0 d : Dev} (h : Kc d0 d) : Kc d0 (scraperJobStart d) := by
  unfold scraperJobStart
  repeat' (first
    | (with_reducible (first
      | assumption | refine ite_kc ?_ ?_ | refine Dev.up_kc ?_ | refine Dev.sg_kc ?_ | refine Dev.dn_kc ?_
      | refine Dev.sqIdle_kc ?_ | refine Dev.restShow_kc ?_ | refine Dev.protFlags_kc ?_ | refine Kc.to ?_))
    | (intro _) | (refine Kc.of ?_; dsimp only) | dsimp only | split)

theorem writebackFrameDone_kc {d0 d : Dev} {x0 : _} (h : Kc d0 d) : Kc d0 (writebackFrameDone x0 d) := by
  unfold writebackFrameDone
  repeat' (first
    | (with_reducible (first
      | assumption | refine ite_kc ?_ ?_ | refine Dev.signalSet_kc ?_ | refine Dev.putPst_kc ?_
      | refine Dev.putWrites_kc ?_ | refine Dev.up_kc ?_ | refine Kc.to ?_))
    | (intro _) | (refine Kc.of ?_; dsimp only) | dsimp only | split)

theorem opPowerState_kc {d0 d : Dev} {x0 : _} (h : Kc d0 d) : AnsKc d0 (opPowerState x0 d) := by
  unfold opPowerState
  repeat' (first
    | (with_reducible (first
      | assumption | refine ite_kc ?_ ?_ | refine AnsKc.mk ?_ ?_ | refine id_kc ?_ | refine iteAns_kc ?_ ?_
      | refine Dev.powerTake_kc ?_ | refine Kc.to ?_))
    | (intro _) | (refine Kc.of ?_; dsimp only) | dsimp only | split)

theorem ringAt_kc {d0 d : Dev} {x0 x1 : _} (h : Kc d0 d) : Kc d0 (ringAt x0 x1 d) := by
  unfold ringAt
  repeat' (first
    | (with_reducible (first
      | assumption | refine ite_kc ?_ ?_ | refine ringWrite_kc ?_ | refine Kc.to ?_))
    | (intro _) | (refine Kc.of ?_; dsimp only) | dsimp only | split)

theorem railTimeout_kc {d0 d : Dev} {x0 : _} (h : Kc d0 d) : Kc d0 (railTimeout x0 d) := by
  unfold railTimeout
  repeat' (first
    | (with_reducible (first
      | assumption | refine ite_kc ?_ ?_ | refine Dev.sg_kc ?_ | refine Dev.draw_kc ?_ | refine Kc.to ?_))
    | (intro _) | (refine Kc.of ?_; dsimp only) | dsimp only | split)

theorem tmLoadComplete_kc {d0 d : Dev} {x0 : _} (h : Kc d0 d) : Kc d0 (tmLoadComplete x0 d) := by
  unfold tmLoadComplete
  repeat' (first
    | (with_reducible (first
      | assumption | refine ite_kc ?_ ?_ | refine Dev.sg_kc ?_ | refine Kc.to ?_))
    | (intro _) | (refine Kc.of ?_; dsimp only) | dsimp only | split)

theorem Dev.putVersion_kc {d0 d : Dev} {x1 x2 : _} (h : Kc d0 d) : Kc d0 (Dev.putVersion d x1 x2) := by
  unfold Dev.putVersion
  repeat' (first
    | (with_reducible (first
      | assumption | refine ite_kc ?_ ?_ | refine Dev.putTile_kc ?_ | refine Kc.to ?_))
    | (intro _) | (refine Kc.of ?_; dsimp only) | dsimp only | split)

theorem Dev.writeTiles_kc {d0 d : Dev} {l : List (Nat × Recomposed)} (h : Kc d0 d) :
    Kc d0 (Dev.writeTiles l d).1 := by
  induction l generalizing d with
  | nil => exact h
  | cons x t ih =>
    obtain ⟨q, r⟩ := x
    unfold Dev.writeTiles
    split
    · exact ih h
    · split
      · exact ih (Dev.putVersion_kc h)
      · dsimp only
        split
        · exact h
        · exact ih (Dev.putVersion_kc (Dev.draw_kc h))

theorem flattenItemComplete_kc {d0 d : Dev} {x0 : _} (h : Kc d0 d) : Kc d0 (flattenItemComplete x0 d) := by
  unfold flattenItemComplete
  repeat' (first
    | (with_reducible (first
      | assumption | refine ite_kc ?_ ?_ | refine Dev.crustShow_kc ?_ | refine Dev.storeShow_kc ?_
      | refine Dev.damageAgain_kc ?_ | refine Dev.up_kc ?_ | refine Dev.putCrust_kc ?_
      | refine Dev.onlyIf_kc ?_ ?_ | refine Dev.sg_kc ?_ | refine Dev.writeTiles_kc ?_ | refine Kc.to ?_))
    | (intro _) | (refine Kc.of ?_; dsimp only) | dsimp only | split)

theorem opDebugChallenge_kc {d0 d : Dev} {x0 : _} (h : Kc d0 d) : AnsKc d0 (opDebugChallenge x0 d) := by
  unfold opDebugChallenge
  repeat' (first
    | (with_reducible (first
      | assumption | refine ite_kc ?_ ?_ | refine AnsKc.mk ?_ ?_ | refine id_kc ?_ | refine iteAns_kc ?_ ?_
      | refine Kc.to ?_))
    | (intro _) | (refine Kc.of ?_; dsimp only) | dsimp only | split)

theorem trainFail_kc {d0 d : Dev} {x0 : _} (h : Kc d0 d) : Kc d0 (trainFail x0 d) := by
  unfold trainFail
  repeat' (first
    | (with_reducible (first
      | assumption | refine ite_kc ?_ ?_ | refine Dev.trainDone_kc ?_ | refine Dev.up_kc ?_
      | refine Dev.attn_kc ?_ | refine Dev.stepDone_kc ?_ | refine Kc.to ?_))
    | (intro _) | (refine Kc.of ?_; dsimp only) | dsimp only | split)

theorem linkTrainingComplete_kc {d0 d : Dev} {x0 : _} (h : Kc d0 d) : Kc d0 (linkTrainingComplete x0 d) := by
  unfold linkTrainingComplete
  repeat' (first
    | (with_reducible (first
      | assumption | refine ite_kc ?_ ?_ | refine Dev.lanes_kc ?_ | refine Dev.hdcpAgain_kc ?_
      | refine Dev.hdcpEnable_kc ?_ | refine Dev.stepDone_kc ?_ | refine Dev.trainDone_kc ?_ | refine Dev.up_kc ?_
      | refine Kc.to ?_))
    | (intro _) | (refine Kc.of ?_; dsimp only) | dsimp only | split)

theorem swapPoint_kc {d0 d : Dev} {x0 x1 : _} (h : Kc d0 d) : Kc d0 (swapPoint x0 x1 d) := by
  unfold swapPoint
  repeat' (first
    | (with_reducible (first
      | assumption | refine ite_kc ?_ ?_ | refine Dev.swapCore_kc ?_ | refine Dev.tickSwap_kc ?_
      | refine Dev.barsShow_kc ?_
      | refine Dev.advance_kc ?_ | refine Kc.to ?_))
    | (intro _) | (refine Kc.of ?_; dsimp only) | dsimp only | split)

theorem opMeterWrite_kc {d0 d : Dev} {x0 : _} (h : Kc d0 d) : AnsKc d0 (opMeterWrite x0 d) := by
  unfold opMeterWrite
  repeat' (first
    | (with_reducible (first
      | assumption | refine ite_kc ?_ ?_ | refine AnsKc.mk ?_ ?_ | refine id_kc ?_ | refine iteAns_kc ?_ ?_
      | refine Dev.each_kc ?_ ?_ | refine Dev.store_kc ?_ | refine Dev.noteWrite_kc ?_ | refine Kc.to ?_))
    | (intro _) | (refine Kc.of ?_; dsimp only) | dsimp only | split)

theorem opLogRead_kc {d0 d : Dev} {p : List Nat} (h : Kc d0 d) : AnsKc d0 (opLogRead p d) := by
  unfold opLogRead
  extract_lets b
  clear_value b
  split
  · exact ⟨h, fun _ k => k⟩
  · exact iteAns_kc ⟨h, fun _ k => k⟩ ⟨h, fun _ k => k⟩

theorem classBRasterStop_kc {d0 d : Dev} {x0 : _} (h : Kc d0 d) : Kc d0 (classBRasterStop x0 d) := by
  unfold classBRasterStop
  repeat' (first
    | (with_reducible (first
      | assumption | refine ite_kc ?_ ?_ | refine Dev.setStep_kc ?_ | refine Dev.trainStep_kc ?_
      | refine Dev.timingActive_kc ?_ | refine Dev.surfStop_kc ?_ | refine Dev.stopTake_kc ?_
      | refine Dev.guardClear_kc ?_ | refine Dev.putPst_kc ?_ | refine Dev.dn_kc ?_ | refine Kc.to ?_))
    | (intro _) | (refine Kc.of ?_; dsimp only) | dsimp only | split)

theorem opFwActivate_kc {d0 d : Dev} {x0 : _} (h : Kc d0 d) : AnsKc d0 (opFwActivate x0 d) := by
  unfold opFwActivate
  repeat' (first
    | (with_reducible (first
      | assumption | refine ite_kc ?_ ?_ | refine AnsKc.mk ?_ ?_ | refine id_kc ?_ | refine iteAns_kc ?_ ?_
      | refine Dev.fwActivateDo_kc ?_ | refine Kc.to ?_))
    | (intro _) | (refine Kc.of ?_; dsimp only) | dsimp only | split)

theorem swapPointEvent_kc {d0 d : Dev} {x0 x1 : _} (h : Kc d0 d) : Kc d0 (swapPointEvent x0 x1 d) := by
  unfold swapPointEvent
  repeat' (first
    | (with_reducible (first
      | assumption | refine ite_kc ?_ ?_ | refine Dev.holdStop_kc ?_ | refine Dev.shutGo_kc ?_
      | refine swapPoint_kc ?_ | refine Kc.to ?_))
    | (intro _) | (refine Kc.of ?_; dsimp only) | dsimp only | split)

theorem hpdPlugEvent_kc {d0 d : Dev} {x0 x1 : _} (h : Kc d0 d) : Kc d0 (hpdPlugEvent x0 x1 d) := by
  unfold hpdPlugEvent
  repeat' (first
    | (with_reducible (first
      | assumption | refine ite_kc ?_ ?_ | refine Dev.wakeEvent_kc ?_ | refine Dev.onlyIf_kc ?_ ?_
      | refine Dev.hpdGuard_kc ?_ | refine Dev.up_kc ?_ | refine Kc.to ?_))
    | (intro _) | (refine Kc.of ?_; dsimp only) | dsimp only | split)

theorem opAtlasSet_kc {d0 d : Dev} {x0 : _} (h : Kc d0 d) : AnsKc d0 (opAtlasSet x0 d) := by
  unfold opAtlasSet
  repeat' (first
    | (with_reducible (first
      | assumption | refine ite_kc ?_ ?_ | refine AnsKc.mk ?_ ?_ | refine id_kc ?_ | refine iteAns_kc ?_ ?_
      | refine Kc.to ?_))
    | (intro _) | (refine Kc.of ?_; dsimp only) | dsimp only | split)

theorem scraperRowComplete_kc {d0 d : Dev} (h : Kc d0 d) : Kc d0 (scraperRowComplete d) := by
  unfold scraperRowComplete
  repeat' (first
    | (with_reducible (first
      | assumption | refine ite_kc ?_ ?_ | refine Dev.msix_kc ?_ | refine Dev.onlyIf_kc ?_ ?_
      | refine Dev.sg_kc ?_ | refine Dev.scRow_kc ?_ | refine Kc.to ?_))
    | (intro _) | (refine Kc.of ?_; dsimp only) | dsimp only | split)

theorem leavenRunComplete_kc {d0 d : Dev} {x0 : _} (h : Kc d0 d) : Kc d0 (leavenRunComplete x0 d) := by
  unfold leavenRunComplete
  repeat' (first
    | (with_reducible (first
      | assumption | refine ite_kc ?_ ?_ | refine Dev.leavenMeasure_kc ?_ | refine Kc.to ?_))
    | (intro _) | (refine Kc.of ?_; dsimp only) | dsimp only | split)

theorem dmaBusError_kc {d0 d : Dev} {x0 x1 x2 x3 : _} (h : Kc d0 d) : Kc d0 (dmaBusError x0 x1 x2 x3 d) := by
  unfold dmaBusError
  repeat' (first
    | (with_reducible (first
      | assumption | refine ite_kc ?_ ?_ | refine Dev.hostSource_kc ?_ | refine Dev.dmaHalt_kc ?_
      | refine Dev.dmaHaltAll_kc ?_ ?_ | refine Kc.to ?_))
    | (intro _) | (refine Kc.of ?_; dsimp only) | dsimp only | split)

theorem watchdogExpiry_kc {d0 d : Dev} {x0 : _} (h : Kc d0 d) : Kc d0 (watchdogExpiry x0 d) := by
  unfold watchdogExpiry
  repeat' (first
    | (with_reducible (first
      | assumption | refine ite_kc ?_ ?_ | refine Dev.attn_kc ?_ | refine Dev.logE_kc ?_ | refine Dev.sg_kc ?_
      | refine Dev.hearthRestart_kc ?_ | refine Dev.incSat_kc ?_ | refine Dev.faultSum_kc ?_
      | refine Dev.warmReset_kc ?_ | refine Dev.advance_kc ?_ | refine Kc.to ?_))
    | (intro _) | (refine Kc.of ?_; dsimp only) | dsimp only | split)

theorem opSurfSealStatus_kc {d0 d : Dev} {x0 : _} (h : Kc d0 d) : AnsKc d0 (opSurfSealStatus x0 d) := by
  unfold opSurfSealStatus
  repeat' (first
    | (with_reducible (first
      | assumption | refine ite_kc ?_ ?_ | refine AnsKc.mk ?_ ?_ | refine id_kc ?_ | refine iteAns_kc ?_ ?_
      | refine Kc.to ?_))
    | (intro _) | (refine Kc.of ?_; dsimp only) | dsimp only | split)

end Sys2Proof.Machine
end

