-- ==== Sys2Proof/Laws/DramA.lean ====
section
/-! SUPPORT.  Operations that leave DRAM as it was, part 1 of 4: one lemma for each operation that returns a device. -/

set_option linter.unusedTactic false
set_option linter.unreachableTactic false

namespace Sys2Proof.Machine

theorem Dev.mramStore_km {d0 d : Dev} {x1 x2 : _} (h : Km d0 d) : Km d0 (Dev.mramStore d x1 x2) := by
  unfold Dev.mramStore
  repeat' (first
    | (with_reducible (first
      | assumption | refine ite_km ?_ ?_ | refine Km.to ?_))
    | (intro _) | (refine Km.of ?_; dsimp only) | dsimp only | split)

theorem Dev.fwChunkDo_km {d0 d e : Dev} {off : Nat} {bs : List Byte} (h : Km d0 d) (he :
    d.fwChunkDo off bs = some e) :
    Km d0 e := by
  unfold Dev.fwChunkDo at he
  dsimp only at he
  split at he
  · cases he
  · split at he
    · cases he
    · cases he
      refine Km.of ?_
      dsimp only
      split
      · exact h.to
      · exact (Dev.mramStore_km h).to

theorem Dev.dn_km {d0 d : Dev} {x1 : _} (h : Km d0 d) : Km d0 (Dev.dn d x1) := by
  unfold Dev.dn
  repeat' (first
    | (with_reducible (first
      | assumption | refine ite_km ?_ ?_ | refine Dev.sg_km ?_ | refine Km.to ?_))
    | (intro _) | (refine Km.of ?_; dsimp only) | dsimp only | split)

theorem Dev.unhold_km {d0 d : Dev} {x1 : _} (h : Km d0 d) : Km d0 (Dev.unhold d x1) := by
  unfold Dev.unhold
  repeat' (first
    | (with_reducible (first
      | assumption | refine ite_km ?_ ?_ | refine Dev.dn_km ?_ | refine Km.to ?_))
    | (intro _) | (refine Km.of ?_; dsimp only) | dsimp only | split)

theorem Dev.putPst_km {d0 d : Dev} {x1 x2 : _} (h : Km d0 d) : Km d0 (Dev.putPst d x1 x2) := by
  unfold Dev.putPst
  repeat' (first
    | (with_reducible (first
      | assumption | refine ite_km ?_ ?_ | refine Km.to ?_))
    | (intro _) | (refine Km.of ?_; dsimp only) | dsimp only | split)

theorem Dev.putFrame_km {d0 d : Dev} {x1 x2 : _} (h : Km d0 d) : Km d0 (Dev.putFrame d x1 x2) := by
  unfold Dev.putFrame
  repeat' (first
    | (with_reducible (first
      | assumption | refine ite_km ?_ ?_ | refine Dev.putPst_km ?_ | refine Km.to ?_))
    | (intro _) | (refine Km.of ?_; dsimp only) | dsimp only | split)

theorem Dev.activeSeq_km {d0 d : Dev} {x1 x2 : _} (h : Km d0 d) : Km d0 (Dev.activeSeq d x1 x2) := by
  unfold Dev.activeSeq
  repeat' (first
    | (with_reducible (first
      | assumption | refine ite_km ?_ ?_ | refine Dev.sg_km ?_ | refine Km.to ?_))
    | (intro _) | (refine Km.of ?_; dsimp only) | dsimp only | split)

theorem Dev.largeShow_km {d0 d : Dev} {x1 : _} (h : Km d0 d) : Km d0 (Dev.largeShow d x1) := by
  unfold Dev.largeShow
  repeat' (first
    | (with_reducible (first
      | assumption | refine ite_km ?_ ?_ | refine Dev.sg_km ?_ | refine Km.to ?_))
    | (intro _) | (refine Km.of ?_; dsimp only) | dsimp only | split)

theorem Dev.clearRuns_km {d0 d : Dev} {x1 : _} (h : Km d0 d) : Km d0 (Dev.clearRuns d x1) := by
  unfold Dev.clearRuns
  repeat' (first
    | (with_reducible (first
      | assumption | refine ite_km ?_ ?_ | refine Dev.each_km ?_ ?_ | refine Dev.dn_km ?_ | refine Km.to ?_))
    | (intro _) | (refine Km.of ?_; dsimp only) | dsimp only | split)

theorem Dev.quietReset_km {d0 d : Dev} {x1 : _} (h : Km d0 d) : Km d0 (Dev.quietReset d x1) := by
  unfold Dev.quietReset
  repeat' (first
    | (with_reducible (first
      | assumption | refine ite_km ?_ ?_ | refine Dev.dn_km ?_ | refine Km.to ?_))
    | (intro _) | (refine Km.of ?_; dsimp only) | dsimp only | split)

theorem Dev.needShow_km {d0 d : Dev} {x1 x2 : _} (h : Km d0 d) : Km d0 (Dev.needShow d x1 x2) := by
  unfold Dev.needShow
  repeat' (first
    | (with_reducible (first
      | assumption | refine ite_km ?_ ?_ | refine Dev.sg_km ?_ | refine Km.to ?_))
    | (intro _) | (refine Km.of ?_; dsimp only) | dsimp only | split)

theorem Dev.release_km {d0 d : Dev} {x1 x2 : _} (h : Km d0 d) : Km d0 (Dev.release d x1 x2) := by
  unfold Dev.release
  repeat' (first
    | (with_reducible (first
      | assumption | refine ite_km ?_ ?_ | refine Km.to ?_))
    | (intro _) | (refine Km.of ?_; dsimp only) | dsimp only | split)

theorem Dev.moveGrant_km {d0 d : Dev} {x1 x2 x3 : _} (h : Km d0 d) : Km d0 (Dev.moveGrant d x1 x2 x3) := by
  unfold Dev.moveGrant
  repeat' (first
    | (with_reducible (first
      | assumption | refine ite_km ?_ ?_ | refine Dev.release_km ?_ | refine Km.to ?_))
    | (intro _) | (refine Km.of ?_; dsimp only) | dsimp only | split)

theorem Dev.change_km {d0 d : Dev} {x1 : _} (h : Km d0 d) : Km d0 (Dev.change d x1) := by
  unfold Dev.change
  repeat' (first
    | (with_reducible (first
      | assumption | refine ite_km ?_ ?_ | refine Km.to ?_))
    | (intro _) | (refine Km.of ?_; dsimp only) | dsimp only | split)

theorem Dev.portChange_km {d0 d : Dev} {x1 : _} (h : Km d0 d) : Km d0 (Dev.portChange d x1) := by
  unfold Dev.portChange
  repeat' (first
    | (with_reducible (first
      | assumption | refine ite_km ?_ ?_ | refine Dev.change_km ?_ | refine Km.to ?_))
    | (intro _) | (refine Km.of ?_; dsimp only) | dsimp only | split)

theorem Dev.orBits_km {d0 d : Dev} {x1 x2 : _} (h : Km d0 d) : Km d0 (Dev.orBits d x1 x2) := by
  unfold Dev.orBits
  repeat' (first
    | (with_reducible (first
      | assumption | refine ite_km ?_ ?_ | refine Dev.sg_km ?_ | refine Km.to ?_))
    | (intro _) | (refine Km.of ?_; dsimp only) | dsimp only | split)

theorem Dev.attn_km {d0 d : Dev} {x1 : _} (h : Km d0 d) : Km d0 (Dev.attn d x1) := by
  unfold Dev.attn
  repeat' (first
    | (with_reducible (first
      | assumption | refine ite_km ?_ ?_ | refine Dev.orBits_km ?_ | refine Km.to ?_))
    | (intro _) | (refine Km.of ?_; dsimp only) | dsimp only | split)

theorem Dev.hdcpTo_km {d0 d : Dev} {x1 x2 : _} (h : Km d0 d) : Km d0 (Dev.hdcpTo d x1 x2) := by
  unfold Dev.hdcpTo
  repeat' (first
    | (with_reducible (first
      | assumption | refine ite_km ?_ ?_ | refine Dev.attn_km ?_ | refine Dev.dn_km ?_ | refine Dev.sg_km ?_
      | refine Dev.portChange_km ?_ | refine Km.to ?_))
    | (intro _) | (refine Km.of ?_; dsimp only) | dsimp only | split)

theorem Dev.hdcpEnable_km {d0 d : Dev} {x1 : _} (h : Km d0 d) : Km d0 (Dev.hdcpEnable d x1) := by
  unfold Dev.hdcpEnable
  repeat' (first
    | (with_reducible (first
      | assumption | refine ite_km ?_ ?_ | refine Dev.hdcpTo_km ?_ | refine Km.to ?_))
    | (intro _) | (refine Km.of ?_; dsimp only) | dsimp only | split)

theorem Dev.activate_km {d0 d : Dev} {x1 x2 : _} (h : Km d0 d) : Km d0 (Dev.activate d x1 x2) := by
  unfold Dev.activate
  repeat' (first
    | (with_reducible (first
      | assumption | refine ite_km ?_ ?_ | refine Dev.each_km ?_ ?_ | refine Dev.hdcpEnable_km ?_
      | refine Dev.moveGrant_km ?_ | refine Dev.needShow_km ?_ | refine Dev.quietReset_km ?_
      | refine Dev.clearRuns_km ?_ | refine Dev.largeShow_km ?_ | refine Dev.putPst_km ?_
      | refine Dev.activeSeq_km ?_ | refine Km.to ?_))
    | (intro _) | (refine Km.of ?_; dsimp only) | dsimp only | split)

theorem Dev.dropArmed_km {d0 d : Dev} {x1 : _} (h : Km d0 d) : Km d0 (Dev.dropArmed d x1) := by
  unfold Dev.dropArmed
  repeat' (first
    | (with_reducible (first
      | assumption | refine ite_km ?_ ?_ | refine Km.to ?_))
    | (intro _) | (refine Km.of ?_; dsimp only) | dsimp only | split)

theorem Dev.guardOut_km {d0 d : Dev} {x1 : _} (h : Km d0 d) : Km d0 (Dev.guardOut d x1) := by
  unfold Dev.guardOut
  repeat' (first
    | (with_reducible (first
      | assumption | refine ite_km ?_ ?_ | refine Dev.dn_km ?_ | refine Km.to ?_))
    | (intro _) | (refine Km.of ?_; dsimp only) | dsimp only | split)

theorem Dev.leave_km {d0 d : Dev} {x1 : _} (h : Km d0 d) : Km d0 (Dev.leave d x1) := by
  unfold Dev.leave
  repeat' (first
    | (with_reducible (first
      | assumption | refine ite_km ?_ ?_ | refine Dev.release_km ?_ | refine Dev.needShow_km ?_
      | refine Dev.clearRuns_km ?_ | refine Dev.quietReset_km ?_ | refine Dev.unhold_km ?_
      | refine Dev.guardOut_km ?_ | refine Km.to ?_))
    | (intro _) | (refine Km.of ?_; dsimp only) | dsimp only | split)

theorem Dev.logWrite_km {d0 d : Dev} {x1 : _} (h : Km d0 d) : Km d0 (Dev.logWrite d x1) := by
  unfold Dev.logWrite
  repeat' (first
    | (with_reducible (first
      | assumption | refine ite_km ?_ ?_ | refine Km.to ?_))
    | (intro _) | (refine Km.of ?_; dsimp only) | dsimp only | split)

theorem Dev.logMore_km {d0 d : Dev} {x1 x2 x3 x4 x5 : _} (h : Km d0 d) : Km d0 (Dev.logMore d x1 x2 x3 x4 x5) := by
  unfold Dev.logMore
  repeat' (first
    | (with_reducible (first
      | assumption | refine ite_km ?_ ?_ | refine Dev.logWrite_km ?_ | refine Dev.attn_km ?_
      | refine Dev.onlyIf_km ?_ ?_ | refine Km.to ?_))
    | (intro _) | (refine Km.of ?_; dsimp only) | dsimp only | split)

theorem Dev.logE_km {d0 d : Dev} {x1 x2 x3 x4 : _} (h : Km d0 d) : Km d0 (Dev.logE d x1 x2 x3 x4) := by
  unfold Dev.logE
  repeat' (first
    | (with_reducible (first
      | assumption | refine ite_km ?_ ?_ | refine Dev.logMore_km ?_ | refine Km.to ?_))
    | (intro _) | (refine Km.of ?_; dsimp only) | dsimp only | split)

theorem Dev.up_km {d0 d : Dev} {x1 : _} (h : Km d0 d) : Km d0 (Dev.up d x1) := by
  unfold Dev.up
  repeat' (first
    | (with_reducible (first
      | assumption | refine ite_km ?_ ?_ | refine Dev.sg_km ?_ | refine Km.to ?_))
    | (intro _) | (refine Km.of ?_; dsimp only) | dsimp only | split)

theorem Dev.faultSum_km {d0 d : Dev} {x1 : _} (h : Km d0 d) : Km d0 (Dev.faultSum d x1) := by
  unfold Dev.faultSum
  repeat' (first
    | (with_reducible (first
      | assumption | refine ite_km ?_ ?_ | refine Dev.up_km ?_ | refine Dev.attn_km ?_ | refine Km.to ?_))
    | (intro _) | (refine Km.of ?_; dsimp only) | dsimp only | split)

theorem Dev.incSat_km {d0 d : Dev} {x1 : _} (h : Km d0 d) : Km d0 (Dev.incSat d x1) := by
  unfold Dev.incSat
  repeat' (first
    | (with_reducible (first
      | assumption | refine ite_km ?_ ?_ | refine Dev.sg_km ?_ | refine Km.to ?_))
    | (intro _) | (refine Km.of ?_; dsimp only) | dsimp only | split)

theorem Dev.guardTest_km {d0 d : Dev} {x1 x2 : _} (h : Km d0 d) : Km d0 (Dev.guardTest d x1 x2) := by
  unfold Dev.guardTest
  repeat' (first
    | (with_reducible (first
      | assumption | refine ite_km ?_ ?_ | refine Dev.putFrame_km ?_ | refine Dev.incSat_km ?_
      | refine Dev.up_km ?_ | refine Dev.faultSum_km ?_ | refine Dev.logE_km ?_ | refine Dev.dn_km ?_
      | refine Km.to ?_))
    | (intro _) | (refine Km.of ?_; dsimp only) | dsimp only | split)

theorem Dev.curveTest_km {d0 d : Dev} {x1 x2 : _} (h : Km d0 d) : Km d0 (Dev.curveTest d x1 x2) := by
  unfold Dev.curveTest
  repeat' (first
    | (with_reducible (first
      | assumption | refine ite_km ?_ ?_ | refine Dev.up_km ?_ | refine Dev.putFrame_km ?_ | refine Km.to ?_))
    | (intro _) | (refine Km.of ?_; dsimp only) | dsimp only | split)

theorem Dev.takeOne_km {d0 : Dev} {p : Nat} {s : Snap} {r : Dev × Taken} (h : Km d0 r.1) :
    Km d0 (Dev.takeOne p s r).1 := by
  have hg : ∀ e, Km d0 e → Km d0 (match s.id with
    | .layer l => ((e.dropArmed (fun x => x.id == s.id)).activate s 1).unhold l
    | _ => (e.dropArmed (fun x => x.id == s.id)).activate s 1) := by
    intro e k
    have := Dev.activate_km (x1 := s) (x2 := 1) (Dev.dropArmed_km (x1 := fun x => x.id == s.id) k)
    split
    · exact Dev.unhold_km this
    · exact this
  unfold Dev.takeOne
  extract_lets d t go
  have h : Km d0 d := h
  have hg : ∀ e, Km d0 e → Km d0 (go e) := hg
  clear_value d t go
  split
  · rename_i l _
    split
    · dsimp only
      have h1 : Km d0 (d.leave l) := Dev.leave_km h
      split
      · exact ite_km h1 (hg _ h1)
      · split
        · refine Dev.curveTest_km (ite_km (Dev.guardTest_km ?_) ?_) <;>
            exact ite_km (Dev.putFrame_km (hg _ h1)) (hg _ h1)
        · exact h1
    · exact hg _ h
  · exact hg _ h

theorem Dev.armedSeq_km {d0 d : Dev} {x1 x2 : _} (h : Km d0 d) : Km d0 (Dev.armedSeq d x1 x2) := by
  unfold Dev.armedSeq
  repeat' (first
    | (with_reducible (first
      | assumption | refine ite_km ?_ ?_ | refine Dev.sg_km ?_ | refine Km.to ?_))
    | (intro _) | (refine Km.of ?_; dsimp only) | dsimp only | split)

theorem Dev.putCrust_km {d0 d : Dev} {x1 x2 : _} (h : Km d0 d) : Km d0 (Dev.putCrust d x1 x2) := by
  unfold Dev.putCrust
  repeat' (first
    | (with_reducible (first
      | assumption | refine ite_km ?_ ?_ | refine Km.to ?_))
    | (intro _) | (refine Km.of ?_; dsimp only) | dsimp only | split)

theorem Dev.crustHold_km {d0 d : Dev} {x1 : _} (h : Km d0 d) : Km d0 (Dev.crustHold d x1) := by
  unfold Dev.crustHold
  repeat' (first
    | (with_reducible (first
      | assumption | refine ite_km ?_ ?_ | refine Dev.each_km ?_ ?_ | refine Dev.putCrust_km ?_
      | refine Dev.up_km ?_ | refine Dev.dn_km ?_ | refine Km.to ?_))
    | (intro _) | (refine Km.of ?_; dsimp only) | dsimp only | split)

theorem Dev.crustObsolete_km {d0 d : Dev} {x1 x2 : _} (h : Km d0 d) : Km d0 (Dev.crustObsolete d x1 x2) := by
  unfold Dev.crustObsolete
  repeat' (first
    | (with_reducible (first
      | assumption | refine ite_km ?_ ?_ | refine Dev.putCrust_km ?_ | refine Km.to ?_))
    | (intro _) | (refine Km.of ?_; dsimp only) | dsimp only | split)

theorem Dev.occupancy_km {d0 d : Dev} {x1 x2 x3 x4 x5 x6 : _} (h : Km d0 d) :
    Km d0 (Dev.occupancy d x1 x2 x3 x4 x5 x6) := by
  unfold Dev.occupancy
  repeat' (first
    | (with_reducible (first
      | assumption | refine ite_km ?_ ?_ | refine Dev.dn_km ?_ | refine Dev.up_km ?_ | refine Dev.attn_km ?_
      | refine Dev.sg_km ?_ | refine Km.to ?_))
    | (intro _) | (refine Km.of ?_; dsimp only) | dsimp only | split)

theorem Dev.surfOcc_km {d0 d : Dev} {x1 : _} (h : Km d0 d) : Km d0 (Dev.surfOcc d x1) := by
  unfold Dev.surfOcc
  repeat' (first
    | (with_reducible (first
      | assumption | refine ite_km ?_ ?_ | refine Dev.occupancy_km ?_ | refine Km.to ?_))
    | (intro _) | (refine Km.of ?_; dsimp only) | dsimp only | split)

theorem Dev.putSurf_km {d0 d : Dev} {x1 x2 : _} (h : Km d0 d) : Km d0 (Dev.putSurf d x1 x2) := by
  unfold Dev.putSurf
  repeat' (first
    | (with_reducible (first
      | assumption | refine ite_km ?_ ?_ | refine Km.to ?_))
    | (intro _) | (refine Km.of ?_; dsimp only) | dsimp only | split)

theorem Dev.hintCount_km {d0 d : Dev} (h : Km d0 d) : Km d0 (Dev.hintCount d) := by
  unfold Dev.hintCount
  repeat' (first
    | (with_reducible (first
      | assumption | refine ite_km ?_ ?_ | refine Dev.each_km ?_ ?_ | refine Dev.sg_km ?_ | refine Km.to ?_))
    | (intro _) | (refine Km.of ?_; dsimp only) | dsimp only | split)

theorem Dev.putTile_km {d0 d : Dev} {x1 x2 : _} (h : Km d0 d) : Km d0 (Dev.putTile d x1 x2) := by
  unfold Dev.putTile
  repeat' (first
    | (with_reducible (first
      | assumption | refine ite_km ?_ ?_ | refine Km.to ?_))
    | (intro _) | (refine Km.of ?_; dsimp only) | dsimp only | split)

theorem Dev.damageTile_km {d0 d : Dev} {x1 x2 x3 : _} (h : Km d0 d) : Km d0 (Dev.damageTile d x1 x2 x3) := by
  unfold Dev.damageTile
  repeat' (first
    | (with_reducible (first
      | assumption | refine ite_km ?_ ?_ | refine Dev.putTile_km ?_ | refine Km.to ?_))
    | (intro _) | (refine Km.of ?_; dsimp only) | dsimp only | split)

theorem Dev.hintMember_km {d0 d : Dev} {x1 x2 x3 x4 : _} (h : Km d0 d) : Km d0 (Dev.hintMember d x1 x2 x3 x4) := by
  unfold Dev.hintMember
  repeat' (first
    | (with_reducible (first
      | assumption | refine ite_km ?_ ?_ | refine Dev.each_km ?_ ?_ | refine Dev.damageTile_km ?_
      | refine Km.to ?_))
    | (intro _) | (refine Km.of ?_; dsimp only) | dsimp only | split)

theorem Dev.hintApply_km {d0 d : Dev} {x1 : _} (h : Km d0 d) : Km d0 (Dev.hintApply d x1) := by
  unfold Dev.hintApply
  repeat' (first
    | (with_reducible (first
      | assumption | refine ite_km ?_ ?_ | refine Dev.each_km ?_ ?_ | refine Dev.change_km ?_
      | refine Dev.hintMember_km ?_ | refine Km.to ?_))
    | (intro _) | (refine Km.of ?_; dsimp only) | dsimp only | split)

theorem Dev.hintsDue_km {d0 d : Dev} (h : Km d0 d) : Km d0 (Dev.hintsDue d) := by
  unfold Dev.hintsDue
  repeat' (first
    | (with_reducible (first
      | assumption | refine ite_km ?_ ?_ | refine Dev.each_km ?_ ?_ | refine Dev.hintApply_km ?_
      | refine Dev.hintCount_km ?_ | refine Km.to ?_))
    | (intro _) | (refine Km.of ?_; dsimp only) | dsimp only | split)

theorem Dev.send_km {d0 d : Dev} {x1 : _} (h : Km d0 d) : Km d0 (Dev.send d x1) := by
  unfold Dev.send
  repeat' (first
    | (with_reducible (first
      | assumption | refine ite_km ?_ ?_ | refine Km.to ?_))
    | (intro _) | (refine Km.of ?_; dsimp only) | dsimp only | split)

theorem Dev.msix_km {d0 d : Dev} {x1 : _} (h : Km d0 d) : Km d0 (Dev.msix d x1) := by
  unfold Dev.msix
  repeat' (first
    | (with_reducible (first
      | assumption | refine ite_km ?_ ?_ | refine Dev.send_km ?_ | refine Km.to ?_))
    | (intro _) | (refine Km.of ?_; dsimp only) | dsimp only | split)

theorem Dev.watchOne_km {d0 d : Dev} {x1 : _} (h : Km d0 d) : Km d0 (Dev.watchOne d x1) := by
  unfold Dev.watchOne
  repeat' (first
    | (with_reducible (first
      | assumption | refine ite_km ?_ ?_ | refine Dev.orBits_km ?_ | refine Dev.msix_km ?_ | refine Km.to ?_))
    | (intro _) | (refine Km.of ?_; dsimp only) | dsimp only | split)

theorem Dev.watch_km {d0 d : Dev} (h : Km d0 d) : Km d0 (Dev.watch d) := by
  unfold Dev.watch
  repeat' (first
    | (with_reducible (first
      | assumption | refine ite_km ?_ ?_ | refine Dev.each_km ?_ ?_ | refine Dev.watchOne_km ?_ | refine Km.to ?_))
    | (intro _) | (refine Km.of ?_; dsimp only) | dsimp only | split)

theorem Dev.putFence_km {d0 d : Dev} {x1 x2 : _} (h : Km d0 d) : Km d0 (Dev.putFence d x1 x2) := by
  unfold Dev.putFence
  repeat' (first
    | (with_reducible (first
      | assumption | refine ite_km ?_ ?_ | refine Km.to ?_))
    | (intro _) | (refine Km.of ?_; dsimp only) | dsimp only | split)

theorem Dev.fenceNow_km {d0 d : Dev} {x1 x2 : _} (h : Km d0 d) : Km d0 (Dev.fenceNow d x1 x2) := by
  unfold Dev.fenceNow
  repeat' (first
    | (with_reducible (first
      | assumption | refine ite_km ?_ ?_ | refine Dev.putFence_km ?_ | refine Dev.watch_km ?_
      | refine Dev.hintsDue_km ?_ | refine Km.to ?_))
    | (intro _) | (refine Km.of ?_; dsimp only) | dsimp only | split)

theorem Dev.signalAdd_km {d0 d : Dev} {x1 x2 : _} (h : Km d0 d) : Km d0 (Dev.signalAdd d x1 x2) := by
  unfold Dev.signalAdd
  repeat' (first
    | (with_reducible (first
      | assumption | refine ite_km ?_ ?_ | refine Dev.fenceNow_km ?_ | refine Dev.up_km ?_ | refine Km.to ?_))
    | (intro _) | (refine Km.of ?_; dsimp only) | dsimp only | split)

theorem Dev.lostOne_km {d0 d : Dev} {x0 : _} (h : Km d0 d) : Km d0 (Dev.lostOne x0 d) := by
  unfold Dev.lostOne
  repeat' (first
    | (with_reducible (first
      | assumption | refine ite_km ?_ ?_ | refine Dev.signalAdd_km ?_ | refine Dev.putSurf_km ?_
      | refine Dev.surfOcc_km ?_ | refine Km.to ?_))
    | (intro _) | (refine Km.of ?_; dsimp only) | dsimp only | split)

theorem Dev.lostSweep_km {d0 d : Dev} (h : Km d0 d) : Km d0 (Dev.lostSweep d) := by
  unfold Dev.lostSweep
  repeat' (first
    | (with_reducible (first
      | assumption | refine ite_km ?_ ?_ | refine Dev.each_km ?_ ?_ | refine Dev.lostOne_km ?_ | refine Km.to ?_))
    | (intro _) | (refine Km.of ?_; dsimp only) | dsimp only | split)

theorem Dev.retire_km {d0 d : Dev} {x1 : _} (h : Km d0 d) : Km d0 (Dev.retire d x1) := by
  unfold Dev.retire
  repeat' (first
    | (with_reducible (first
      | assumption | refine ite_km ?_ ?_ | refine Dev.signalAdd_km ?_ | refine Km.to ?_))
    | (intro _) | (refine Km.of ?_; dsimp only) | dsimp only | split)

theorem Dev.discarded_km {d0 d : Dev} {x1 : _} (h : Km d0 d) : Km d0 (Dev.discarded d x1) := by
  unfold Dev.discarded
  repeat' (first
    | (with_reducible (first
      | assumption | refine ite_km ?_ ?_ | refine Dev.each_km ?_ ?_ | refine Dev.retire_km ?_
      | refine Dev.lostSweep_km ?_ | refine Km.to ?_))
    | (intro _) | (refine Km.of ?_; dsimp only) | dsimp only | split)

theorem Dev.supersede_km {d0 d : Dev} {x1 : _} (h : Km d0 d) : Km d0 (Dev.supersede d x1) := by
  unfold Dev.supersede
  repeat' (first
    | (with_reducible (first
      | assumption | refine ite_km ?_ ?_ | refine Dev.each_km ?_ ?_ | refine Dev.up_km ?_
      | refine Dev.incSat_km ?_ | refine Km.to ?_))
    | (intro _) | (refine Km.of ?_; dsimp only) | dsimp only | split)

theorem Dev.lateArm_km {d0 d : Dev} {x1 : _} (h : Km d0 d) : Km d0 (Dev.lateArm d x1) := by
  unfold Dev.lateArm
  repeat' (first
    | (with_reducible (first
      | assumption | refine ite_km ?_ ?_ | refine Dev.each_km ?_ ?_ | refine Dev.supersede_km ?_
      | refine Dev.discarded_km ?_ | refine Dev.crustObsolete_km ?_ | refine Dev.crustHold_km ?_
      | refine Dev.armedSeq_km ?_ | refine Dev.moveGrant_km ?_ | refine Dev.unhold_km ?_
      | refine Dev.dropArmed_km ?_ | refine Km.to ?_))
    | (intro _) | (refine Km.of ?_; dsimp only) | dsimp only | split)

theorem Dev.surfStop_km {d0 d : Dev} (h : Km d0 d) : Km d0 (Dev.surfStop d) := by
  unfold Dev.surfStop
  repeat' (first
    | (with_reducible (first
      | assumption | refine ite_km ?_ ?_ | refine Dev.each_km ?_ ?_ | refine Dev.putSurf_km ?_
      | refine Dev.lostSweep_km ?_ | refine Km.to ?_))
    | (intro _) | (refine Km.of ?_; dsimp only) | dsimp only | split)

theorem Dev.genEnter_km {d0 d : Dev} {x1 x2 : _} (h : Km d0 d) : Km d0 (Dev.genEnter d x1 x2) := by
  unfold Dev.genEnter
  repeat' (first
    | (with_reducible (first
      | assumption | refine ite_km ?_ ?_ | refine Dev.putPst_km ?_ | refine Dev.sg_km ?_ | refine Km.to ?_))
    | (intro _) | (refine Km.of ?_; dsimp only) | dsimp only | split)

theorem Dev.draw_km {d0 d : Dev} (h : Km d0 d) : Km d0 (Dev.draw d).2 := by
  unfold Dev.draw
  repeat' (first
    | (with_reducible (first
      | assumption | refine ite_km ?_ ?_ | refine Km.to ?_))
    | (intro _) | (refine Km.of ?_; dsimp only) | dsimp only | split)

theorem Dev.logOpen_km {d0 d : Dev} (h : Km d0 d) : Km d0 (Dev.logOpen d) := by
  unfold Dev.logOpen
  repeat' (first
    | (with_reducible (first
      | assumption | refine ite_km ?_ ?_ | refine Dev.logE_km ?_ | refine Dev.draw_km ?_ | refine Km.to ?_))
    | (intro _) | (refine Km.of ?_; dsimp only) | dsimp only | split)

theorem Dev.holdover_km {d0 d : Dev} {x1 : _} (h : Km d0 d) : Km d0 (Dev.holdover d x1) := by
  unfold Dev.holdover
  repeat' (first
    | (with_reducible (first
      | assumption | refine ite_km ?_ ?_ | refine Dev.genEnter_km ?_ | refine Dev.up_km ?_
      | refine Dev.incSat_km ?_ | refine Dev.attn_km ?_ | refine Dev.logOpen_km ?_ | refine Km.to ?_))
    | (intro _) | (refine Km.of ?_; dsimp only) | dsimp only | split)

theorem Dev.genSync_km {d0 d : Dev} {x1 x2 : _} (h : Km d0 d) : Km d0 (Dev.genSync d x1 x2) := by
  unfold Dev.genSync
  repeat' (first
    | (with_reducible (first
      | assumption | refine ite_km ?_ ?_ | refine Dev.each_km ?_ ?_ | refine Dev.putPst_km ?_
      | refine Dev.holdover_km ?_ | refine Dev.genEnter_km ?_ | refine Km.to ?_))
    | (intro _) | (refine Km.of ?_; dsimp only) | dsimp only | split)

theorem Dev.clearOutRun_km {d0 d : Dev} {x1 : _} (h : Km d0 d) : Km d0 (Dev.clearOutRun d x1) := by
  unfold Dev.clearOutRun
  repeat' (first
    | (with_reducible (first
      | assumption | refine ite_km ?_ ?_ | refine Dev.putPst_km ?_ | refine Dev.dn_km ?_ | refine Km.to ?_))
    | (intro _) | (refine Km.of ?_; dsimp only) | dsimp only | split)

theorem Dev.setStep_km {d0 d : Dev} {x1 x2 : _} (h : Km d0 d) : Km d0 (Dev.setStep d x1 x2) := by
  unfold Dev.setStep
  repeat' (first
    | (with_reducible (first
      | assumption | refine ite_km ?_ ?_ | refine Dev.sg_km ?_ | refine Km.to ?_))
    | (intro _) | (refine Km.of ?_; dsimp only) | dsimp only | split)

theorem Dev.poolShow_km {d0 d : Dev} (h : Km d0 d) : Km d0 (Dev.poolShow d) := by
  unfold Dev.poolShow
  repeat' (first
    | (with_reducible (first
      | assumption | refine ite_km ?_ ?_ | refine Dev.each_km ?_ ?_ | refine Dev.sg_km ?_ | refine Km.to ?_))
    | (intro _) | (refine Km.of ?_; dsimp only) | dsimp only | split)

theorem Dev.restShow_km {d0 d : Dev} (h : Km d0 d) : Km d0 (Dev.restShow d) := by
  unfold Dev.restShow
  repeat' (first
    | (with_reducible (first
      | assumption | refine ite_km ?_ ?_ | refine Dev.sg_km ?_ | refine Km.to ?_))
    | (intro _) | (refine Km.of ?_; dsimp only) | dsimp only | split)

theorem Dev.overShow_km {d0 d : Dev} (h : Km d0 d) : Km d0 (Dev.overShow d) := by
  unfold Dev.overShow
  repeat' (first
    | (with_reducible (first
      | assumption | refine ite_km ?_ ?_ | refine Dev.each_km ?_ ?_ | refine Dev.sg_km ?_ | refine Km.to ?_))
    | (intro _) | (refine Km.of ?_; dsimp only) | dsimp only | split)

theorem Dev.armShow_km {d0 d : Dev} (h : Km d0 d) : Km d0 (Dev.armShow d) := by
  unfold Dev.armShow
  repeat' (first
    | (with_reducible (first
      | assumption | refine ite_km ?_ ?_ | refine Dev.each_km ?_ ?_ | refine Dev.sg_km ?_
      | refine Dev.overShow_km ?_
      | refine Dev.restShow_km ?_ | refine Km.to ?_))
    | (intro _) | (refine Km.of ?_; dsimp only) | dsimp only | split)

theorem Dev.freeFld_km {d0 d : Dev} {x1 : _} (h : Km d0 d) : Km d0 (Dev.freeFld d x1) := by
  unfold Dev.freeFld
  repeat' (first
    | (with_reducible (first
      | assumption | refine ite_km ?_ ?_ | refine Dev.draw_km ?_ | refine Dev.sg_km ?_ | refine Km.to ?_))
    | (intro _) | (refine Km.of ?_; dsimp only) | dsimp only | split)

theorem Dev.sq3Take_km {d0 d : Dev} (h : Km d0 d) : Km d0 (Dev.sq3Take d) := by
  unfold Dev.sq3Take
  repeat' (first
    | (with_reducible (first
      | assumption | refine ite_km ?_ ?_ | refine Dev.each_km ?_ ?_ | refine Dev.freeFld_km ?_
      | refine Dev.up_km ?_ | refine Km.to ?_))
    | (intro _) | (refine Km.of ?_; dsimp only) | dsimp only | split)

theorem Dev.sq3Show_km {d0 d : Dev} (h : Km d0 d) : Km d0 (Dev.sq3Show d) := by
  unfold Dev.sq3Show
  repeat' (first
    | (with_reducible (first
      | assumption | refine ite_km ?_ ?_ | refine Dev.dn_km ?_ | refine Dev.sq3Take_km ?_
      | refine Dev.onlyIf_km ?_ ?_ | refine Dev.up_km ?_ | refine Km.to ?_))
    | (intro _) | (refine Km.of ?_; dsimp only) | dsimp only | split)

theorem Dev.ownerStep_km {d0 d : Dev} {x1 x2 : _} (h : Km d0 d) : Km d0 (Dev.ownerStep d x1 x2) := by
  unfold Dev.ownerStep
  repeat' (first
    | (with_reducible (first
      | assumption | refine ite_km ?_ ?_ | refine Dev.sg_km ?_ | refine Dev.dn_km ?_ | refine Dev.sq3Show_km ?_
      | refine Km.to ?_))
    | (intro _) | (refine Km.of ?_; dsimp only) | dsimp only | split)

theorem Dev.overClear_km {d0 d : Dev} (h : Km d0 d) : Km d0 (Dev.overClear d) := by
  unfold Dev.overClear
  repeat' (first
    | (with_reducible (first
      | assumption | refine ite_km ?_ ?_ | refine Dev.dn_km ?_ | refine Km.to ?_))
    | (intro _) | (refine Km.of ?_; dsimp only) | dsimp only | split)

theorem Dev.headroom_km {d0 d : Dev} (h : Km d0 d) : Km d0 (Dev.headroom d) := by
  unfold Dev.headroom
  repeat' (first
    | (with_reducible (first
      | assumption | refine ite_km ?_ ?_ | refine Dev.sg_km ?_ | refine Km.to ?_))
    | (intro _) | (refine Km.of ?_; dsimp only) | dsimp only | split)

theorem Dev.needShowPipe_km {d0 d : Dev} {x1 : _} (h : Km d0 d) : Km d0 (Dev.needShowPipe d x1) := by
  unfold Dev.needShowPipe
  repeat' (first
    | (with_reducible (first
      | assumption | refine ite_km ?_ ?_ | refine Dev.sg_km ?_ | refine Km.to ?_))
    | (intro _) | (refine Km.of ?_; dsimp only) | dsimp only | split)

theorem Dev.stopTake_km {d0 d : Dev} {x1 : _} (h : Km d0 d) : Km d0 (Dev.stopTake d x1) := by
  unfold Dev.stopTake
  repeat' (first
    | (with_reducible (first
      | assumption | refine ite_km ?_ ?_ | refine foldFst_km ?_ ?_ | refine foldl_km ?_ ?_
      | refine Dev.each_km ?_ ?_ | refine Dev.needShowPipe_km ?_ | refine Dev.headroom_km ?_
      | refine Dev.overClear_km ?_ | refine Dev.ownerStep_km ?_ | refine Dev.armShow_km ?_
      | refine Dev.poolShow_km ?_ | refine Dev.dn_km ?_ | refine Dev.setStep_km ?_ | refine Dev.clearOutRun_km ?_
      | refine Dev.genSync_km ?_ | refine Dev.surfStop_km ?_ | refine Dev.lateArm_km ?_ | refine Dev.takeOne_km ?_
      | refine Km.to ?_))
    | (intro _) | (refine Km.of ?_; dsimp only) | dsimp only | split)

theorem Dev.freeBytes_km {d0 d : Dev} {x1 : _} (h : Km d0 d) : Km d0 (Dev.freeBytes d x1).2 := by
  unfold Dev.freeBytes
  repeat' (first
    | (with_reducible (first
      | assumption | refine ite_km ?_ ?_ | refine Km.to ?_))
    | (intro _) | (refine Km.of ?_; dsimp only) | dsimp only | split)

theorem Dev.freeLine_km {d0 d : Dev} {l : List (List Byte)} (h : Km d0 d) : Km d0 (Dev.freeLine l d).2 := by
  induction l generalizing d with
  | nil => exact h
  | cons bs t ih => exact ih (Dev.freeBytes_km h)

theorem Dev.dropWaiting_km {d0 d : Dev} {x0 : _} (h : Km d0 d) : Km d0 (Dev.dropWaiting x0 d) := by
  unfold Dev.dropWaiting
  repeat' (first
    | (with_reducible (first
      | assumption | refine ite_km ?_ ?_ | refine Dev.release_km ?_ | refine Dev.unhold_km ?_ | refine Km.to ?_))
    | (intro _) | (refine Km.of ?_; dsimp only) | dsimp only | split)

theorem Dev.damageAgain_km {d0 d : Dev} {x1 x2 : _} (h : Km d0 d) : Km d0 (Dev.damageAgain d x1 x2) := by
  unfold Dev.damageAgain
  repeat' (first
    | (with_reducible (first
      | assumption | refine ite_km ?_ ?_ | refine Dev.each_km ?_ ?_ | refine Dev.putTile_km ?_ | refine Km.to ?_))
    | (intro _) | (refine Km.of ?_; dsimp only) | dsimp only | split)

theorem Dev.repeated_km {d0 d : Dev} {x1 : _} (h : Km d0 d) : Km d0 (Dev.repeated d x1).2 := by
  unfold Dev.repeated
  repeat' (first
    | (with_reducible (first
      | assumption | refine ite_km ?_ ?_ | refine Dev.draw_km ?_ | refine Km.to ?_))
    | (intro _) | (refine Km.of ?_; dsimp only) | dsimp only | split)

theorem Dev.publish_km {d0 d : Dev} {x1 x2 : _} (h : Km d0 d) : Km d0 (Dev.publish d x1 x2) := by
  unfold Dev.publish
  repeat' (first
    | (with_reducible (first
      | assumption | refine ite_km ?_ ?_ | refine Km.to ?_))
    | (intro _) | (refine Km.of ?_; dsimp only) | dsimp only | split)

theorem Dev.rise_km {d0 d : Dev} {x1 x2 x3 x4 : _} (h : Km d0 d) : Km d0 (Dev.rise d x1 x2 x3 x4) := by
  unfold Dev.rise
  repeat' (first
    | (with_reducible (first
      | assumption | refine ite_km ?_ ?_ | refine Km.to ?_))
    | (intro _) | (refine Km.of ?_; dsimp only) | dsimp only | split)

theorem Dev.staleStep_km {d0 d : Dev} {x1 x2 x3 : _} (h : Km d0 d) : Km d0 (Dev.staleStep d x1 x2 x3) := by
  unfold Dev.staleStep
  repeat' (first
    | (with_reducible (first
      | assumption | refine ite_km ?_ ?_ | refine Dev.up_km ?_ | refine Dev.rise_km ?_ | refine Dev.dn_km ?_
      | refine Dev.incSat_km ?_ | refine Km.to ?_))
    | (intro _) | (refine Km.of ?_; dsimp only) | dsimp only | split)

theorem Dev.blackStep_km {d0 d : Dev} {x1 x2 x3 : _} (h : Km d0 d) : Km d0 (Dev.blackStep d x1 x2 x3) := by
  unfold Dev.blackStep
  repeat' (first
    | (with_reducible (first
      | assumption | refine ite_km ?_ ?_ | refine Dev.up_km ?_ | refine Dev.rise_km ?_ | refine Dev.dn_km ?_
      | refine Dev.incSat_km ?_ | refine Dev.sg_km ?_ | refine Km.to ?_))
    | (intro _) | (refine Km.of ?_; dsimp only) | dsimp only | split)

theorem Dev.publishLayer_km {d0 d : Dev} {x1 x2 : _} (h : Km d0 d) : Km d0 (Dev.publishLayer d x1 x2) := by
  unfold Dev.publishLayer
  repeat' (first
    | (with_reducible (first
      | assumption | refine ite_km ?_ ?_ | refine Dev.blackStep_km ?_ | refine Dev.staleStep_km ?_
      | refine Dev.publish_km ?_ | refine Dev.draw_km ?_ | refine Dev.repeated_km ?_ | refine Km.to ?_))
    | (intro _) | (refine Km.of ?_; dsimp only) | dsimp only | split)

theorem Dev.frameValue_km {d0 d : Dev} {x1 : _} (h : Km d0 d) : Km d0 (Dev.frameValue d x1).2 := by
  unfold Dev.frameValue
  repeat' (first
    | (with_reducible (first
      | assumption | refine ite_km ?_ ?_ | refine Dev.draw_km ?_ | refine Dev.repeated_km ?_ | refine Km.to ?_))
    | (intro _) | (refine Km.of ?_; dsimp only) | dsimp only | split)

theorem Dev.outStep_km {d0 d : Dev} {x1 x2 : _} (h : Km d0 d) : Km d0 (Dev.outStep d x1 x2) := by
  unfold Dev.outStep
  repeat' (first
    | (with_reducible (first
      | assumption | refine ite_km ?_ ?_ | refine Dev.up_km ?_ | refine Dev.rise_km ?_ | refine Dev.dn_km ?_
      | refine Dev.putPst_km ?_ | refine Dev.incSat_km ?_ | refine Km.to ?_))
    | (intro _) | (refine Km.of ?_; dsimp only) | dsimp only | split)

theorem Dev.publishFrame_km {d0 d : Dev} {x1 : _} (h : Km d0 d) : Km d0 (Dev.publishFrame d x1) := by
  unfold Dev.publishFrame
  repeat' (first
    | (with_reducible (first
      | assumption | refine ite_km ?_ ?_ | refine Dev.each_km ?_ ?_ | refine Dev.putPst_km ?_
      | refine Dev.incSat_km ?_ | refine Dev.publish_km ?_ | refine Dev.outStep_km ?_
      | refine Dev.frameValue_km ?_ | refine Dev.publishLayer_km ?_ | refine Km.to ?_))
    | (intro _) | (refine Km.of ?_; dsimp only) | dsimp only | split)

theorem Dev.fillWord_km {d0 d : Dev} {x1 x2 : _} (h : Km d0 d) : Km d0 (Dev.fillWord d x1 x2) := by
  unfold Dev.fillWord
  repeat' (first
    | (with_reducible (first
      | assumption | refine ite_km ?_ ?_ | refine Dev.sgWord_km ?_ | refine Km.to ?_))
    | (intro _) | (refine Km.of ?_; dsimp only) | dsimp only | split)

theorem Dev.underMode_km {d0 d : Dev} {x1 : _} (h : Km d0 d) : Km d0 (Dev.underMode d x1).2 := by
  unfold Dev.underMode
  repeat' (first
    | (with_reducible (first
      | assumption | refine ite_km ?_ ?_ | refine Dev.up_km ?_ | refine Km.to ?_))
    | (intro _) | (refine Km.of ?_; dsimp only) | dsimp only | split)

theorem Dev.readSink_km {d0 d : Dev} {x1 x2 : _} (h : Km d0 d) : Km d0 (Dev.readSink d x1 x2) := by
  unfold Dev.readSink
  repeat' (first
    | (with_reducible (first
      | assumption | refine ite_km ?_ ?_ | refine Dev.each_km ?_ ?_ | refine Dev.underMode_km ?_
      | refine Dev.fillWord_km ?_ | refine Km.to ?_))
    | (intro _) | (refine Km.of ?_; dsimp only) | dsimp only | split)

theorem Dev.hdcpAgain_km {d0 d : Dev} {x1 : _} (h : Km d0 d) : Km d0 (Dev.hdcpAgain d x1) := by
  unfold Dev.hdcpAgain
  repeat' (first
    | (with_reducible (first
      | assumption | refine ite_km ?_ ?_ | refine Dev.hdcpTo_km ?_ | refine Km.to ?_))
    | (intro _) | (refine Km.of ?_; dsimp only) | dsimp only | split)

theorem Dev.train_km {d0 d : Dev} {x1 : _} (h : Km d0 d) : Km d0 (Dev.train d x1) := by
  unfold Dev.train
  repeat' (first
    | (with_reducible (first
      | assumption | refine ite_km ?_ ?_ | refine Dev.hdcpAgain_km ?_ | refine Dev.dn_km ?_ | refine Km.to ?_))
    | (intro _) | (refine Km.of ?_; dsimp only) | dsimp only | split)

theorem hpdPlug_km {d0 d : Dev} {x0 x1 : _} (h : Km d0 d) : Km d0 (hpdPlug x0 x1 d) := by
  unfold hpdPlug
  repeat' (first
    | (with_reducible (first
      | assumption | refine ite_km ?_ ?_ | refine Dev.train_km ?_ | refine Dev.up_km ?_ | refine Dev.attn_km ?_
      | refine Dev.readSink_km ?_ | refine Km.to ?_))
    | (intro _) | (refine Km.of ?_; dsimp only) | dsimp only | split)

theorem Dev.guardClear_km {d0 d : Dev} {x1 : _} (h : Km d0 d) : Km d0 (Dev.guardClear d x1) := by
  unfold Dev.guardClear
  repeat' (first
    | (with_reducible (first
      | assumption | refine ite_km ?_ ?_ | refine Dev.each_km ?_ ?_ | refine Dev.guardOut_km ?_ | refine Km.to ?_))
    | (intro _) | (refine Km.of ?_; dsimp only) | dsimp only | split)

theorem Dev.lutTest_km {d0 d : Dev} {x1 : _} (h : Km d0 d) : Km d0 (Dev.lutTest d x1) := by
  unfold Dev.lutTest
  repeat' (first
    | (with_reducible (first
      | assumption | refine ite_km ?_ ?_ | refine Dev.up_km ?_ | refine Dev.putFrame_km ?_ | refine Km.to ?_))
    | (intro _) | (refine Km.of ?_; dsimp only) | dsimp only | split)

theorem Dev.openFrame_km {d0 d : Dev} {x1 x2 x3 : _} (h : Km d0 d) : Km d0 (Dev.openFrame d x1 x2 x3) := by
  unfold Dev.openFrame
  repeat' (first
    | (with_reducible (first
      | assumption | refine ite_km ?_ ?_ | refine foldFst_km ?_ ?_ | refine foldl_km ?_ ?_
      | refine Dev.each_km ?_ ?_ | refine Dev.guardTest_km ?_ | refine Dev.curveTest_km ?_
      | refine Dev.lutTest_km ?_ | refine Dev.putFrame_km ?_ | refine Dev.guardClear_km ?_ | refine Km.to ?_))
    | (intro _) | (refine Km.of ?_; dsimp only) | dsimp only | split)

theorem Dev.panelTiming_km {d0 d : Dev} (h : Km d0 d) : Km d0 (Dev.panelTiming d) := by
  unfold Dev.panelTiming
  repeat' (first
    | (with_reducible (first
      | assumption | refine ite_km ?_ ?_ | refine Dev.each_km ?_ ?_ | refine Dev.sg_km ?_ | refine Km.to ?_))
    | (intro _) | (refine Km.of ?_; dsimp only) | dsimp only | split)

theorem Dev.statusPicture_km {d0 d : Dev} (h : Km d0 d) : Km d0 (Dev.statusPicture d) := by
  unfold Dev.statusPicture
  repeat' (first
    | (with_reducible (first
      | assumption | refine ite_km ?_ ?_ | refine foldFst_km ?_ ?_ | refine foldl_km ?_ ?_ | refine Dev.sg_km ?_
      | refine Dev.panelTiming_km ?_ | refine Dev.openFrame_km ?_ | refine Dev.up_km ?_ | refine Km.to ?_))
    | (intro _) | (refine Km.of ?_; dsimp only) | dsimp only | split)

theorem Dev.plugDone_km {d0 d : Dev} {x1 x2 : _} (h : Km d0 d) : Km d0 (Dev.plugDone d x1 x2) := by
  unfold Dev.plugDone
  repeat' (first
    | (with_reducible (first
      | assumption | refine ite_km ?_ ?_ | refine Dev.statusPicture_km ?_ | refine Dev.onlyIf_km ?_ ?_
      | refine hpdPlug_km ?_ | refine Km.to ?_))
    | (intro _) | (refine Km.of ?_; dsimp only) | dsimp only | split)

theorem Dev.rasterStart_km {d0 d : Dev} {x1 : _} (h : Km d0 d) : Km d0 (Dev.rasterStart d x1) := by
  unfold Dev.rasterStart
  repeat' (first
    | (with_reducible (first
      | assumption | refine ite_km ?_ ?_ | refine Dev.sg_km ?_ | refine Dev.genEnter_km ?_
      | refine Dev.putPst_km ?_ | refine Dev.setStep_km ?_ | refine Dev.up_km ?_ | refine Dev.openFrame_km ?_
      | refine Km.to ?_))
    | (intro _) | (refine Km.of ?_; dsimp only) | dsimp only | split)

theorem Dev.stepDone_km {d0 d : Dev} {x1 : _} (h : Km d0 d) : Km d0 (Dev.stepDone d x1) := by
  unfold Dev.stepDone
  repeat' (first
    | (with_reducible (first
      | assumption | refine ite_km ?_ ?_ | refine Dev.rasterStart_km ?_ | refine Km.to ?_))
    | (intro _) | (refine Km.of ?_; dsimp only) | dsimp only | split)

theorem Dev.trainDone_km {d0 d : Dev} {x1 : _} (h : Km d0 d) : Km d0 (Dev.trainDone d x1) := by
  unfold Dev.trainDone
  repeat' (first
    | (with_reducible (first
      | assumption | refine ite_km ?_ ?_ | refine Km.to ?_))
    | (intro _) | (refine Km.of ?_; dsimp only) | dsimp only | split)

theorem hpdUnplug_km {d0 d : Dev} {x0 : _} (h : Km d0 d) : Km d0 (hpdUnplug x0 d) := by
  unfold hpdUnplug
  repeat' (first
    | (with_reducible (first
      | assumption | refine ite_km ?_ ?_ | refine Dev.hdcpTo_km ?_ | refine Dev.trainDone_km ?_
      | refine Dev.stepDone_km ?_ | refine Dev.dn_km ?_ | refine Dev.up_km ?_ | refine Dev.attn_km ?_
      | refine Km.to ?_))
    | (intro _) | (refine Km.of ?_; dsimp only) | dsimp only | split)

theorem irqHpd_km {d0 d : Dev} {x0 x1 x2 : _} (h : Km d0 d) : Km d0 (irqHpd x0 x1 x2 d) := by
  unfold irqHpd
  repeat' (first
    | (with_reducible (first
      | assumption | refine ite_km ?_ ?_ | refine Dev.hdcpAgain_km ?_ | refine Dev.incSat_km ?_
      | refine Dev.dn_km ?_ | refine Dev.train_km ?_ | refine Dev.up_km ?_ | refine Km.to ?_))
    | (intro _) | (refine Km.of ?_; dsimp only) | dsimp only | split)

theorem hpdAnswer_km {d0 d : Dev} {x0 : _} (h : Km d0 d) : Km d0 (hpdAnswer x0 d) := by
  unfold hpdAnswer
  repeat' (first
    | (with_reducible (first
      | assumption | refine ite_km ?_ ?_ | refine irqHpd_km ?_ | refine hpdUnplug_km ?_
      | refine Dev.plugDone_km ?_ | refine Km.to ?_))
    | (intro _) | (refine Km.of ?_; dsimp only) | dsimp only | split)

theorem Dev.hpdFlush_km {d0 d : Dev} (h : Km d0 d) : Km d0 (Dev.hpdFlush d) := by
  unfold Dev.hpdFlush
  repeat' (first
    | (with_reducible (first
      | assumption | refine ite_km ?_ ?_ | refine Dev.each_km ?_ ?_ | refine hpdAnswer_km ?_ | refine Km.to ?_))
    | (intro _) | (refine Km.of ?_; dsimp only) | dsimp only | split)

theorem Dev.tickCarry_km {d0 d : Dev} (h : Km d0 d) : Km d0 (Dev.tickCarry d) := by
  unfold Dev.tickCarry
  repeat' (first
    | (with_reducible (first
      | assumption | refine ite_km ?_ ?_ | refine Dev.sg_km ?_ | refine Km.to ?_))
    | (intro _) | (refine Km.of ?_; dsimp only) | dsimp only | split)

theorem Dev.sliceStart_km {d0 d : Dev} {x1 x2 : _} (h : Km d0 d) : Km d0 (Dev.sliceStart d x1 x2) := by
  unfold Dev.sliceStart
  repeat' (first
    | (with_reducible (first
      | assumption | refine ite_km ?_ ?_ | refine Dev.up_km ?_ | refine Dev.sg_km ?_ | refine Km.to ?_))
    | (intro _) | (refine Km.of ?_; dsimp only) | dsimp only | split)

theorem Dev.testNext_km {d0 d : Dev} (h : Km d0 d) : Km d0 (Dev.testNext d).1 := by
  unfold Dev.testNext
  repeat' (first
    | (with_reducible (first
      | assumption | refine ite_km ?_ ?_ | refine Dev.sliceStart_km ?_ | refine Km.to ?_))
    | (intro _) | (refine Km.of ?_; dsimp only) | dsimp only | split)

theorem Dev.mark_km {d0 d : Dev} {x1 x2 x3 x4 : _} (h : Km d0 d) : Km d0 (Dev.mark d x1 x2 x3 x4) := by
  unfold Dev.mark
  repeat' (first
    | (with_reducible (first
      | assumption | refine ite_km ?_ ?_ | refine foldFst_km ?_ ?_ | refine foldl_km ?_ ?_
      | refine Dev.putFrame_km ?_ | refine Km.to ?_))
    | (intro _) | (refine Km.of ?_; dsimp only) | dsimp only | split)

theorem Dev.tileInvalid_km {d0 d : Dev} {x1 x2 x3 x4 x5 : _} (h : Km d0 d) :
    Km d0 (Dev.tileInvalid d x1 x2 x3 x4 x5) := by
  unfold Dev.tileInvalid
  repeat' (first
    | (with_reducible (first
      | assumption | refine ite_km ?_ ?_ | refine Dev.mark_km ?_ | refine Dev.putTile_km ?_
      | refine Dev.putCrust_km ?_ | refine Dev.onlyIf_km ?_ ?_ | refine Dev.up_km ?_ | refine Dev.logOpen_km ?_
      | refine Km.to ?_))
    | (intro _) | (refine Km.of ?_; dsimp only) | dsimp only | split)

theorem crustDataParity_km {d0 d : Dev} {x0 x1 x2 : _} (h : Km d0 d) : Km d0 (crustDataParity x0 x1 x2 d) := by
  unfold crustDataParity
  repeat' (first
    | (with_reducible (first
      | assumption | refine ite_km ?_ ?_ | refine Dev.tileInvalid_km ?_ | refine Km.to ?_))
    | (intro _) | (refine Km.of ?_; dsimp only) | dsimp only | split)

theorem Dev.ramParity_km {d0 d : Dev} {x1 x2 : _} (h : Km d0 d) : Km d0 (Dev.ramParity d x1 x2) := by
  unfold Dev.ramParity
  repeat' (first
    | (with_reducible (first
      | assumption | refine ite_km ?_ ?_ | refine Dev.sg_km ?_ | refine Dev.up_km ?_ | refine Dev.logOpen_km ?_
      | refine Km.to ?_))
    | (intro _) | (refine Km.of ?_; dsimp only) | dsimp only | split)

theorem debugChallengeExpiry_km {d0 d : Dev} (h : Km d0 d) : Km d0 (debugChallengeExpiry d) := by
  unfold debugChallengeExpiry
  repeat' (first
    | (with_reducible (first
      | assumption | refine ite_km ?_ ?_ | refine Km.to ?_))
    | (intro _) | (refine Km.of ?_; dsimp only) | dsimp only | split)

theorem Dev.enterActive_km {d0 d : Dev} {x1 : _} (h : Km d0 d) : Km d0 (Dev.enterActive d x1).1 := by
  unfold Dev.enterActive
  repeat' (first
    | (with_reducible (first
      | assumption | refine ite_km ?_ ?_ | refine Dev.each_km ?_ ?_ | refine Dev.armedSeq_km ?_
      | refine Dev.activate_km ?_ | refine Dev.unhold_km ?_ | refine Dev.dropArmed_km ?_ | refine Km.to ?_))
    | (intro _) | (refine Km.of ?_; dsimp only) | dsimp only | split)

theorem Dev.enter_km {d0 d : Dev} {x1 x2 : _} (h : Km d0 d) : Km d0 (Dev.enter d x1 x2).1 := by
  unfold Dev.enter
  repeat' (first
    | (with_reducible (first
      | assumption | refine ite_km ?_ ?_ | refine Dev.each_km ?_ ?_ | refine Dev.armedSeq_km ?_
      | refine Dev.unhold_km ?_ | refine Dev.dropArmed_km ?_ | refine Km.to ?_))
    | (intro _) | (refine Km.of ?_; dsimp only) | dsimp only | split)

theorem Dev.lateFirst_km {d0 d : Dev} {x1 : _} (h : Km d0 d) : Km d0 (Dev.lateFirst d x1).2 := by
  unfold Dev.lateFirst
  repeat' (first
    | (with_reducible (first
      | assumption | refine ite_km ?_ ?_ | refine Dev.draw_km ?_ | refine Km.to ?_))
    | (intro _) | (refine Km.of ?_; dsimp only) | dsimp only | split)

theorem Dev.enterAll_km {d0 : Dev} {st : Strobe} {v : View} {l : List Snap} {r : Dev × List Snap} (h : Km d0 r.1) :
    Km d0 (Dev.enterAll st v l r).1 := by
  induction l generalizing r with
  | nil => exact h
  | cons s t ih =>
    obtain ⟨d, old⟩ := r
    unfold Dev.enterAll
    dsimp only
    apply ih
    dsimp only
    split
    · exact Dev.enterActive_km (Dev.lateFirst_km h)
    · exact Dev.enter_km (Dev.lateFirst_km h)

theorem Dev.grant_km {d0 d : Dev} {x1 x2 x3 : _} (h : Km d0 d) : Km d0 (Dev.grant d x1 x2 x3) := by
  unfold Dev.grant
  repeat' (first
    | (with_reducible (first
      | assumption | refine ite_km ?_ ?_ | refine foldFst_km ?_ ?_ | refine foldl_km ?_ ?_ | refine Km.to ?_))
    | (intro _) | (refine Km.of ?_; dsimp only) | dsimp only | split)

theorem Dev.releaseFor_km {d0 d : Dev} {x1 x2 : _} (h : Km d0 d) : Km d0 (Dev.releaseFor d x1 x2) := by
  unfold Dev.releaseFor
  repeat' (first
    | (with_reducible (first
      | assumption | refine ite_km ?_ ?_ | refine Dev.release_km ?_ | refine Km.to ?_))
    | (intro _) | (refine Km.of ?_; dsimp only) | dsimp only | split)

theorem Dev.regrant_km {d0 d : Dev} {x1 : _} (h : Km d0 d) : Km d0 (Dev.regrant d x1) := by
  unfold Dev.regrant
  repeat' (first
    | (with_reducible (first
      | assumption | refine ite_km ?_ ?_ | refine Dev.each_km ?_ ?_ | refine Dev.releaseFor_km ?_
      | refine Dev.grant_km ?_ | refine Km.to ?_))
    | (intro _) | (refine Km.of ?_; dsimp only) | dsimp only | split)

theorem Dev.timingActive_km {d0 d : Dev} {x1 : _} (h : Km d0 d) : Km d0 (Dev.timingActive d x1) := by
  unfold Dev.timingActive
  repeat' (first
    | (with_reducible (first
      | assumption | refine ite_km ?_ ?_ | refine Dev.each_km ?_ ?_ | refine Dev.largeShow_km ?_
      | refine Dev.activeSeq_km ?_ | refine Km.to ?_))
    | (intro _) | (refine Km.of ?_; dsimp only) | dsimp only | split)

theorem Dev.startPipe_km {d0 d : Dev} {x1 : _} (h : Km d0 d) : Km d0 (Dev.startPipe d x1) := by
  unfold Dev.startPipe
  repeat' (first
    | (with_reducible (first
      | assumption | refine ite_km ?_ ?_ | refine Dev.up_km ?_ | refine Dev.timingActive_km ?_
      | refine Dev.setStep_km ?_ | refine Dev.putPst_km ?_ | refine Km.to ?_))
    | (intro _) | (refine Km.of ?_; dsimp only) | dsimp only | split)

theorem Dev.accept_km {d0 d : Dev} {x1 x2 : _} (h : Km d0 d) : Km d0 (Dev.accept d x1 x2) := by
  unfold Dev.accept
  repeat' (first
    | (with_reducible (first
      | assumption | refine ite_km ?_ ?_ | refine Dev.each_km ?_ ?_ | refine Dev.armShow_km ?_
      | refine Dev.poolShow_km ?_ | refine Dev.needShowPipe_km ?_ | refine Dev.headroom_km ?_
      | refine Dev.lostSweep_km ?_ | refine Dev.change_km ?_ | refine Dev.discarded_km ?_
      | refine Dev.crustObsolete_km ?_ | refine Dev.crustHold_km ?_ | refine Dev.supersede_km ?_
      | refine Dev.startPipe_km ?_ | refine Dev.regrant_km ?_ | refine Dev.enterAll_km ?_ | refine Km.to ?_))
    | (intro _) | (refine Km.of ?_; dsimp only) | dsimp only | split)

theorem Dev.straps_km {d0 d : Dev} {x1 : _} (h : Km d0 d) : Km d0 (Dev.straps d x1) := by
  unfold Dev.straps
  repeat' (first
    | (with_reducible (first
      | assumption | refine ite_km ?_ ?_ | refine Dev.sg_km ?_ | refine Km.to ?_))
    | (intro _) | (refine Km.of ?_; dsimp only) | dsimp only | split)

end Sys2Proof.Machine
end

