-- ==== Sys2Proof/Laws/DramB.lean ====
section
/-! SUPPORT.  Operations that leave DRAM as it was, part 2 of 4: one lemma for each operation that returns a device. -/

set_option linter.unusedTactic false
set_option linter.unreachableTactic false

namespace Sys2Proof.Machine

theorem Dev.strapSeen_km {d0 d : Dev} {x1 : _} (h : Km d0 d) : Km d0 (Dev.strapSeen d x1) := by
  unfold Dev.strapSeen
  repeat' (first
    | (with_reducible (first
      | assumption | refine ite_km ?_ ?_ | refine Dev.up_km ?_ | refine Dev.onlyIf_km ?_ ?_ | refine Km.to ?_))
    | (intro _) | (refine Km.of ?_; dsimp only) | dsimp only | split)

theorem Dev.edpStrap_km {d0 d : Dev} (h : Km d0 d) : Km d0 (Dev.edpStrap d) := by
  unfold Dev.edpStrap
  repeat' (first
    | (with_reducible (first
      | assumption | refine ite_km ?_ ?_ | refine Km.to ?_))
    | (intro _) | (refine Km.of ?_; dsimp only) | dsimp only | split)

theorem Dev.cfgApply_km {d0 d : Dev} (h : Km d0 d) : Km d0 (Dev.cfgApply d) := by
  unfold Dev.cfgApply
  repeat' (first
    | (with_reducible (first
      | assumption | refine ite_km ?_ ?_ | refine Dev.sg_km ?_ | refine Dev.logE_km ?_ | refine Dev.attn_km ?_
      | refine Dev.onlyIf_km ?_ ?_ | refine Km.to ?_))
    | (intro _) | (refine Km.of ?_; dsimp only) | dsimp only | split)

theorem Dev.logSev_km {d0 d : Dev} {x1 : _} (h : Km d0 d) : Km d0 (Dev.logSev d x1) := by
  unfold Dev.logSev
  repeat' (first
    | (with_reducible (first
      | assumption | refine ite_km ?_ ?_ | refine Dev.logE_km ?_ | refine Dev.draw_km ?_ | refine Km.to ?_))
    | (intro _) | (refine Km.of ?_; dsimp only) | dsimp only | split)

theorem Dev.fenceOff_km {d0 d : Dev} (h : Km d0 d) : Km d0 (Dev.fenceOff d) := by
  unfold Dev.fenceOff
  repeat' (first
    | (with_reducible (first
      | assumption | refine ite_km ?_ ?_ | refine Dev.each_km ?_ ?_ | refine Dev.logSev_km ?_
      | refine Dev.attn_km ?_ | refine Dev.onlyIf_km ?_ ?_ | refine Dev.sg_km ?_ | refine Km.to ?_))
    | (intro _) | (refine Km.of ?_; dsimp only) | dsimp only | split)

theorem Dev.healthApply_km {d0 d : Dev} (h : Km d0 d) : Km d0 (Dev.healthApply d) := by
  unfold Dev.healthApply
  repeat' (first
    | (with_reducible (first
      | assumption | refine ite_km ?_ ?_ | refine Dev.sg_km ?_ | refine Km.to ?_))
    | (intro _) | (refine Km.of ?_; dsimp only) | dsimp only | split)

theorem Dev.judge_km {d0 d : Dev} (h : Km d0 d) : Km d0 (Dev.judge d) := by
  unfold Dev.judge
  repeat' (first
    | (with_reducible (first
      | assumption | refine ite_km ?_ ?_ | refine Dev.incSat_km ?_ | refine Km.to ?_))
    | (intro _) | (refine Km.of ?_; dsimp only) | dsimp only | split)

theorem Dev.slotTo_km {d0 d : Dev} {x1 x2 : _} (h : Km d0 d) : Km d0 (Dev.slotTo d x1 x2) := by
  unfold Dev.slotTo
  repeat' (first
    | (with_reducible (first
      | assumption | refine ite_km ?_ ?_ | refine Km.to ?_))
    | (intro _) | (refine Km.of ?_; dsimp only) | dsimp only | split)

theorem Dev.slotChoose_km {d0 d : Dev} {pass : BitVec 2} {l : List Nat} (h : Km d0 d) :
    Km d0 (Dev.slotChoose pass l d).1 := by
  induction l generalizing d with
  | nil => exact h
  | cons s t ih =>
    unfold Dev.slotChoose
    split
    · exact h
    · exact ih (Dev.attn_km (Dev.logE_km (Dev.slotTo_km h)))

theorem Dev.keyStep_km {d0 d : Dev} {x1 : _} (h : Km d0 d) : Km d0 (Dev.keyStep d x1) := by
  unfold Dev.keyStep
  repeat' (first
    | (with_reducible (first
      | assumption | refine ite_km ?_ ?_ | refine Dev.up_km ?_ | refine Km.to ?_))
    | (intro _) | (refine Km.of ?_; dsimp only) | dsimp only | split)

theorem Dev.startBoot_km {d0 d : Dev} {x1 : _} (h : Km d0 d) : Km d0 (Dev.startBoot d x1).1 := by
  unfold Dev.startBoot
  repeat' (first
    | (with_reducible (first
      | assumption | refine ite_km ?_ ?_ | refine Dev.sg_km ?_ | refine Dev.keyStep_km ?_
      | refine Dev.slotChoose_km ?_ | refine Dev.up_km ?_ | refine Dev.judge_km ?_ | refine Dev.healthApply_km ?_
      | refine Dev.fenceOff_km ?_ | refine Dev.cfgApply_km ?_ | refine Km.to ?_))
    | (intro _) | (refine Km.of ?_; dsimp only) | dsimp only | split)

theorem Dev.healthWrite_km {d0 d : Dev} {x0 : _} (h : Km d0 d) : Km d0 (Dev.healthWrite x0 d) := by
  unfold Dev.healthWrite
  repeat' (first
    | (with_reducible (first
      | assumption | refine ite_km ?_ ?_ | refine Dev.mramStore_km ?_ | refine Km.to ?_))
    | (intro _) | (refine Km.of ?_; dsimp only) | dsimp only | split)

theorem Dev.healthUpdate_km {d0 d : Dev} {x1 : _} (h : Km d0 d) : Km d0 (Dev.healthUpdate d x1) := by
  unfold Dev.healthUpdate
  repeat' (first
    | (with_reducible (first
      | assumption | refine ite_km ?_ ?_ | refine Dev.healthWrite_km ?_ | refine Km.to ?_))
    | (intro _) | (refine Km.of ?_; dsimp only) | dsimp only | split)

theorem Dev.startTest_km {d0 d : Dev} {x1 : _} (h : Km d0 d) : Km d0 (Dev.startTest d x1) := by
  unfold Dev.startTest
  repeat' (first
    | (with_reducible (first
      | assumption | refine ite_km ?_ ?_ | refine Dev.attn_km ?_ | refine Dev.healthUpdate_km ?_
      | refine Dev.onlyIf_km ?_ ?_ | refine Km.to ?_))
    | (intro _) | (refine Km.of ?_; dsimp only) | dsimp only | split)

theorem Dev.starterReason_km {d0 d : Dev} {x1 : _} (h : Km d0 d) : Km d0 (Dev.starterReason d x1) := by
  unfold Dev.starterReason
  repeat' (first
    | (with_reducible (first
      | assumption | refine ite_km ?_ ?_ | refine Dev.sg_km ?_ | refine Km.to ?_))
    | (intro _) | (refine Km.of ?_; dsimp only) | dsimp only | split)

theorem Dev.starterEnter_km {d0 d : Dev} {x1 x2 : _} (h : Km d0 d) : Km d0 (Dev.starterEnter d x1 x2) := by
  unfold Dev.starterEnter
  repeat' (first
    | (with_reducible (first
      | assumption | refine ite_km ?_ ?_ | refine Dev.statusPicture_km ?_ | refine Dev.poolShow_km ?_
      | refine Dev.sg_km ?_ | refine Dev.starterReason_km ?_ | refine Dev.dn_km ?_ | refine Dev.attn_km ?_
      | refine Km.to ?_))
    | (intro _) | (refine Km.of ?_; dsimp only) | dsimp only | split)

theorem Dev.coefLoad_km {d0 d : Dev} (h : Km d0 d) : Km d0 (Dev.coefLoad d) := by
  unfold Dev.coefLoad
  repeat' (first
    | (with_reducible (first
      | assumption | refine ite_km ?_ ?_ | refine Km.to ?_))
    | (intro _) | (refine Km.of ?_; dsimp only) | dsimp only | split)

theorem Dev.minToRun_km {d0 d : Dev} (h : Km d0 d) : Km d0 (Dev.minToRun d) := by
  unfold Dev.minToRun
  repeat' (first
    | (with_reducible (first
      | assumption | refine ite_km ?_ ?_ | refine Dev.sg_km ?_ | refine Km.to ?_))
    | (intro _) | (refine Km.of ?_; dsimp only) | dsimp only | split)

theorem Dev.marginShow_km {d0 d : Dev} (h : Km d0 d) : Km d0 (Dev.marginShow d) := by
  unfold Dev.marginShow
  repeat' (first
    | (with_reducible (first
      | assumption | refine ite_km ?_ ?_ | refine Dev.each_km ?_ ?_ | refine Dev.sg_km ?_ | refine Km.to ?_))
    | (intro _) | (refine Km.of ?_; dsimp only) | dsimp only | split)

theorem Dev.targets_km {d0 d : Dev} (h : Km d0 d) : Km d0 (Dev.targets d) := by
  unfold Dev.targets
  repeat' (first
    | (with_reducible (first
      | assumption | refine ite_km ?_ ?_ | refine Dev.each_km ?_ ?_ | refine Dev.sg_km ?_ | refine Km.to ?_))
    | (intro _) | (refine Km.of ?_; dsimp only) | dsimp only | split)

theorem Dev.setTrim_km {d0 d : Dev} {x1 x2 : _} (h : Km d0 d) : Km d0 (Dev.setTrim d x1 x2) := by
  unfold Dev.setTrim
  repeat' (first
    | (with_reducible (first
      | assumption | refine ite_km ?_ ?_ | refine Dev.sg_km ?_ | refine Dev.targets_km ?_ | refine Km.to ?_))
    | (intro _) | (refine Km.of ?_; dsimp only) | dsimp only | split)

theorem Dev.capShow_km {d0 d : Dev} (h : Km d0 d) : Km d0 (Dev.capShow d) := by
  unfold Dev.capShow
  repeat' (first
    | (with_reducible (first
      | assumption | refine ite_km ?_ ?_ | refine Dev.each_km ?_ ?_ | refine Dev.overShow_km ?_ | refine Dev.sg_km ?_ | refine Km.to ?_))
    | (intro _) | (refine Km.of ?_; dsimp only) | dsimp only | split)

theorem Dev.planApply_km {d0 d : Dev} {x0 : _} (h : Km d0 d) : Km d0 (Dev.planApply x0 d) := by
  unfold Dev.planApply
  repeat' (first
    | (with_reducible (first
      | assumption | refine ite_km ?_ ?_ | refine Dev.sg_km ?_ | refine Dev.capShow_km ?_
      | refine Dev.setTrim_km ?_ | refine Km.to ?_))
    | (intro _) | (refine Km.of ?_; dsimp only) | dsimp only | split)

theorem Dev.planLog_km {d0 d : Dev} {x0 : _} (h : Km d0 d) : Km d0 (Dev.planLog x0 d) := by
  unfold Dev.planLog
  repeat' (first
    | (with_reducible (first
      | assumption | refine ite_km ?_ ?_ | refine Dev.planApply_km ?_ | refine Dev.logE_km ?_ | refine Km.to ?_))
    | (intro _) | (refine Km.of ?_; dsimp only) | dsimp only | split)

theorem Dev.causeSet_km {d0 d : Dev} {x1 : _} (h : Km d0 d) : Km d0 (Dev.causeSet d x1) := by
  unfold Dev.causeSet
  repeat' (first
    | (with_reducible (first
      | assumption | refine ite_km ?_ ?_ | refine Dev.logE_km ?_ | refine Dev.capShow_km ?_
      | refine Dev.orBits_km ?_ | refine Km.to ?_))
    | (intro _) | (refine Km.of ?_; dsimp only) | dsimp only | split)

theorem Dev.clrBits_km {d0 d : Dev} {x1 x2 : _} (h : Km d0 d) : Km d0 (Dev.clrBits d x1 x2) := by
  unfold Dev.clrBits
  repeat' (first
    | (with_reducible (first
      | assumption | refine ite_km ?_ ?_ | refine Dev.sg_km ?_ | refine Km.to ?_))
    | (intro _) | (refine Km.of ?_; dsimp only) | dsimp only | split)

theorem Dev.causeClear_km {d0 d : Dev} {x1 : _} (h : Km d0 d) : Km d0 (Dev.causeClear d x1) := by
  unfold Dev.causeClear
  repeat' (first
    | (with_reducible (first
      | assumption | refine ite_km ?_ ?_ | refine Dev.clrBits_km ?_ | refine Dev.capShow_km ?_ | refine Km.to ?_))
    | (intro _) | (refine Km.of ?_; dsimp only) | dsimp only | split)

theorem Dev.planTake_km {d0 d : Dev} {x1 : _} (h : Km d0 d) : Km d0 (Dev.planTake d x1) := by
  unfold Dev.planTake
  repeat' (first
    | (with_reducible (first
      | assumption | refine ite_km ?_ ?_ | refine Dev.each_km ?_ ?_ | refine Dev.causeClear_km ?_
      | refine Dev.causeSet_km ?_ | refine Dev.onlyIf_km ?_ ?_ | refine Dev.incSat_km ?_ | refine Dev.attn_km ?_
      | refine Dev.healthUpdate_km ?_ | refine Dev.planLog_km ?_ | refine Dev.marginShow_km ?_ | refine Km.to ?_))
    | (intro _) | (refine Km.of ?_; dsimp only) | dsimp only | split)

theorem Dev.leavenTick_km {d0 d : Dev} (h : Km d0 d) : Km d0 (Dev.leavenTick d) := by
  unfold Dev.leavenTick
  repeat' (first
    | (with_reducible (first
      | assumption | refine ite_km ?_ ?_ | refine Dev.planTake_km ?_ | refine Km.to ?_))
    | (intro _) | (refine Km.of ?_; dsimp only) | dsimp only | split)

theorem Dev.leavenMeasure_km {d0 d : Dev} {x1 x2 : _} (h : Km d0 d) : Km d0 (Dev.leavenMeasure d x1 x2) := by
  unfold Dev.leavenMeasure
  repeat' (first
    | (with_reducible (first
      | assumption | refine ite_km ?_ ?_ | refine Dev.each_km ?_ ?_ | refine Dev.marginShow_km ?_
      | refine Dev.sg_km ?_ | refine Km.to ?_))
    | (intro _) | (refine Km.of ?_; dsimp only) | dsimp only | split)

theorem Dev.spWord_km {d0 d : Dev} {x1 x2 : _} (h : Km d0 d) : Km d0 (Dev.spWord d x1 x2) := by
  unfold Dev.spWord
  repeat' (first
    | (with_reducible (first
      | assumption | refine ite_km ?_ ?_ | refine Km.to ?_))
    | (intro _) | (refine Km.of ?_; dsimp only) | dsimp only | split)

theorem Dev.timingProof_km {d0 d : Dev} {x1 x2 : _} (h : Km d0 d) : Km d0 (Dev.timingProof d x1 x2) := by
  unfold Dev.timingProof
  repeat' (first
    | (with_reducible (first
      | assumption | refine ite_km ?_ ?_ | refine foldFst_km ?_ ?_ | refine foldl_km ?_ ?_
      | refine Dev.spWord_km ?_ | refine Km.to ?_))
    | (intro _) | (refine Km.of ?_; dsimp only) | dsimp only | split)

theorem Dev.register_km {d0 d : Dev} {x1 x2 x3 : _} (h : Km d0 d) : Km d0 (Dev.register d x1 x2 x3).2.2 := by
  unfold Dev.register
  repeat' (first
    | (with_reducible (first
      | assumption | refine ite_km ?_ ?_ | refine Dev.sg_km ?_ | refine Dev.dn_km ?_ | refine Dev.up_km ?_
      | refine Dev.putSurf_km ?_ | refine Dev.surfOcc_km ?_ | refine Km.to ?_))
    | (intro _) | (refine Km.of ?_; dsimp only) | dsimp only | split)

theorem Dev.putSvc_km {d0 d : Dev} {x1 x2 : _} (h : Km d0 d) : Km d0 (Dev.putSvc d x1 x2) := by
  unfold Dev.putSvc
  repeat' (first
    | (with_reducible (first
      | assumption | refine ite_km ?_ ?_ | refine Km.to ?_))
    | (intro _) | (refine Km.of ?_; dsimp only) | dsimp only | split)

theorem Dev.overlaysOn_km {d0 d : Dev} {x1 x2 : _} (h : Km d0 d) : Km d0 (Dev.overlaysOn d x1 x2) := by
  unfold Dev.overlaysOn
  repeat' (first
    | (with_reducible (first
      | assumption | refine ite_km ?_ ?_ | refine Dev.each_km ?_ ?_ | refine Dev.putSvc_km ?_
      | refine Dev.register_km ?_ | refine Km.to ?_))
    | (intro _) | (refine Km.of ?_; dsimp only) | dsimp only | split)

theorem Dev.capture_km {d0 d : Dev} {x1 x2 : _} (h : Km d0 d) : Km d0 (Dev.capture d x1 x2) := by
  unfold Dev.capture
  repeat' (first
    | (with_reducible (first
      | assumption | refine ite_km ?_ ?_ | refine Dev.each_km ?_ ?_ | refine Dev.sg_km ?_ | refine Dev.up_km ?_
      | refine Km.to ?_))
    | (intro _) | (refine Km.of ?_; dsimp only) | dsimp only | split)

theorem Dev.parityReport_km {d0 d : Dev} {x1 : _} (h : Km d0 d) : Km d0 (Dev.parityReport d x1) := by
  unfold Dev.parityReport
  repeat' (first
    | (with_reducible (first
      | assumption | refine ite_km ?_ ?_ | refine Dev.logE_km ?_ | refine Dev.capture_km ?_ | refine Dev.up_km ?_
      | refine Dev.faultSum_km ?_ | refine Km.to ?_))
    | (intro _) | (refine Km.of ?_; dsimp only) | dsimp only | split)

theorem Dev.snapParity_km {d0 d : Dev} {x1 : _} (h : Km d0 d) : Km d0 (Dev.snapParity d x1) := by
  unfold Dev.snapParity
  repeat' (first
    | (with_reducible (first
      | assumption | refine ite_km ?_ ?_ | refine Dev.each_km ?_ ?_ | refine Dev.parityReport_km ?_
      | refine Km.to ?_))
    | (intro _) | (refine Km.of ?_; dsimp only) | dsimp only | split)

theorem Dev.declShow_km {d0 d : Dev} (h : Km d0 d) : Km d0 (Dev.declShow d) := by
  unfold Dev.declShow
  repeat' (first
    | (with_reducible (first
      | assumption | refine ite_km ?_ ?_ | refine Dev.headroom_km ?_ | refine Km.to ?_))
    | (intro _) | (refine Km.of ?_; dsimp only) | dsimp only | split)

theorem declTestEnd_km {d0 d : Dev} (h : Km d0 d) : Km d0 (declTestEnd d) := by
  unfold declTestEnd
  repeat' (first
    | (with_reducible (first
      | assumption | refine ite_km ?_ ?_ | refine Dev.up_km ?_ | refine Dev.declShow_km ?_ | refine Dev.sg_km ?_
      | refine Dev.dn_km ?_ | refine Km.to ?_))
    | (intro _) | (refine Km.of ?_; dsimp only) | dsimp only | split)

theorem Dev.report_km {d0 d : Dev} {x1 x2 : _} (h : Km d0 d) : Km d0 (Dev.report d x1 x2) := by
  unfold Dev.report
  repeat' (first
    | (with_reducible (first
      | assumption | refine ite_km ?_ ?_ | refine Dev.dn_km ?_ | refine Dev.up_km ?_ | refine Dev.incSat_km ?_
      | refine Dev.sg_km ?_ | refine Km.to ?_))
    | (intro _) | (refine Km.of ?_; dsimp only) | dsimp only | split)

theorem commitValidationEnd_km {d0 d : Dev} {x0 : _} (h : Km d0 d) : Km d0 (commitValidationEnd x0 d) := by
  unfold commitValidationEnd
  repeat' (first
    | (with_reducible (first
      | assumption | refine ite_km ?_ ?_ | refine Dev.accept_km ?_ | refine Dev.report_km ?_
      | refine Dev.lostSweep_km ?_ | refine Km.to ?_))
    | (intro _) | (refine Km.of ?_; dsimp only) | dsimp only | split)

theorem Dev.drain_km {d0 d : Dev} (h : Km d0 d) : Km d0 (Dev.drain d) := by
  unfold Dev.drain
  repeat' (first
    | (with_reducible (first
      | assumption | refine ite_km ?_ ?_ | refine Dev.each_km ?_ ?_ | refine commitValidationEnd_km ?_
      | refine declTestEnd_km ?_ | refine Km.to ?_))
    | (intro _) | (refine Km.of ?_; dsimp only) | dsimp only | split)

theorem Dev.lateCount_km {d0 d : Dev} {x1 : _} (h : Km d0 d) : Km d0 (Dev.lateCount d x1) := by
  unfold Dev.lateCount
  repeat' (first
    | (with_reducible (first
      | assumption | refine ite_km ?_ ?_ | refine Dev.up_km ?_ | refine Dev.incSat_km ?_ | refine Km.to ?_))
    | (intro _) | (refine Km.of ?_; dsimp only) | dsimp only | split)

theorem Dev.fwCommit_km {d0 d : Dev} {x1 : _} (h : Km d0 d) : Km d0 (Dev.fwCommit d x1).2.2 := by
  unfold Dev.fwCommit
  repeat' (first
    | (with_reducible (first
      | assumption | refine ite_km ?_ ?_ | refine Dev.each_km ?_ ?_ | refine Dev.accept_km ?_
      | refine Dev.report_km ?_ | refine Dev.lostSweep_km ?_ | refine Dev.sg_km ?_ | refine Dev.attn_km ?_
      | refine Dev.lateCount_km ?_ | refine Dev.onlyIf_km ?_ ?_ | refine Dev.drain_km ?_
      | refine Dev.snapParity_km ?_ | refine Km.to ?_))
    | (intro _) | (refine Km.of ?_; dsimp only) | dsimp only | split)

theorem Dev.serviceRestart_km {d0 d : Dev} {x1 : _} (h : Km d0 d) : Km d0 (Dev.serviceRestart d x1) := by
  unfold Dev.serviceRestart
  repeat' (first
    | (with_reducible (first
      | assumption | refine ite_km ?_ ?_ | refine Dev.logE_km ?_ | refine Dev.fwCommit_km ?_
      | refine Dev.overlaysOn_km ?_ | refine Dev.timingProof_km ?_ | refine Km.to ?_))
    | (intro _) | (refine Km.of ?_; dsimp only) | dsimp only | split)

theorem Dev.storeShow_km {d0 d : Dev} (h : Km d0 d) : Km d0 (Dev.storeShow d) := by
  unfold Dev.storeShow
  repeat' (first
    | (with_reducible (first
      | assumption | refine ite_km ?_ ?_ | refine Dev.sg_km ?_ | refine Km.to ?_))
    | (intro _) | (refine Km.of ?_; dsimp only) | dsimp only | split)

theorem Dev.planBudget_km {d0 d : Dev} (h : Km d0 d) : Km d0 (Dev.planBudget d) := by
  unfold Dev.planBudget
  repeat' (first
    | (with_reducible (first
      | assumption | refine ite_km ?_ ?_ | refine Dev.each_km ?_ ?_ | refine Dev.dn_km ?_ | refine Dev.up_km ?_
      | refine Dev.attn_km ?_ | refine Dev.logOpen_km ?_ | refine Dev.needShowPipe_km ?_
      | refine Dev.headroom_km ?_ | refine Dev.sg_km ?_ | refine Km.to ?_))
    | (intro _) | (refine Km.of ?_; dsimp only) | dsimp only | split)

theorem Dev.serviceBegin_km {d0 d : Dev} (h : Km d0 d) : Km d0 (Dev.serviceBegin d) := by
  unfold Dev.serviceBegin
  repeat' (first
    | (with_reducible (first
      | assumption | refine ite_km ?_ ?_ | refine Dev.each_km ?_ ?_ | refine Dev.targets_km ?_
      | refine Dev.planBudget_km ?_ | refine Dev.storeShow_km ?_ | refine Dev.serviceRestart_km ?_
      | refine Dev.sq3Show_km ?_ | refine Dev.sg_km ?_ | refine Dev.starterReason_km ?_ | refine Dev.dn_km ?_
      | refine Dev.poolShow_km ?_ | refine Dev.capShow_km ?_ | refine Km.to ?_))
    | (intro _) | (refine Km.of ?_; dsimp only) | dsimp only | split)

theorem Dev.hpdSeen_km {d0 d : Dev} {x1 x2 : _} (h : Km d0 d) : Km d0 (Dev.hpdSeen d x1 x2) := by
  unfold Dev.hpdSeen
  repeat' (first
    | (with_reducible (first
      | assumption | refine ite_km ?_ ?_ | refine hpdAnswer_km ?_ | refine Km.to ?_))
    | (intro _) | (refine Km.of ?_; dsimp only) | dsimp only | split)

theorem Dev.hpdServe_km {d0 d : Dev} (h : Km d0 d) : Km d0 (Dev.hpdServe d) := by
  unfold Dev.hpdServe
  repeat' (first
    | (with_reducible (first
      | assumption | refine ite_km ?_ ?_ | refine Dev.each_km ?_ ?_ | refine Dev.hpdSeen_km ?_ | refine Km.to ?_))
    | (intro _) | (refine Km.of ?_; dsimp only) | dsimp only | split)

theorem Dev.unregister_km {d0 d : Dev} {x1 : _} (h : Km d0 d) : Km d0 (Dev.unregister d x1).2 := by
  unfold Dev.unregister
  repeat' (first
    | (with_reducible (first
      | assumption | refine ite_km ?_ ?_ | refine Dev.putSurf_km ?_ | refine Dev.surfOcc_km ?_ | refine Km.to ?_))
    | (intro _) | (refine Km.of ?_; dsimp only) | dsimp only | split)

theorem opSurfUnregister_km {d0 d : Dev} {x0 : _} (h : Km d0 d) : AnsKm d0 (opSurfUnregister x0 d) := by
  unfold opSurfUnregister
  repeat' (first
    | (with_reducible (first
      | assumption | refine ite_km ?_ ?_ | refine AnsKm.mk ?_ ?_ | refine id_km ?_ | refine iteAns_km ?_ ?_
      | refine Dev.unregister_km ?_ | refine Km.to ?_))
    | (intro _) | (refine Km.of ?_; dsimp only) | dsimp only | split)

theorem Dev.restore_km {d0 d : Dev} {x1 x2 : _} (h : Km d0 d) : Km d0 (Dev.restore d x1 x2) := by
  unfold Dev.restore
  repeat' (first
    | (with_reducible (first
      | assumption | refine ite_km ?_ ?_ | refine Km.to ?_))
    | (intro _) | (refine Km.of ?_; dsimp only) | dsimp only | split)

theorem Dev.w1c_km {d0 d : Dev} {x1 x2 x3 x4 x5 : _} (h : Km d0 d) : Km d0 (Dev.w1c d x1 x2 x3 x4 x5) := by
  unfold Dev.w1c
  repeat' (first
    | (with_reducible (first
      | assumption | refine ite_km ?_ ?_ | refine Dev.each_km ?_ ?_ | refine Dev.dn_km ?_
      | refine Dev.sgWord_km ?_ | refine Km.to ?_))
    | (intro _) | (refine Km.of ?_; dsimp only) | dsimp only | split)

theorem Dev.putUnbanked_km {d0 d : Dev} {x1 x2 x3 x4 : _} (h : Km d0 d) : Km d0 (Dev.putUnbanked d x1 x2 x3 x4) := by
  unfold Dev.putUnbanked
  repeat' (first
    | (with_reducible (first
      | assumption | refine ite_km ?_ ?_ | refine Dev.w1c_km ?_ | refine Dev.sgWord_km ?_
      | refine Dev.restore_km ?_ | refine Km.to ?_))
    | (intro _) | (refine Km.of ?_; dsimp only) | dsimp only | split)

theorem Dev.ownViolation_km {d0 d : Dev} {x1 : _} (h : Km d0 d) : Km d0 (Dev.ownViolation d x1) := by
  unfold Dev.ownViolation
  repeat' (first
    | (with_reducible (first
      | assumption | refine ite_km ?_ ?_ | refine Dev.up_km ?_ | refine Dev.incSat_km ?_ | refine Km.to ?_))
    | (intro _) | (refine Km.of ?_; dsimp only) | dsimp only | split)

theorem Dev.bankGate_km {d0 d e : Dev} {q : Rq} {off : Nat} (h : Km d0 d) (he : d.bankGate q off = some e) :
    Km d0 e := by
  unfold Dev.bankGate at he
  split at he
  · cases he
    exact Dev.up_km h
  · split at he
    · cases he
    · cases he
      exact Dev.each_km (fun _ _ k => Dev.ownViolation_km k) h

theorem Dev.putBanked_km {d0 d : Dev} {x1 x2 : _} (h : Km d0 d) : Km d0 (Dev.putBanked d x1 x2) := by
  unfold Dev.putBanked
  repeat' (first
    | (with_reducible (first
      | assumption | refine ite_km ?_ ?_ | refine Dev.spWord_km ?_ | refine Dev.restore_km ?_ | refine Km.to ?_))
    | (intro _) | (refine Km.of ?_; dsimp only) | dsimp only | split)

theorem plainWrite_km {d0 d : Dev} {q : Rq} {al : Bool} {ws : List (Nat × Word)} (h : Km d0 d) :
    Km d0 (plainWrite q al ws d) := by
  unfold plainWrite
  dsimp only
  have h1 : Km d0 (Dev.each (fun (x : Nat × Word) d => d.putUnbanked q al x.1 x.2) ws d) :=
    Dev.each_km (fun _ _ k => Dev.putUnbanked_km k) h
  split
  · split
    · rename_i he
      exact Dev.bankGate_km h1 he
    · exact Dev.each_km (fun _ _ k => Dev.putBanked_km k) h1
  · exact h1

theorem storeWrite_km {d0 d : Dev} {x0 x1 x2 : _} (h : Km d0 d) : Km d0 (storeWrite x0 x1 x2 d) := by
  unfold storeWrite
  repeat' (first
    | (with_reducible (first
      | assumption | refine ite_km ?_ ?_ | refine Dev.storeShow_km ?_ | refine Dev.up_km ?_
      | refine plainWrite_km ?_ | refine Km.to ?_))
    | (intro _) | (refine Km.of ?_; dsimp only) | dsimp only | split)

theorem Dev.inc_km {d0 d : Dev} {x1 : _} (h : Km d0 d) : Km d0 (Dev.inc d x1) := by
  unfold Dev.inc
  repeat' (first
    | (with_reducible (first
      | assumption | refine ite_km ?_ ?_ | refine Dev.sg_km ?_ | refine Km.to ?_))
    | (intro _) | (refine Km.of ?_; dsimp only) | dsimp only | split)

theorem Dev.staleBook_km {d0 d : Dev} (h : Km d0 d) : Km d0 (Dev.staleBook d) := by
  unfold Dev.staleBook
  repeat' (first
    | (with_reducible (first
      | assumption | refine ite_km ?_ ?_ | refine Dev.each_km ?_ ?_ | refine Dev.up_km ?_ | refine Dev.attn_km ?_
      | refine Dev.logMore_km ?_ | refine Km.to ?_))
    | (intro _) | (refine Km.of ?_; dsimp only) | dsimp only | split)

theorem Dev.logFlush_km {d0 d : Dev} (h : Km d0 d) : Km d0 (Dev.logFlush d) := by
  unfold Dev.logFlush
  repeat' (first
    | (with_reducible (first
      | assumption | refine ite_km ?_ ?_ | refine Dev.each_km ?_ ?_ | refine Dev.logWrite_km ?_ | refine Km.to ?_))
    | (intro _) | (refine Km.of ?_; dsimp only) | dsimp only | split)

theorem Dev.logTick_km {d0 d : Dev} (h : Km d0 d) : Km d0 (Dev.logTick d) := by
  unfold Dev.logTick
  repeat' (first
    | (with_reducible (first
      | assumption | refine ite_km ?_ ?_ | refine Dev.logE_km ?_ | refine Dev.logFlush_km ?_ | refine Km.to ?_))
    | (intro _) | (refine Km.of ?_; dsimp only) | dsimp only | split)

theorem Dev.refRaise_km {d0 d : Dev} (h : Km d0 d) : Km d0 (Dev.refRaise d) := by
  unfold Dev.refRaise
  repeat' (first
    | (with_reducible (first
      | assumption | refine ite_km ?_ ?_ | refine Dev.planLog_km ?_ | refine Dev.attn_km ?_ | refine Km.to ?_))
    | (intro _) | (refine Km.of ?_; dsimp only) | dsimp only | split)

theorem Dev.noteWrite_km {d0 d : Dev} {x1 x2 x3 : _} (h : Km d0 d) : Km d0 (Dev.noteWrite d x1 x2 x3) := by
  unfold Dev.noteWrite
  repeat' (first
    | (with_reducible (first
      | assumption | refine ite_km ?_ ?_ | refine Dev.each_km ?_ ?_ | refine Dev.change_km ?_ | refine Km.to ?_))
    | (intro _) | (refine Km.of ?_; dsimp only) | dsimp only | split)

theorem Dev.sq3Jobs_km {d0 d : Dev} (h : Km d0 d) : Km d0 (Dev.sq3Jobs d) := by
  unfold Dev.sq3Jobs
  repeat' (first
    | (with_reducible (first
      | assumption | refine ite_km ?_ ?_ | refine Dev.freeFld_km ?_ | refine Dev.sg_km ?_ | refine Dev.draw_km ?_
      | refine Km.to ?_))
    | (intro _) | (refine Km.of ?_; dsimp only) | dsimp only | split)

theorem Dev.flattenStart_km {d0 d : Dev} {x1 : _} (h : Km d0 d) : Km d0 (Dev.flattenStart d x1) := by
  unfold Dev.flattenStart
  repeat' (first
    | (with_reducible (first
      | assumption | refine ite_km ?_ ?_ | refine Dev.each_km ?_ ?_ | refine Dev.putTile_km ?_
      | refine Dev.putCrust_km ?_ | refine Km.to ?_))
    | (intro _) | (refine Km.of ?_; dsimp only) | dsimp only | split)

theorem Dev.rebuildClaims_km {d0 d : Dev} (h : Km d0 d) : Km d0 (Dev.rebuildClaims d) := by
  unfold Dev.rebuildClaims
  repeat' (first
    | (with_reducible (first
      | assumption | refine ite_km ?_ ?_ | refine Dev.each_km ?_ ?_ | refine Dev.up_km ?_
      | refine Dev.poolShow_km ?_ | refine Dev.grant_km ?_ | refine Km.to ?_))
    | (intro _) | (refine Km.of ?_; dsimp only) | dsimp only | split)

theorem Dev.refEvent_km {d0 d : Dev} {x1 x2 : _} (h : Km d0 d) : Km d0 (Dev.refEvent d x1 x2) := by
  unfold Dev.refEvent
  repeat' (first
    | (with_reducible (first
      | assumption | refine ite_km ?_ ?_ | refine Dev.holdover_km ?_ | refine Dev.genEnter_km ?_
      | refine Dev.putPst_km ?_ | refine Km.to ?_))
    | (intro _) | (refine Km.of ?_; dsimp only) | dsimp only | split)

theorem Dev.refInEvent_km {d0 d : Dev} (h : Km d0 d) : Km d0 (Dev.refInEvent d) := by
  unfold Dev.refInEvent
  repeat' (first
    | (with_reducible (first
      | assumption | refine ite_km ?_ ?_ | refine Dev.each_km ?_ ?_ | refine Dev.refEvent_km ?_ | refine Km.to ?_))
    | (intro _) | (refine Km.of ?_; dsimp only) | dsimp only | split)

theorem Dev.psr_km {d0 d : Dev} {x1 x2 : _} (h : Km d0 d) : Km d0 (Dev.psr d x1 x2) := by
  unfold Dev.psr
  repeat' (first
    | (with_reducible (first
      | assumption | refine ite_km ?_ ?_ | refine Dev.sg_km ?_ | refine Km.to ?_))
    | (intro _) | (refine Km.of ?_; dsimp only) | dsimp only | split)

theorem Dev.restStep_km {d0 d : Dev} {x1 x2 x3 : _} (h : Km d0 d) : Km d0 (Dev.restStep d x1 x2 x3) := by
  unfold Dev.restStep
  repeat' (first
    | (with_reducible (first
      | assumption | refine ite_km ?_ ?_ | refine Dev.psr_km ?_ | refine Dev.sg_km ?_ | refine Dev.dn_km ?_
      | refine Dev.incSat_km ?_ | refine Km.to ?_))
    | (intro _) | (refine Km.of ?_; dsimp only) | dsimp only | split)

theorem Dev.accErr_km {d0 d : Dev} {x1 x2 x3 x4 : _} (h : Km d0 d) : Km d0 (Dev.accErr d x1 x2 x3 x4) := by
  unfold Dev.accErr
  repeat' (first
    | (with_reducible (first
      | assumption | refine ite_km ?_ ?_ | refine Dev.orBits_km ?_ | refine Dev.capture_km ?_
      | refine Dev.incSat_km ?_ | refine Km.to ?_))
    | (intro _) | (refine Km.of ?_; dsimp only) | dsimp only | split)

theorem Dev.postedDrop_km {d0 d : Dev} {x1 x2 x3 x4 : _} (h : Km d0 d) : Km d0 (Dev.postedDrop d x1 x2 x3 x4) := by
  unfold Dev.postedDrop
  repeat' (first
    | (with_reducible (first
      | assumption | refine ite_km ?_ ?_ | refine Dev.accErr_km ?_ | refine Dev.sg_km ?_ | refine Km.to ?_))
    | (intro _) | (refine Km.of ?_; dsimp only) | dsimp only | split)

theorem Dev.aliasFlag_km {d0 d : Dev} {x1 x2 x3 x4 x5 : _} (h : Km d0 d) :
    Km d0 (Dev.aliasFlag d x1 x2 x3 x4 x5) := by
  unfold Dev.aliasFlag
  repeat' (first
    | (with_reducible (first
      | assumption | refine ite_km ?_ ?_ | refine Dev.accErr_km ?_ | refine Km.to ?_))
    | (intro _) | (refine Km.of ?_; dsimp only) | dsimp only | split)

theorem Dev.postedShow_km {d0 d : Dev} (h : Km d0 d) : Km d0 (Dev.postedShow d) := by
  unfold Dev.postedShow
  repeat' (first
    | (with_reducible (first
      | assumption | refine ite_km ?_ ?_ | refine Dev.sg_km ?_ | refine Km.to ?_))
    | (intro _) | (refine Km.of ?_; dsimp only) | dsimp only | split)

theorem Dev.unlockOff_km {d0 d : Dev} {x1 : _} (h : Km d0 d) : Km d0 (Dev.unlockOff d x1) := by
  unfold Dev.unlockOff
  repeat' (first
    | (with_reducible (first
      | assumption | refine ite_km ?_ ?_ | refine Dev.dn_km ?_ | refine Km.to ?_))
    | (intro _) | (refine Km.of ?_; dsimp only) | dsimp only | split)

theorem unlockWrite_km {d0 d : Dev} {x0 x1 x2 : _} (h : Km d0 d) : Km d0 (unlockWrite x0 x1 x2 d) := by
  unfold unlockWrite
  repeat' (first
    | (with_reducible (first
      | assumption | refine ite_km ?_ ?_ | refine Dev.unlockOff_km ?_ | refine Dev.accErr_km ?_
      | refine Dev.up_km ?_ | refine Dev.sg_km ?_ | refine Dev.restore_km ?_ | refine Km.to ?_))
    | (intro _) | (refine Km.of ?_; dsimp only) | dsimp only | split)

theorem Dev.keyed_km {d0 d : Dev} {x1 x2 x3 x4 : _} (h4 : ∀ e, Km d0 e → Km d0 (x4 e)) (h : Km d0 d) :
    Km d0 (Dev.keyed d x1 x2 x3 x4) := by
  unfold Dev.keyed
  repeat' (first
    | (with_reducible (first
      | assumption | refine ite_km ?_ ?_ | refine h4 _ ?_ | refine h4 _ _ ?_ | refine Dev.accErr_km ?_
      | refine Dev.unlockOff_km ?_ | refine Km.to ?_))
    | (intro _) | (refine Km.of ?_; dsimp only) | dsimp only | split)

theorem Dev.hostStore_km {d0 d : Dev} {x1 x2 : _} (h : Km d0 d) : Km d0 (Dev.hostStore d x1 x2) := by
  unfold Dev.hostStore
  repeat' (first
    | (with_reducible (first
      | assumption | refine ite_km ?_ ?_ | refine Km.to ?_))
    | (intro _) | (refine Km.of ?_; dsimp only) | dsimp only | split)

theorem Dev.hostSource_km {d0 d : Dev} {x1 x2 : _} (h : Km d0 d) : Km d0 (Dev.hostSource d x1 x2) := by
  unfold Dev.hostSource
  repeat' (first
    | (with_reducible (first
      | assumption | refine ite_km ?_ ?_ | refine Dev.hostStore_km ?_ | refine Km.to ?_))
    | (intro _) | (refine Km.of ?_; dsimp only) | dsimp only | split)

theorem Dev.dmaFar_km {d0 d : Dev} {x1 : _} (h : Km d0 d) : Km d0 (Dev.dmaFar d x1).2 := by
  unfold Dev.dmaFar
  repeat' (first
    | (with_reducible (first
      | assumption | refine ite_km ?_ ?_ | refine Dev.hostSource_km ?_ | refine Dev.freeBytes_km ?_
      | refine Dev.draw_km ?_ | refine Km.to ?_))
    | (intro _) | (refine Km.of ?_; dsimp only) | dsimp only | split)

theorem Dev.resetRegs_km {d0 d : Dev} {x1 x2 : _} (h : Km d0 d) : Km d0 (Dev.resetRegs d x1 x2) := by
  unfold Dev.resetRegs
  repeat' (first
    | (with_reducible (first
      | assumption | refine ite_km ?_ ?_ | refine Km.to ?_))
    | (intro _) | (refine Km.of ?_; dsimp only) | dsimp only | split)

theorem Dev.keepLive_km {d0 d : Dev} {x1 : _} (h : Km d0 d) : Km d0 (Dev.keepLive d x1) := by
  unfold Dev.keepLive
  repeat' (first
    | (with_reducible (first
      | assumption | refine ite_km ?_ ?_ | refine Dev.each_km ?_ ?_ | refine Dev.sg_km ?_ | refine Km.to ?_))
    | (intro _) | (refine Km.of ?_; dsimp only) | dsimp only | split)

theorem lockdownWrite_km {d0 d : Dev} {x0 x1 x2 : _} (h : Km d0 d) : Km d0 (lockdownWrite x0 x1 x2 d) := by
  unfold lockdownWrite
  repeat' (first
    | (with_reducible (first
      | assumption | refine ite_km ?_ ?_ | refine plainWrite_km ?_ | refine Dev.incSat_km ?_
      | refine Dev.accErr_km ?_ | refine Dev.onlyIf_km ?_ ?_ | refine Km.to ?_))
    | (intro _) | (refine Km.of ?_; dsimp only) | dsimp only | split)

theorem tickCtrlWrite_km {d0 d : Dev} {x0 x1 x2 : _} (h : Km d0 d) : Km d0 (tickCtrlWrite x0 x1 x2 d) := by
  unfold tickCtrlWrite
  repeat' (first
    | (with_reducible (first
      | assumption | refine ite_km ?_ ?_ | refine plainWrite_km ?_ | refine Dev.up_km ?_ | refine Km.to ?_))
    | (intro _) | (refine Km.of ?_; dsimp only) | dsimp only | split)

theorem tickStatusWrite_km {d0 d : Dev} {x0 x1 : _} (h : Km d0 d) : Km d0 (tickStatusWrite x0 x1 d) := by
  unfold tickStatusWrite
  repeat' (first
    | (with_reducible (first
      | assumption | refine ite_km ?_ ?_ | refine Dev.dn_km ?_ | refine plainWrite_km ?_ | refine Km.to ?_))
    | (intro _) | (refine Km.of ?_; dsimp only) | dsimp only | split)

theorem parityStatusWrite_km {d0 d : Dev} {x0 x1 x2 : _} (h : Km d0 d) : Km d0 (parityStatusWrite x0 x1 x2 d) := by
  unfold parityStatusWrite
  repeat' (first
    | (with_reducible (first
      | assumption | refine ite_km ?_ ?_ | refine Dev.up_km ?_ | refine Dev.onlyIf_km ?_ ?_
      | refine plainWrite_km ?_ | refine Km.to ?_))
    | (intro _) | (refine Km.of ?_; dsimp only) | dsimp only | split)

theorem commitStrobe_km {d0 d : Dev} {x0 x1 : _} (h : Km d0 d) : Km d0 (commitStrobe x0 x1 d) := by
  unfold commitStrobe
  repeat' (first
    | (with_reducible (first
      | assumption | refine ite_km ?_ ?_ | refine Dev.each_km ?_ ?_ | refine Dev.sg_km ?_ | refine Dev.dn_km ?_
      | refine Dev.attn_km ?_ | refine Dev.lateCount_km ?_ | refine Dev.snapParity_km ?_
      | refine Dev.ownViolation_km ?_ | refine Dev.up_km ?_ | refine Dev.onlyIf_km ?_ ?_ | refine Km.to ?_))
    | (intro _) | (refine Km.of ?_; dsimp only) | dsimp only | split)

theorem commitClrCounts_km {d0 d : Dev} {x0 x1 : _} (h : Km d0 d) : Km d0 (commitClrCounts x0 x1 d) := by
  unfold commitClrCounts
  repeat' (first
    | (with_reducible (first
      | assumption | refine ite_km ?_ ?_ | refine Dev.dn_km ?_ | refine Km.to ?_))
    | (intro _) | (refine Km.of ?_; dsimp only) | dsimp only | split)

theorem Dev.ramLoad_km {d0 d : Dev} {x1 x2 x3 : _} (h : Km d0 d) : Km d0 (Dev.ramLoad d x1 x2 x3) := by
  unfold Dev.ramLoad
  repeat' (first
    | (with_reducible (first
      | assumption | refine ite_km ?_ ?_ | refine Dev.sg_km ?_ | refine Dev.up_km ?_ | refine Dev.onlyIf_km ?_ ?_
      | refine Km.to ?_))
    | (intro _) | (refine Km.of ?_; dsimp only) | dsimp only | split)

theorem lutLoad_km {d0 d : Dev} {x0 x1 : _} (h : Km d0 d) : Km d0 (lutLoad x0 x1 d) := by
  unfold lutLoad
  repeat' (first
    | (with_reducible (first
      | assumption | refine ite_km ?_ ?_ | refine Dev.ramLoad_km ?_ | refine Km.to ?_))
    | (intro _) | (refine Km.of ?_; dsimp only) | dsimp only | split)

theorem tmLoad_km {d0 d : Dev} {x0 x1 : _} (h : Km d0 d) : Km d0 (tmLoad x0 x1 d) := by
  unfold tmLoad
  repeat' (first
    | (with_reducible (first
      | assumption | refine ite_km ?_ ?_ | refine Dev.ramLoad_km ?_ | refine Km.to ?_))
    | (intro _) | (refine Km.of ?_; dsimp only) | dsimp only | split)

theorem Dev.restoreIf_km {d0 d : Dev} {x1 x2 x3 : _} (h : Km d0 d) : Km d0 (Dev.restoreIf d x1 x2 x3) := by
  unfold Dev.restoreIf
  repeat' (first
    | (with_reducible (first
      | assumption | refine ite_km ?_ ?_ | refine Dev.restore_km ?_ | refine Km.to ?_))
    | (intro _) | (refine Km.of ?_; dsimp only) | dsimp only | split)

theorem coefWrite_km {d0 d : Dev} {x0 x1 x2 : _} (h : Km d0 d) : Km d0 (coefWrite x0 x1 x2 d) := by
  unfold coefWrite
  repeat' (first
    | (with_reducible (first
      | assumption | refine ite_km ?_ ?_ | refine Dev.up_km ?_ | refine Dev.sgWord_km ?_ | refine Km.to ?_))
    | (intro _) | (refine Km.of ?_; dsimp only) | dsimp only | split)

theorem crustHintGo_km {d0 d : Dev} {x0 x1 : _} (h : Km d0 d) : Km d0 (crustHintGo x0 x1 d) := by
  unfold crustHintGo
  repeat' (first
    | (with_reducible (first
      | assumption | refine ite_km ?_ ?_ | refine Dev.hintsDue_km ?_ | refine Dev.hintApply_km ?_
      | refine Dev.up_km ?_ | refine Km.to ?_))
    | (intro _) | (refine Km.of ?_; dsimp only) | dsimp only | split)

theorem crustTileSelWrite_km {d0 d : Dev} {x0 : _} (h : Km d0 d) : Km d0 (crustTileSelWrite x0 d) := by
  unfold crustTileSelWrite
  repeat' (first
    | (with_reducible (first
      | assumption | refine ite_km ?_ ?_ | refine Dev.each_km ?_ ?_ | refine Dev.sg_km ?_ | refine Km.to ?_))
    | (intro _) | (refine Km.of ?_; dsimp only) | dsimp only | split)

theorem crustStatusWrite_km {d0 d : Dev} {x0 x1 x2 : _} (h : Km d0 d) : Km d0 (crustStatusWrite x0 x1 x2 d) := by
  unfold crustStatusWrite
  repeat' (first
    | (with_reducible (first
      | assumption | refine ite_km ?_ ?_ | refine Dev.dn_km ?_ | refine plainWrite_km ?_ | refine Km.to ?_))
    | (intro _) | (refine Km.of ?_; dsimp only) | dsimp only | split)

theorem fetchEffWrite_km {d0 d : Dev} {x0 : _} (h : Km d0 d) : Km d0 (fetchEffWrite x0 d) := by
  unfold fetchEffWrite
  repeat' (first
    | (with_reducible (first
      | assumption | refine ite_km ?_ ?_ | refine Dev.up_km ?_ | refine Dev.sg_km ?_ | refine Dev.onlyIf_km ?_ ?_
      | refine Dev.dn_km ?_ | refine Km.to ?_))
    | (intro _) | (refine Km.of ?_; dsimp only) | dsimp only | split)

theorem fetchDeclCtrl_km {d0 d : Dev} {x0 x1 : _} (h : Km d0 d) : Km d0 (fetchDeclCtrl x0 x1 d) := by
  unfold fetchDeclCtrl
  repeat' (first
    | (with_reducible (first
      | assumption | refine ite_km ?_ ?_ | refine Dev.sg_km ?_ | refine Dev.declShow_km ?_ | refine Dev.up_km ?_
      | refine Km.to ?_))
    | (intro _) | (refine Km.of ?_; dsimp only) | dsimp only | split)

theorem fetchDeclOther_km {d0 d : Dev} {x1 : _} (h1 : ∀ e, Km d0 e → Km d0 (x1 e)) (h : Km d0 d) :
    Km d0 (fetchDeclOther d x1) := by
  unfold fetchDeclOther
  repeat' (first
    | (with_reducible (first
      | assumption | refine ite_km ?_ ?_ | refine h1 _ ?_ | refine h1 _ _ ?_ | refine Dev.up_km ?_
      | refine Km.to ?_))
    | (intro _) | (refine Km.of ?_; dsimp only) | dsimp only | split)

theorem declWrite_km {d0 d : Dev} {x0 x1 x2 x3 x4 x5 : _} (h : Km d0 d) : Km d0 (declWrite x0 x1 x2 x3 x4 x5 d) := by
  unfold declWrite
  repeat' (first
    | (with_reducible (first
      | assumption | refine ite_km ?_ ?_ | refine plainWrite_km ?_ | refine fetchDeclOther_km ?_ ?_
      | refine fetchDeclCtrl_km ?_ | refine Dev.restoreIf_km ?_ | refine Km.to ?_))
    | (intro _) | (refine Km.of ?_; dsimp only) | dsimp only | split)

theorem Dev.showEntry_km {d0 d : Dev} {x1 x2 x3 : _} (h : Km d0 d) : Km d0 (Dev.showEntry d x1 x2 x3) := by
  unfold Dev.showEntry
  repeat' (first
    | (with_reducible (first
      | assumption | refine ite_km ?_ ?_ | refine Dev.sgWord_km ?_ | refine Km.to ?_))
    | (intro _) | (refine Km.of ?_; dsimp only) | dsimp only | split)

theorem sigSnapSelWrite_km {d0 d : Dev} {x0 x1 : _} (h : Km d0 d) : Km d0 (sigSnapSelWrite x0 x1 d) := by
  unfold sigSnapSelWrite
  repeat' (first
    | (with_reducible (first
      | assumption | refine ite_km ?_ ?_ | refine Dev.dn_km ?_ | refine Dev.showEntry_km ?_ | refine Dev.up_km ?_
      | refine Dev.sg_km ?_ | refine Km.to ?_))
    | (intro _) | (refine Km.of ?_; dsimp only) | dsimp only | split)

theorem sigStatusWrite_km {d0 d : Dev} {x0 x1 x2 : _} (h : Km d0 d) : Km d0 (sigStatusWrite x0 x1 x2 d) := by
  unfold sigStatusWrite
  repeat' (first
    | (with_reducible (first
      | assumption | refine ite_km ?_ ?_ | refine Dev.dn_km ?_ | refine plainWrite_km ?_ | refine Km.to ?_))
    | (intro _) | (refine Km.of ?_; dsimp only) | dsimp only | split)

theorem sqOwned_km {d0 d : Dev} {x0 x1 x3 : _} (h3 : ∀ e, Km d0 e → Km d0 (x3 e)) (h : Km d0 d) :
    Km d0 (sqOwned x0 x1 d x3) := by
  unfold sqOwned
  repeat' (first
    | (with_reducible (first
      | assumption | refine ite_km ?_ ?_ | refine h3 _ ?_ | refine h3 _ _ ?_ | refine Dev.up_km ?_
      | refine Km.to ?_))
    | (intro _) | (refine Km.of ?_; dsimp only) | dsimp only | split)

theorem sqCtrlWrite_km {d0 d : Dev} {x0 x1 x3 : _} (h3 : ∀ e, Km d0 e → Km d0 (x3 e)) (h : Km d0 d) :
    Km d0 (sqCtrlWrite x0 x1 d x3) := by
  unfold sqCtrlWrite
  repeat' (first
    | (with_reducible (first
      | assumption | refine ite_km ?_ ?_ | refine h3 _ ?_ | refine h3 _ _ ?_ | refine Dev.up_km ?_
      | refine Km.to ?_))
    | (intro _) | (refine Km.of ?_; dsimp only) | dsimp only | split)

theorem sqBaseWrite_km {d0 d : Dev} {x0 x2 : _} (h2 : ∀ e, Km d0 e → Km d0 (x2 e)) (h : Km d0 d) :
    Km d0 (sqBaseWrite x0 d x2) := by
  unfold sqBaseWrite
  repeat' (first
    | (with_reducible (first
      | assumption | refine ite_km ?_ ?_ | refine h2 _ ?_ | refine h2 _ _ ?_ | refine Dev.up_km ?_
      | refine Km.to ?_))
    | (intro _) | (refine Km.of ?_; dsimp only) | dsimp only | split)

theorem Dev.sqIdle_km {d0 d : Dev} {x1 : _} (h : Km d0 d) : Km d0 (Dev.sqIdle d x1) := by
  unfold Dev.sqIdle
  repeat' (first
    | (with_reducible (first
      | assumption | refine ite_km ?_ ?_ | refine Dev.sg_km ?_ | refine Km.to ?_))
    | (intro _) | (refine Km.of ?_; dsimp only) | dsimp only | split)

theorem sqTailWrite_km {d0 d : Dev} {x0 x1 : _} (h : Km d0 d) : Km d0 (sqTailWrite x0 x1 d) := by
  unfold sqTailWrite
  repeat' (first
    | (with_reducible (first
      | assumption | refine ite_km ?_ ?_ | refine Dev.sg_km ?_ | refine Dev.sqIdle_km ?_ | refine Dev.up_km ?_
      | refine Km.to ?_))
    | (intro _) | (refine Km.of ?_; dsimp only) | dsimp only | split)

theorem sqWrite_km {d0 d : Dev} {x0 x1 x2 x3 x4 x5 : _} (h : Km d0 d) : Km d0 (sqWrite x0 x1 x2 x3 x4 x5 d) := by
  unfold sqWrite
  repeat' (first
    | (with_reducible (first
      | assumption | refine ite_km ?_ ?_ | refine sqTailWrite_km ?_ | refine Dev.restoreIf_km ?_
      | refine sqBaseWrite_km ?_ ?_ | refine plainWrite_km ?_ | refine sqCtrlWrite_km ?_ ?_
      | refine sqOwned_km ?_ ?_ | refine Km.to ?_))
    | (intro _) | (refine Km.of ?_; dsimp only) | dsimp only | split)

theorem dmaEngineCtrl_km {d0 d : Dev} {x0 : _} (h : Km d0 d) : Km d0 (dmaEngineCtrl x0 d) := by
  unfold dmaEngineCtrl
  repeat' (first
    | (with_reducible (first
      | assumption | refine ite_km ?_ ?_ | refine Dev.dn_km ?_ | refine Dev.up_km ?_ | refine Dev.sg_km ?_
      | refine Km.to ?_))
    | (intro _) | (refine Km.of ?_; dsimp only) | dsimp only | split)

theorem dmaDescWrite_km {d0 d : Dev} {x0 x2 : _} (h2 : ∀ e, Km d0 e → Km d0 (x2 e)) (h : Km d0 d) :
    Km d0 (dmaDescWrite x0 d x2) := by
  unfold dmaDescWrite
  repeat' (first
    | (with_reducible (first
      | assumption | refine ite_km ?_ ?_ | refine h2 _ ?_ | refine h2 _ _ ?_ | refine Dev.up_km ?_
      | refine Km.to ?_))
    | (intro _) | (refine Km.of ?_; dsimp only) | dsimp only | split)

theorem Dev.dmaShow_km {d0 d : Dev} (h : Km d0 d) : Km d0 (Dev.dmaShow d) := by
  unfold Dev.dmaShow
  repeat' (first
    | (with_reducible (first
      | assumption | refine ite_km ?_ ?_ | refine Dev.sg_km ?_ | refine Dev.restShow_km ?_ | refine Km.to ?_))
    | (intro _) | (refine Km.of ?_; dsimp only) | dsimp only | split)

theorem Dev.dmaTo_km {d0 d : Dev} {x1 x2 : _} (h : Km d0 d) : Km d0 (Dev.dmaTo d x1 x2) := by
  unfold Dev.dmaTo
  repeat' (first
    | (with_reducible (first
      | assumption | refine ite_km ?_ ?_ | refine Dev.sg_km ?_ | refine Dev.dmaShow_km ?_ | refine Km.to ?_))
    | (intro _) | (refine Km.of ?_; dsimp only) | dsimp only | split)

theorem Dev.dmaHaltAll_km {d0 d : Dev} {x1 x2 x3 : _} (h3 : ∀ y0 e, Km d0 e → Km d0 (x3 y0 e)) (h : Km d0 d) :
    Km d0 (Dev.dmaHaltAll d x1 x2 x3) := by
  unfold Dev.dmaHaltAll
  repeat' (first
    | (with_reducible (first
      | assumption | refine ite_km ?_ ?_ | refine h3 _ ?_ | refine h3 _ _ ?_ | refine Dev.each_km ?_ ?_
      | refine Dev.logE_km ?_ | refine Dev.msix_km ?_ | refine Dev.faultSum_km ?_ | refine Dev.attn_km ?_
      | refine Dev.up_km ?_ | refine Dev.sg_km ?_ | refine Dev.incSat_km ?_ | refine Km.to ?_))
    | (intro _) | (refine Km.of ?_; dsimp only) | dsimp only | split)

theorem Dev.signalSet_km {d0 d : Dev} {x1 x2 : _} (h : Km d0 d) : Km d0 (Dev.signalSet d x1 x2) := by
  unfold Dev.signalSet
  repeat' (first
    | (with_reducible (first
      | assumption | refine ite_km ?_ ?_ | refine Dev.fenceNow_km ?_ | refine Dev.up_km ?_ | refine Km.to ?_))
    | (intro _) | (refine Km.of ?_; dsimp only) | dsimp only | split)

theorem Dev.surfErr_km {d0 d : Dev} {x1 : _} (h : Km d0 d) : Km d0 (Dev.surfErr d x1) := by
  unfold Dev.surfErr
  repeat' (first
    | (with_reducible (first
      | assumption | refine ite_km ?_ ?_ | refine Dev.capture_km ?_ | refine Km.to ?_))
    | (intro _) | (refine Km.of ?_; dsimp only) | dsimp only | split)

theorem Dev.protFlags_km {d0 d : Dev} {x1 x2 : _} (h : Km d0 d) : Km d0 (Dev.protFlags d x1 x2) := by
  unfold Dev.protFlags
  repeat' (first
    | (with_reducible (first
      | assumption | refine ite_km ?_ ?_ | refine Dev.each_km ?_ ?_ | refine Dev.up_km ?_
      | refine Dev.surfErr_km ?_ | refine Dev.onlyIf_km ?_ ?_ | refine Km.to ?_))
    | (intro _) | (refine Km.of ?_; dsimp only) | dsimp only | split)

theorem chkOwned_km {d0 d : Dev} {x0 x1 x3 : _} (h3 : ∀ e, Km d0 e → Km d0 (x3 e)) (h : Km d0 d) :
    Km d0 (chkOwned x0 x1 d x3) := by
  unfold chkOwned
  repeat' (first
    | (with_reducible (first
      | assumption | refine ite_km ?_ ?_ | refine h3 _ ?_ | refine h3 _ _ ?_ | refine Dev.up_km ?_
      | refine Km.to ?_))
    | (intro _) | (refine Km.of ?_; dsimp only) | dsimp only | split)

theorem chkAlg_km {d0 d : Dev} {x0 x1 : _} (h : Km d0 d) : Km d0 (chkAlg x0 x1 d) := by
  unfold chkAlg
  repeat' (first
    | (with_reducible (first
      | assumption | refine ite_km ?_ ?_ | refine Dev.sg_km ?_ | refine Dev.up_km ?_ | refine Km.to ?_))
    | (intro _) | (refine Km.of ?_; dsimp only) | dsimp only | split)

theorem Dev.putChk_km {d0 d : Dev} {x1 x2 : _} (h : Km d0 d) : Km d0 (Dev.putChk d x1 x2) := by
  unfold Dev.putChk
  repeat' (first
    | (with_reducible (first
      | assumption | refine ite_km ?_ ?_ | refine Dev.sg_km ?_ | refine Km.to ?_))
    | (intro _) | (refine Km.of ?_; dsimp only) | dsimp only | split)

theorem chkCtrl_km {d0 d : Dev} {x0 x1 x2 : _} (h : Km d0 d) : Km d0 (chkCtrl x0 x1 x2 d) := by
  unfold chkCtrl
  repeat' (first
    | (with_reducible (first
      | assumption | refine ite_km ?_ ?_ | refine Dev.putChk_km ?_ | refine chkAlg_km ?_
      | refine chkOwned_km ?_ ?_ | refine Km.to ?_))
    | (intro _) | (refine Km.of ?_; dsimp only) | dsimp only | split)

theorem chkFeed_km {d0 d : Dev} {x0 x1 x2 x3 : _} (h : Km d0 d) : Km d0 (chkFeed x0 x1 x2 x3 d) := by
  unfold chkFeed
  repeat' (first
    | (with_reducible (first
      | assumption | refine ite_km ?_ ?_ | refine foldFst_km ?_ ?_ | refine foldl_km ?_ ?_
      | refine Dev.putChk_km ?_ | refine chkOwned_km ?_ ?_ | refine Km.to ?_))
    | (intro _) | (refine Km.of ?_; dsimp only) | dsimp only | split)

theorem chkStateWrite_km {d0 d : Dev} {x0 x1 x2 : _} (h : Km d0 d) : Km d0 (chkStateWrite x0 x1 x2 d) := by
  unfold chkStateWrite
  repeat' (first
    | (with_reducible (first
      | assumption | refine ite_km ?_ ?_ | refine Dev.sg_km ?_ | refine chkOwned_km ?_ ?_ | refine Km.to ?_))
    | (intro _) | (refine Km.of ?_; dsimp only) | dsimp only | split)

end Sys2Proof.Machine
end

