-- ==== Sys2Proof/Laws/DramC.lean ====
section
/-! SUPPORT.  Operations that leave DRAM as it was, part 3 of 4: one lemma for each operation that returns a device. -/

set_option linter.unusedTactic false
set_option linter.unreachableTactic false

namespace Sys2Proof.Machine

theorem chkWrite_km {d0 d : Dev} {x0 x1 x2 x3 x4 x5 : _} (h : Km d0 d) : Km d0 (chkWrite x0 x1 x2 x3 x4 x5 d) := by
  unfold chkWrite
  repeat' (first
    | (with_reducible (first
      | assumption | refine ite_km ?_ ?_ | refine plainWrite_km ?_ | refine chkStateWrite_km ?_
      | refine chkFeed_km ?_ | refine chkCtrl_km ?_ | refine Dev.restoreIf_km ?_ | refine chkOwned_km ?_ ?_
      | refine Km.to ?_))
    | (intro _) | (refine Km.of ?_; dsimp only) | dsimp only | split)

theorem Dev.cmdTaken_km {d0 d : Dev} {x1 : _} (h : Km d0 d) : Km d0 (Dev.cmdTaken d x1) := by
  unfold Dev.cmdTaken
  repeat' (first
    | (with_reducible (first
      | assumption | refine ite_km ?_ ?_ | refine Km.to ?_))
    | (intro _) | (refine Km.of ?_; dsimp only) | dsimp only | split)

theorem Dev.ifIdle_km {d0 d : Dev} {x1 x2 : _} (h2 : ∀ e, Km d0 e → Km d0 (x2 e)) (h : Km d0 d) :
    Km d0 (Dev.ifIdle d x1 x2) := by
  unfold Dev.ifIdle
  repeat' (first
    | (with_reducible (first
      | assumption | refine ite_km ?_ ?_ | refine h2 _ ?_ | refine h2 _ _ ?_ | refine Dev.cmdTaken_km ?_
      | refine Dev.up_km ?_ | refine Km.to ?_))
    | (intro _) | (refine Km.of ?_; dsimp only) | dsimp only | split)

theorem Dev.surfResult_km {d0 d : Dev} {x1 x2 x3 : _} (h : Km d0 d) : Km d0 (Dev.surfResult d x1 x2 x3) := by
  unfold Dev.surfResult
  repeat' (first
    | (with_reducible (first
      | assumption | refine ite_km ?_ ?_ | refine Dev.sg_km ?_ | refine Dev.up_km ?_ | refine Km.to ?_))
    | (intro _) | (refine Km.of ?_; dsimp only) | dsimp only | split)

theorem surfCmdRegister_km {d0 d : Dev} {x0 x1 : _} (h : Km d0 d) : Km d0 (surfCmdRegister x0 x1 d) := by
  unfold surfCmdRegister
  repeat' (first
    | (with_reducible (first
      | assumption | refine ite_km ?_ ?_ | refine Dev.surfResult_km ?_ | refine Dev.register_km ?_
      | refine Km.to ?_))
    | (intro _) | (refine Km.of ?_; dsimp only) | dsimp only | split)

theorem surfCmdUnregister_km {d0 d : Dev} {x0 x1 : _} (h : Km d0 d) : Km d0 (surfCmdUnregister x0 x1 d) := by
  unfold surfCmdUnregister
  repeat' (first
    | (with_reducible (first
      | assumption | refine ite_km ?_ ?_ | refine Dev.surfResult_km ?_ | refine Dev.unregister_km ?_
      | refine Km.to ?_))
    | (intro _) | (refine Km.of ?_; dsimp only) | dsimp only | split)

theorem Dev.clearTorn_km {d0 d : Dev} {x1 : _} (h : Km d0 d) : Km d0 (Dev.clearTorn d x1).2 := by
  unfold Dev.clearTorn
  repeat' (first
    | (with_reducible (first
      | assumption | refine ite_km ?_ ?_ | refine Dev.putSurf_km ?_ | refine Km.to ?_))
    | (intro _) | (refine Km.of ?_; dsimp only) | dsimp only | split)

theorem surfCmdClearTorn_km {d0 d : Dev} {x0 x1 : _} (h : Km d0 d) : Km d0 (surfCmdClearTorn x0 x1 d) := by
  unfold surfCmdClearTorn
  repeat' (first
    | (with_reducible (first
      | assumption | refine ite_km ?_ ?_ | refine Dev.surfResult_km ?_ | refine Dev.clearTorn_km ?_
      | refine Km.to ?_))
    | (intro _) | (refine Km.of ?_; dsimp only) | dsimp only | split)

theorem surfCmdBadOp_km {d0 d : Dev} {x0 x1 : _} (h : Km d0 d) : Km d0 (surfCmdBadOp x0 x1 d) := by
  unfold surfCmdBadOp
  repeat' (first
    | (with_reducible (first
      | assumption | refine ite_km ?_ ?_ | refine Dev.surfResult_km ?_ | refine Km.to ?_))
    | (intro _) | (refine Km.of ?_; dsimp only) | dsimp only | split)

theorem surfCmdWrite_km {d0 d : Dev} {x0 x1 : _} (h : Km d0 d) : Km d0 (surfCmdWrite x0 x1 d) := by
  unfold surfCmdWrite
  repeat' (first
    | (with_reducible (first
      | assumption | refine ite_km ?_ ?_ | refine surfCmdBadOp_km ?_ | refine surfCmdClearTorn_km ?_
      | refine surfCmdUnregister_km ?_ | refine surfCmdRegister_km ?_ | refine Dev.ifIdle_km ?_ ?_
      | refine Km.to ?_))
    | (intro _) | (refine Km.of ?_; dsimp only) | dsimp only | split)

theorem Dev.fenceOcc_km {d0 d : Dev} {x1 : _} (h : Km d0 d) : Km d0 (Dev.fenceOcc d x1) := by
  unfold Dev.fenceOcc
  repeat' (first
    | (with_reducible (first
      | assumption | refine ite_km ?_ ?_ | refine Dev.occupancy_km ?_ | refine Km.to ?_))
    | (intro _) | (refine Km.of ?_; dsimp only) | dsimp only | split)

theorem Dev.fenceAllocate_km {d0 d : Dev} {x1 x2 x3 : _} (h : Km d0 d) :
    Km d0 (Dev.fenceAllocate d x1 x2 x3).2.2 := by
  unfold Dev.fenceAllocate
  repeat' (first
    | (with_reducible (first
      | assumption | refine ite_km ?_ ?_ | refine Dev.fenceOcc_km ?_ | refine Dev.fenceNow_km ?_
      | refine Dev.up_km ?_ | refine Km.to ?_))
    | (intro _) | (refine Km.of ?_; dsimp only) | dsimp only | split)

theorem Dev.fenceResult_km {d0 d : Dev} {x1 x2 x3 : _} (h : Km d0 d) : Km d0 (Dev.fenceResult d x1 x2 x3) := by
  unfold Dev.fenceResult
  repeat' (first
    | (with_reducible (first
      | assumption | refine ite_km ?_ ?_ | refine Dev.sg_km ?_ | refine Dev.up_km ?_ | refine Km.to ?_))
    | (intro _) | (refine Km.of ?_; dsimp only) | dsimp only | split)

theorem fenceCmdAlloc_km {d0 d : Dev} {x0 x1 : _} (h : Km d0 d) : Km d0 (fenceCmdAlloc x0 x1 d) := by
  unfold fenceCmdAlloc
  repeat' (first
    | (with_reducible (first
      | assumption | refine ite_km ?_ ?_ | refine Dev.fenceResult_km ?_ | refine Dev.fenceAllocate_km ?_
      | refine Km.to ?_))
    | (intro _) | (refine Km.of ?_; dsimp only) | dsimp only | split)

theorem Dev.fenceRelease_km {d0 d : Dev} {x1 : _} (h : Km d0 d) : Km d0 (Dev.fenceRelease d x1).2 := by
  unfold Dev.fenceRelease
  repeat' (first
    | (with_reducible (first
      | assumption | refine ite_km ?_ ?_ | refine Dev.fenceOcc_km ?_ | refine Dev.fenceNow_km ?_ | refine Km.to ?_))
    | (intro _) | (refine Km.of ?_; dsimp only) | dsimp only | split)

theorem fenceCmdFree_km {d0 d : Dev} {x0 x1 : _} (h : Km d0 d) : Km d0 (fenceCmdFree x0 x1 d) := by
  unfold fenceCmdFree
  repeat' (first
    | (with_reducible (first
      | assumption | refine ite_km ?_ ?_ | refine Dev.fenceResult_km ?_ | refine Dev.fenceRelease_km ?_
      | refine Km.to ?_))
    | (intro _) | (refine Km.of ?_; dsimp only) | dsimp only | split)

theorem fenceCmdBadOp_km {d0 d : Dev} {x0 x1 : _} (h : Km d0 d) : Km d0 (fenceCmdBadOp x0 x1 d) := by
  unfold fenceCmdBadOp
  repeat' (first
    | (with_reducible (first
      | assumption | refine ite_km ?_ ?_ | refine Dev.fenceResult_km ?_ | refine Km.to ?_))
    | (intro _) | (refine Km.of ?_; dsimp only) | dsimp only | split)

theorem fenceCmdWrite_km {d0 d : Dev} {x0 x1 : _} (h : Km d0 d) : Km d0 (fenceCmdWrite x0 x1 d) := by
  unfold fenceCmdWrite
  repeat' (first
    | (with_reducible (first
      | assumption | refine ite_km ?_ ?_ | refine fenceCmdBadOp_km ?_ | refine fenceCmdFree_km ?_
      | refine fenceCmdAlloc_km ?_ | refine Dev.ifIdle_km ?_ ?_ | refine Km.to ?_))
    | (intro _) | (refine Km.of ?_; dsimp only) | dsimp only | split)

theorem Dev.doorbell_km {d0 d : Dev} {x1 x2 : _} (h : Km d0 d) : Km d0 (Dev.doorbell d x1 x2) := by
  unfold Dev.doorbell
  repeat' (first
    | (with_reducible (first
      | assumption | refine ite_km ?_ ?_ | refine Dev.fenceNow_km ?_ | refine Dev.up_km ?_ | refine Km.to ?_))
    | (intro _) | (refine Km.of ?_; dsimp only) | dsimp only | split)

theorem doorbellWrite_km {d0 d : Dev} {x0 : _} (h : Km d0 d) : Km d0 (doorbellWrite x0 d) := by
  unfold doorbellWrite
  repeat' (first
    | (with_reducible (first
      | assumption | refine ite_km ?_ ?_ | refine Dev.doorbell_km ?_ | refine Km.to ?_))
    | (intro _) | (refine Km.of ?_; dsimp only) | dsimp only | split)

theorem Dev.watchWritten_km {d0 d : Dev} {x1 : _} (h : Km d0 d) : Km d0 (Dev.watchWritten d x1) := by
  unfold Dev.watchWritten
  repeat' (first
    | (with_reducible (first
      | assumption | refine ite_km ?_ ?_ | refine Dev.watch_km ?_ | refine Km.to ?_))
    | (intro _) | (refine Km.of ?_; dsimp only) | dsimp only | split)

theorem fenceRegWrite_km {d0 d : Dev} {x0 x1 x2 x3 : _} (h : Km d0 d) : Km d0 (fenceRegWrite x0 x1 x2 x3 d) := by
  unfold fenceRegWrite
  repeat' (first
    | (with_reducible (first
      | assumption | refine ite_km ?_ ?_ | refine Dev.watch_km ?_ | refine Dev.watchWritten_km ?_
      | refine plainWrite_km ?_ | refine Km.to ?_))
    | (intro _) | (refine Km.of ?_; dsimp only) | dsimp only | split)

theorem Dev.moveTo_km {d0 d : Dev} {x1 : _} (h : Km d0 d) : Km d0 (Dev.moveTo d x1) := by
  unfold Dev.moveTo
  repeat' (first
    | (with_reducible (first
      | assumption | refine ite_km ?_ ?_ | refine Km.to ?_))
    | (intro _) | (refine Km.of ?_; dsimp only) | dsimp only | split)

theorem Dev.tapLines_km {d0 d : Dev} {x0 : Nat → List (List Byte)} {x1 : Nat → Bool} {l : List Nat} (h : Km d0 d) :
    Km d0 (Dev.tapLines x0 x1 l d).2 := by
  induction l generalizing d with
  | nil => exact h
  | cons y t ih =>
    unfold Dev.tapLines
    split
    · exact ih (Dev.freeLine_km h)
    · exact ih h

theorem Dev.wbWrites_km {d0 d : Dev} {x1 x2 x3 x4 : _} (h : Km d0 d) : Km d0 (Dev.wbWrites d x1 x2 x3 x4).2 := by
  unfold Dev.wbWrites
  repeat' (first
    | (with_reducible (first
      | assumption | refine ite_km ?_ ?_ | refine Dev.tapLines_km ?_ | refine Km.to ?_))
    | (intro _) | (refine Km.of ?_; dsimp only) | dsimp only | split)

theorem Dev.portsOff_km {d0 d : Dev} (h : Km d0 d) : Km d0 (Dev.portsOff d) := by
  unfold Dev.portsOff
  repeat' (first
    | (with_reducible (first
      | assumption | refine ite_km ?_ ?_ | refine Dev.each_km ?_ ?_ | refine Dev.dn_km ?_
      | refine Dev.hdcpTo_km ?_ | refine Dev.up_km ?_ | refine Km.to ?_))
    | (intro _) | (refine Km.of ?_; dsimp only) | dsimp only | split)

theorem Dev.logAll_km {d0 d : Dev} (h : Km d0 d) : Km d0 (Dev.logAll d) := by
  unfold Dev.logAll
  repeat' (first
    | (with_reducible (first
      | assumption | refine ite_km ?_ ?_ | refine Dev.each_km ?_ ?_ | refine Dev.logWrite_km ?_ | refine Km.to ?_))
    | (intro _) | (refine Km.of ?_; dsimp only) | dsimp only | split)

theorem Dev.abandon_km {d0 d : Dev} (h : Km d0 d) : Km d0 (Dev.abandon d) := by
  unfold Dev.abandon
  repeat' (first
    | (with_reducible (first
      | assumption | refine ite_km ?_ ?_ | refine Km.to ?_))
    | (intro _) | (refine Km.of ?_; dsimp only) | dsimp only | split)

theorem Dev.holdExit_km {d0 d : Dev} {x1 : _} (h : Km d0 d) : Km d0 (Dev.holdExit d x1) := by
  unfold Dev.holdExit
  repeat' (first
    | (with_reducible (first
      | assumption | refine ite_km ?_ ?_ | refine Dev.moveTo_km ?_ | refine Dev.up_km ?_ | refine Dev.sg_km ?_
      | refine Km.to ?_))
    | (intro _) | (refine Km.of ?_; dsimp only) | dsimp only | split)

theorem Dev.clearHist_km {d0 d : Dev} {x1 : _} (h : Km d0 d) : Km d0 (Dev.clearHist d x1) := by
  unfold Dev.clearHist
  repeat' (first
    | (with_reducible (first
      | assumption | refine ite_km ?_ ?_ | refine Km.to ?_))
    | (intro _) | (refine Km.of ?_; dsimp only) | dsimp only | split)

theorem Dev.raceEnd_km {d0 d : Dev} {x1 : _} (h : Km d0 d) : Km d0 (Dev.raceEnd d x1) := by
  unfold Dev.raceEnd
  repeat' (first
    | (with_reducible (first
      | assumption | refine ite_km ?_ ?_ | refine Km.to ?_))
    | (intro _) | (refine Km.of ?_; dsimp only) | dsimp only | split)

theorem Dev.releaseAll_km {d0 d : Dev} {x1 : _} (h : Km d0 d) : Km d0 (Dev.releaseAll d x1) := by
  unfold Dev.releaseAll
  repeat' (first
    | (with_reducible (first
      | assumption | refine ite_km ?_ ?_ | refine Dev.release_km ?_ | refine Km.to ?_))
    | (intro _) | (refine Km.of ?_; dsimp only) | dsimp only | split)

theorem Dev.holdOff_km {d0 d : Dev} {x1 : _} (h : Km d0 d) : Km d0 (Dev.holdOff d x1) := by
  unfold Dev.holdOff
  repeat' (first
    | (with_reducible (first
      | assumption | refine ite_km ?_ ?_ | refine Dev.putCrust_km ?_ | refine Dev.dn_km ?_ | refine Km.to ?_))
    | (intro _) | (refine Km.of ?_; dsimp only) | dsimp only | split)

theorem Dev.planeShow_km {d0 d : Dev} {x1 : _} (h : Km d0 d) : Km d0 (Dev.planeShow d x1) := by
  unfold Dev.planeShow
  repeat' (first
    | (with_reducible (first
      | assumption | refine ite_km ?_ ?_ | refine Dev.sg_km ?_ | refine Km.to ?_))
    | (intro _) | (refine Km.of ?_; dsimp only) | dsimp only | split)

theorem Dev.crustShow_km {d0 d : Dev} {x1 : _} (h : Km d0 d) : Km d0 (Dev.crustShow d x1) := by
  unfold Dev.crustShow
  repeat' (first
    | (with_reducible (first
      | assumption | refine ite_km ?_ ?_ | refine Dev.largeShow_km ?_ | refine Dev.sg_km ?_ | refine Km.to ?_))
    | (intro _) | (refine Km.of ?_; dsimp only) | dsimp only | split)

theorem Dev.dissolve_km {d0 d : Dev} {x1 x2 : _} (h : Km d0 d) : Km d0 (Dev.dissolve d x1 x2) := by
  unfold Dev.dissolve
  repeat' (first
    | (with_reducible (first
      | assumption | refine ite_km ?_ ?_ | refine Dev.each_km ?_ ?_ | refine Dev.putCrust_km ?_
      | refine Dev.crustShow_km ?_ | refine Dev.planeShow_km ?_ | refine Dev.storeShow_km ?_ | refine Dev.up_km ?_
      | refine Dev.onlyIf_km ?_ ?_ | refine Dev.dn_km ?_ | refine Km.to ?_))
    | (intro _) | (refine Km.of ?_; dsimp only) | dsimp only | split)

theorem Dev.safeBlackOff_km {d0 d : Dev} {x1 : _} (h : Km d0 d) : Km d0 (Dev.safeBlackOff d x1) := by
  unfold Dev.safeBlackOff
  repeat' (first
    | (with_reducible (first
      | assumption | refine ite_km ?_ ?_ | refine Dev.putPst_km ?_ | refine Dev.sg_km ?_ | refine Km.to ?_))
    | (intro _) | (refine Km.of ?_; dsimp only) | dsimp only | split)

theorem Dev.resetBanks_km {d0 d : Dev} {x1 : _} (h : Km d0 d) : Km d0 (Dev.resetBanks d x1) := by
  unfold Dev.resetBanks
  repeat' (first
    | (with_reducible (first
      | assumption | refine ite_km ?_ ?_ | refine foldFst_km ?_ ?_ | refine foldl_km ?_ ?_ | refine Km.to ?_))
    | (intro _) | (refine Km.of ?_; dsimp only) | dsimp only | split)

theorem Dev.surfReset_km {d0 d : Dev} (h : Km d0 d) : Km d0 (Dev.surfReset d) := by
  unfold Dev.surfReset
  repeat' (first
    | (with_reducible (first
      | assumption | refine ite_km ?_ ?_ | refine Dev.each_km ?_ ?_ | refine Dev.putSurf_km ?_
      | refine Dev.retire_km ?_ | refine Dev.lostSweep_km ?_ | refine Km.to ?_))
    | (intro _) | (refine Km.of ?_; dsimp only) | dsimp only | split)

theorem Dev.showAll_km {d0 d : Dev} (h : Km d0 d) : Km d0 (Dev.showAll d) := by
  unfold Dev.showAll
  repeat' (first
    | (with_reducible (first
      | assumption | refine ite_km ?_ ?_ | refine Dev.armShow_km ?_ | refine Dev.poolShow_km ?_
      | refine Dev.capShow_km ?_ | refine Km.to ?_))
    | (intro _) | (refine Km.of ?_; dsimp only) | dsimp only | split)

theorem Dev.keysOff_km {d0 d : Dev} (h : Km d0 d) : Km d0 (Dev.keysOff d) := by
  unfold Dev.keysOff
  repeat' (first
    | (with_reducible (first
      | assumption | refine ite_km ?_ ?_ | refine Dev.each_km ?_ ?_ | refine Dev.sg_km ?_ | refine Dev.up_km ?_
      | refine Dev.dn_km ?_ | refine Dev.hdcpTo_km ?_ | refine Km.to ?_))
    | (intro _) | (refine Km.of ?_; dsimp only) | dsimp only | split)

theorem Dev.w1cAt_km {d0 d : Dev} {x1 x2 : _} (h : Km d0 d) : Km d0 (Dev.w1cAt d x1 x2) := by
  unfold Dev.w1cAt
  repeat' (first
    | (with_reducible (first
      | assumption | refine ite_km ?_ ?_ | refine Dev.w1c_km ?_ | refine Km.to ?_))
    | (intro _) | (refine Km.of ?_; dsimp only) | dsimp only | split)

theorem Dev.slotStore_km {d0 d : Dev} {x1 x2 : _} (h : Km d0 d) : Km d0 (Dev.slotStore d x1 x2) := by
  unfold Dev.slotStore
  repeat' (first
    | (with_reducible (first
      | assumption | refine ite_km ?_ ?_ | refine Km.to ?_))
    | (intro _) | (refine Km.of ?_; dsimp only) | dsimp only | split)

theorem icpCmdTailWrite_km {d0 d : Dev} {x0 : _} (h : Km d0 d) : Km d0 (icpCmdTailWrite x0 d) := by
  unfold icpCmdTailWrite
  repeat' (first
    | (with_reducible (first
      | assumption | refine ite_km ?_ ?_ | refine Dev.sg_km ?_ | refine Dev.up_km ?_ | refine Km.to ?_))
    | (intro _) | (refine Km.of ?_; dsimp only) | dsimp only | split)

theorem icpRplHeadWrite_km {d0 d : Dev} {x0 : _} (h : Km d0 d) : Km d0 (icpRplHeadWrite x0 d) := by
  unfold icpRplHeadWrite
  repeat' (first
    | (with_reducible (first
      | assumption | refine ite_km ?_ ?_ | refine Dev.sg_km ?_ | refine Dev.up_km ?_ | refine Km.to ?_))
    | (intro _) | (refine Km.of ?_; dsimp only) | dsimp only | split)

theorem ringWrite_km {d0 d : Dev} {x0 x1 x2 x3 : _} (h : Km d0 d) : Km d0 (ringWrite x0 x1 x2 x3 d) := by
  unfold ringWrite
  repeat' (first
    | (with_reducible (first
      | assumption | refine ite_km ?_ ?_ | refine Dev.each_km ?_ ?_ | refine plainWrite_km ?_
      | refine icpRplHeadWrite_km ?_ | refine icpCmdTailWrite_km ?_ | refine Dev.restoreIf_km ?_
      | refine Dev.accErr_km ?_ | refine Dev.up_km ?_ | refine Dev.slotStore_km ?_ | refine Km.to ?_))
    | (intro _) | (refine Km.of ?_; dsimp only) | dsimp only | split)

theorem Dev.svcTake_km {d0 d : Dev} {x1 : _} (h : Km d0 d) : Km d0 (Dev.svcTake d x1).2 := by
  unfold Dev.svcTake
  repeat' (first
    | (with_reducible (first
      | assumption | refine ite_km ?_ ?_ | refine Km.to ?_))
    | (intro _) | (refine Km.of ?_; dsimp only) | dsimp only | split)

theorem Dev.chkRun_km {d0 d : Dev} {x1 x2 x3 : _} (h : Km d0 d) : Km d0 (Dev.chkRun d x1 x2 x3).2 := by
  unfold Dev.chkRun
  repeat' (first
    | (with_reducible (first
      | assumption | refine ite_km ?_ ?_ | refine foldFst_km ?_ ?_ | refine foldl_km ?_ ?_
      | refine Dev.putChk_km ?_ | refine Km.to ?_))
    | (intro _) | (refine Km.of ?_; dsimp only) | dsimp only | split)

theorem Dev.trailer_km {d0 d : Dev} {x1 : _} (h : Km d0 d) : Km d0 (Dev.trailer d x1).2 := by
  unfold Dev.trailer
  repeat' (first
    | (with_reducible (first
      | assumption | refine ite_km ?_ ?_ | refine Dev.chkRun_km ?_ | refine Km.to ?_))
    | (intro _) | (refine Km.of ?_; dsimp only) | dsimp only | split)

theorem Dev.putSide_km {d0 d : Dev} {x1 x2 : _} (h : Km d0 d) : Km d0 (Dev.putSide d x1 x2) := by
  unfold Dev.putSide
  repeat' (first
    | (with_reducible (first
      | assumption | refine ite_km ?_ ?_ | refine Km.to ?_))
    | (intro _) | (refine Km.of ?_; dsimp only) | dsimp only | split)

theorem Dev.post_km {d0 d : Dev} {x1 x2 x3 : _} (h : Km d0 d) : Km d0 (Dev.post d x1 x2 x3) := by
  unfold Dev.post
  repeat' (first
    | (with_reducible (first
      | assumption | refine ite_km ?_ ?_ | refine Dev.putSide_km ?_ | refine Dev.slotStore_km ?_
      | refine Dev.sg_km ?_ | refine Dev.msix_km ?_ | refine Dev.trailer_km ?_ | refine Km.to ?_))
    | (intro _) | (refine Km.of ?_; dsimp only) | dsimp only | split)

theorem Dev.resend_km {d0 d : Dev} {x1 x2 x3 : _} (h : Km d0 d) : Km d0 (Dev.resend d x1 x2 x3) := by
  unfold Dev.resend
  repeat' (first
    | (with_reducible (first
      | assumption | refine ite_km ?_ ?_ | refine Dev.post_km ?_ | refine Dev.svcTake_km ?_ | refine Km.to ?_))
    | (intro _) | (refine Km.of ?_; dsimp only) | dsimp only | split)

theorem Dev.layerData_km {d0 d : Dev} {x1 x2 : _} (h : Km d0 d) : Km d0 (Dev.layerData d x1 x2) := by
  unfold Dev.layerData
  repeat' (first
    | (with_reducible (first
      | assumption | refine ite_km ?_ ?_ | refine Dev.mark_km ?_ | refine Km.to ?_))
    | (intro _) | (refine Km.of ?_; dsimp only) | dsimp only | split)

theorem Dev.crustData_km {d0 d : Dev} {x1 x2 : _} (h : Km d0 d) : Km d0 (Dev.crustData d x1 x2) := by
  unfold Dev.crustData
  repeat' (first
    | (with_reducible (first
      | assumption | refine ite_km ?_ ?_ | refine Dev.mark_km ?_ | refine Km.to ?_))
    | (intro _) | (refine Km.of ?_; dsimp only) | dsimp only | split)

theorem storeParity_km {d0 d : Dev} {x0 x1 : _} (h : Km d0 d) : Km d0 (storeParity x0 x1 d) := by
  unfold storeParity
  repeat' (first
    | (with_reducible (first
      | assumption | refine ite_km ?_ ?_ | refine Dev.crustData_km ?_ | refine Dev.layerData_km ?_
      | refine Dev.up_km ?_ | refine Km.to ?_))
    | (intro _) | (refine Km.of ?_; dsimp only) | dsimp only | split)

theorem opSurfClearTorn_km {d0 d : Dev} {x0 : _} (h : Km d0 d) : AnsKm d0 (opSurfClearTorn x0 d) := by
  unfold opSurfClearTorn
  repeat' (first
    | (with_reducible (first
      | assumption | refine ite_km ?_ ?_ | refine AnsKm.mk ?_ ?_ | refine id_km ?_ | refine iteAns_km ?_ ?_
      | refine Dev.clearTorn_km ?_ | refine Km.to ?_))
    | (intro _) | (refine Km.of ?_; dsimp only) | dsimp only | split)

theorem Dev.lanes_km {d0 d : Dev} {x1 : _} (h : Km d0 d) : Km d0 (Dev.lanes d x1) := by
  unfold Dev.lanes
  repeat' (first
    | (with_reducible (first
      | assumption | refine ite_km ?_ ?_ | refine Dev.each_km ?_ ?_ | refine Dev.sg_km ?_ | refine Dev.draw_km ?_
      | refine Km.to ?_))
    | (intro _) | (refine Km.of ?_; dsimp only) | dsimp only | split)

theorem lutLoadComplete_km {d0 d : Dev} {x0 : _} (h : Km d0 d) : Km d0 (lutLoadComplete x0 d) := by
  unfold lutLoadComplete
  repeat' (first
    | (with_reducible (first
      | assumption | refine ite_km ?_ ?_ | refine Dev.sg_km ?_ | refine Km.to ?_))
    | (intro _) | (refine Km.of ?_; dsimp only) | dsimp only | split)

theorem Dev.testBegin_km {d0 d : Dev} {x1 : _} (h : Km d0 d) : Km d0 (Dev.testBegin d x1).1 := by
  unfold Dev.testBegin
  repeat' (first
    | (with_reducible (first
      | assumption | refine ite_km ?_ ?_ | refine Dev.sg_km ?_ | refine Dev.testNext_km ?_ | refine Km.to ?_))
    | (intro _) | (refine Km.of ?_; dsimp only) | dsimp only | split)

theorem lineZero_km {d0 d : Dev} {x0 : _} (h : Km d0 d) : Km d0 (lineZero x0 d) := by
  unfold lineZero
  repeat' (first
    | (with_reducible (first
      | assumption | refine ite_km ?_ ?_ | refine Dev.putFrame_km ?_ | refine Dev.up_km ?_
      | refine Dev.hdcpEnable_km ?_ | refine Dev.incSat_km ?_ | refine Dev.putPst_km ?_ | refine Km.to ?_))
    | (intro _) | (refine Km.of ?_; dsimp only) | dsimp only | split)

theorem Dev.ack_km {d0 d : Dev} {x1 x2 x3 : _} (h : Km d0 d) : Km d0 (Dev.ack d x1 x2 x3) := by
  unfold Dev.ack
  repeat' (first
    | (with_reducible (first
      | assumption | refine ite_km ?_ ?_ | refine Dev.sgWord_km ?_ | refine Km.to ?_))
    | (intro _) | (refine Km.of ?_; dsimp only) | dsimp only | split)

theorem Dev.cfgStore_km {d0 d : Dev} {x1 : _} (h : Km d0 d) : Km d0 (Dev.cfgStore d x1) := by
  unfold Dev.cfgStore
  repeat' (first
    | (with_reducible (first
      | assumption | refine ite_km ?_ ?_ | refine Dev.mramStore_km ?_ | refine Km.to ?_))
    | (intro _) | (refine Km.of ?_; dsimp only) | dsimp only | split)

theorem Dev.fwState_km {d0 d : Dev} {x1 x2 : _} (h : Km d0 d) : Km d0 (Dev.fwState d x1 x2) := by
  unfold Dev.fwState
  repeat' (first
    | (with_reducible (first
      | assumption | refine ite_km ?_ ?_ | refine Dev.slotTo_km ?_ | refine Km.to ?_))
    | (intro _) | (refine Km.of ?_; dsimp only) | dsimp only | split)

theorem Dev.fwCommitDo_km {d0 d : Dev} {x1 : _} (h : Km d0 d) : Km d0 (Dev.fwCommitDo d x1).2 := by
  unfold Dev.fwCommitDo
  repeat' (first
    | (with_reducible (first
      | assumption | refine ite_km ?_ ?_ | refine Dev.onlyIf_km ?_ ?_ | refine Dev.attn_km ?_
      | refine Dev.fwState_km ?_ | refine Dev.cfgStore_km ?_ | refine Dev.sg_km ?_ | refine Dev.abandon_km ?_
      | refine Km.to ?_))
    | (intro _) | (refine Km.of ?_; dsimp only) | dsimp only | split)

theorem opFwCommit_km {d0 d : Dev} {x0 : _} (h : Km d0 d) : AnsKm d0 (opFwCommit x0 d) := by
  unfold opFwCommit
  repeat' (first
    | (with_reducible (first
      | assumption | refine ite_km ?_ ?_ | refine AnsKm.mk ?_ ?_ | refine id_km ?_ | refine iteAns_km ?_ ?_
      | refine Dev.fwCommitDo_km ?_ | refine Km.to ?_))
    | (intro _) | (refine Km.of ?_; dsimp only) | dsimp only | split)

theorem Dev.svcQueue_km {d0 d : Dev} {x1 : _} (h : Km d0 d) : Km d0 (Dev.svcQueue d x1) := by
  unfold Dev.svcQueue
  repeat' (first
    | (with_reducible (first
      | assumption | refine ite_km ?_ ?_ | refine Km.to ?_))
    | (intro _) | (refine Km.of ?_; dsimp only) | dsimp only | split)

theorem icpRingTake_km {d0 d : Dev} (h : Km d0 d) : Km d0 (icpRingTake d) := by
  unfold icpRingTake
  repeat' (first
    | (with_reducible (first
      | assumption | refine ite_km ?_ ?_ | refine Dev.svcQueue_km ?_ | refine Dev.sg_km ?_ | refine Km.to ?_))
    | (intro _) | (refine Km.of ?_; dsimp only) | dsimp only | split)

theorem Dev.ownerBegin_km {d0 d : Dev} {x1 : _} (h : Km d0 d) : Km d0 (Dev.ownerBegin d x1) := by
  unfold Dev.ownerBegin
  repeat' (first
    | (with_reducible (first
      | assumption | refine ite_km ?_ ?_ | refine Dev.ownerStep_km ?_ | refine Dev.up_km ?_ | refine Km.to ?_))
    | (intro _) | (refine Km.of ?_; dsimp only) | dsimp only | split)

theorem opPipeHandover_km {d0 d : Dev} {x0 : _} (h : Km d0 d) : AnsKm d0 (opPipeHandover x0 d) := by
  unfold opPipeHandover
  repeat' (first
    | (with_reducible (first
      | assumption | refine ite_km ?_ ?_ | refine AnsKm.mk ?_ ?_ | refine id_km ?_ | refine iteAns_km ?_ ?_
      | refine Dev.overlaysOn_km ?_ | refine Dev.ownerBegin_km ?_ | refine Dev.putSvc_km ?_ | refine Km.to ?_))
    | (intro _) | (refine Km.of ?_; dsimp only) | dsimp only | split)

theorem Dev.lineShow_km {d0 d : Dev} {x1 : _} (h : Km d0 d) : Km d0 (Dev.lineShow d x1) := by
  unfold Dev.lineShow
  repeat' (first
    | (with_reducible (first
      | assumption | refine ite_km ?_ ?_ | refine Dev.dn_km ?_ | refine Dev.draw_km ?_ | refine Dev.sg_km ?_
      | refine Km.to ?_))
    | (intro _) | (refine Km.of ?_; dsimp only) | dsimp only | split)

theorem Dev.setLatch_km {d0 d : Dev} {x1 x2 x3 : _} (h : Km d0 d) : Km d0 (Dev.setLatch d x1 x2 x3) := by
  unfold Dev.setLatch
  repeat' (first
    | (with_reducible (first
      | assumption | refine ite_km ?_ ?_ | refine Km.to ?_))
    | (intro _) | (refine Km.of ?_; dsimp only) | dsimp only | split)

theorem Dev.readWord_km {d0 d : Dev} {x1 x2 x3 : _} (h : Km d0 d) : Km d0 (Dev.readWord d x1 x2 x3).2 := by
  unfold Dev.readWord
  repeat' (first
    | (with_reducible (first
      | assumption | refine ite_km ?_ ?_ | refine Dev.setLatch_km ?_ | refine Km.to ?_))
    | (intro _) | (refine Km.of ?_; dsimp only) | dsimp only | split)

theorem readNow_km {d0 d : Dev} {x0 x1 x2 : _} (h : Km d0 d) : Km d0 (readNow x0 x1 x2 d) := by
  unfold readNow
  repeat' (first
    | (with_reducible (first
      | assumption | refine ite_km ?_ ?_ | refine Dev.readWord_km ?_ | refine Dev.lineShow_km ?_
      | refine Dev.accErr_km ?_ | refine Dev.send_km ?_ | refine Km.to ?_))
    | (intro _) | (refine Km.of ?_; dsimp only) | dsimp only | split)

theorem regRead_km {d0 d : Dev} {x0 x1 x2 : _} (h : Km d0 d) : Km d0 (regRead x0 x1 x2 d) := by
  unfold regRead
  repeat' (first
    | (with_reducible (first
      | assumption | refine ite_km ?_ ?_ | refine readNow_km ?_ | refine Km.to ?_))
    | (intro _) | (refine Km.of ?_; dsimp only) | dsimp only | split)

theorem pairRead_km {d0 d : Dev} {x0 x1 x2 : _} (h : Km d0 d) : Km d0 (pairRead x0 x1 x2 d) := by
  unfold pairRead
  repeat' (first
    | (with_reducible (first
      | assumption | refine ite_km ?_ ?_ | refine regRead_km ?_ | refine Km.to ?_))
    | (intro _) | (refine Km.of ?_; dsimp only) | dsimp only | split)

theorem Dev.overlayFit_km {d0 d : Dev} {x1 x2 : _} (h : Km d0 d) : Km d0 (Dev.overlayFit d x1 x2) := by
  unfold Dev.overlayFit
  repeat' (first
    | (with_reducible (first
      | assumption | refine ite_km ?_ ?_ | refine Dev.each_km ?_ ?_ | refine Dev.unregister_km ?_
      | refine Dev.register_km ?_ | refine Km.to ?_))
    | (intro _) | (refine Km.of ?_; dsimp only) | dsimp only | split)

theorem fenceUpset_km {d0 d : Dev} {x0 : _} (h : Km d0 d) : Km d0 (fenceUpset x0 d) := by
  unfold fenceUpset
  repeat' (first
    | (with_reducible (first
      | assumption | refine ite_km ?_ ?_ | refine Dev.up_km ?_ | refine Dev.capture_km ?_
      | refine Dev.logOpen_km ?_ | refine Dev.fenceNow_km ?_ | refine Km.to ?_))
    | (intro _) | (refine Km.of ?_; dsimp only) | dsimp only | split)

theorem Dev.sliceOff_km {d0 d : Dev} (h : Km d0 d) : Km d0 (Dev.sliceOff d) := by
  unfold Dev.sliceOff
  repeat' (first
    | (with_reducible (first
      | assumption | refine ite_km ?_ ?_ | refine Dev.dn_km ?_ | refine Km.to ?_))
    | (intro _) | (refine Km.of ?_; dsimp only) | dsimp only | split)

theorem Dev.resume_km {d0 d : Dev} (h : Km d0 d) : Km d0 (Dev.resume d) := by
  unfold Dev.resume
  repeat' (first
    | (with_reducible (first
      | assumption | refine ite_km ?_ ?_ | refine Dev.each_km ?_ ?_ | refine Dev.stopTake_km ?_
      | refine Dev.startPipe_km ?_ | refine Dev.putPst_km ?_ | refine Dev.armShow_km ?_ | refine Km.to ?_))
    | (intro _) | (refine Km.of ?_; dsimp only) | dsimp only | split)

theorem Dev.testStop_km {d0 d : Dev} (h : Km d0 d) : Km d0 (Dev.testStop d) := by
  unfold Dev.testStop
  repeat' (first
    | (with_reducible (first
      | assumption | refine ite_km ?_ ?_ | refine Dev.resume_km ?_ | refine Dev.sliceOff_km ?_
      | refine Dev.up_km ?_ | refine Dev.sg_km ?_ | refine Km.to ?_))
    | (intro _) | (refine Km.of ?_; dsimp only) | dsimp only | split)

theorem Dev.refusePacket_km {d0 d : Dev} {x1 x2 x3 x4 x5 x6 : _} (h : Km d0 d) :
    Km d0 (Dev.refusePacket d x1 x2 x3 x4 x5 x6) := by
  unfold Dev.refusePacket
  repeat' (first
    | (with_reducible (first
      | assumption | refine ite_km ?_ ?_ | refine Dev.post_km ?_ | refine Dev.svcTake_km ?_ | refine Km.to ?_))
    | (intro _) | (refine Km.of ?_; dsimp only) | dsimp only | split)

theorem Dev.svcStage_km {d0 d : Dev} {x1 x2 : _} (h : Km d0 d) : Km d0 (Dev.svcStage d x1 x2) := by
  unfold Dev.svcStage
  repeat' (first
    | (with_reducible (first
      | assumption | refine ite_km ?_ ?_ | refine Km.to ?_))
    | (intro _) | (refine Km.of ?_; dsimp only) | dsimp only | split)

theorem Dev.packetTests_km {d0 d : Dev} {x1 x2 : _} (h : Km d0 d) : Km d0 (Dev.packetTests d x1 x2) := by
  unfold Dev.packetTests
  repeat' (first
    | (with_reducible (first
      | assumption | refine ite_km ?_ ?_ | refine Dev.svcStage_km ?_ | refine Dev.resend_km ?_
      | refine Dev.trailer_km ?_ | refine Dev.refusePacket_km ?_ | refine Km.to ?_))
    | (intro _) | (refine Km.of ?_; dsimp only) | dsimp only | split)

theorem Dev.settle_km {d0 d : Dev} {tr : Tr} {n : Nat} (h : Km d0 d) : Km d0 (d.settle tr n) := by
  induction n generalizing d with
  | zero => exact h
  | succ n ih =>
    unfold Dev.settle
    split
    · split
      · exact ih (Dev.packetTests_km h)
      · exact h
    · exact h

theorem Dev.settleAll_km {d0 d : Dev} {x1 : _} (h : Km d0 d) : Km d0 (Dev.settleAll d x1) := by
  unfold Dev.settleAll
  repeat' (first
    | (with_reducible (first
      | assumption | refine ite_km ?_ ?_ | refine Dev.settle_km ?_ | refine Km.to ?_))
    | (intro _) | (refine Km.of ?_; dsimp only) | dsimp only | split)

theorem Dev.storeReply_km {d0 d : Dev} {x1 x2 : _} (h : Km d0 d) : Km d0 (Dev.storeReply d x1 x2) := by
  unfold Dev.storeReply
  repeat' (first
    | (with_reducible (first
      | assumption | refine ite_km ?_ ?_ | refine Km.to ?_))
    | (intro _) | (refine Km.of ?_; dsimp only) | dsimp only | split)

theorem Dev.reply_km {d0 d : Dev} {x1 x2 x3 x4 x5 x6 x7 : _} (h : Km d0 d) :
    Km d0 (Dev.reply d x1 x2 x3 x4 x5 x6 x7) := by
  unfold Dev.reply
  repeat' (first
    | (with_reducible (first
      | assumption | refine ite_km ?_ ?_ | refine Dev.post_km ?_ | refine Dev.storeReply_km ?_
      | refine Dev.svcTake_km ?_ | refine Km.to ?_))
    | (intro _) | (refine Km.of ?_; dsimp only) | dsimp only | split)

theorem Dev.answer_km {d0 d : Dev} {x1 x2 x3 x4 x5 x6 x7 : _} (h : Km d0 d) :
    Km d0 (Dev.answer d x1 x2 x3 x4 x5 x6 x7) := by
  unfold Dev.answer
  repeat' (first
    | (with_reducible (first
      | assumption | refine ite_km ?_ ?_ | refine Dev.reply_km ?_ | refine Dev.settleAll_km ?_ | refine Km.to ?_))
    | (intro _) | (refine Km.of ?_; dsimp only) | dsimp only | split)

theorem Dev.fwResume_km {d0 d : Dev} (h : Km d0 d) : Km d0 (Dev.fwResume d) := by
  unfold Dev.fwResume
  repeat' (first
    | (with_reducible (first
      | assumption | refine ite_km ?_ ?_ | refine Dev.hpdServe_km ?_ | refine Km.to ?_))
    | (intro _) | (refine Km.of ?_; dsimp only) | dsimp only | split)

theorem icpRun_km {d0 d : Dev} {op : Nat} {bad : List Nat → Bool} {f : List Nat → Dev → Ans} {tr : Tr} {seq :
    BitVec 16}
    {ps : List Word} (hf : ∀ p e, Km d0 e → AnsKm d0 (f p e)) (h : Km d0 d) :
    Km d0 (icpRun op bad f tr seq ps d) := by
  unfold icpRun
  extract_lets q d1 e p
  split
  · exact h
  have he : Km d0 e := ite_km (Dev.testStop_km (Dev.fwResume_km h)) (Dev.fwResume_km h)
  have ha := hf p e he
  split
  · exact he
  · split
    · exact Dev.answer_km he
    · refine ite_km (Dev.answer_km he) (ite_km (Dev.answer_km he) (ite_km (Dev.answer_km ha.1) (ite_km ?_ ?_)))
      · exact Km.of ha.1.to
      · exact ha.2 _ (Dev.answer_km ha.1)

theorem opHdcpTopology_km {d0 d : Dev} {x0 x1 : _} (h : Km d0 d) : AnsKm d0 (opHdcpTopology x0 x1 d) := by
  unfold opHdcpTopology
  repeat' (first
    | (with_reducible (first
      | assumption | refine ite_km ?_ ?_ | refine AnsKm.mk ?_ ?_ | refine id_km ?_ | refine iteAns_km ?_ ?_
      | refine Km.to ?_))
    | (intro _) | (refine Km.of ?_; dsimp only) | dsimp only | split)

theorem brownoutWarn_km {d0 d : Dev} {x0 : _} (h : Km d0 d) : Km d0 (brownoutWarn x0 d) := by
  unfold brownoutWarn
  repeat' (first
    | (with_reducible (first
      | assumption | refine ite_km ?_ ?_ | refine Dev.orBits_km ?_ | refine Dev.incSat_km ?_
      | refine Dev.attn_km ?_ | refine Km.to ?_))
    | (intro _) | (refine Km.of ?_; dsimp only) | dsimp only | split)

theorem Dev.dropSnap_km {d0 d : Dev} {x1 : _} (h : Km d0 d) : Km d0 (Dev.dropSnap d x1) := by
  unfold Dev.dropSnap
  repeat' (first
    | (with_reducible (first
      | assumption | refine ite_km ?_ ?_ | refine Dev.release_km ?_ | refine Dev.unhold_km ?_
      | refine Dev.dropArmed_km ?_ | refine Km.to ?_))
    | (intro _) | (refine Km.of ?_; dsimp only) | dsimp only | split)

theorem Dev.armedParity_km {d0 d : Dev} {x1 : _} (h : Km d0 d) : Km d0 (Dev.armedParity d x1) := by
  unfold Dev.armedParity
  repeat' (first
    | (with_reducible (first
      | assumption | refine ite_km ?_ ?_ | refine Dev.each_km ?_ ?_ | refine Dev.crustObsolete_km ?_
      | refine Dev.armShow_km ?_ | refine Dev.poolShow_km ?_ | refine Dev.dropSnap_km ?_
      | refine Dev.discarded_km ?_ | refine Km.to ?_))
    | (intro _) | (refine Km.of ?_; dsimp only) | dsimp only | split)

theorem Dev.nextLine_km {d0 d : Dev} {x1 : _} (h : Km d0 d) : Km d0 (Dev.nextLine d x1).2 := by
  unfold Dev.nextLine
  repeat' (first
    | (with_reducible (first
      | assumption | refine ite_km ?_ ?_ | refine Dev.draw_km ?_ | refine Km.to ?_))
    | (intro _) | (refine Km.of ?_; dsimp only) | dsimp only | split)

theorem Dev.enterSafeBlack_km {d0 d : Dev} {x1 : _} (h : Km d0 d) : Km d0 (Dev.enterSafeBlack d x1) := by
  unfold Dev.enterSafeBlack
  repeat' (first
    | (with_reducible (first
      | assumption | refine ite_km ?_ ?_ | refine Dev.mark_km ?_ | refine Dev.logE_km ?_ | refine Dev.putPst_km ?_
      | refine Dev.nextLine_km ?_ | refine Dev.orBits_km ?_ | refine Dev.faultSum_km ?_ | refine Km.to ?_))
    | (intro _) | (refine Km.of ?_; dsimp only) | dsimp only | split)

theorem Dev.parityAct_km {d0 d : Dev} {x0 : _} (h : Km d0 d) : Km d0 (Dev.parityAct x0 d) := by
  unfold Dev.parityAct
  repeat' (first
    | (with_reducible (first
      | assumption | refine ite_km ?_ ?_ | refine Dev.enterSafeBlack_km ?_ | refine Dev.armedParity_km ?_
      | refine Dev.parityReport_km ?_ | refine Km.to ?_))
    | (intro _) | (refine Km.of ?_; dsimp only) | dsimp only | split)

theorem Dev.parityFound_km {d0 d : Dev} {x0 : _} (h : Km d0 d) : Km d0 (Dev.parityFound x0 d) := by
  unfold Dev.parityFound
  repeat' (first
    | (with_reducible (first
      | assumption | refine ite_km ?_ ?_ | refine Dev.parityAct_km ?_ | refine Km.to ?_))
    | (intro _) | (refine Km.of ?_; dsimp only) | dsimp only | split)

theorem Dev.holdPassed_km {d0 d : Dev} {x1 : _} (h : Km d0 d) : Km d0 (Dev.holdPassed d x1) := by
  unfold Dev.holdPassed
  repeat' (first
    | (with_reducible (first
      | assumption | refine ite_km ?_ ?_ | refine Dev.up_km ?_ | refine Dev.logOpen_km ?_
      | refine Dev.incSat_km ?_ | refine Km.to ?_))
    | (intro _) | (refine Km.of ?_; dsimp only) | dsimp only | split)

theorem Dev.holdDrop_km {d0 d : Dev} {x1 x2 : _} (h : Km d0 d) : Km d0 (Dev.holdDrop d x1 x2) := by
  unfold Dev.holdDrop
  repeat' (first
    | (with_reducible (first
      | assumption | refine ite_km ?_ ?_ | refine foldFst_km ?_ ?_ | refine foldl_km ?_ ?_
      | refine Dev.each_km ?_ ?_ | refine Dev.up_km ?_ | refine Dev.sg_km ?_ | refine Dev.crustObsolete_km ?_
      | refine Dev.dropSnap_km ?_ | refine Dev.discarded_km ?_ | refine Dev.putPst_km ?_ | refine Km.to ?_))
    | (intro _) | (refine Km.of ?_; dsimp only) | dsimp only | split)

theorem Dev.holdCount_km {d0 d : Dev} {x1 x2 : _} (h : Km d0 d) : Km d0 (Dev.holdCount d x1 x2) := by
  unfold Dev.holdCount
  repeat' (first
    | (with_reducible (first
      | assumption | refine ite_km ?_ ?_ | refine foldFst_km ?_ ?_ | refine foldl_km ?_ ?_
      | refine Dev.each_km ?_ ?_ | refine Dev.putPst_km ?_ | refine Dev.sg_km ?_ | refine Dev.up_km ?_
      | refine Dev.incSat_km ?_ | refine Km.to ?_))
    | (intro _) | (refine Km.of ?_; dsimp only) | dsimp only | split)

theorem Dev.takeArmed_km {d0 d : Dev} {x1 : _} (h : Km d0 d) : Km d0 (Dev.takeArmed d x1).1 := by
  unfold Dev.takeArmed
  repeat' (first
    | (with_reducible (first
      | assumption | refine ite_km ?_ ?_ | refine foldFst_km ?_ ?_ | refine foldl_km ?_ ?_
      | refine Dev.takeOne_km ?_ | refine Dev.holdCount_km ?_ | refine Dev.holdDrop_km ?_ | refine Km.to ?_))
    | (intro _) | (refine Km.of ?_; dsimp only) | dsimp only | split)

theorem Dev.swapParity_km {d0 d : Dev} {x1 : _} (h : Km d0 d) : Km d0 (Dev.swapParity d x1) := by
  unfold Dev.swapParity
  repeat' (first
    | (with_reducible (first
      | assumption | refine ite_km ?_ ?_ | refine Dev.each_km ?_ ?_ | refine Dev.parityReport_km ?_
      | refine Dev.armedParity_km ?_ | refine Km.to ?_))
    | (intro _) | (refine Km.of ?_; dsimp only) | dsimp only | split)

theorem Dev.versionShow_km {d0 d : Dev} {x1 x2 : _} (h : Km d0 d) : Km d0 (Dev.versionShow d x1 x2) := by
  unfold Dev.versionShow
  repeat' (first
    | (with_reducible (first
      | assumption | refine ite_km ?_ ?_ | refine Dev.each_km ?_ ?_ | refine Dev.inc_km ?_
      | refine Dev.crustShow_km ?_ | refine Dev.planeShow_km ?_ | refine Dev.dn_km ?_ | refine Dev.sg_km ?_
      | refine Dev.putCrust_km ?_ | refine Dev.putTile_km ?_ | refine Km.to ?_))
    | (intro _) | (refine Km.of ?_; dsimp only) | dsimp only | split)

theorem Dev.showMarked_km {d0 d : Dev} {x1 x2 : _} (h : Km d0 d) : Km d0 (Dev.showMarked d x1 x2).1 := by
  unfold Dev.showMarked
  repeat' (first
    | (with_reducible (first
      | assumption | refine ite_km ?_ ?_ | refine Dev.versionShow_km ?_ | refine Km.to ?_))
    | (intro _) | (refine Km.of ?_; dsimp only) | dsimp only | split)

theorem Dev.quietLayers_km {d0 d : Dev} {x1 x2 : _} (h : Km d0 d) : Km d0 (Dev.quietLayers d x1 x2) := by
  unfold Dev.quietLayers
  repeat' (first
    | (with_reducible (first
      | assumption | refine ite_km ?_ ?_ | refine Dev.each_km ?_ ?_ | refine Dev.quietReset_km ?_
      | refine Dev.incSat_km ?_ | refine Km.to ?_))
    | (intro _) | (refine Km.of ?_; dsimp only) | dsimp only | split)

theorem Dev.wbFlag_km {d0 d : Dev} {x1 x2 : _} (h : Km d0 d) : Km d0 (Dev.wbFlag d x1 x2) := by
  unfold Dev.wbFlag
  repeat' (first
    | (with_reducible (first
      | assumption | refine ite_km ?_ ?_ | refine Dev.surfErr_km ?_ | refine Dev.up_km ?_ | refine Dev.sg_km ?_
      | refine Dev.onlyIf_km ?_ ?_ | refine Km.to ?_))
    | (intro _) | (refine Km.of ?_; dsimp only) | dsimp only | split)

theorem Dev.wbDestAt_km {d0 d : Dev} {x1 x2 : _} (h : Km d0 d) : Km d0 (Dev.wbDestAt d x1 x2).2 := by
  unfold Dev.wbDestAt
  repeat' (first
    | (with_reducible (first
      | assumption | refine ite_km ?_ ?_ | refine Dev.draw_km ?_ | refine Km.to ?_))
    | (intro _) | (refine Km.of ?_; dsimp only) | dsimp only | split)

theorem Dev.wbOpen_km {d0 d : Dev} {x1 : _} (h : Km d0 d) : Km d0 (Dev.wbOpen d x1) := by
  unfold Dev.wbOpen
  repeat' (first
    | (with_reducible (first
      | assumption | refine ite_km ?_ ?_ | refine Dev.putPst_km ?_ | refine Dev.wbDestAt_km ?_
      | refine Dev.incSat_km ?_ | refine Dev.wbFlag_km ?_ | refine Dev.onlyIf_km ?_ ?_ | refine Dev.inc_km ?_
      | refine Km.to ?_))
    | (intro _) | (refine Km.of ?_; dsimp only) | dsimp only | split)

theorem Dev.surfSwap_km {d0 d : Dev} (h : Km d0 d) : Km d0 (Dev.surfSwap d) := by
  unfold Dev.surfSwap
  repeat' (first
    | (with_reducible (first
      | assumption | refine ite_km ?_ ?_ | refine Dev.each_km ?_ ?_ | refine Dev.putSurf_km ?_
      | refine Dev.lostSweep_km ?_ | refine Km.to ?_))
    | (intro _) | (refine Km.of ?_; dsimp only) | dsimp only | split)

theorem Dev.swapTake_km {d0 d : Dev} {x1 : _} (h : Km d0 d) : Km d0 (Dev.swapTake d x1) := by
  unfold Dev.swapTake
  repeat' (first
    | (with_reducible (first
      | assumption | refine ite_km ?_ ?_ | refine Dev.genSync_km ?_ | refine Dev.surfSwap_km ?_
      | refine Dev.openFrame_km ?_ | refine Dev.wbOpen_km ?_ | refine Dev.safeBlackOff_km ?_
      | refine Dev.quietLayers_km ?_ | refine Dev.restStep_km ?_ | refine Dev.lateArm_km ?_
      | refine Dev.showMarked_km ?_ | refine Dev.holdOff_km ?_ | refine Dev.swapParity_km ?_
      | refine Dev.takeArmed_km ?_ | refine Dev.holdPassed_km ?_ | refine Dev.sg_km ?_ | refine Dev.dn_km ?_
      | refine Km.to ?_))
    | (intro _) | (refine Km.of ?_; dsimp only) | dsimp only | split)

theorem Dev.classBEnd_km {d0 d : Dev} {x1 : _} (h : Km d0 d) : Km d0 (Dev.classBEnd d x1) := by
  unfold Dev.classBEnd
  repeat' (first
    | (with_reducible (first
      | assumption | refine ite_km ?_ ?_ | refine Dev.dn_km ?_ | refine Dev.setStep_km ?_
      | refine Dev.clearOutRun_km ?_ | refine Dev.swapTake_km ?_ | refine Km.to ?_))
    | (intro _) | (refine Km.of ?_; dsimp only) | dsimp only | split)

theorem thermalHoldExit_km {d0 d : Dev} (h : Km d0 d) : Km d0 (thermalHoldExit d) := by
  unfold thermalHoldExit
  repeat' (first
    | (with_reducible (first
      | assumption | refine ite_km ?_ ?_ | refine Dev.holdExit_km ?_ | refine Km.to ?_))
    | (intro _) | (refine Km.of ?_; dsimp only) | dsimp only | split)

theorem opAckAttention_km {d0 d : Dev} {x0 : _} (h : Km d0 d) : AnsKm d0 (opAckAttention x0 d) := by
  unfold opAckAttention
  repeat' (first
    | (with_reducible (first
      | assumption | refine ite_km ?_ ?_ | refine AnsKm.mk ?_ ?_ | refine id_km ?_ | refine iteAns_km ?_ ?_
      | refine Dev.clrBits_km ?_ | refine Km.to ?_))
    | (intro _) | (refine Km.of ?_; dsimp only) | dsimp only | split)

theorem opMeterTableSet_km {d0 d : Dev} {p : List Nat} (h : Km d0 d) : AnsKm d0 (opMeterTableSet p d) := by
  unfold opMeterTableSet
  exact iteAns_km (AnsKm.mk h fun _ k => k) (AnsKm.mk (Km.of h.to) fun _ k => k)

theorem opHealthRead_km {d0 d : Dev} {x0 : _} (h : Km d0 d) : AnsKm d0 (opHealthRead x0 d) := by
  unfold opHealthRead
  repeat' (first
    | (with_reducible (first
      | assumption | refine ite_km ?_ ?_ | refine AnsKm.mk ?_ ?_ | refine id_km ?_ | refine iteAns_km ?_ ?_
      | refine Km.to ?_))
    | (intro _) | (refine Km.of ?_; dsimp only) | dsimp only | split)

theorem refclkLost_km {d0 d : Dev} (h : Km d0 d) : Km d0 (refclkLost d) := by
  unfold refclkLost
  repeat' (first
    | (with_reducible (first
      | assumption | refine ite_km ?_ ?_ | refine Dev.logOpen_km ?_ | refine Dev.up_km ?_ | refine Dev.attn_km ?_
      | refine Dev.onlyIf_km ?_ ?_ | refine Km.to ?_))
    | (intro _) | (refine Km.of ?_; dsimp only) | dsimp only | split)

theorem Dev.sp_km {d0 d : Dev} {x1 x2 : _} (h : Km d0 d) : Km d0 (Dev.sp d x1 x2) := by
  unfold Dev.sp
  repeat' (first
    | (with_reducible (first
      | assumption | refine ite_km ?_ ?_ | refine Km.to ?_))
    | (intro _) | (refine Km.of ?_; dsimp only) | dsimp only | split)

theorem Dev.chkReset_km {d0 d : Dev} (h : Km d0 d) : Km d0 (Dev.chkReset d) := by
  unfold Dev.chkReset
  repeat' (first
    | (with_reducible (first
      | assumption | refine ite_km ?_ ?_ | refine Dev.resetRegs_km ?_ | refine Km.to ?_))
    | (intro _) | (refine Km.of ?_; dsimp only) | dsimp only | split)

theorem Dev.exclShow_km {d0 d : Dev} {x0 : _} (h : Km d0 d) : Km d0 (Dev.exclShow x0 d) := by
  unfold Dev.exclShow
  repeat' (first
    | (with_reducible (first
      | assumption | refine ite_km ?_ ?_ | refine Dev.each_km ?_ ?_ | refine Dev.sg_km ?_ | refine Km.to ?_))
    | (intro _) | (refine Km.of ?_; dsimp only) | dsimp only | split)

theorem Dev.recordSlice_km {d0 d : Dev} {x1 x2 x3 : _} (h : Km d0 d) : Km d0 (Dev.recordSlice d x1 x2 x3) := by
  unfold Dev.recordSlice
  repeat' (first
    | (with_reducible (first
      | assumption | refine ite_km ?_ ?_ | refine Dev.attn_km ?_ | refine Dev.healthUpdate_km ?_
      | refine Dev.exclShow_km ?_ | refine Dev.onlyIf_km ?_ ?_ | refine Km.to ?_))
    | (intro _) | (refine Km.of ?_; dsimp only) | dsimp only | split)

theorem Dev.testSlice_km {d0 d : Dev} {x1 : _} (h : Km d0 d) : Km d0 (Dev.testSlice d x1).1 := by
  unfold Dev.testSlice
  repeat' (first
    | (with_reducible (first
      | assumption | refine ite_km ?_ ?_ | refine Dev.testNext_km ?_ | refine Dev.recordSlice_km ?_
      | refine Dev.sliceOff_km ?_ | refine Km.to ?_))
    | (intro _) | (refine Km.of ?_; dsimp only) | dsimp only | split)

theorem Dev.remainShow_km {d0 d : Dev} (h : Km d0 d) : Km d0 (Dev.remainShow d) := by
  unfold Dev.remainShow
  repeat' (first
    | (with_reducible (first
      | assumption | refine ite_km ?_ ?_ | refine Dev.sg_km ?_ | refine Km.to ?_))
    | (intro _) | (refine Km.of ?_; dsimp only) | dsimp only | split)

theorem opFenceRead_km {d0 d : Dev} {x0 : _} (h : Km d0 d) : AnsKm d0 (opFenceRead x0 d) := by
  unfold opFenceRead
  repeat' (first
    | (with_reducible (first
      | assumption | refine ite_km ?_ ?_ | refine AnsKm.mk ?_ ?_ | refine id_km ?_ | refine iteAns_km ?_ ?_
      | refine Km.to ?_))
    | (intro _) | (refine Km.of ?_; dsimp only) | dsimp only | split)

theorem Dev.scDramError_km {d0 d : Dev} (h : Km d0 d) : Km d0 (Dev.scDramError d) := by
  unfold Dev.scDramError
  repeat' (first
    | (with_reducible (first
      | assumption | refine ite_km ?_ ?_ | refine Km.to ?_))
    | (intro _) | (refine Km.of ?_; dsimp only) | dsimp only | split)

theorem Dev.loadError_km {d0 d : Dev} {x1 x2 : _} (h : Km d0 d) : Km d0 (Dev.loadError d x1 x2) := by
  unfold Dev.loadError
  repeat' (first
    | (with_reducible (first
      | assumption | refine ite_km ?_ ?_ | refine Dev.sg_km ?_ | refine Km.to ?_))
    | (intro _) | (refine Km.of ?_; dsimp only) | dsimp only | split)

theorem Dev.uncorrected_km {d0 d : Dev} {x1 : _} (h : Km d0 d) : Km d0 (Dev.uncorrected d x1) := by
  unfold Dev.uncorrected
  repeat' (first
    | (with_reducible (first
      | assumption | refine ite_km ?_ ?_ | refine Dev.incSat_km ?_ | refine Dev.up_km ?_ | refine Dev.logE_km ?_
      | refine Km.to ?_))
    | (intro _) | (refine Km.of ?_; dsimp only) | dsimp only | split)

end Sys2Proof.Machine
end

