-- ==== Sys2Proof/Laws/DramD.lean ====
section
/-! SUPPORT.  Operations that leave DRAM as it was, part 4 of 4: one lemma for each operation that returns a device. -/

set_option linter.unusedTactic false
set_option linter.unreachableTactic false

namespace Sys2Proof.Machine

theorem Dev.corrected_km {d0 d : Dev} {x1 : _} (h : Km d0 d) : Km d0 (Dev.corrected d x1) := by
  unfold Dev.corrected
  repeat' (first
    | (with_reducible (first
      | assumption | refine ite_km ?_ ?_ | refine Dev.logE_km ?_ | refine Dev.up_km ?_ | refine Dev.attn_km ?_
      | refine Dev.onlyIf_km ?_ ?_ | refine Dev.incSat_km ?_ | refine Km.to ?_))
    | (intro _) | (refine Km.of ?_; dsimp only) | dsimp only | split)

theorem opPortStatus_km {d0 d : Dev} {x0 : _} (h : Km d0 d) : AnsKm d0 (opPortStatus x0 d) := by
  unfold opPortStatus
  repeat' (first
    | (with_reducible (first
      | assumption | refine ite_km ?_ ?_ | refine AnsKm.mk ?_ ?_ | refine id_km ?_ | refine iteAns_km ?_ ?_
      | refine Km.to ?_))
    | (intro _) | (refine Km.of ?_; dsimp only) | dsimp only | split)

theorem Dev.hpdGuard_km {d0 d : Dev} {x1 x2 : _} (h : Km d0 d) : Km d0 (Dev.hpdGuard d x1 x2) := by
  unfold Dev.hpdGuard
  repeat' (first
    | (with_reducible (first
      | assumption | refine ite_km ?_ ?_ | refine Dev.hpdSeen_km ?_ | refine Km.to ?_))
    | (intro _) | (refine Km.of ?_; dsimp only) | dsimp only | split)

theorem hpdUnplugEvent_km {d0 d : Dev} {x0 x1 : _} (h : Km d0 d) : Km d0 (hpdUnplugEvent x0 x1 d) := by
  unfold hpdUnplugEvent
  repeat' (first
    | (with_reducible (first
      | assumption | refine ite_km ?_ ?_ | refine Dev.hpdGuard_km ?_ | refine Dev.onlyIf_km ?_ ?_
      | refine Dev.dn_km ?_ | refine Km.to ?_))
    | (intro _) | (refine Km.of ?_; dsimp only) | dsimp only | split)

theorem Dev.coolShow_km {d0 d : Dev} (h : Km d0 d) : Km d0 (Dev.coolShow d) := by
  unfold Dev.coolShow
  repeat' (first
    | (with_reducible (first
      | assumption | refine ite_km ?_ ?_ | refine Km.to ?_))
    | (intro _) | (refine Km.of ?_; dsimp only) | dsimp only | split)

theorem opFwChunk_km {d0 d : Dev} {p : List Nat} (h : Km d0 d) : AnsKm d0 (opFwChunk p d) := by
  unfold opFwChunk
  split
  · rename_i he
    exact ⟨Dev.fwChunkDo_km h he, fun _ k => k⟩
  · exact ⟨h, fun _ k => k⟩

theorem refclkReturn_km {d0 d : Dev} (h : Km d0 d) : Km d0 (refclkReturn d) := by
  unfold refclkReturn
  repeat' (first
    | (with_reducible (first
      | assumption | refine ite_km ?_ ?_ | refine Dev.dn_km ?_ | refine Km.to ?_))
    | (intro _) | (refine Km.of ?_; dsimp only) | dsimp only | split)

theorem Dev.refMeasure_km {d0 d : Dev} (h : Km d0 d) : Km d0 (Dev.refMeasure d) := by
  unfold Dev.refMeasure
  repeat' (first
    | (with_reducible (first
      | assumption | refine ite_km ?_ ?_ | refine Dev.sg_km ?_ | refine Dev.up_km ?_ | refine Km.to ?_))
    | (intro _) | (refine Km.of ?_; dsimp only) | dsimp only | split)

theorem opLogInfo_km {d0 d : Dev} {x0 : _} (h : Km d0 d) : AnsKm d0 (opLogInfo x0 d) := by
  unfold opLogInfo
  repeat' (first
    | (with_reducible (first
      | assumption | refine ite_km ?_ ?_ | refine AnsKm.mk ?_ ?_ | refine id_km ?_ | refine iteAns_km ?_ ?_
      | refine Km.to ?_))
    | (intro _) | (refine Km.of ?_; dsimp only) | dsimp only | split)

theorem Dev.mramFlush_km {d0 d : Dev} (h : Km d0 d) : Km d0 (Dev.mramFlush d) := by
  unfold Dev.mramFlush
  repeat' (first
    | (with_reducible (first
      | assumption | refine ite_km ?_ ?_ | refine foldFst_km ?_ ?_ | refine foldl_km ?_ ?_ | refine Km.to ?_))
    | (intro _) | (refine Km.of ?_; dsimp only) | dsimp only | split)

theorem Dev.refReport_km {d0 d : Dev} {x0 : _} (h : Km d0 d) : Km d0 (Dev.refReport x0 d) := by
  unfold Dev.refReport
  repeat' (first
    | (with_reducible (first
      | assumption | refine ite_km ?_ ?_ | refine Dev.sg_km ?_ | refine Km.to ?_))
    | (intro _) | (refine Km.of ?_; dsimp only) | dsimp only | split)

theorem Dev.discardReady_km {d0 d : Dev} {x1 : _} (h : Km d0 d) : Km d0 (Dev.discardReady d x1) := by
  unfold Dev.discardReady
  repeat' (first
    | (with_reducible (first
      | assumption | refine ite_km ?_ ?_ | refine Dev.each_km ?_ ?_ | refine Dev.putCrust_km ?_
      | refine Dev.up_km ?_ | refine Dev.crustShow_km ?_ | refine Dev.storeShow_km ?_ | refine Dev.putTile_km ?_
      | refine Km.to ?_))
    | (intro _) | (refine Km.of ?_; dsimp only) | dsimp only | split)

theorem Dev.versionTest_km {d0 d : Dev} {x1 : _} (h : Km d0 d) : Km d0 (Dev.versionTest d x1) := by
  unfold Dev.versionTest
  repeat' (first
    | (with_reducible (first
      | assumption | refine ite_km ?_ ?_ | refine Dev.putCrust_km ?_ | refine Dev.discardReady_km ?_
      | refine Km.to ?_))
    | (intro _) | (refine Km.of ?_; dsimp only) | dsimp only | split)

theorem Dev.freeze_km {d0 d : Dev} {x1 : _} (h : Km d0 d) : Km d0 (Dev.freeze d x1) := by
  unfold Dev.freeze
  repeat' (first
    | (with_reducible (first
      | assumption | refine ite_km ?_ ?_ | refine Dev.putPst_km ?_ | refine Dev.versionTest_km ?_
      | refine Km.to ?_))
    | (intro _) | (refine Km.of ?_; dsimp only) | dsimp only | split)

theorem cutoff_km {d0 d : Dev} {x0 : _} (h : Km d0 d) : Km d0 (cutoff x0 d) := by
  unfold cutoff
  repeat' (first
    | (with_reducible (first
      | assumption | refine ite_km ?_ ?_ | refine Dev.each_km ?_ ?_ | refine Dev.freeze_km ?_ | refine Km.to ?_))
    | (intro _) | (refine Km.of ?_; dsimp only) | dsimp only | split)

theorem Dev.strobesCut_km {d0 d : Dev} {x1 : _} (h : Km d0 d) : Km d0 (Dev.strobesCut d x1) := by
  unfold Dev.strobesCut
  repeat' (first
    | (with_reducible (first
      | assumption | refine ite_km ?_ ?_ | refine Dev.each_km ?_ ?_ | refine Dev.attn_km ?_
      | refine Dev.lateCount_km ?_ | refine Dev.onlyIf_km ?_ ?_ | refine Km.to ?_))
    | (intro _) | (refine Km.of ?_; dsimp only) | dsimp only | split)

theorem Dev.wbClose_km {d0 d : Dev} {x1 : _} (h : Km d0 d) : Km d0 (Dev.wbClose d x1) := by
  unfold Dev.wbClose
  repeat' (first
    | (with_reducible (first
      | assumption | refine ite_km ?_ ?_ | refine Dev.putPst_km ?_ | refine Dev.wbWrites_km ?_ | refine Km.to ?_))
    | (intro _) | (refine Km.of ?_; dsimp only) | dsimp only | split)

theorem Dev.swapBlack_km {d0 d : Dev} {x1 : _} (h : Km d0 d) : Km d0 (Dev.swapBlack d x1) := by
  unfold Dev.swapBlack
  repeat' (first
    | (with_reducible (first
      | assumption | refine ite_km ?_ ?_ | refine Dev.restStep_km ?_ | refine Dev.lateArm_km ?_
      | refine Dev.surfSwap_km ?_ | refine Dev.openFrame_km ?_ | refine Dev.sg_km ?_ | refine Dev.dn_km ?_
      | refine Km.to ?_))
    | (intro _) | (refine Km.of ?_; dsimp only) | dsimp only | split)

theorem Dev.classBStart_km {d0 d : Dev} {x1 : _} (h : Km d0 d) : Km d0 (Dev.classBStart d x1) := by
  unfold Dev.classBStart
  repeat' (first
    | (with_reducible (first
      | assumption | refine ite_km ?_ ?_ | refine Dev.dissolve_km ?_ | refine Dev.holdOff_km ?_
      | refine Dev.up_km ?_ | refine Dev.setStep_km ?_ | refine Dev.putPst_km ?_ | refine Dev.swapBlack_km ?_
      | refine Km.to ?_))
    | (intro _) | (refine Km.of ?_; dsimp only) | dsimp only | split)

theorem Dev.lockStep_km {d0 d : Dev} {x1 : _} (h : Km d0 d) : Km d0 (Dev.lockStep d x1) := by
  unfold Dev.lockStep
  repeat' (first
    | (with_reducible (first
      | assumption | refine ite_km ?_ ?_ | refine Dev.genEnter_km ?_ | refine Dev.putPst_km ?_
      | refine Dev.sg_km ?_ | refine Km.to ?_))
    | (intro _) | (refine Km.of ?_; dsimp only) | dsimp only | split)

theorem Dev.leadEvent_km {d0 d : Dev} {x1 : _} (h : Km d0 d) : Km d0 (Dev.leadEvent d x1) := by
  unfold Dev.leadEvent
  repeat' (first
    | (with_reducible (first
      | assumption | refine ite_km ?_ ?_ | refine Dev.each_km ?_ ?_ | refine Dev.refEvent_km ?_ | refine Km.to ?_))
    | (intro _) | (refine Km.of ?_; dsimp only) | dsimp only | split)

theorem genlockRefLost_km {d0 d : Dev} {x0 : _} (h : Km d0 d) : Km d0 (genlockRefLost x0 d) := by
  unfold genlockRefLost
  repeat' (first
    | (with_reducible (first
      | assumption | refine ite_km ?_ ?_ | refine Dev.holdover_km ?_ | refine Km.to ?_))
    | (intro _) | (refine Km.of ?_; dsimp only) | dsimp only | split)

theorem retrainTimer_km {d0 d : Dev} {x0 : _} (h : Km d0 d) : Km d0 (retrainTimer x0 d) := by
  unfold retrainTimer
  repeat' (first
    | (with_reducible (first
      | assumption | refine ite_km ?_ ?_ | refine Dev.train_km ?_ | refine Km.to ?_))
    | (intro _) | (refine Km.of ?_; dsimp only) | dsimp only | split)

theorem opDsiDcs_km {d0 d : Dev} {x0 x1 : _} (h : Km d0 d) : AnsKm d0 (opDsiDcs x0 x1 d) := by
  unfold opDsiDcs
  repeat' (first
    | (with_reducible (first
      | assumption | refine ite_km ?_ ?_ | refine AnsKm.mk ?_ ?_ | refine id_km ?_ | refine iteAns_km ?_ ?_
      | refine Km.to ?_))
    | (intro _) | (refine Km.of ?_; dsimp only) | dsimp only | split)

theorem dsiErrorReport_km {d0 d : Dev} {x0 : _} (h : Km d0 d) : Km d0 (dsiErrorReport x0 d) := by
  unfold dsiErrorReport
  repeat' (first
    | (with_reducible (first
      | assumption | refine ite_km ?_ ?_ | refine Dev.up_km ?_ | refine Dev.incSat_km ?_ | refine Km.to ?_))
    | (intro _) | (refine Km.of ?_; dsimp only) | dsimp only | split)

theorem opDeviceInfo_km {d0 d : Dev} {x0 : _} (h : Km d0 d) : AnsKm d0 (opDeviceInfo x0 d) := by
  unfold opDeviceInfo
  repeat' (first
    | (with_reducible (first
      | assumption | refine ite_km ?_ ?_ | refine AnsKm.mk ?_ ?_ | refine id_km ?_ | refine iteAns_km ?_ ?_
      | refine Km.to ?_))
    | (intro _) | (refine Km.of ?_; dsimp only) | dsimp only | split)

theorem tileScrub_km {d0 d : Dev} {x0 : _} (h : Km d0 d) : Km d0 (tileScrub x0 d) := by
  unfold tileScrub
  repeat' (first
    | (with_reducible (first
      | assumption | refine ite_km ?_ ?_ | refine Dev.each_km ?_ ?_ | refine Dev.tileInvalid_km ?_
      | refine Dev.nextLine_km ?_ | refine Km.to ?_))
    | (intro _) | (refine Km.of ?_; dsimp only) | dsimp only | split)

theorem Dev.trainStep_km {d0 d : Dev} {x1 : _} (h : Km d0 d) : Km d0 (Dev.trainStep d x1) := by
  unfold Dev.trainStep
  repeat' (first
    | (with_reducible (first
      | assumption | refine ite_km ?_ ?_ | refine Dev.rasterStart_km ?_ | refine Dev.train_km ?_
      | refine Dev.setStep_km ?_ | refine Km.to ?_))
    | (intro _) | (refine Km.of ?_; dsimp only) | dsimp only | split)

theorem pixelPllLock_km {d0 d : Dev} {x0 : _} (h : Km d0 d) : Km d0 (pixelPllLock x0 d) := by
  unfold pixelPllLock
  repeat' (first
    | (with_reducible (first
      | assumption | refine ite_km ?_ ?_ | refine Dev.trainStep_km ?_ | refine Km.to ?_))
    | (intro _) | (refine Km.of ?_; dsimp only) | dsimp only | split)

theorem dramRetrain_km {d0 d : Dev} {x0 : _} (h : Km d0 d) : Km d0 (dramRetrain x0 d) := by
  unfold dramRetrain
  repeat' (first
    | (with_reducible (first
      | assumption | refine ite_km ?_ ?_ | refine Km.to ?_))
    | (intro _) | (refine Km.of ?_; dsimp only) | dsimp only | split)

theorem crustSlotDrain_km {d0 d : Dev} {x0 : _} (h : Km d0 d) : Km d0 (crustSlotDrain x0 d) := by
  unfold crustSlotDrain
  repeat' (first
    | (with_reducible (first
      | assumption | refine ite_km ?_ ?_ | refine Dev.each_km ?_ ?_ | refine Dev.putCrust_km ?_
      | refine Dev.storeShow_km ?_ | refine Dev.putTile_km ?_ | refine Km.to ?_))
    | (intro _) | (refine Km.of ?_; dsimp only) | dsimp only | split)

theorem startSuccess_km {d0 d : Dev} (h : Km d0 d) : Km d0 (startSuccess d) := by
  unfold startSuccess
  repeat' (first
    | (with_reducible (first
      | assumption | refine ite_km ?_ ?_ | refine Dev.sg_km ?_ | refine Dev.dn_km ?_ | refine Km.to ?_))
    | (intro _) | (refine Km.of ?_; dsimp only) | dsimp only | split)

theorem configScrubPass_km {d0 d : Dev} {x0 : _} (h : Km d0 d) : Km d0 (configScrubPass x0 d) := by
  unfold configScrubPass
  repeat' (first
    | (with_reducible (first
      | assumption | refine ite_km ?_ ?_ | refine Dev.each_km ?_ ?_ | refine Dev.parityAct_km ?_
      | refine Dev.parityFound_km ?_ | refine Dev.inc_km ?_ | refine Km.to ?_))
    | (intro _) | (refine Km.of ?_; dsimp only) | dsimp only | split)

theorem Dev.layerProof_km {d0 d : Dev} {x1 x2 x3 x4 x5 x6 : _} (h : Km d0 d) :
    Km d0 (Dev.layerProof d x1 x2 x3 x4 x5 x6) := by
  unfold Dev.layerProof
  repeat' (first
    | (with_reducible (first
      | assumption | refine ite_km ?_ ?_ | refine foldFst_km ?_ ?_ | refine foldl_km ?_ ?_ | refine Dev.sp_km ?_
      | refine Km.to ?_))
    | (intro _) | (refine Km.of ?_; dsimp only) | dsimp only | split)

theorem tmParity_km {d0 d : Dev} {x0 x1 : _} (h : Km d0 d) : Km d0 (tmParity x0 x1 d) := by
  unfold tmParity
  repeat' (first
    | (with_reducible (first
      | assumption | refine ite_km ?_ ?_ | refine Dev.ramParity_km ?_ | refine Dev.mark_km ?_ | refine Km.to ?_))
    | (intro _) | (refine Km.of ?_; dsimp only) | dsimp only | split)

theorem Dev.wrapFail_km {d0 d : Dev} (h : Km d0 d) : Km d0 (Dev.wrapFail d) := by
  unfold Dev.wrapFail
  repeat' (first
    | (with_reducible (first
      | assumption | refine ite_km ?_ ?_ | refine Dev.each_km ?_ ?_ | refine Dev.up_km ?_
      | refine Dev.hdcpTo_km ?_ | refine Dev.dn_km ?_ | refine Dev.sg_km ?_ | refine Dev.attn_km ?_
      | refine Dev.logSev_km ?_ | refine Km.to ?_))
    | (intro _) | (refine Km.of ?_; dsimp only) | dsimp only | split)

theorem Dev.watchDiff_km {d0 d : Dev} {x0 : _} (h : Km d0 d) : Km d0 (Dev.watchDiff x0 d) := by
  unfold Dev.watchDiff
  repeat' (first
    | (with_reducible (first
      | assumption | refine ite_km ?_ ?_ | refine Dev.targets_km ?_ | refine Km.to ?_))
    | (intro _) | (refine Km.of ?_; dsimp only) | dsimp only | split)

theorem Dev.beat_km {d0 d : Dev} {x1 : _} (h : Km d0 d) : Km d0 (Dev.beat d x1) := by
  unfold Dev.beat
  repeat' (first
    | (with_reducible (first
      | assumption | refine ite_km ?_ ?_ | refine Dev.dn_km ?_ | refine Km.to ?_))
    | (intro _) | (refine Km.of ?_; dsimp only) | dsimp only | split)

theorem Dev.arrive_km {d0 d : Dev} {x1 x2 : _} (h : Km d0 d) : Km d0 (Dev.arrive d x1 x2) := by
  unfold Dev.arrive
  repeat' (first
    | (with_reducible (first
      | assumption | refine ite_km ?_ ?_ | refine Dev.beat_km ?_ | refine Dev.testStop_km ?_
      | refine Dev.trailer_km ?_ | refine Km.to ?_))
    | (intro _) | (refine Km.of ?_; dsimp only) | dsimp only | split)

theorem unlockTimeout_km {d0 d : Dev} {x0 : _} (h : Km d0 d) : Km d0 (unlockTimeout x0 d) := by
  unfold unlockTimeout
  repeat' (first
    | (with_reducible (first
      | assumption | refine ite_km ?_ ?_ | refine Dev.unlockOff_km ?_ | refine Km.to ?_))
    | (intro _) | (refine Km.of ?_; dsimp only) | dsimp only | split)

theorem Dev.windowFlags_km {d0 d : Dev} {x1 x2 : _} (h : Km d0 d) : Km d0 (Dev.windowFlags d x1 x2) := by
  unfold Dev.windowFlags
  repeat' (first
    | (with_reducible (first
      | assumption | refine ite_km ?_ ?_ | refine Dev.each_km ?_ ?_ | refine Dev.up_km ?_
      | refine Dev.onlyIf_km ?_ ?_ | refine Km.to ?_))
    | (intro _) | (refine Km.of ?_; dsimp only) | dsimp only | split)

theorem Dev.recentShow_km {d0 d : Dev} (h : Km d0 d) : Km d0 (Dev.recentShow d) := by
  unfold Dev.recentShow
  repeat' (first
    | (with_reducible (first
      | assumption | refine ite_km ?_ ?_ | refine Dev.sg_km ?_ | refine Km.to ?_))
    | (intro _) | (refine Km.of ?_; dsimp only) | dsimp only | split)

theorem Dev.advance_km {d0 d : Dev} {x1 : _} (h : Km d0 d) : Km d0 (Dev.advance d x1) := by
  unfold Dev.advance
  repeat' (first
    | (with_reducible (first
      | assumption | refine ite_km ?_ ?_ | refine Dev.dn_km ?_ | refine Dev.recentShow_km ?_
      | refine Dev.remainShow_km ?_ | refine Km.to ?_))
    | (intro _) | (refine Km.of ?_; dsimp only) | dsimp only | split)

theorem teEdge_km {d0 d : Dev} {x0 x1 : _} (h : Km d0 d) : Km d0 (teEdge x0 x1 d) := by
  unfold teEdge
  repeat' (first
    | (with_reducible (first
      | assumption | refine ite_km ?_ ?_ | refine Dev.dn_km ?_ | refine Dev.putPst_km ?_
      | refine Dev.advance_km ?_ | refine Km.to ?_))
    | (intro _) | (refine Km.of ?_; dsimp only) | dsimp only | split)

theorem opGetStatus_km {d0 d : Dev} {x0 : _} (h : Km d0 d) : AnsKm d0 (opGetStatus x0 d) := by
  unfold opGetStatus
  repeat' (first
    | (with_reducible (first
      | assumption | refine ite_km ?_ ?_ | refine AnsKm.mk ?_ ?_ | refine id_km ?_ | refine iteAns_km ?_ ?_
      | refine Km.to ?_))
    | (intro _) | (refine Km.of ?_; dsimp only) | dsimp only | split)

theorem opDpcdWrite_km {d0 d : Dev} {x0 x1 : _} (h : Km d0 d) : AnsKm d0 (opDpcdWrite x0 x1 d) := by
  unfold opDpcdWrite
  repeat' (first
    | (with_reducible (first
      | assumption | refine ite_km ?_ ?_ | refine AnsKm.mk ?_ ?_ | refine id_km ?_ | refine iteAns_km ?_ ?_
      | refine Km.to ?_))
    | (intro _) | (refine Km.of ?_; dsimp only) | dsimp only | split)

theorem hostLost_km {d0 d : Dev} (h : Km d0 d) : Km d0 (hostLost d) := by
  unfold hostLost
  repeat' (first
    | (with_reducible (first
      | assumption | refine ite_km ?_ ?_ | refine Dev.up_km ?_ | refine Dev.logE_km ?_ | refine Km.to ?_))
    | (intro _) | (refine Km.of ?_; dsimp only) | dsimp only | split)

theorem holdExitComplete_km {d0 d : Dev} (h : Km d0 d) : Km d0 (holdExitComplete d) := by
  unfold holdExitComplete
  repeat' (first
    | (with_reducible (first
      | assumption | refine ite_km ?_ ?_ | refine Dev.each_km ?_ ?_ | refine Dev.dn_km ?_
      | refine Dev.moveTo_km ?_ | refine Dev.resume_km ?_ | refine Km.to ?_))
    | (intro _) | (refine Km.of ?_; dsimp only) | dsimp only | split)

theorem Dev.fwBeginDo_km {d0 d : Dev} {x1 x2 : _} (h : Km d0 d) : Km d0 (Dev.fwBeginDo d x1 x2) := by
  unfold Dev.fwBeginDo
  repeat' (first
    | (with_reducible (first
      | assumption | refine ite_km ?_ ?_ | refine Dev.sg_km ?_ | refine Dev.fwState_km ?_ | refine Km.to ?_))
    | (intro _) | (refine Km.of ?_; dsimp only) | dsimp only | split)

theorem opFwBegin_km {d0 d : Dev} {x0 : _} (h : Km d0 d) : AnsKm d0 (opFwBegin x0 d) := by
  unfold opFwBegin
  repeat' (first
    | (with_reducible (first
      | assumption | refine ite_km ?_ ?_ | refine AnsKm.mk ?_ ?_ | refine id_km ?_ | refine iteAns_km ?_ ?_
      | refine Dev.fwBeginDo_km ?_ | refine Km.to ?_))
    | (intro _) | (refine Km.of ?_; dsimp only) | dsimp only | split)

theorem opPipeTimingSet_km {d0 d : Dev} {x0 : _} (h : Km d0 d) : AnsKm d0 (opPipeTimingSet x0 d) := by
  unfold opPipeTimingSet
  repeat' (first
    | (with_reducible (first
      | assumption | refine ite_km ?_ ?_ | refine AnsKm.mk ?_ ?_ | refine id_km ?_ | refine iteAns_km ?_ ?_
      | refine Dev.putSvc_km ?_ | refine Dev.fwCommit_km ?_ | refine Dev.timingProof_km ?_ | refine Km.to ?_))
    | (intro _) | (refine Km.of ?_; dsimp only) | dsimp only | split)

theorem opSinkRead_km {d0 d : Dev} {x0 x1 : _} (h : Km d0 d) : AnsKm d0 (opSinkRead x0 x1 d) := by
  unfold opSinkRead
  repeat' (first
    | (with_reducible (first
      | assumption | refine ite_km ?_ ?_ | refine AnsKm.mk ?_ ?_ | refine id_km ?_ | refine iteAns_km ?_ ?_
      | refine Km.to ?_))
    | (intro _) | (refine Km.of ?_; dsimp only) | dsimp only | split)

theorem descUpset_km {d0 d : Dev} {x0 : _} (h : Km d0 d) : Km d0 (descUpset x0 d) := by
  unfold descUpset
  repeat' (first
    | (with_reducible (first
      | assumption | refine ite_km ?_ ?_ | refine Dev.up_km ?_ | refine Dev.surfErr_km ?_
      | refine Dev.logOpen_km ?_ | refine Dev.putSurf_km ?_ | refine Dev.lostOne_km ?_ | refine Km.to ?_))
    | (intro _) | (refine Km.of ?_; dsimp only) | dsimp only | split)

theorem sidebandBadCommand_km {d0 d : Dev} {x0 : _} (h : Km d0 d) : Km d0 (sidebandBadCommand x0 d) := by
  unfold sidebandBadCommand
  repeat' (first
    | (with_reducible (first
      | assumption | refine ite_km ?_ ?_ | refine Dev.putSide_km ?_ | refine Km.to ?_))
    | (intro _) | (refine Km.of ?_; dsimp only) | dsimp only | split)

theorem opSurfQuery_km {d0 d : Dev} {x0 : _} (h : Km d0 d) : AnsKm d0 (opSurfQuery x0 d) := by
  unfold opSurfQuery
  repeat' (first
    | (with_reducible (first
      | assumption | refine ite_km ?_ ?_ | refine AnsKm.mk ?_ ?_ | refine id_km ?_ | refine iteAns_km ?_ ?_
      | refine Km.to ?_))
    | (intro _) | (refine Km.of ?_; dsimp only) | dsimp only | split)

theorem Dev.sampleAttn_km {d0 d : Dev} {x1 : _} (h : Km d0 d) : Km d0 (Dev.sampleAttn d x1) := by
  unfold Dev.sampleAttn
  repeat' (first
    | (with_reducible (first
      | assumption | refine ite_km ?_ ?_ | refine Dev.attn_km ?_ | refine Dev.onlyIf_km ?_ ?_ | refine Km.to ?_))
    | (intro _) | (refine Km.of ?_; dsimp only) | dsimp only | split)

theorem opMarginRead_km {d0 d : Dev} {x0 : _} (h : Km d0 d) : AnsKm d0 (opMarginRead x0 d) := by
  unfold opMarginRead
  repeat' (first
    | (with_reducible (first
      | assumption | refine ite_km ?_ ?_ | refine AnsKm.mk ?_ ?_ | refine id_km ?_ | refine iteAns_km ?_ ?_
      | refine Km.to ?_))
    | (intro _) | (refine Km.of ?_; dsimp only) | dsimp only | split)

theorem opFenceSignal_km {d0 d : Dev} {x0 : _} (h : Km d0 d) : AnsKm d0 (opFenceSignal x0 d) := by
  unfold opFenceSignal
  repeat' (first
    | (with_reducible (first
      | assumption | refine ite_km ?_ ?_ | refine AnsKm.mk ?_ ?_ | refine id_km ?_ | refine iteAns_km ?_ ?_
      | refine Dev.doorbell_km ?_ | refine Km.to ?_))
    | (intro _) | (refine Km.of ?_; dsimp only) | dsimp only | split)

theorem opLayoutWindow_km {d0 d : Dev} {x0 : _} (h : Km d0 d) : AnsKm d0 (opLayoutWindow x0 d) := by
  unfold opLayoutWindow
  repeat' (first
    | (with_reducible (first
      | assumption | refine ite_km ?_ ?_ | refine AnsKm.mk ?_ ?_ | refine id_km ?_ | refine iteAns_km ?_ ?_
      | refine Dev.putSvc_km ?_ | refine Km.to ?_))
    | (intro _) | (refine Km.of ?_; dsimp only) | dsimp only | split)

theorem Dev.debugOpen_km {d0 d : Dev} (h : Km d0 d) : Km d0 (Dev.debugOpen d) := by
  unfold Dev.debugOpen
  repeat' (first
    | (with_reducible (first
      | assumption | refine ite_km ?_ ?_ | refine Dev.keysOff_km ?_ | refine Dev.up_km ?_
      | refine Dev.logSev_km ?_ | refine Dev.attn_km ?_ | refine Km.to ?_))
    | (intro _) | (refine Km.of ?_; dsimp only) | dsimp only | split)

theorem opDebugOpen_km {d0 d : Dev} {x0 : _} (h : Km d0 d) : AnsKm d0 (opDebugOpen x0 d) := by
  unfold opDebugOpen
  repeat' (first
    | (with_reducible (first
      | assumption | refine ite_km ?_ ?_ | refine AnsKm.mk ?_ ?_ | refine id_km ?_ | refine iteAns_km ?_ ?_
      | refine Dev.incSat_km ?_ | refine Dev.attn_km ?_ | refine Dev.debugOpen_km ?_ | refine Km.to ?_))
    | (intro _) | (refine Km.of ?_; dsimp only) | dsimp only | split)

theorem brownoutRecovery_km {d0 d : Dev} {x0 x1 x2 : _} (h : Km d0 d) : Km d0 (brownoutRecovery x0 x1 x2 d) := by
  unfold brownoutRecovery
  repeat' (first
    | (with_reducible (first
      | assumption | refine ite_km ?_ ?_ | refine Dev.logE_km ?_ | refine Dev.clrBits_km ?_
      | refine Dev.mramFlush_km ?_ | refine Dev.logFlush_km ?_ | refine Km.to ?_))
    | (intro _) | (refine Km.of ?_; dsimp only) | dsimp only | split)

theorem irqHpdEvent_km {d0 d : Dev} {x0 x1 : _} (h : Km d0 d) : Km d0 (irqHpdEvent x0 x1 d) := by
  unfold irqHpdEvent
  repeat' (first
    | (with_reducible (first
      | assumption | refine ite_km ?_ ?_ | refine Dev.hpdGuard_km ?_ | refine Dev.onlyIf_km ?_ ?_
      | refine Km.to ?_))
    | (intro _) | (refine Km.of ?_; dsimp only) | dsimp only | split)

theorem Dev.tornWrite_km {d0 d : Dev} {x1 x2 x3 : _} (h : Km d0 d) : Km d0 (Dev.tornWrite d x1 x2 x3) := by
  unfold Dev.tornWrite
  repeat' (first
    | (with_reducible (first
      | assumption | refine ite_km ?_ ?_ | refine Dev.each_km ?_ ?_ | refine Dev.putFrame_km ?_
      | refine Dev.putSurf_km ?_ | refine Dev.orBits_km ?_ | refine Dev.sg_km ?_ | refine Dev.up_km ?_
      | refine Dev.change_km ?_ | refine Km.to ?_))
    | (intro _) | (refine Km.of ?_; dsimp only) | dsimp only | split)

theorem opFwInfo_km {d0 d : Dev} {x0 : _} (h : Km d0 d) : AnsKm d0 (opFwInfo x0 d) := by
  unfold opFwInfo
  repeat' (first
    | (with_reducible (first
      | assumption | refine ite_km ?_ ?_ | refine AnsKm.mk ?_ ?_ | refine id_km ?_ | refine iteAns_km ?_ ?_
      | refine Km.to ?_))
    | (intro _) | (refine Km.of ?_; dsimp only) | dsimp only | split)

theorem opSelftestResult_km {d0 d : Dev} {x0 : _} (h : Km d0 d) : AnsKm d0 (opSelftestResult x0 d) := by
  unfold opSelftestResult
  repeat' (first
    | (with_reducible (first
      | assumption | refine ite_km ?_ ?_ | refine AnsKm.mk ?_ ?_ | refine id_km ?_ | refine iteAns_km ?_ ?_
      | refine Km.to ?_))
    | (intro _) | (refine Km.of ?_; dsimp only) | dsimp only | split)

theorem writePacket_km {d0 d : Dev} {x0 x1 : _} (h : Km d0 d) : Km d0 (writePacket x0 x1 d) := by
  unfold writePacket
  repeat' (first
    | (with_reducible (first
      | assumption | refine ite_km ?_ ?_ | refine Dev.svcQueue_km ?_ | refine Dev.putSide_km ?_ | refine Km.to ?_))
    | (intro _) | (refine Km.of ?_; dsimp only) | dsimp only | split)

theorem opSelftestRun_km {d0 d : Dev} {x0 : _} (h : Km d0 d) : AnsKm d0 (opSelftestRun x0 d) := by
  unfold opSelftestRun
  repeat' (first
    | (with_reducible (first
      | assumption | refine ite_km ?_ ?_ | refine AnsKm.mk ?_ ?_ | refine id_km ?_ | refine iteAns_km ?_ ?_
      | refine Dev.sliceStart_km ?_ | refine Km.to ?_))
    | (intro _) | (refine Km.of ?_; dsimp only) | dsimp only | split)

theorem Dev.svcAdd_km {d0 d : Dev} {x1 x2 : _} (h : Km d0 d) : Km d0 (Dev.svcAdd d x1 x2) := by
  unfold Dev.svcAdd
  repeat' (first
    | (with_reducible (first
      | assumption | refine ite_km ?_ ?_ | refine Dev.svcQueue_km ?_ | refine Dev.svcStage_km ?_ | refine Km.to ?_))
    | (intro _) | (refine Km.of ?_; dsimp only) | dsimp only | split)

theorem lsParity_km {d0 d : Dev} {x0 x1 : _} (h : Km d0 d) : Km d0 (lsParity x0 x1 d) := by
  unfold lsParity
  repeat' (first
    | (with_reducible (first
      | assumption | refine ite_km ?_ ?_ | refine Dev.up_km ?_ | refine Dev.incSat_km ?_
      | refine Dev.layerData_km ?_ | refine Km.to ?_))
    | (intro _) | (refine Km.of ?_; dsimp only) | dsimp only | split)

theorem Dev.hearthRestart_km {d0 d : Dev} (h : Km d0 d) : Km d0 (Dev.hearthRestart d) := by
  unfold Dev.hearthRestart
  repeat' (first
    | (with_reducible (first
      | assumption | refine ite_km ?_ ?_ | refine Dev.each_km ?_ ?_ | refine Dev.abandon_km ?_
      | refine Dev.putSvc_km ?_ | refine Km.to ?_))
    | (intro _) | (refine Km.of ?_; dsimp only) | dsimp only | split)

theorem Dev.tablesReset_km {d0 d : Dev} (h : Km d0 d) : Km d0 (Dev.tablesReset d) := by
  unfold Dev.tablesReset
  repeat' (first
    | (with_reducible (first
      | assumption | refine ite_km ?_ ?_ | refine Dev.resetRegs_km ?_ | refine Km.to ?_))
    | (intro _) | (refine Km.of ?_; dsimp only) | dsimp only | split)

theorem scanOutFetchIssue_km {d0 d : Dev} {x0 x1 : _} (h : Km d0 d) : Km d0 (scanOutFetchIssue x0 x1 d) := by
  unfold scanOutFetchIssue
  repeat' (first
    | (with_reducible (first
      | assumption | refine ite_km ?_ ?_ | refine Dev.up_km ?_ | refine Dev.incSat_km ?_ | refine Dev.sg_km ?_
      | refine Dev.putFrame_km ?_ | refine Km.to ?_))
    | (intro _) | (refine Km.of ?_; dsimp only) | dsimp only | split)

theorem Dev.lowDone_km {d0 d : Dev} {x1 x2 : _} (h : Km d0 d) : Km d0 (Dev.lowDone d x1 x2) := by
  unfold Dev.lowDone
  repeat' (first
    | (with_reducible (first
      | assumption | refine ite_km ?_ ?_ | refine Km.to ?_))
    | (intro _) | (refine Km.of ?_; dsimp only) | dsimp only | split)

theorem opSurfRegister_km {d0 d : Dev} {x0 : _} (h : Km d0 d) : AnsKm d0 (opSurfRegister x0 d) := by
  unfold opSurfRegister
  repeat' (first
    | (with_reducible (first
      | assumption | refine ite_km ?_ ?_ | refine AnsKm.mk ?_ ?_ | refine id_km ?_ | refine iteAns_km ?_ ?_
      | refine Dev.register_km ?_ | refine Km.to ?_))
    | (intro _) | (refine Km.of ?_; dsimp only) | dsimp only | split)

theorem opPipeStatus_km {d0 d : Dev} {x0 : _} (h : Km d0 d) : AnsKm d0 (opPipeStatus x0 d) := by
  unfold opPipeStatus
  repeat' (first
    | (with_reducible (first
      | assumption | refine ite_km ?_ ?_ | refine AnsKm.mk ?_ ?_ | refine id_km ?_ | refine iteAns_km ?_ ?_
      | refine Dev.lineShow_km ?_ | refine Km.to ?_))
    | (intro _) | (refine Km.of ?_; dsimp only) | dsimp only | split)

theorem healthRecordMinutes_km {d0 d : Dev} (h : Km d0 d) : Km d0 (healthRecordMinutes d) := by
  unfold healthRecordMinutes
  repeat' (first
    | (with_reducible (first
      | assumption | refine ite_km ?_ ?_ | refine Dev.healthUpdate_km ?_ | refine Dev.minToRun_km ?_
      | refine Km.to ?_))
    | (intro _) | (refine Km.of ?_; dsimp only) | dsimp only | split)

theorem hdcpRetry_km {d0 d : Dev} {x0 : _} (h : Km d0 d) : Km d0 (hdcpRetry x0 d) := by
  unfold hdcpRetry
  repeat' (first
    | (with_reducible (first
      | assumption | refine ite_km ?_ ?_ | refine Dev.hdcpTo_km ?_ | refine Km.to ?_))
    | (intro _) | (refine Km.of ?_; dsimp only) | dsimp only | split)

theorem Dev.sampleWords_km {d0 d : Dev} {x1 x2 : _} (h : Km d0 d) : Km d0 (Dev.sampleWords d x1 x2) := by
  unfold Dev.sampleWords
  repeat' (first
    | (with_reducible (first
      | assumption | refine ite_km ?_ ?_ | refine Dev.each_km ?_ ?_ | refine Dev.sg_km ?_ | refine Km.to ?_))
    | (intro _) | (refine Km.of ?_; dsimp only) | dsimp only | split)

theorem Dev.islandShow_km {d0 d : Dev} {x0 : _} (h : Km d0 d) : Km d0 (Dev.islandShow x0 d) := by
  unfold Dev.islandShow
  repeat' (first
    | (with_reducible (first
      | assumption | refine ite_km ?_ ?_ | refine Dev.sg_km ?_ | refine Dev.up_km ?_ | refine Dev.orBits_km ?_
      | refine Dev.dn_km ?_ | refine Km.to ?_))
    | (intro _) | (refine Km.of ?_; dsimp only) | dsimp only | split)

theorem Dev.sampleCauses_km {d0 d : Dev} (h : Km d0 d) : Km d0 (Dev.sampleCauses d) := by
  unfold Dev.sampleCauses
  repeat' (first
    | (with_reducible (first
      | assumption | refine ite_km ?_ ?_ | refine Dev.causeClear_km ?_ | refine Dev.causeSet_km ?_
      | refine Km.to ?_))
    | (intro _) | (refine Km.of ?_; dsimp only) | dsimp only | split)

theorem opPipeReclaim_km {d0 d : Dev} {x0 : _} (h : Km d0 d) : AnsKm d0 (opPipeReclaim x0 d) := by
  unfold opPipeReclaim
  repeat' (first
    | (with_reducible (first
      | assumption | refine ite_km ?_ ?_ | refine AnsKm.mk ?_ ?_ | refine id_km ?_ | refine iteAns_km ?_ ?_
      | refine Dev.putSvc_km ?_ | refine Dev.ownerBegin_km ?_ | refine Km.to ?_))
    | (intro _) | (refine Km.of ?_; dsimp only) | dsimp only | split)

theorem Dev.layoutProof_km {d0 d : Dev} {x1 x2 x3 x4 : _} (h : Km d0 d) : Km d0 (Dev.layoutProof d x1 x2 x3 x4) := by
  unfold Dev.layoutProof
  repeat' (first
    | (with_reducible (first
      | assumption | refine ite_km ?_ ?_ | refine Dev.each_km ?_ ?_ | refine Dev.layerProof_km ?_
      | refine Dev.sp_km ?_ | refine Km.to ?_))
    | (intro _) | (refine Km.of ?_; dsimp only) | dsimp only | split)

theorem dmaHaltSettled_km {d0 d : Dev} (h : Km d0 d) : Km d0 (dmaHaltSettled d) := by
  unfold dmaHaltSettled
  repeat' (first
    | (with_reducible (first
      | assumption | refine ite_km ?_ ?_ | refine Dev.up_km ?_ | refine Km.to ?_))
    | (intro _) | (refine Km.of ?_; dsimp only) | dsimp only | split)

theorem opLayoutBegin_km {d0 d : Dev} {x0 : _} (h : Km d0 d) : AnsKm d0 (opLayoutBegin x0 d) := by
  unfold opLayoutBegin
  repeat' (first
    | (with_reducible (first
      | assumption | refine ite_km ?_ ?_ | refine AnsKm.mk ?_ ?_ | refine id_km ?_ | refine iteAns_km ?_ ?_
      | refine Dev.putSvc_km ?_ | refine Km.to ?_))
    | (intro _) | (refine Km.of ?_; dsimp only) | dsimp only | split)

theorem lutParity_km {d0 d : Dev} {x0 x1 : _} (h : Km d0 d) : Km d0 (lutParity x0 x1 d) := by
  unfold lutParity
  repeat' (first
    | (with_reducible (first
      | assumption | refine ite_km ?_ ?_ | refine Dev.ramParity_km ?_ | refine Dev.mark_km ?_ | refine Km.to ?_))
    | (intro _) | (refine Km.of ?_; dsimp only) | dsimp only | split)

theorem opFenceAlloc_km {d0 d : Dev} {x0 : _} (h : Km d0 d) : AnsKm d0 (opFenceAlloc x0 d) := by
  unfold opFenceAlloc
  repeat' (first
    | (with_reducible (first
      | assumption | refine ite_km ?_ ?_ | refine AnsKm.mk ?_ ?_ | refine id_km ?_ | refine iteAns_km ?_ ?_
      | refine Dev.fenceAllocate_km ?_ | refine Km.to ?_))
    | (intro _) | (refine Km.of ?_; dsimp only) | dsimp only | split)

theorem opLayoutGet_km {d0 d : Dev} {x0 : _} (h : Km d0 d) : AnsKm d0 (opLayoutGet x0 d) := by
  unfold opLayoutGet
  repeat' (first
    | (with_reducible (first
      | assumption | refine ite_km ?_ ?_ | refine AnsKm.mk ?_ ?_ | refine id_km ?_ | refine iteAns_km ?_ ?_
      | refine Km.to ?_))
    | (intro _) | (refine Km.of ?_; dsimp only) | dsimp only | split)

theorem opClaimControl_km {d0 d : Dev} {x0 x1 : _} (h : Km d0 d) : AnsKm d0 (opClaimControl x0 x1 d) := by
  unfold opClaimControl
  repeat' (first
    | (with_reducible (first
      | assumption | refine ite_km ?_ ?_ | refine AnsKm.mk ?_ ?_ | refine id_km ?_ | refine iteAns_km ?_ ?_
      | refine Dev.sg_km ?_ | refine Dev.dn_km ?_ | refine Km.to ?_))
    | (intro _) | (refine Km.of ?_; dsimp only) | dsimp only | split)

theorem opSensorRead_km {d0 d : Dev} {x0 : _} (h : Km d0 d) : AnsKm d0 (opSensorRead x0 d) := by
  unfold opSensorRead
  repeat' (first
    | (with_reducible (first
      | assumption | refine ite_km ?_ ?_ | refine AnsKm.mk ?_ ?_ | refine id_km ?_ | refine iteAns_km ?_ ?_
      | refine Km.to ?_))
    | (intro _) | (refine Km.of ?_; dsimp only) | dsimp only | split)

theorem replayAbort_km {d0 d : Dev} {x0 x1 : _} (h : Km d0 d) : Km d0 (replayAbort x0 x1 d) := by
  unfold replayAbort
  repeat' (first
    | (with_reducible (first
      | assumption | refine ite_km ?_ ?_ | refine Dev.mark_km ?_ | refine Dev.up_km ?_ | refine Dev.dn_km ?_
      | refine Dev.restShow_km ?_ | refine Km.to ?_))
    | (intro _) | (refine Km.of ?_; dsimp only) | dsimp only | split)

theorem railRetry_km {d0 d : Dev} (h : Km d0 d) : Km d0 (railRetry d) := by
  unfold railRetry
  repeat' (first
    | (with_reducible (first
      | assumption | refine ite_km ?_ ?_ | refine Km.to ?_))
    | (intro _) | (refine Km.of ?_; dsimp only) | dsimp only | split)

theorem refreshMultUpdate_km {d0 d : Dev} {x0 : _} (h : Km d0 d) : Km d0 (refreshMultUpdate x0 d) := by
  unfold refreshMultUpdate
  repeat' (first
    | (with_reducible (first
      | assumption | refine ite_km ?_ ?_ | refine Dev.each_km ?_ ?_ | refine Dev.sg_km ?_
      | refine Dev.refReport_km ?_ | refine Km.to ?_))
    | (intro _) | (refine Km.of ?_; dsimp only) | dsimp only | split)

theorem opFenceFree_km {d0 d : Dev} {x0 : _} (h : Km d0 d) : AnsKm d0 (opFenceFree x0 d) := by
  unfold opFenceFree
  repeat' (first
    | (with_reducible (first
      | assumption | refine ite_km ?_ ?_ | refine AnsKm.mk ?_ ?_ | refine id_km ?_ | refine iteAns_km ?_ ?_
      | refine Dev.fenceRelease_km ?_ | refine Km.to ?_))
    | (intro _) | (refine Km.of ?_; dsimp only) | dsimp only | split)

theorem hdcpAuthComplete_km {d0 d : Dev} {x0 x1 x2 x3 : _} (h : Km d0 d) :
    Km d0 (hdcpAuthComplete x0 x1 x2 x3 d) := by
  unfold hdcpAuthComplete
  repeat' (first
    | (with_reducible (first
      | assumption | refine ite_km ?_ ?_ | refine Dev.hdcpTo_km ?_ | refine Dev.incSat_km ?_ | refine Dev.sg_km ?_
      | refine Dev.wrapFail_km ?_ | refine Km.to ?_))
    | (intro _) | (refine Km.of ?_; dsimp only) | dsimp only | split)

theorem Dev.fwActivateDo_km {d0 d : Dev} {x1 : _} (h : Km d0 d) : Km d0 (Dev.fwActivateDo d x1).2 := by
  unfold Dev.fwActivateDo
  repeat' (first
    | (with_reducible (first
      | assumption | refine ite_km ?_ ?_ | refine Dev.attn_km ?_ | refine Km.to ?_))
    | (intro _) | (refine Km.of ?_; dsimp only) | dsimp only | split)

theorem readStatus_km {d0 d : Dev} {x0 : _} (h : Km d0 d) : Km d0 (readStatus x0 d) := by
  unfold readStatus
  repeat' (first
    | (with_reducible (first
      | assumption | refine ite_km ?_ ?_ | refine Dev.send_km ?_ | refine Dev.putSide_km ?_ | refine Km.to ?_))
    | (intro _) | (refine Km.of ?_; dsimp only) | dsimp only | split)

theorem surfaceRetireDrain_km {d0 d : Dev} {x0 : _} (h : Km d0 d) : Km d0 (surfaceRetireDrain x0 d) := by
  unfold surfaceRetireDrain
  repeat' (first
    | (with_reducible (first
      | assumption | refine ite_km ?_ ?_ | refine Dev.putSurf_km ?_ | refine Dev.retire_km ?_ | refine Km.to ?_))
    | (intro _) | (refine Km.of ?_; dsimp only) | dsimp only | split)

theorem safeBlackReload_km {d0 d : Dev} {x0 : _} (h : Km d0 d) : Km d0 (safeBlackReload x0 d) := by
  unfold safeBlackReload
  repeat' (first
    | (with_reducible (first
      | assumption | refine ite_km ?_ ?_ | refine Dev.safeBlackOff_km ?_ | refine Dev.putPst_km ?_
      | refine Km.to ?_))
    | (intro _) | (refine Km.of ?_; dsimp only) | dsimp only | split)

theorem leavenRun_km {d0 d : Dev} (h : Km d0 d) : Km d0 (leavenRun d) := by
  unfold leavenRun
  repeat' (first
    | (with_reducible (first
      | assumption | refine ite_km ?_ ?_ | refine Km.to ?_))
    | (intro _) | (refine Km.of ?_; dsimp only) | dsimp only | split)

theorem claimScrub_km {d0 d : Dev} {x0 : _} (h : Km d0 d) : Km d0 (claimScrub x0 d) := by
  unfold claimScrub
  repeat' (first
    | (with_reducible (first
      | assumption | refine ite_km ?_ ?_ | refine Dev.each_km ?_ ?_ | refine Dev.up_km ?_ | refine Dev.logE_km ?_
      | refine Dev.poolShow_km ?_ | refine Km.to ?_))
    | (intro _) | (refine Km.of ?_; dsimp only) | dsimp only | split)

theorem underrun_km {d0 d : Dev} {x0 x1 x2 x3 : _} (h : Km d0 d) : Km d0 (underrun x0 x1 x2 x3 d) := by
  unfold underrun
  repeat' (first
    | (with_reducible (first
      | assumption | refine ite_km ?_ ?_ | refine Dev.logMore_km ?_ | refine Dev.faultSum_km ?_
      | refine Dev.mark_km ?_ | refine Dev.attn_km ?_ | refine Dev.incSat_km ?_ | refine Dev.up_km ?_
      | refine Dev.sg_km ?_ | refine Dev.underMode_km ?_ | refine Km.to ?_))
    | (intro _) | (refine Km.of ?_; dsimp only) | dsimp only | split)

theorem opHeartbeat_km {d0 d : Dev} {x0 : _} (h : Km d0 d) : AnsKm d0 (opHeartbeat x0 d) := by
  unfold opHeartbeat
  repeat' (first
    | (with_reducible (first
      | assumption | refine ite_km ?_ ?_ | refine AnsKm.mk ?_ ?_ | refine id_km ?_ | refine iteAns_km ?_ ?_
      | refine Km.to ?_))
    | (intro _) | (refine Km.of ?_; dsimp only) | dsimp only | split)

theorem timed_km {d0 d : Dev} {x0 x1 : _} (h1 : ∀ e, Km d0 e → Km d0 (x1 e)) (h : Km d0 d) :
    Km d0 (timed x0 x1 d) := by
  unfold timed
  repeat' (first
    | (with_reducible (first
      | assumption | refine ite_km ?_ ?_ | refine h1 _ ?_ | refine h1 _ _ ?_ | refine Km.to ?_))
    | (intro _) | (refine Km.of ?_; dsimp only) | dsimp only | split)

theorem dramWindowRead_km {d0 d : Dev} {x0 x1 : _} (h : Km d0 d) : Km d0 (dramWindowRead x0 x1 d) := by
  unfold dramWindowRead
  repeat' (first
    | (with_reducible (first
      | assumption | refine ite_km ?_ ?_ | refine Dev.send_km ?_ | refine Dev.up_km ?_ | refine Dev.surfErr_km ?_
      | refine Dev.windowFlags_km ?_ | refine Km.to ?_))
    | (intro _) | (refine Km.of ?_; dsimp only) | dsimp only | split)

theorem writebackLineOverflow_km {d0 d : Dev} {x0 x1 : _} (h : Km d0 d) : Km d0 (writebackLineOverflow x0 x1 d) := by
  unfold writebackLineOverflow
  repeat' (first
    | (with_reducible (first
      | assumption | refine ite_km ?_ ?_ | refine Dev.putPst_km ?_ | refine Dev.up_km ?_ | refine Km.to ?_))
    | (intro _) | (refine Km.of ?_; dsimp only) | dsimp only | split)

theorem reloadFail_km {d0 d : Dev} {x0 : _} (h : Km d0 d) : Km d0 (reloadFail x0 d) := by
  unfold reloadFail
  repeat' (first
    | (with_reducible (first
      | assumption | refine ite_km ?_ ?_ | refine Dev.putPst_km ?_ | refine Dev.up_km ?_ | refine Dev.logE_km ?_
      | refine Km.to ?_))
    | (intro _) | (refine Km.of ?_; dsimp only) | dsimp only | split)

theorem opReleaseControl_km {d0 d : Dev} {x0 : _} (h : Km d0 d) : AnsKm d0 (opReleaseControl x0 d) := by
  unfold opReleaseControl
  repeat' (first
    | (with_reducible (first
      | assumption | refine ite_km ?_ ?_ | refine AnsKm.mk ?_ ?_ | refine id_km ?_ | refine iteAns_km ?_ ?_
      | refine Dev.dn_km ?_ | refine Km.to ?_))
    | (intro _) | (refine Km.of ?_; dsimp only) | dsimp only | split)

theorem readReply_km {d0 d : Dev} {x0 x1 : _} (h : Km d0 d) : Km d0 (readReply x0 x1 d) := by
  unfold readReply
  repeat' (first
    | (with_reducible (first
      | assumption | refine ite_km ?_ ?_ | refine Dev.putSide_km ?_ | refine Dev.send_km ?_ | refine Km.to ?_))
    | (intro _) | (refine Km.of ?_; dsimp only) | dsimp only | split)

theorem teTimeout_km {d0 d : Dev} {x0 : _} (h : Km d0 d) : Km d0 (teTimeout x0 d) := by
  unfold teTimeout
  repeat' (first
    | (with_reducible (first
      | assumption | refine ite_km ?_ ?_ | refine Dev.up_km ?_ | refine Dev.attn_km ?_ | refine Km.to ?_))
    | (intro _) | (refine Km.of ?_; dsimp only) | dsimp only | split)

theorem icpPacketReceived_km {d0 d : Dev} {x0 x1 : _} (h : Km d0 d) : Km d0 (icpPacketReceived x0 x1 d) := by
  unfold icpPacketReceived
  repeat' (first
    | (with_reducible (first
      | assumption | refine ite_km ?_ ?_ | refine Dev.arrive_km ?_ | refine Dev.svcAdd_km ?_
      | refine Dev.settleAll_km ?_ | refine Dev.putSide_km ?_ | refine Km.to ?_))
    | (intro _) | (refine Km.of ?_; dsimp only) | dsimp only | split)

theorem scraperJobStart_km {d0 d : Dev} (h : Km d0 d) : Km d0 (scraperJobStart d) := by
  unfold scraperJobStart
  repeat' (first
    | (with_reducible (first
      | assumption | refine ite_km ?_ ?_ | refine Dev.up_km ?_ | refine Dev.sg_km ?_ | refine Dev.dn_km ?_
      | refine Dev.sqIdle_km ?_ | refine Dev.restShow_km ?_ | refine Dev.protFlags_km ?_ | refine Km.to ?_))
    | (intro _) | (refine Km.of ?_; dsimp only) | dsimp only | split)

theorem ringAt_km {d0 d : Dev} {x0 x1 : _} (h : Km d0 d) : Km d0 (ringAt x0 x1 d) := by
  unfold ringAt
  repeat' (first
    | (with_reducible (first
      | assumption | refine ite_km ?_ ?_ | refine ringWrite_km ?_ | refine Km.to ?_))
    | (intro _) | (refine Km.of ?_; dsimp only) | dsimp only | split)

theorem railTimeout_km {d0 d : Dev} {x0 : _} (h : Km d0 d) : Km d0 (railTimeout x0 d) := by
  unfold railTimeout
  repeat' (first
    | (with_reducible (first
      | assumption | refine ite_km ?_ ?_ | refine Dev.sg_km ?_ | refine Dev.draw_km ?_ | refine Km.to ?_))
    | (intro _) | (refine Km.of ?_; dsimp only) | dsimp only | split)

theorem tmLoadComplete_km {d0 d : Dev} {x0 : _} (h : Km d0 d) : Km d0 (tmLoadComplete x0 d) := by
  unfold tmLoadComplete
  repeat' (first
    | (with_reducible (first
      | assumption | refine ite_km ?_ ?_ | refine Dev.sg_km ?_ | refine Km.to ?_))
    | (intro _) | (refine Km.of ?_; dsimp only) | dsimp only | split)

theorem Dev.putVersion_km {d0 d : Dev} {x1 x2 : _} (h : Km d0 d) : Km d0 (Dev.putVersion d x1 x2) := by
  unfold Dev.putVersion
  repeat' (first
    | (with_reducible (first
      | assumption | refine ite_km ?_ ?_ | refine Dev.putTile_km ?_ | refine Km.to ?_))
    | (intro _) | (refine Km.of ?_; dsimp only) | dsimp only | split)

theorem Dev.writeTiles_km {d0 d : Dev} {l : List (Nat × Recomposed)} (h : Km d0 d) :
    Km d0 (Dev.writeTiles l d).1 := by
  induction l generalizing d with
  | nil => exact h
  | cons x t ih =>
    obtain ⟨q, r⟩ := x
    unfold Dev.writeTiles
    split
    · exact ih h
    · split
      · exact ih (Dev.putVersion_km h)
      · dsimp only
        split
        · exact h
        · exact ih (Dev.putVersion_km (Dev.draw_km h))

theorem flattenItemComplete_km {d0 d : Dev} {x0 : _} (h : Km d0 d) : Km d0 (flattenItemComplete x0 d) := by
  unfold flattenItemComplete
  repeat' (first
    | (with_reducible (first
      | assumption | refine ite_km ?_ ?_ | refine Dev.crustShow_km ?_ | refine Dev.storeShow_km ?_
      | refine Dev.damageAgain_km ?_ | refine Dev.up_km ?_ | refine Dev.putCrust_km ?_
      | refine Dev.onlyIf_km ?_ ?_ | refine Dev.sg_km ?_ | refine Dev.writeTiles_km ?_ | refine Km.to ?_))
    | (intro _) | (refine Km.of ?_; dsimp only) | dsimp only | split)

theorem opDebugChallenge_km {d0 d : Dev} {x0 : _} (h : Km d0 d) : AnsKm d0 (opDebugChallenge x0 d) := by
  unfold opDebugChallenge
  repeat' (first
    | (with_reducible (first
      | assumption | refine ite_km ?_ ?_ | refine AnsKm.mk ?_ ?_ | refine id_km ?_ | refine iteAns_km ?_ ?_
      | refine Km.to ?_))
    | (intro _) | (refine Km.of ?_; dsimp only) | dsimp only | split)

theorem trainFail_km {d0 d : Dev} {x0 : _} (h : Km d0 d) : Km d0 (trainFail x0 d) := by
  unfold trainFail
  repeat' (first
    | (with_reducible (first
      | assumption | refine ite_km ?_ ?_ | refine Dev.trainDone_km ?_ | refine Dev.up_km ?_
      | refine Dev.attn_km ?_ | refine Dev.stepDone_km ?_ | refine Km.to ?_))
    | (intro _) | (refine Km.of ?_; dsimp only) | dsimp only | split)

theorem linkTrainingComplete_km {d0 d : Dev} {x0 : _} (h : Km d0 d) : Km d0 (linkTrainingComplete x0 d) := by
  unfold linkTrainingComplete
  repeat' (first
    | (with_reducible (first
      | assumption | refine ite_km ?_ ?_ | refine Dev.lanes_km ?_ | refine Dev.hdcpAgain_km ?_
      | refine Dev.hdcpEnable_km ?_ | refine Dev.stepDone_km ?_ | refine Dev.trainDone_km ?_ | refine Dev.up_km ?_
      | refine Km.to ?_))
    | (intro _) | (refine Km.of ?_; dsimp only) | dsimp only | split)

theorem opLogRead_km {d0 d : Dev} {p : List Nat} (h : Km d0 d) : AnsKm d0 (opLogRead p d) := by
  unfold opLogRead
  extract_lets b
  clear_value b
  split
  · exact ⟨h, fun _ k => k⟩
  · exact iteAns_km ⟨h, fun _ k => k⟩ ⟨h, fun _ k => k⟩

theorem classBRasterStop_km {d0 d : Dev} {x0 : _} (h : Km d0 d) : Km d0 (classBRasterStop x0 d) := by
  unfold classBRasterStop
  repeat' (first
    | (with_reducible (first
      | assumption | refine ite_km ?_ ?_ | refine Dev.setStep_km ?_ | refine Dev.trainStep_km ?_
      | refine Dev.timingActive_km ?_ | refine Dev.surfStop_km ?_ | refine Dev.stopTake_km ?_
      | refine Dev.guardClear_km ?_ | refine Dev.putPst_km ?_ | refine Dev.dn_km ?_ | refine Km.to ?_))
    | (intro _) | (refine Km.of ?_; dsimp only) | dsimp only | split)

theorem opFwActivate_km {d0 d : Dev} {x0 : _} (h : Km d0 d) : AnsKm d0 (opFwActivate x0 d) := by
  unfold opFwActivate
  repeat' (first
    | (with_reducible (first
      | assumption | refine ite_km ?_ ?_ | refine AnsKm.mk ?_ ?_ | refine id_km ?_ | refine iteAns_km ?_ ?_
      | refine Dev.fwActivateDo_km ?_ | refine Km.to ?_))
    | (intro _) | (refine Km.of ?_; dsimp only) | dsimp only | split)

theorem opAtlasSet_km {d0 d : Dev} {x0 : _} (h : Km d0 d) : AnsKm d0 (opAtlasSet x0 d) := by
  unfold opAtlasSet
  repeat' (first
    | (with_reducible (first
      | assumption | refine ite_km ?_ ?_ | refine AnsKm.mk ?_ ?_ | refine id_km ?_ | refine iteAns_km ?_ ?_
      | refine Km.to ?_))
    | (intro _) | (refine Km.of ?_; dsimp only) | dsimp only | split)

theorem leavenRunComplete_km {d0 d : Dev} {x0 : _} (h : Km d0 d) : Km d0 (leavenRunComplete x0 d) := by
  unfold leavenRunComplete
  repeat' (first
    | (with_reducible (first
      | assumption | refine ite_km ?_ ?_ | refine Dev.leavenMeasure_km ?_ | refine Km.to ?_))
    | (intro _) | (refine Km.of ?_; dsimp only) | dsimp only | split)

theorem opSurfSealStatus_km {d0 d : Dev} {x0 : _} (h : Km d0 d) : AnsKm d0 (opSurfSealStatus x0 d) := by
  unfold opSurfSealStatus
  repeat' (first
    | (with_reducible (first
      | assumption | refine ite_km ?_ ?_ | refine AnsKm.mk ?_ ?_ | refine id_km ?_ | refine iteAns_km ?_ ?_
      | refine Km.to ?_))
    | (intro _) | (refine Km.of ?_; dsimp only) | dsimp only | split)

end Sys2Proof.Machine
end

