-- ==== Sys2Proof/Laws/State.lean ====
section
/-! SUPPORT.  The fields of the device after each of its named updates, all true by definition; the derived updates as the
    ones they are made of; and what a field reads after a field was set. -/

namespace Sys2Proof.Machine

@[simp] theorem Dev.sg_now (d : Dev) (f : Fld) (v : Nat) : (d.sg f v).now = d.now := rfl
@[simp] theorem Dev.sg_free (d : Dev) (f : Fld) (v : Nat) : (d.sg f v).free = d.free := rfl
@[simp] theorem Dev.sg_out (d : Dev) (f : Fld) (v : Nat) : (d.sg f v).out = d.out := rfl
@[simp] theorem Dev.sg_regs (d : Dev) (f : Fld) (v : Nat) : (d.sg f v).regs = f.set dfltU d.regs v := rfl
@[simp] theorem Dev.sg_proof (d : Dev) (f : Fld) (v : Nat) : (d.sg f v).proof = d.proof := rfl
@[simp] theorem Dev.sg_active (d : Dev) (f : Fld) (v : Nat) : (d.sg f v).active = d.active := rfl
@[simp] theorem Dev.sg_armed (d : Dev) (f : Fld) (v : Nat) : (d.sg f v).armed = d.armed := rfl
@[simp] theorem Dev.sg_late (d : Dev) (f : Fld) (v : Nat) : (d.sg f v).late = d.late := rfl
@[simp] theorem Dev.sg_strobes (d : Dev) (f : Fld) (v : Nat) : (d.sg f v).strobes = d.strobes := rfl
@[simp] theorem Dev.sg_seq (d : Dev) (f : Fld) (v : Nat) : (d.sg f v).seq = d.seq := rfl
@[simp] theorem Dev.sg_pipeSt (d : Dev) (f : Fld) (v : Nat) : (d.sg f v).pipeSt = d.pipeSt := rfl
@[simp] theorem Dev.sg_posted (d : Dev) (f : Fld) (v : Nat) : (d.sg f v).posted = d.posted := rfl
@[simp] theorem Dev.sg_heldReads (d : Dev) (f : Fld) (v : Nat) : (d.sg f v).heldReads = d.heldReads := rfl
@[simp] theorem Dev.sg_latch (d : Dev) (f : Fld) (v : Nat) : (d.sg f v).latch = d.latch := rfl
@[simp] theorem Dev.sg_heldLo (d : Dev) (f : Fld) (v : Nat) : (d.sg f v).heldLo = d.heldLo := rfl
@[simp] theorem Dev.sg_locked (d : Dev) (f : Fld) (v : Nat) : (d.sg f v).locked = d.locked := rfl
@[simp] theorem Dev.sg_mismatches (d : Dev) (f : Fld) (v : Nat) : (d.sg f v).mismatches = d.mismatches := rfl
@[simp] theorem Dev.sg_latent (d : Dev) (f : Fld) (v : Nat) : (d.sg f v).latent = d.latent := rfl
@[simp] theorem Dev.sg_superseded (d : Dev) (f : Fld) (v : Nat) : (d.sg f v).superseded = d.superseded := rfl
@[simp] theorem Dev.sg_accepted (d : Dev) (f : Fld) (v : Nat) : (d.sg f v).accepted = d.accepted := rfl
@[simp] theorem Dev.sg_log (d : Dev) (f : Fld) (v : Nat) : (d.sg f v).log = d.log := rfl
@[simp] theorem Dev.sg_logNext (d : Dev) (f : Fld) (v : Nat) : (d.sg f v).logNext = d.logNext := rfl
@[simp] theorem Dev.sg_logUsed (d : Dev) (f : Fld) (v : Nat) : (d.sg f v).logUsed = d.logUsed := rfl
@[simp] theorem Dev.sg_logDropped (d : Dev) (f : Fld) (v : Nat) : (d.sg f v).logDropped = d.logDropped := rfl
@[simp] theorem Dev.sg_logDeferred (d : Dev) (f : Fld) (v : Nat) : (d.sg f v).logDeferred = d.logDeferred := rfl
@[simp] theorem Dev.sg_logOverwritten (d : Dev) (f : Fld) (v : Nat) :
    (d.sg f v).logOverwritten = d.logOverwritten := rfl
@[simp] theorem Dev.sg_startAt (d : Dev) (f : Fld) (v : Nat) : (d.sg f v).startAt = d.startAt := rfl
@[simp] theorem Dev.sg_mem (d : Dev) (f : Fld) (v : Nat) : (d.sg f v).mem = d.mem := rfl
@[simp] theorem Dev.sg_hostMem (d : Dev) (f : Fld) (v : Nat) : (d.sg f v).hostMem = d.hostMem := rfl
@[simp] theorem Dev.sg_surf (d : Dev) (f : Fld) (v : Nat) : (d.sg f v).surf = d.surf := rfl
@[simp] theorem Dev.sg_fence (d : Dev) (f : Fld) (v : Nat) : (d.sg f v).fence = d.fence := rfl
@[simp] theorem Dev.sg_watchArmed (d : Dev) (f : Fld) (v : Nat) : (d.sg f v).watchArmed = d.watchArmed := rfl
@[simp] theorem Dev.sg_soon (d : Dev) (f : Fld) (v : Nat) : (d.sg f v).soon = d.soon := rfl
@[simp] theorem Dev.sg_bell (d : Dev) (f : Fld) (v : Nat) : (d.sg f v).bell = d.bell := rfl
@[simp] theorem Dev.sg_cmdAt (d : Dev) (f : Fld) (v : Nat) : (d.sg f v).cmdAt = d.cmdAt := rfl
@[simp] theorem Dev.sg_hints (d : Dev) (f : Fld) (v : Nat) : (d.sg f v).hints = d.hints := rfl
@[simp] theorem Dev.sg_hinted (d : Dev) (f : Fld) (v : Nat) : (d.sg f v).hinted = d.hinted := rfl
@[simp] theorem Dev.sg_changed (d : Dev) (f : Fld) (v : Nat) : (d.sg f v).changed = d.changed := rfl
@[simp] theorem Dev.sg_dirty (d : Dev) (f : Fld) (v : Nat) : (d.sg f v).dirty = d.dirty := rfl
@[simp] theorem Dev.sg_tiles (d : Dev) (f : Fld) (v : Nat) : (d.sg f v).tiles = d.tiles := rfl
@[simp] theorem Dev.sg_crust (d : Dev) (f : Fld) (v : Nat) : (d.sg f v).crust = d.crust := rfl
@[simp] theorem Dev.sg_claims (d : Dev) (f : Fld) (v : Nat) : (d.sg f v).claims = d.claims := rfl
@[simp] theorem Dev.sg_replan (d : Dev) (f : Fld) (v : Nat) : (d.sg f v).replan = d.replan := rfl
@[simp] theorem Dev.sg_tmRam (d : Dev) (f : Fld) (v : Nat) : (d.sg f v).tmRam = d.tmRam := rfl
@[simp] theorem Dev.sg_lutRam (d : Dev) (f : Fld) (v : Nat) : (d.sg f v).lutRam = d.lutRam := rfl
@[simp] theorem Dev.sg_loads (d : Dev) (f : Fld) (v : Nat) : (d.sg f v).loads = d.loads := rfl
@[simp] theorem Dev.sg_hist (d : Dev) (f : Fld) (v : Nat) : (d.sg f v).hist = d.hist := rfl
@[simp] theorem Dev.sg_refs (d : Dev) (f : Fld) (v : Nat) : (d.sg f v).refs = d.refs := rfl
@[simp] theorem Dev.sg_flipCarry (d : Dev) (f : Fld) (v : Nat) : (d.sg f v).flipCarry = d.flipCarry := rfl
@[simp] theorem Dev.sg_rises (d : Dev) (f : Fld) (v : Nat) : (d.sg f v).rises = d.rises := rfl
@[simp] theorem Dev.sg_ceTimes (d : Dev) (f : Fld) (v : Nat) : (d.sg f v).ceTimes = d.ceTimes := rfl
@[simp] theorem Dev.sg_declTest (d : Dev) (f : Fld) (v : Nat) : (d.sg f v).declTest = d.declTest := rfl
@[simp] theorem Dev.sg_poison (d : Dev) (f : Fld) (v : Nat) : (d.sg f v).poison = d.poison := rfl
@[simp] theorem Dev.sg_scJob (d : Dev) (f : Fld) (v : Nat) : (d.sg f v).scJob = d.scJob := rfl
@[simp] theorem Dev.sg_scLast (d : Dev) (f : Fld) (v : Nat) : (d.sg f v).scLast = d.scLast := rfl
@[simp] theorem Dev.sg_dmaWords (d : Dev) (f : Fld) (v : Nat) : (d.sg f v).dmaWords = d.dmaWords := rfl
@[simp] theorem Dev.sg_dmaServed (d : Dev) (f : Fld) (v : Nat) : (d.sg f v).dmaServed = d.dmaServed := rfl
@[simp] theorem Dev.sg_descBad (d : Dev) (f : Fld) (v : Nat) : (d.sg f v).descBad = d.descBad := rfl
@[simp] theorem Dev.sg_training (d : Dev) (f : Fld) (v : Nat) : (d.sg f v).training = d.training := rfl
@[simp] theorem Dev.sg_lastTick (d : Dev) (f : Fld) (v : Nat) : (d.sg f v).lastTick = d.lastTick := rfl
@[simp] theorem Dev.sg_tickSrc (d : Dev) (f : Fld) (v : Nat) : (d.sg f v).tickSrc = d.tickSrc := rfl
@[simp] theorem Dev.sg_refEdge (d : Dev) (f : Fld) (v : Nat) : (d.sg f v).refEdge = d.refEdge := rfl
@[simp] theorem Dev.sg_hearth (d : Dev) (f : Fld) (v : Nat) : (d.sg f v).hearth = d.hearth := rfl
@[simp] theorem Dev.sg_icp (d : Dev) (f : Fld) (v : Nat) : (d.sg f v).icp = d.icp := rfl
@[simp] theorem Dev.sg_power (d : Dev) (f : Fld) (v : Nat) : (d.sg f v).power = d.power := rfl
@[simp] theorem Dev.sg_test (d : Dev) (f : Fld) (v : Nat) : (d.sg f v).test = d.test := rfl
@[simp] theorem Dev.sg_challenge (d : Dev) (f : Fld) (v : Nat) : (d.sg f v).challenge = d.challenge := rfl

@[simp] theorem Dev.sgWord_now (d : Dev) (k : Nat) (v : Word) : (d.sgWord k v).now = d.now := rfl
@[simp] theorem Dev.sgWord_free (d : Dev) (k : Nat) (v : Word) : (d.sgWord k v).free = d.free := rfl
@[simp] theorem Dev.sgWord_out (d : Dev) (k : Nat) (v : Word) : (d.sgWord k v).out = d.out := rfl
@[simp] theorem Dev.sgWord_regs (d : Dev) (k : Nat) (v : Word) : (d.sgWord k v).regs = Tab.put dfltU d.regs k v := rfl
@[simp] theorem Dev.sgWord_proof (d : Dev) (k : Nat) (v : Word) : (d.sgWord k v).proof = d.proof := rfl
@[simp] theorem Dev.sgWord_active (d : Dev) (k : Nat) (v : Word) : (d.sgWord k v).active = d.active := rfl
@[simp] theorem Dev.sgWord_armed (d : Dev) (k : Nat) (v : Word) : (d.sgWord k v).armed = d.armed := rfl
@[simp] theorem Dev.sgWord_late (d : Dev) (k : Nat) (v : Word) : (d.sgWord k v).late = d.late := rfl
@[simp] theorem Dev.sgWord_strobes (d : Dev) (k : Nat) (v : Word) : (d.sgWord k v).strobes = d.strobes := rfl
@[simp] theorem Dev.sgWord_seq (d : Dev) (k : Nat) (v : Word) : (d.sgWord k v).seq = d.seq := rfl
@[simp] theorem Dev.sgWord_pipeSt (d : Dev) (k : Nat) (v : Word) : (d.sgWord k v).pipeSt = d.pipeSt := rfl
@[simp] theorem Dev.sgWord_posted (d : Dev) (k : Nat) (v : Word) : (d.sgWord k v).posted = d.posted := rfl
@[simp] theorem Dev.sgWord_heldReads (d : Dev) (k : Nat) (v : Word) : (d.sgWord k v).heldReads = d.heldReads := rfl
@[simp] theorem Dev.sgWord_latch (d : Dev) (k : Nat) (v : Word) : (d.sgWord k v).latch = d.latch := rfl
@[simp] theorem Dev.sgWord_heldLo (d : Dev) (k : Nat) (v : Word) : (d.sgWord k v).heldLo = d.heldLo := rfl
@[simp] theorem Dev.sgWord_locked (d : Dev) (k : Nat) (v : Word) : (d.sgWord k v).locked = d.locked := rfl
@[simp] theorem Dev.sgWord_mismatches (d : Dev) (k : Nat) (v : Word) : (d.sgWord k v).mismatches = d.mismatches := rfl
@[simp] theorem Dev.sgWord_latent (d : Dev) (k : Nat) (v : Word) : (d.sgWord k v).latent = d.latent := rfl
@[simp] theorem Dev.sgWord_superseded (d : Dev) (k : Nat) (v : Word) : (d.sgWord k v).superseded = d.superseded := rfl
@[simp] theorem Dev.sgWord_accepted (d : Dev) (k : Nat) (v : Word) : (d.sgWord k v).accepted = d.accepted := rfl
@[simp] theorem Dev.sgWord_log (d : Dev) (k : Nat) (v : Word) : (d.sgWord k v).log = d.log := rfl
@[simp] theorem Dev.sgWord_logNext (d : Dev) (k : Nat) (v : Word) : (d.sgWord k v).logNext = d.logNext := rfl
@[simp] theorem Dev.sgWord_logUsed (d : Dev) (k : Nat) (v : Word) : (d.sgWord k v).logUsed = d.logUsed := rfl
@[simp] theorem Dev.sgWord_logDropped (d : Dev) (k : Nat) (v : Word) : (d.sgWord k v).logDropped = d.logDropped := rfl
@[simp] theorem Dev.sgWord_logDeferred (d : Dev) (k : Nat) (v : Word) :
    (d.sgWord k v).logDeferred = d.logDeferred := rfl
@[simp] theorem Dev.sgWord_logOverwritten (d : Dev) (k : Nat) (v : Word) :
    (d.sgWord k v).logOverwritten = d.logOverwritten := rfl
@[simp] theorem Dev.sgWord_startAt (d : Dev) (k : Nat) (v : Word) : (d.sgWord k v).startAt = d.startAt := rfl
@[simp] theorem Dev.sgWord_mem (d : Dev) (k : Nat) (v : Word) : (d.sgWord k v).mem = d.mem := rfl
@[simp] theorem Dev.sgWord_hostMem (d : Dev) (k : Nat) (v : Word) : (d.sgWord k v).hostMem = d.hostMem := rfl
@[simp] theorem Dev.sgWord_surf (d : Dev) (k : Nat) (v : Word) : (d.sgWord k v).surf = d.surf := rfl
@[simp] theorem Dev.sgWord_fence (d : Dev) (k : Nat) (v : Word) : (d.sgWord k v).fence = d.fence := rfl
@[simp] theorem Dev.sgWord_watchArmed (d : Dev) (k : Nat) (v : Word) : (d.sgWord k v).watchArmed = d.watchArmed := rfl
@[simp] theorem Dev.sgWord_soon (d : Dev) (k : Nat) (v : Word) : (d.sgWord k v).soon = d.soon := rfl
@[simp] theorem Dev.sgWord_bell (d : Dev) (k : Nat) (v : Word) : (d.sgWord k v).bell = d.bell := rfl
@[simp] theorem Dev.sgWord_cmdAt (d : Dev) (k : Nat) (v : Word) : (d.sgWord k v).cmdAt = d.cmdAt := rfl
@[simp] theorem Dev.sgWord_hints (d : Dev) (k : Nat) (v : Word) : (d.sgWord k v).hints = d.hints := rfl
@[simp] theorem Dev.sgWord_hinted (d : Dev) (k : Nat) (v : Word) : (d.sgWord k v).hinted = d.hinted := rfl
@[simp] theorem Dev.sgWord_changed (d : Dev) (k : Nat) (v : Word) : (d.sgWord k v).changed = d.changed := rfl
@[simp] theorem Dev.sgWord_dirty (d : Dev) (k : Nat) (v : Word) : (d.sgWord k v).dirty = d.dirty := rfl
@[simp] theorem Dev.sgWord_tiles (d : Dev) (k : Nat) (v : Word) : (d.sgWord k v).tiles = d.tiles := rfl
@[simp] theorem Dev.sgWord_crust (d : Dev) (k : Nat) (v : Word) : (d.sgWord k v).crust = d.crust := rfl
@[simp] theorem Dev.sgWord_claims (d : Dev) (k : Nat) (v : Word) : (d.sgWord k v).claims = d.claims := rfl
@[simp] theorem Dev.sgWord_replan (d : Dev) (k : Nat) (v : Word) : (d.sgWord k v).replan = d.replan := rfl
@[simp] theorem Dev.sgWord_tmRam (d : Dev) (k : Nat) (v : Word) : (d.sgWord k v).tmRam = d.tmRam := rfl
@[simp] theorem Dev.sgWord_lutRam (d : Dev) (k : Nat) (v : Word) : (d.sgWord k v).lutRam = d.lutRam := rfl
@[simp] theorem Dev.sgWord_loads (d : Dev) (k : Nat) (v : Word) : (d.sgWord k v).loads = d.loads := rfl
@[simp] theorem Dev.sgWord_hist (d : Dev) (k : Nat) (v : Word) : (d.sgWord k v).hist = d.hist := rfl
@[simp] theorem Dev.sgWord_refs (d : Dev) (k : Nat) (v : Word) : (d.sgWord k v).refs = d.refs := rfl
@[simp] theorem Dev.sgWord_flipCarry (d : Dev) (k : Nat) (v : Word) : (d.sgWord k v).flipCarry = d.flipCarry := rfl
@[simp] theorem Dev.sgWord_rises (d : Dev) (k : Nat) (v : Word) : (d.sgWord k v).rises = d.rises := rfl
@[simp] theorem Dev.sgWord_ceTimes (d : Dev) (k : Nat) (v : Word) : (d.sgWord k v).ceTimes = d.ceTimes := rfl
@[simp] theorem Dev.sgWord_declTest (d : Dev) (k : Nat) (v : Word) : (d.sgWord k v).declTest = d.declTest := rfl
@[simp] theorem Dev.sgWord_poison (d : Dev) (k : Nat) (v : Word) : (d.sgWord k v).poison = d.poison := rfl
@[simp] theorem Dev.sgWord_scJob (d : Dev) (k : Nat) (v : Word) : (d.sgWord k v).scJob = d.scJob := rfl
@[simp] theorem Dev.sgWord_scLast (d : Dev) (k : Nat) (v : Word) : (d.sgWord k v).scLast = d.scLast := rfl
@[simp] theorem Dev.sgWord_dmaWords (d : Dev) (k : Nat) (v : Word) : (d.sgWord k v).dmaWords = d.dmaWords := rfl
@[simp] theorem Dev.sgWord_dmaServed (d : Dev) (k : Nat) (v : Word) : (d.sgWord k v).dmaServed = d.dmaServed := rfl
@[simp] theorem Dev.sgWord_descBad (d : Dev) (k : Nat) (v : Word) : (d.sgWord k v).descBad = d.descBad := rfl
@[simp] theorem Dev.sgWord_training (d : Dev) (k : Nat) (v : Word) : (d.sgWord k v).training = d.training := rfl
@[simp] theorem Dev.sgWord_lastTick (d : Dev) (k : Nat) (v : Word) : (d.sgWord k v).lastTick = d.lastTick := rfl
@[simp] theorem Dev.sgWord_tickSrc (d : Dev) (k : Nat) (v : Word) : (d.sgWord k v).tickSrc = d.tickSrc := rfl
@[simp] theorem Dev.sgWord_refEdge (d : Dev) (k : Nat) (v : Word) : (d.sgWord k v).refEdge = d.refEdge := rfl
@[simp] theorem Dev.sgWord_hearth (d : Dev) (k : Nat) (v : Word) : (d.sgWord k v).hearth = d.hearth := rfl
@[simp] theorem Dev.sgWord_icp (d : Dev) (k : Nat) (v : Word) : (d.sgWord k v).icp = d.icp := rfl
@[simp] theorem Dev.sgWord_power (d : Dev) (k : Nat) (v : Word) : (d.sgWord k v).power = d.power := rfl
@[simp] theorem Dev.sgWord_test (d : Dev) (k : Nat) (v : Word) : (d.sgWord k v).test = d.test := rfl
@[simp] theorem Dev.sgWord_challenge (d : Dev) (k : Nat) (v : Word) : (d.sgWord k v).challenge = d.challenge := rfl

@[simp] theorem Dev.spWord_now (d : Dev) (k : Nat) (v : Word) : (d.spWord k v).now = d.now := rfl
@[simp] theorem Dev.spWord_free (d : Dev) (k : Nat) (v : Word) : (d.spWord k v).free = d.free := rfl
@[simp] theorem Dev.spWord_out (d : Dev) (k : Nat) (v : Word) : (d.spWord k v).out = d.out := rfl
@[simp] theorem Dev.spWord_regs (d : Dev) (k : Nat) (v : Word) : (d.spWord k v).regs = d.regs := rfl
@[simp] theorem Dev.spWord_proof (d : Dev) (k : Nat) (v : Word) :
    (d.spWord k v).proof = Tab.put dfltB d.proof k v := rfl
@[simp] theorem Dev.spWord_active (d : Dev) (k : Nat) (v : Word) : (d.spWord k v).active = d.active := rfl
@[simp] theorem Dev.spWord_armed (d : Dev) (k : Nat) (v : Word) : (d.spWord k v).armed = d.armed := rfl
@[simp] theorem Dev.spWord_late (d : Dev) (k : Nat) (v : Word) : (d.spWord k v).late = d.late := rfl
@[simp] theorem Dev.spWord_strobes (d : Dev) (k : Nat) (v : Word) : (d.spWord k v).strobes = d.strobes := rfl
@[simp] theorem Dev.spWord_seq (d : Dev) (k : Nat) (v : Word) : (d.spWord k v).seq = d.seq := rfl
@[simp] theorem Dev.spWord_pipeSt (d : Dev) (k : Nat) (v : Word) : (d.spWord k v).pipeSt = d.pipeSt := rfl
@[simp] theorem Dev.spWord_posted (d : Dev) (k : Nat) (v : Word) : (d.spWord k v).posted = d.posted := rfl
@[simp] theorem Dev.spWord_heldReads (d : Dev) (k : Nat) (v : Word) : (d.spWord k v).heldReads = d.heldReads := rfl
@[simp] theorem Dev.spWord_latch (d : Dev) (k : Nat) (v : Word) : (d.spWord k v).latch = d.latch := rfl
@[simp] theorem Dev.spWord_heldLo (d : Dev) (k : Nat) (v : Word) : (d.spWord k v).heldLo = d.heldLo := rfl
@[simp] theorem Dev.spWord_locked (d : Dev) (k : Nat) (v : Word) : (d.spWord k v).locked = d.locked := rfl
@[simp] theorem Dev.spWord_mismatches (d : Dev) (k : Nat) (v : Word) : (d.spWord k v).mismatches = d.mismatches := rfl
@[simp] theorem Dev.spWord_latent (d : Dev) (k : Nat) (v : Word) : (d.spWord k v).latent = d.latent := rfl
@[simp] theorem Dev.spWord_superseded (d : Dev) (k : Nat) (v : Word) : (d.spWord k v).superseded = d.superseded := rfl
@[simp] theorem Dev.spWord_accepted (d : Dev) (k : Nat) (v : Word) : (d.spWord k v).accepted = d.accepted := rfl
@[simp] theorem Dev.spWord_log (d : Dev) (k : Nat) (v : Word) : (d.spWord k v).log = d.log := rfl
@[simp] theorem Dev.spWord_logNext (d : Dev) (k : Nat) (v : Word) : (d.spWord k v).logNext = d.logNext := rfl
@[simp] theorem Dev.spWord_logUsed (d : Dev) (k : Nat) (v : Word) : (d.spWord k v).logUsed = d.logUsed := rfl
@[simp] theorem Dev.spWord_logDropped (d : Dev) (k : Nat) (v : Word) : (d.spWord k v).logDropped = d.logDropped := rfl
@[simp] theorem Dev.spWord_logDeferred (d : Dev) (k : Nat) (v : Word) :
    (d.spWord k v).logDeferred = d.logDeferred := rfl
@[simp] theorem Dev.spWord_logOverwritten (d : Dev) (k : Nat) (v : Word) :
    (d.spWord k v).logOverwritten = d.logOverwritten := rfl
@[simp] theorem Dev.spWord_startAt (d : Dev) (k : Nat) (v : Word) : (d.spWord k v).startAt = d.startAt := rfl
@[simp] theorem Dev.spWord_mem (d : Dev) (k : Nat) (v : Word) : (d.spWord k v).mem = d.mem := rfl
@[simp] theorem Dev.spWord_hostMem (d : Dev) (k : Nat) (v : Word) : (d.spWord k v).hostMem = d.hostMem := rfl
@[simp] theorem Dev.spWord_surf (d : Dev) (k : Nat) (v : Word) : (d.spWord k v).surf = d.surf := rfl
@[simp] theorem Dev.spWord_fence (d : Dev) (k : Nat) (v : Word) : (d.spWord k v).fence = d.fence := rfl
@[simp] theorem Dev.spWord_watchArmed (d : Dev) (k : Nat) (v : Word) : (d.spWord k v).watchArmed = d.watchArmed := rfl
@[simp] theorem Dev.spWord_soon (d : Dev) (k : Nat) (v : Word) : (d.spWord k v).soon = d.soon := rfl
@[simp] theorem Dev.spWord_bell (d : Dev) (k : Nat) (v : Word) : (d.spWord k v).bell = d.bell := rfl
@[simp] theorem Dev.spWord_cmdAt (d : Dev) (k : Nat) (v : Word) : (d.spWord k v).cmdAt = d.cmdAt := rfl
@[simp] theorem Dev.spWord_hints (d : Dev) (k : Nat) (v : Word) : (d.spWord k v).hints = d.hints := rfl
@[simp] theorem Dev.spWord_hinted (d : Dev) (k : Nat) (v : Word) : (d.spWord k v).hinted = d.hinted := rfl
@[simp] theorem Dev.spWord_changed (d : Dev) (k : Nat) (v : Word) : (d.spWord k v).changed = d.changed := rfl
@[simp] theorem Dev.spWord_dirty (d : Dev) (k : Nat) (v : Word) : (d.spWord k v).dirty = d.dirty := rfl
@[simp] theorem Dev.spWord_tiles (d : Dev) (k : Nat) (v : Word) : (d.spWord k v).tiles = d.tiles := rfl
@[simp] theorem Dev.spWord_crust (d : Dev) (k : Nat) (v : Word) : (d.spWord k v).crust = d.crust := rfl
@[simp] theorem Dev.spWord_claims (d : Dev) (k : Nat) (v : Word) : (d.spWord k v).claims = d.claims := rfl
@[simp] theorem Dev.spWord_replan (d : Dev) (k : Nat) (v : Word) : (d.spWord k v).replan = d.replan := rfl
@[simp] theorem Dev.spWord_tmRam (d : Dev) (k : Nat) (v : Word) : (d.spWord k v).tmRam = d.tmRam := rfl
@[simp] theorem Dev.spWord_lutRam (d : Dev) (k : Nat) (v : Word) : (d.spWord k v).lutRam = d.lutRam := rfl
@[simp] theorem Dev.spWord_loads (d : Dev) (k : Nat) (v : Word) : (d.spWord k v).loads = d.loads := rfl
@[simp] theorem Dev.spWord_hist (d : Dev) (k : Nat) (v : Word) : (d.spWord k v).hist = d.hist := rfl
@[simp] theorem Dev.spWord_refs (d : Dev) (k : Nat) (v : Word) : (d.spWord k v).refs = d.refs := rfl
@[simp] theorem Dev.spWord_flipCarry (d : Dev) (k : Nat) (v : Word) : (d.spWord k v).flipCarry = d.flipCarry := rfl
@[simp] theorem Dev.spWord_rises (d : Dev) (k : Nat) (v : Word) : (d.spWord k v).rises = d.rises := rfl
@[simp] theorem Dev.spWord_ceTimes (d : Dev) (k : Nat) (v : Word) : (d.spWord k v).ceTimes = d.ceTimes := rfl
@[simp] theorem Dev.spWord_declTest (d : Dev) (k : Nat) (v : Word) : (d.spWord k v).declTest = d.declTest := rfl
@[simp] theorem Dev.spWord_poison (d : Dev) (k : Nat) (v : Word) : (d.spWord k v).poison = d.poison := rfl
@[simp] theorem Dev.spWord_scJob (d : Dev) (k : Nat) (v : Word) : (d.spWord k v).scJob = d.scJob := rfl
@[simp] theorem Dev.spWord_scLast (d : Dev) (k : Nat) (v : Word) : (d.spWord k v).scLast = d.scLast := rfl
@[simp] theorem Dev.spWord_dmaWords (d : Dev) (k : Nat) (v : Word) : (d.spWord k v).dmaWords = d.dmaWords := rfl
@[simp] theorem Dev.spWord_dmaServed (d : Dev) (k : Nat) (v : Word) : (d.spWord k v).dmaServed = d.dmaServed := rfl
@[simp] theorem Dev.spWord_descBad (d : Dev) (k : Nat) (v : Word) : (d.spWord k v).descBad = d.descBad := rfl
@[simp] theorem Dev.spWord_training (d : Dev) (k : Nat) (v : Word) : (d.spWord k v).training = d.training := rfl
@[simp] theorem Dev.spWord_lastTick (d : Dev) (k : Nat) (v : Word) : (d.spWord k v).lastTick = d.lastTick := rfl
@[simp] theorem Dev.spWord_tickSrc (d : Dev) (k : Nat) (v : Word) : (d.spWord k v).tickSrc = d.tickSrc := rfl
@[simp] theorem Dev.spWord_refEdge (d : Dev) (k : Nat) (v : Word) : (d.spWord k v).refEdge = d.refEdge := rfl
@[simp] theorem Dev.spWord_hearth (d : Dev) (k : Nat) (v : Word) : (d.spWord k v).hearth = d.hearth := rfl
@[simp] theorem Dev.spWord_icp (d : Dev) (k : Nat) (v : Word) : (d.spWord k v).icp = d.icp := rfl
@[simp] theorem Dev.spWord_power (d : Dev) (k : Nat) (v : Word) : (d.spWord k v).power = d.power := rfl
@[simp] theorem Dev.spWord_test (d : Dev) (k : Nat) (v : Word) : (d.spWord k v).test = d.test := rfl
@[simp] theorem Dev.spWord_challenge (d : Dev) (k : Nat) (v : Word) : (d.spWord k v).challenge = d.challenge := rfl

@[simp] theorem Dev.send_now (d : Dev) (o : Out) : (d.send o).now = d.now := rfl
@[simp] theorem Dev.send_free (d : Dev) (o : Out) : (d.send o).free = d.free := rfl
@[simp] theorem Dev.send_out (d : Dev) (o : Out) : (d.send o).out = o :: d.out := rfl
@[simp] theorem Dev.send_regs (d : Dev) (o : Out) : (d.send o).regs = d.regs := rfl
@[simp] theorem Dev.send_proof (d : Dev) (o : Out) : (d.send o).proof = d.proof := rfl
@[simp] theorem Dev.send_active (d : Dev) (o : Out) : (d.send o).active = d.active := rfl
@[simp] theorem Dev.send_armed (d : Dev) (o : Out) : (d.send o).armed = d.armed := rfl
@[simp] theorem Dev.send_late (d : Dev) (o : Out) : (d.send o).late = d.late := rfl
@[simp] theorem Dev.send_strobes (d : Dev) (o : Out) : (d.send o).strobes = d.strobes := rfl
@[simp] theorem Dev.send_seq (d : Dev) (o : Out) : (d.send o).seq = d.seq := rfl
@[simp] theorem Dev.send_pipeSt (d : Dev) (o : Out) : (d.send o).pipeSt = d.pipeSt := rfl
@[simp] theorem Dev.send_posted (d : Dev) (o : Out) : (d.send o).posted = d.posted := rfl
@[simp] theorem Dev.send_heldReads (d : Dev) (o : Out) : (d.send o).heldReads = d.heldReads := rfl
@[simp] theorem Dev.send_latch (d : Dev) (o : Out) : (d.send o).latch = d.latch := rfl
@[simp] theorem Dev.send_heldLo (d : Dev) (o : Out) : (d.send o).heldLo = d.heldLo := rfl
@[simp] theorem Dev.send_locked (d : Dev) (o : Out) : (d.send o).locked = d.locked := rfl
@[simp] theorem Dev.send_mismatches (d : Dev) (o : Out) : (d.send o).mismatches = d.mismatches := rfl
@[simp] theorem Dev.send_latent (d : Dev) (o : Out) : (d.send o).latent = d.latent := rfl
@[simp] theorem Dev.send_superseded (d : Dev) (o : Out) : (d.send o).superseded = d.superseded := rfl
@[simp] theorem Dev.send_accepted (d : Dev) (o : Out) : (d.send o).accepted = d.accepted := rfl
@[simp] theorem Dev.send_log (d : Dev) (o : Out) : (d.send o).log = d.log := rfl
@[simp] theorem Dev.send_logNext (d : Dev) (o : Out) : (d.send o).logNext = d.logNext := rfl
@[simp] theorem Dev.send_logUsed (d : Dev) (o : Out) : (d.send o).logUsed = d.logUsed := rfl
@[simp] theorem Dev.send_logDropped (d : Dev) (o : Out) : (d.send o).logDropped = d.logDropped := rfl
@[simp] theorem Dev.send_logDeferred (d : Dev) (o : Out) : (d.send o).logDeferred = d.logDeferred := rfl
@[simp] theorem Dev.send_logOverwritten (d : Dev) (o : Out) : (d.send o).logOverwritten = d.logOverwritten := rfl
@[simp] theorem Dev.send_startAt (d : Dev) (o : Out) : (d.send o).startAt = d.startAt := rfl
@[simp] theorem Dev.send_mem (d : Dev) (o : Out) : (d.send o).mem = d.mem := rfl
@[simp] theorem Dev.send_hostMem (d : Dev) (o : Out) : (d.send o).hostMem = d.hostMem := rfl
@[simp] theorem Dev.send_surf (d : Dev) (o : Out) : (d.send o).surf = d.surf := rfl
@[simp] theorem Dev.send_fence (d : Dev) (o : Out) : (d.send o).fence = d.fence := rfl
@[simp] theorem Dev.send_watchArmed (d : Dev) (o : Out) : (d.send o).watchArmed = d.watchArmed := rfl
@[simp] theorem Dev.send_soon (d : Dev) (o : Out) : (d.send o).soon = d.soon := rfl
@[simp] theorem Dev.send_bell (d : Dev) (o : Out) : (d.send o).bell = d.bell := rfl
@[simp] theorem Dev.send_cmdAt (d : Dev) (o : Out) : (d.send o).cmdAt = d.cmdAt := rfl
@[simp] theorem Dev.send_hints (d : Dev) (o : Out) : (d.send o).hints = d.hints := rfl
@[simp] theorem Dev.send_hinted (d : Dev) (o : Out) : (d.send o).hinted = d.hinted := rfl
@[simp] theorem Dev.send_changed (d : Dev) (o : Out) : (d.send o).changed = d.changed := rfl
@[simp] theorem Dev.send_dirty (d : Dev) (o : Out) : (d.send o).dirty = d.dirty := rfl
@[simp] theorem Dev.send_tiles (d : Dev) (o : Out) : (d.send o).tiles = d.tiles := rfl
@[simp] theorem Dev.send_crust (d : Dev) (o : Out) : (d.send o).crust = d.crust := rfl
@[simp] theorem Dev.send_claims (d : Dev) (o : Out) : (d.send o).claims = d.claims := rfl
@[simp] theorem Dev.send_replan (d : Dev) (o : Out) : (d.send o).replan = d.replan := rfl
@[simp] theorem Dev.send_tmRam (d : Dev) (o : Out) : (d.send o).tmRam = d.tmRam := rfl
@[simp] theorem Dev.send_lutRam (d : Dev) (o : Out) : (d.send o).lutRam = d.lutRam := rfl
@[simp] theorem Dev.send_loads (d : Dev) (o : Out) : (d.send o).loads = d.loads := rfl
@[simp] theorem Dev.send_hist (d : Dev) (o : Out) : (d.send o).hist = d.hist := rfl
@[simp] theorem Dev.send_refs (d : Dev) (o : Out) : (d.send o).refs = d.refs := rfl
@[simp] theorem Dev.send_flipCarry (d : Dev) (o : Out) : (d.send o).flipCarry = d.flipCarry := rfl
@[simp] theorem Dev.send_rises (d : Dev) (o : Out) : (d.send o).rises = d.rises := rfl
@[simp] theorem Dev.send_ceTimes (d : Dev) (o : Out) : (d.send o).ceTimes = d.ceTimes := rfl
@[simp] theorem Dev.send_declTest (d : Dev) (o : Out) : (d.send o).declTest = d.declTest := rfl
@[simp] theorem Dev.send_poison (d : Dev) (o : Out) : (d.send o).poison = d.poison := rfl
@[simp] theorem Dev.send_scJob (d : Dev) (o : Out) : (d.send o).scJob = d.scJob := rfl
@[simp] theorem Dev.send_scLast (d : Dev) (o : Out) : (d.send o).scLast = d.scLast := rfl
@[simp] theorem Dev.send_dmaWords (d : Dev) (o : Out) : (d.send o).dmaWords = d.dmaWords := rfl
@[simp] theorem Dev.send_dmaServed (d : Dev) (o : Out) : (d.send o).dmaServed = d.dmaServed := rfl
@[simp] theorem Dev.send_descBad (d : Dev) (o : Out) : (d.send o).descBad = d.descBad := rfl
@[simp] theorem Dev.send_training (d : Dev) (o : Out) : (d.send o).training = d.training := rfl
@[simp] theorem Dev.send_lastTick (d : Dev) (o : Out) : (d.send o).lastTick = d.lastTick := rfl
@[simp] theorem Dev.send_tickSrc (d : Dev) (o : Out) : (d.send o).tickSrc = d.tickSrc := rfl
@[simp] theorem Dev.send_refEdge (d : Dev) (o : Out) : (d.send o).refEdge = d.refEdge := rfl
@[simp] theorem Dev.send_hearth (d : Dev) (o : Out) : (d.send o).hearth = d.hearth := rfl
@[simp] theorem Dev.send_icp (d : Dev) (o : Out) : (d.send o).icp = d.icp := rfl
@[simp] theorem Dev.send_power (d : Dev) (o : Out) : (d.send o).power = d.power := rfl
@[simp] theorem Dev.send_test (d : Dev) (o : Out) : (d.send o).test = d.test := rfl
@[simp] theorem Dev.send_challenge (d : Dev) (o : Out) : (d.send o).challenge = d.challenge := rfl

@[simp] theorem Dev.store_now (d : Dev) (a : Nat) (bs : List Byte) : (d.store a bs).now = d.now := rfl
@[simp] theorem Dev.store_free (d : Dev) (a : Nat) (bs : List Byte) : (d.store a bs).free = d.free := rfl
@[simp] theorem Dev.store_out (d : Dev) (a : Nat) (bs : List Byte) : (d.store a bs).out = d.out := rfl
@[simp] theorem Dev.store_regs (d : Dev) (a : Nat) (bs : List Byte) : (d.store a bs).regs = d.regs := rfl
@[simp] theorem Dev.store_proof (d : Dev) (a : Nat) (bs : List Byte) : (d.store a bs).proof = d.proof := rfl
@[simp] theorem Dev.store_active (d : Dev) (a : Nat) (bs : List Byte) : (d.store a bs).active = d.active := rfl
@[simp] theorem Dev.store_armed (d : Dev) (a : Nat) (bs : List Byte) : (d.store a bs).armed = d.armed := rfl
@[simp] theorem Dev.store_late (d : Dev) (a : Nat) (bs : List Byte) : (d.store a bs).late = d.late := rfl
@[simp] theorem Dev.store_strobes (d : Dev) (a : Nat) (bs : List Byte) : (d.store a bs).strobes = d.strobes := rfl
@[simp] theorem Dev.store_seq (d : Dev) (a : Nat) (bs : List Byte) : (d.store a bs).seq = d.seq := rfl
@[simp] theorem Dev.store_pipeSt (d : Dev) (a : Nat) (bs : List Byte) : (d.store a bs).pipeSt = d.pipeSt := rfl
@[simp] theorem Dev.store_posted (d : Dev) (a : Nat) (bs : List Byte) : (d.store a bs).posted = d.posted := rfl
@[simp] theorem Dev.store_heldReads (d : Dev) (a : Nat) (bs : List Byte) : (d.store a bs).heldReads = d.heldReads := rfl
@[simp] theorem Dev.store_latch (d : Dev) (a : Nat) (bs : List Byte) : (d.store a bs).latch = d.latch := rfl
@[simp] theorem Dev.store_heldLo (d : Dev) (a : Nat) (bs : List Byte) : (d.store a bs).heldLo = d.heldLo := rfl
@[simp] theorem Dev.store_locked (d : Dev) (a : Nat) (bs : List Byte) : (d.store a bs).locked = d.locked := rfl
@[simp] theorem Dev.store_mismatches (d : Dev) (a : Nat) (bs : List Byte) :
    (d.store a bs).mismatches = d.mismatches := rfl
@[simp] theorem Dev.store_latent (d : Dev) (a : Nat) (bs : List Byte) : (d.store a bs).latent = d.latent := rfl
@[simp] theorem Dev.store_superseded (d : Dev) (a : Nat) (bs : List Byte) :
    (d.store a bs).superseded = d.superseded := rfl
@[simp] theorem Dev.store_accepted (d : Dev) (a : Nat) (bs : List Byte) : (d.store a bs).accepted = d.accepted := rfl
@[simp] theorem Dev.store_log (d : Dev) (a : Nat) (bs : List Byte) : (d.store a bs).log = d.log := rfl
@[simp] theorem Dev.store_logNext (d : Dev) (a : Nat) (bs : List Byte) : (d.store a bs).logNext = d.logNext := rfl
@[simp] theorem Dev.store_logUsed (d : Dev) (a : Nat) (bs : List Byte) : (d.store a bs).logUsed = d.logUsed := rfl
@[simp] theorem Dev.store_logDropped (d : Dev) (a : Nat) (bs : List Byte) :
    (d.store a bs).logDropped = d.logDropped := rfl
@[simp] theorem Dev.store_logDeferred (d : Dev) (a : Nat) (bs : List Byte) :
    (d.store a bs).logDeferred = d.logDeferred := rfl
@[simp] theorem Dev.store_logOverwritten (d : Dev) (a : Nat) (bs : List Byte) :
    (d.store a bs).logOverwritten = d.logOverwritten := rfl
@[simp] theorem Dev.store_startAt (d : Dev) (a : Nat) (bs : List Byte) : (d.store a bs).startAt = d.startAt := rfl
@[simp] theorem Dev.store_mem (d : Dev) (a : Nat) (bs : List Byte) :
    (d.store a bs).mem = Tab.putList dfltMem d.mem a bs := rfl
@[simp] theorem Dev.store_hostMem (d : Dev) (a : Nat) (bs : List Byte) : (d.store a bs).hostMem = d.hostMem := rfl
@[simp] theorem Dev.store_surf (d : Dev) (a : Nat) (bs : List Byte) : (d.store a bs).surf = d.surf := rfl
@[simp] theorem Dev.store_fence (d : Dev) (a : Nat) (bs : List Byte) : (d.store a bs).fence = d.fence := rfl
@[simp] theorem Dev.store_watchArmed (d : Dev) (a : Nat) (bs : List Byte) :
    (d.store a bs).watchArmed = d.watchArmed := rfl
@[simp] theorem Dev.store_soon (d : Dev) (a : Nat) (bs : List Byte) : (d.store a bs).soon = d.soon := rfl
@[simp] theorem Dev.store_bell (d : Dev) (a : Nat) (bs : List Byte) : (d.store a bs).bell = d.bell := rfl
@[simp] theorem Dev.store_cmdAt (d : Dev) (a : Nat) (bs : List Byte) : (d.store a bs).cmdAt = d.cmdAt := rfl
@[simp] theorem Dev.store_hints (d : Dev) (a : Nat) (bs : List Byte) : (d.store a bs).hints = d.hints := rfl
@[simp] theorem Dev.store_hinted (d : Dev) (a : Nat) (bs : List Byte) : (d.store a bs).hinted = d.hinted := rfl
@[simp] theorem Dev.store_changed (d : Dev) (a : Nat) (bs : List Byte) : (d.store a bs).changed = d.changed := rfl
@[simp] theorem Dev.store_dirty (d : Dev) (a : Nat) (bs : List Byte) : (d.store a bs).dirty = d.dirty := rfl
@[simp] theorem Dev.store_tiles (d : Dev) (a : Nat) (bs : List Byte) : (d.store a bs).tiles = d.tiles := rfl
@[simp] theorem Dev.store_crust (d : Dev) (a : Nat) (bs : List Byte) : (d.store a bs).crust = d.crust := rfl
@[simp] theorem Dev.store_claims (d : Dev) (a : Nat) (bs : List Byte) : (d.store a bs).claims = d.claims := rfl
@[simp] theorem Dev.store_replan (d : Dev) (a : Nat) (bs : List Byte) : (d.store a bs).replan = d.replan := rfl
@[simp] theorem Dev.store_tmRam (d : Dev) (a : Nat) (bs : List Byte) : (d.store a bs).tmRam = d.tmRam := rfl
@[simp] theorem Dev.store_lutRam (d : Dev) (a : Nat) (bs : List Byte) : (d.store a bs).lutRam = d.lutRam := rfl
@[simp] theorem Dev.store_loads (d : Dev) (a : Nat) (bs : List Byte) : (d.store a bs).loads = d.loads := rfl
@[simp] theorem Dev.store_hist (d : Dev) (a : Nat) (bs : List Byte) : (d.store a bs).hist = d.hist := rfl
@[simp] theorem Dev.store_refs (d : Dev) (a : Nat) (bs : List Byte) : (d.store a bs).refs = d.refs := rfl
@[simp] theorem Dev.store_flipCarry (d : Dev) (a : Nat) (bs : List Byte) : (d.store a bs).flipCarry = d.flipCarry := rfl
@[simp] theorem Dev.store_rises (d : Dev) (a : Nat) (bs : List Byte) : (d.store a bs).rises = d.rises := rfl
@[simp] theorem Dev.store_ceTimes (d : Dev) (a : Nat) (bs : List Byte) : (d.store a bs).ceTimes = d.ceTimes := rfl
@[simp] theorem Dev.store_declTest (d : Dev) (a : Nat) (bs : List Byte) : (d.store a bs).declTest = d.declTest := rfl
@[simp] theorem Dev.store_poison (d : Dev) (a : Nat) (bs : List Byte) : (d.store a bs).poison = d.poison := rfl
@[simp] theorem Dev.store_scJob (d : Dev) (a : Nat) (bs : List Byte) : (d.store a bs).scJob = d.scJob := rfl
@[simp] theorem Dev.store_scLast (d : Dev) (a : Nat) (bs : List Byte) : (d.store a bs).scLast = d.scLast := rfl
@[simp] theorem Dev.store_dmaWords (d : Dev) (a : Nat) (bs : List Byte) : (d.store a bs).dmaWords = d.dmaWords := rfl
@[simp] theorem Dev.store_dmaServed (d : Dev) (a : Nat) (bs : List Byte) : (d.store a bs).dmaServed = d.dmaServed := rfl
@[simp] theorem Dev.store_descBad (d : Dev) (a : Nat) (bs : List Byte) : (d.store a bs).descBad = d.descBad := rfl
@[simp] theorem Dev.store_training (d : Dev) (a : Nat) (bs : List Byte) : (d.store a bs).training = d.training := rfl
@[simp] theorem Dev.store_lastTick (d : Dev) (a : Nat) (bs : List Byte) : (d.store a bs).lastTick = d.lastTick := rfl
@[simp] theorem Dev.store_tickSrc (d : Dev) (a : Nat) (bs : List Byte) : (d.store a bs).tickSrc = d.tickSrc := rfl
@[simp] theorem Dev.store_refEdge (d : Dev) (a : Nat) (bs : List Byte) : (d.store a bs).refEdge = d.refEdge := rfl
@[simp] theorem Dev.store_hearth (d : Dev) (a : Nat) (bs : List Byte) : (d.store a bs).hearth = d.hearth := rfl
@[simp] theorem Dev.store_icp (d : Dev) (a : Nat) (bs : List Byte) : (d.store a bs).icp = d.icp := rfl
@[simp] theorem Dev.store_power (d : Dev) (a : Nat) (bs : List Byte) : (d.store a bs).power = d.power := rfl
@[simp] theorem Dev.store_test (d : Dev) (a : Nat) (bs : List Byte) : (d.store a bs).test = d.test := rfl
@[simp] theorem Dev.store_challenge (d : Dev) (a : Nat) (bs : List Byte) : (d.store a bs).challenge = d.challenge := rfl

@[simp] theorem Dev.hostStore_now (d : Dev) (a : Nat) (bs : List Byte) : (d.hostStore a bs).now = d.now := rfl
@[simp] theorem Dev.hostStore_free (d : Dev) (a : Nat) (bs : List Byte) : (d.hostStore a bs).free = d.free := rfl
@[simp] theorem Dev.hostStore_out (d : Dev) (a : Nat) (bs : List Byte) : (d.hostStore a bs).out = d.out := rfl
@[simp] theorem Dev.hostStore_regs (d : Dev) (a : Nat) (bs : List Byte) : (d.hostStore a bs).regs = d.regs := rfl
@[simp] theorem Dev.hostStore_proof (d : Dev) (a : Nat) (bs : List Byte) : (d.hostStore a bs).proof = d.proof := rfl
@[simp] theorem Dev.hostStore_active (d : Dev) (a : Nat) (bs : List Byte) : (d.hostStore a bs).active = d.active := rfl
@[simp] theorem Dev.hostStore_armed (d : Dev) (a : Nat) (bs : List Byte) : (d.hostStore a bs).armed = d.armed := rfl
@[simp] theorem Dev.hostStore_late (d : Dev) (a : Nat) (bs : List Byte) : (d.hostStore a bs).late = d.late := rfl
@[simp] theorem Dev.hostStore_strobes (d : Dev) (a : Nat) (bs : List Byte) :
    (d.hostStore a bs).strobes = d.strobes := rfl
@[simp] theorem Dev.hostStore_seq (d : Dev) (a : Nat) (bs : List Byte) : (d.hostStore a bs).seq = d.seq := rfl
@[simp] theorem Dev.hostStore_pipeSt (d : Dev) (a : Nat) (bs : List Byte) : (d.hostStore a bs).pipeSt = d.pipeSt := rfl
@[simp] theorem Dev.hostStore_posted (d : Dev) (a : Nat) (bs : List Byte) : (d.hostStore a bs).posted = d.posted := rfl
@[simp] theorem Dev.hostStore_heldReads (d : Dev) (a : Nat) (bs : List Byte) :
    (d.hostStore a bs).heldReads = d.heldReads := rfl
@[simp] theorem Dev.hostStore_latch (d : Dev) (a : Nat) (bs : List Byte) : (d.hostStore a bs).latch = d.latch := rfl
@[simp] theorem Dev.hostStore_heldLo (d : Dev) (a : Nat) (bs : List Byte) : (d.hostStore a bs).heldLo = d.heldLo := rfl
@[simp] theorem Dev.hostStore_locked (d : Dev) (a : Nat) (bs : List Byte) : (d.hostStore a bs).locked = d.locked := rfl
@[simp] theorem Dev.hostStore_mismatches (d : Dev) (a : Nat) (bs : List Byte) :
    (d.hostStore a bs).mismatches = d.mismatches := rfl
@[simp] theorem Dev.hostStore_latent (d : Dev) (a : Nat) (bs : List Byte) : (d.hostStore a bs).latent = d.latent := rfl
@[simp] theorem Dev.hostStore_superseded (d : Dev) (a : Nat) (bs : List Byte) :
    (d.hostStore a bs).superseded = d.superseded := rfl
@[simp] theorem Dev.hostStore_accepted (d : Dev) (a : Nat) (bs : List Byte) :
    (d.hostStore a bs).accepted = d.accepted := rfl
@[simp] theorem Dev.hostStore_log (d : Dev) (a : Nat) (bs : List Byte) : (d.hostStore a bs).log = d.log := rfl
@[simp] theorem Dev.hostStore_logNext (d : Dev) (a : Nat) (bs : List Byte) :
    (d.hostStore a bs).logNext = d.logNext := rfl
@[simp] theorem Dev.hostStore_logUsed (d : Dev) (a : Nat) (bs : List Byte) :
    (d.hostStore a bs).logUsed = d.logUsed := rfl
@[simp] theorem Dev.hostStore_logDropped (d : Dev) (a : Nat) (bs : List Byte) :
    (d.hostStore a bs).logDropped = d.logDropped := rfl
@[simp] theorem Dev.hostStore_logDeferred (d : Dev) (a : Nat) (bs : List Byte) :
    (d.hostStore a bs).logDeferred = d.logDeferred := rfl
@[simp] theorem Dev.hostStore_logOverwritten (d : Dev) (a : Nat) (bs : List Byte) :
    (d.hostStore a bs).logOverwritten = d.logOverwritten := rfl
@[simp] theorem Dev.hostStore_startAt (d : Dev) (a : Nat) (bs : List Byte) :
    (d.hostStore a bs).startAt = d.startAt := rfl
@[simp] theorem Dev.hostStore_mem (d : Dev) (a : Nat) (bs : List Byte) : (d.hostStore a bs).mem = d.mem := rfl
@[simp] theorem Dev.hostStore_hostMem (d : Dev) (a : Nat) (bs : List Byte) :
    (d.hostStore a bs).hostMem = Tab.putList dfltMem d.hostMem a bs := rfl
@[simp] theorem Dev.hostStore_surf (d : Dev) (a : Nat) (bs : List Byte) : (d.hostStore a bs).surf = d.surf := rfl
@[simp] theorem Dev.hostStore_fence (d : Dev) (a : Nat) (bs : List Byte) : (d.hostStore a bs).fence = d.fence := rfl
@[simp] theorem Dev.hostStore_watchArmed (d : Dev) (a : Nat) (bs : List Byte) :
    (d.hostStore a bs).watchArmed = d.watchArmed := rfl
@[simp] theorem Dev.hostStore_soon (d : Dev) (a : Nat) (bs : List Byte) : (d.hostStore a bs).soon = d.soon := rfl
@[simp] theorem Dev.hostStore_bell (d : Dev) (a : Nat) (bs : List Byte) : (d.hostStore a bs).bell = d.bell := rfl
@[simp] theorem Dev.hostStore_cmdAt (d : Dev) (a : Nat) (bs : List Byte) : (d.hostStore a bs).cmdAt = d.cmdAt := rfl
@[simp] theorem Dev.hostStore_hints (d : Dev) (a : Nat) (bs : List Byte) : (d.hostStore a bs).hints = d.hints := rfl
@[simp] theorem Dev.hostStore_hinted (d : Dev) (a : Nat) (bs : List Byte) : (d.hostStore a bs).hinted = d.hinted := rfl
@[simp] theorem Dev.hostStore_changed (d : Dev) (a : Nat) (bs : List Byte) :
    (d.hostStore a bs).changed = d.changed := rfl
@[simp] theorem Dev.hostStore_dirty (d : Dev) (a : Nat) (bs : List Byte) : (d.hostStore a bs).dirty = d.dirty := rfl
@[simp] theorem Dev.hostStore_tiles (d : Dev) (a : Nat) (bs : List Byte) : (d.hostStore a bs).tiles = d.tiles := rfl
@[simp] theorem Dev.hostStore_crust (d : Dev) (a : Nat) (bs : List Byte) : (d.hostStore a bs).crust = d.crust := rfl
@[simp] theorem Dev.hostStore_claims (d : Dev) (a : Nat) (bs : List Byte) : (d.hostStore a bs).claims = d.claims := rfl
@[simp] theorem Dev.hostStore_replan (d : Dev) (a : Nat) (bs : List Byte) : (d.hostStore a bs).replan = d.replan := rfl
@[simp] theorem Dev.hostStore_tmRam (d : Dev) (a : Nat) (bs : List Byte) : (d.hostStore a bs).tmRam = d.tmRam := rfl
@[simp] theorem Dev.hostStore_lutRam (d : Dev) (a : Nat) (bs : List Byte) : (d.hostStore a bs).lutRam = d.lutRam := rfl
@[simp] theorem Dev.hostStore_loads (d : Dev) (a : Nat) (bs : List Byte) : (d.hostStore a bs).loads = d.loads := rfl
@[simp] theorem Dev.hostStore_hist (d : Dev) (a : Nat) (bs : List Byte) : (d.hostStore a bs).hist = d.hist := rfl
@[simp] theorem Dev.hostStore_refs (d : Dev) (a : Nat) (bs : List Byte) : (d.hostStore a bs).refs = d.refs := rfl
@[simp] theorem Dev.hostStore_flipCarry (d : Dev) (a : Nat) (bs : List Byte) :
    (d.hostStore a bs).flipCarry = d.flipCarry := rfl
@[simp] theorem Dev.hostStore_rises (d : Dev) (a : Nat) (bs : List Byte) : (d.hostStore a bs).rises = d.rises := rfl
@[simp] theorem Dev.hostStore_ceTimes (d : Dev) (a : Nat) (bs : List Byte) :
    (d.hostStore a bs).ceTimes = d.ceTimes := rfl
@[simp] theorem Dev.hostStore_declTest (d : Dev) (a : Nat) (bs : List Byte) :
    (d.hostStore a bs).declTest = d.declTest := rfl
@[simp] theorem Dev.hostStore_poison (d : Dev) (a : Nat) (bs : List Byte) : (d.hostStore a bs).poison = d.poison := rfl
@[simp] theorem Dev.hostStore_scJob (d : Dev) (a : Nat) (bs : List Byte) : (d.hostStore a bs).scJob = d.scJob := rfl
@[simp] theorem Dev.hostStore_scLast (d : Dev) (a : Nat) (bs : List Byte) : (d.hostStore a bs).scLast = d.scLast := rfl
@[simp] theorem Dev.hostStore_dmaWords (d : Dev) (a : Nat) (bs : List Byte) :
    (d.hostStore a bs).dmaWords = d.dmaWords := rfl
@[simp] theorem Dev.hostStore_dmaServed (d : Dev) (a : Nat) (bs : List Byte) :
    (d.hostStore a bs).dmaServed = d.dmaServed := rfl
@[simp] theorem Dev.hostStore_descBad (d : Dev) (a : Nat) (bs : List Byte) :
    (d.hostStore a bs).descBad = d.descBad := rfl
@[simp] theorem Dev.hostStore_training (d : Dev) (a : Nat) (bs : List Byte) :
    (d.hostStore a bs).training = d.training := rfl
@[simp] theorem Dev.hostStore_lastTick (d : Dev) (a : Nat) (bs : List Byte) :
    (d.hostStore a bs).lastTick = d.lastTick := rfl
@[simp] theorem Dev.hostStore_tickSrc (d : Dev) (a : Nat) (bs : List Byte) :
    (d.hostStore a bs).tickSrc = d.tickSrc := rfl
@[simp] theorem Dev.hostStore_refEdge (d : Dev) (a : Nat) (bs : List Byte) :
    (d.hostStore a bs).refEdge = d.refEdge := rfl
@[simp] theorem Dev.hostStore_hearth (d : Dev) (a : Nat) (bs : List Byte) : (d.hostStore a bs).hearth = d.hearth := rfl
@[simp] theorem Dev.hostStore_icp (d : Dev) (a : Nat) (bs : List Byte) : (d.hostStore a bs).icp = d.icp := rfl
@[simp] theorem Dev.hostStore_power (d : Dev) (a : Nat) (bs : List Byte) : (d.hostStore a bs).power = d.power := rfl
@[simp] theorem Dev.hostStore_test (d : Dev) (a : Nat) (bs : List Byte) : (d.hostStore a bs).test = d.test := rfl
@[simp] theorem Dev.hostStore_challenge (d : Dev) (a : Nat) (bs : List Byte) :
    (d.hostStore a bs).challenge = d.challenge := rfl

@[simp] theorem Dev.putSurf_now (d : Dev) (n : Nat) (x : Surf) : (d.putSurf n x).now = d.now := rfl
@[simp] theorem Dev.putSurf_free (d : Dev) (n : Nat) (x : Surf) : (d.putSurf n x).free = d.free := rfl
@[simp] theorem Dev.putSurf_out (d : Dev) (n : Nat) (x : Surf) : (d.putSurf n x).out = d.out := rfl
@[simp] theorem Dev.putSurf_regs (d : Dev) (n : Nat) (x : Surf) : (d.putSurf n x).regs = d.regs := rfl
@[simp] theorem Dev.putSurf_proof (d : Dev) (n : Nat) (x : Surf) : (d.putSurf n x).proof = d.proof := rfl
@[simp] theorem Dev.putSurf_active (d : Dev) (n : Nat) (x : Surf) : (d.putSurf n x).active = d.active := rfl
@[simp] theorem Dev.putSurf_armed (d : Dev) (n : Nat) (x : Surf) : (d.putSurf n x).armed = d.armed := rfl
@[simp] theorem Dev.putSurf_late (d : Dev) (n : Nat) (x : Surf) : (d.putSurf n x).late = d.late := rfl
@[simp] theorem Dev.putSurf_strobes (d : Dev) (n : Nat) (x : Surf) : (d.putSurf n x).strobes = d.strobes := rfl
@[simp] theorem Dev.putSurf_seq (d : Dev) (n : Nat) (x : Surf) : (d.putSurf n x).seq = d.seq := rfl
@[simp] theorem Dev.putSurf_pipeSt (d : Dev) (n : Nat) (x : Surf) : (d.putSurf n x).pipeSt = d.pipeSt := rfl
@[simp] theorem Dev.putSurf_posted (d : Dev) (n : Nat) (x : Surf) : (d.putSurf n x).posted = d.posted := rfl
@[simp] theorem Dev.putSurf_heldReads (d : Dev) (n : Nat) (x : Surf) : (d.putSurf n x).heldReads = d.heldReads := rfl
@[simp] theorem Dev.putSurf_latch (d : Dev) (n : Nat) (x : Surf) : (d.putSurf n x).latch = d.latch := rfl
@[simp] theorem Dev.putSurf_heldLo (d : Dev) (n : Nat) (x : Surf) : (d.putSurf n x).heldLo = d.heldLo := rfl
@[simp] theorem Dev.putSurf_locked (d : Dev) (n : Nat) (x : Surf) : (d.putSurf n x).locked = d.locked := rfl
@[simp] theorem Dev.putSurf_mismatches (d : Dev) (n : Nat) (x : Surf) : (d.putSurf n x).mismatches = d.mismatches := rfl
@[simp] theorem Dev.putSurf_latent (d : Dev) (n : Nat) (x : Surf) : (d.putSurf n x).latent = d.latent := rfl
@[simp] theorem Dev.putSurf_superseded (d : Dev) (n : Nat) (x : Surf) : (d.putSurf n x).superseded = d.superseded := rfl
@[simp] theorem Dev.putSurf_accepted (d : Dev) (n : Nat) (x : Surf) : (d.putSurf n x).accepted = d.accepted := rfl
@[simp] theorem Dev.putSurf_log (d : Dev) (n : Nat) (x : Surf) : (d.putSurf n x).log = d.log := rfl
@[simp] theorem Dev.putSurf_logNext (d : Dev) (n : Nat) (x : Surf) : (d.putSurf n x).logNext = d.logNext := rfl
@[simp] theorem Dev.putSurf_logUsed (d : Dev) (n : Nat) (x : Surf) : (d.putSurf n x).logUsed = d.logUsed := rfl
@[simp] theorem Dev.putSurf_logDropped (d : Dev) (n : Nat) (x : Surf) : (d.putSurf n x).logDropped = d.logDropped := rfl
@[simp] theorem Dev.putSurf_logDeferred (d : Dev) (n : Nat) (x : Surf) :
    (d.putSurf n x).logDeferred = d.logDeferred := rfl
@[simp] theorem Dev.putSurf_logOverwritten (d : Dev) (n : Nat) (x : Surf) :
    (d.putSurf n x).logOverwritten = d.logOverwritten := rfl
@[simp] theorem Dev.putSurf_startAt (d : Dev) (n : Nat) (x : Surf) : (d.putSurf n x).startAt = d.startAt := rfl
@[simp] theorem Dev.putSurf_mem (d : Dev) (n : Nat) (x : Surf) : (d.putSurf n x).mem = d.mem := rfl
@[simp] theorem Dev.putSurf_hostMem (d : Dev) (n : Nat) (x : Surf) : (d.putSurf n x).hostMem = d.hostMem := rfl
@[simp] theorem Dev.putSurf_surf (d : Dev) (n : Nat) (x : Surf) :
    (d.putSurf n x).surf = Tab.put dfltSurf d.surf n x := rfl
@[simp] theorem Dev.putSurf_fence (d : Dev) (n : Nat) (x : Surf) : (d.putSurf n x).fence = d.fence := rfl
@[simp] theorem Dev.putSurf_watchArmed (d : Dev) (n : Nat) (x : Surf) : (d.putSurf n x).watchArmed = d.watchArmed := rfl
@[simp] theorem Dev.putSurf_soon (d : Dev) (n : Nat) (x : Surf) : (d.putSurf n x).soon = d.soon := rfl
@[simp] theorem Dev.putSurf_bell (d : Dev) (n : Nat) (x : Surf) : (d.putSurf n x).bell = d.bell := rfl
@[simp] theorem Dev.putSurf_cmdAt (d : Dev) (n : Nat) (x : Surf) : (d.putSurf n x).cmdAt = d.cmdAt := rfl
@[simp] theorem Dev.putSurf_hints (d : Dev) (n : Nat) (x : Surf) : (d.putSurf n x).hints = d.hints := rfl
@[simp] theorem Dev.putSurf_hinted (d : Dev) (n : Nat) (x : Surf) : (d.putSurf n x).hinted = d.hinted := rfl
@[simp] theorem Dev.putSurf_changed (d : Dev) (n : Nat) (x : Surf) : (d.putSurf n x).changed = d.changed := rfl
@[simp] theorem Dev.putSurf_dirty (d : Dev) (n : Nat) (x : Surf) : (d.putSurf n x).dirty = d.dirty := rfl
@[simp] theorem Dev.putSurf_tiles (d : Dev) (n : Nat) (x : Surf) : (d.putSurf n x).tiles = d.tiles := rfl
@[simp] theorem Dev.putSurf_crust (d : Dev) (n : Nat) (x : Surf) : (d.putSurf n x).crust = d.crust := rfl
@[simp] theorem Dev.putSurf_claims (d : Dev) (n : Nat) (x : Surf) : (d.putSurf n x).claims = d.claims := rfl
@[simp] theorem Dev.putSurf_replan (d : Dev) (n : Nat) (x : Surf) : (d.putSurf n x).replan = d.replan := rfl
@[simp] theorem Dev.putSurf_tmRam (d : Dev) (n : Nat) (x : Surf) : (d.putSurf n x).tmRam = d.tmRam := rfl
@[simp] theorem Dev.putSurf_lutRam (d : Dev) (n : Nat) (x : Surf) : (d.putSurf n x).lutRam = d.lutRam := rfl
@[simp] theorem Dev.putSurf_loads (d : Dev) (n : Nat) (x : Surf) : (d.putSurf n x).loads = d.loads := rfl
@[simp] theorem Dev.putSurf_hist (d : Dev) (n : Nat) (x : Surf) : (d.putSurf n x).hist = d.hist := rfl
@[simp] theorem Dev.putSurf_refs (d : Dev) (n : Nat) (x : Surf) : (d.putSurf n x).refs = d.refs := rfl
@[simp] theorem Dev.putSurf_flipCarry (d : Dev) (n : Nat) (x : Surf) : (d.putSurf n x).flipCarry = d.flipCarry := rfl
@[simp] theorem Dev.putSurf_rises (d : Dev) (n : Nat) (x : Surf) : (d.putSurf n x).rises = d.rises := rfl
@[simp] theorem Dev.putSurf_ceTimes (d : Dev) (n : Nat) (x : Surf) : (d.putSurf n x).ceTimes = d.ceTimes := rfl
@[simp] theorem Dev.putSurf_declTest (d : Dev) (n : Nat) (x : Surf) : (d.putSurf n x).declTest = d.declTest := rfl
@[simp] theorem Dev.putSurf_poison (d : Dev) (n : Nat) (x : Surf) : (d.putSurf n x).poison = d.poison := rfl
@[simp] theorem Dev.putSurf_scJob (d : Dev) (n : Nat) (x : Surf) : (d.putSurf n x).scJob = d.scJob := rfl
@[simp] theorem Dev.putSurf_scLast (d : Dev) (n : Nat) (x : Surf) : (d.putSurf n x).scLast = d.scLast := rfl
@[simp] theorem Dev.putSurf_dmaWords (d : Dev) (n : Nat) (x : Surf) : (d.putSurf n x).dmaWords = d.dmaWords := rfl
@[simp] theorem Dev.putSurf_dmaServed (d : Dev) (n : Nat) (x : Surf) : (d.putSurf n x).dmaServed = d.dmaServed := rfl
@[simp] theorem Dev.putSurf_descBad (d : Dev) (n : Nat) (x : Surf) : (d.putSurf n x).descBad = d.descBad := rfl
@[simp] theorem Dev.putSurf_training (d : Dev) (n : Nat) (x : Surf) : (d.putSurf n x).training = d.training := rfl
@[simp] theorem Dev.putSurf_lastTick (d : Dev) (n : Nat) (x : Surf) : (d.putSurf n x).lastTick = d.lastTick := rfl
@[simp] theorem Dev.putSurf_tickSrc (d : Dev) (n : Nat) (x : Surf) : (d.putSurf n x).tickSrc = d.tickSrc := rfl
@[simp] theorem Dev.putSurf_refEdge (d : Dev) (n : Nat) (x : Surf) : (d.putSurf n x).refEdge = d.refEdge := rfl
@[simp] theorem Dev.putSurf_hearth (d : Dev) (n : Nat) (x : Surf) : (d.putSurf n x).hearth = d.hearth := rfl
@[simp] theorem Dev.putSurf_icp (d : Dev) (n : Nat) (x : Surf) : (d.putSurf n x).icp = d.icp := rfl
@[simp] theorem Dev.putSurf_power (d : Dev) (n : Nat) (x : Surf) : (d.putSurf n x).power = d.power := rfl
@[simp] theorem Dev.putSurf_test (d : Dev) (n : Nat) (x : Surf) : (d.putSurf n x).test = d.test := rfl
@[simp] theorem Dev.putSurf_challenge (d : Dev) (n : Nat) (x : Surf) : (d.putSurf n x).challenge = d.challenge := rfl

@[simp] theorem Dev.putFence_now (d : Dev) (n : Nat) (x : Fence) : (d.putFence n x).now = d.now := rfl
@[simp] theorem Dev.putFence_free (d : Dev) (n : Nat) (x : Fence) : (d.putFence n x).free = d.free := rfl
@[simp] theorem Dev.putFence_out (d : Dev) (n : Nat) (x : Fence) : (d.putFence n x).out = d.out := rfl
@[simp] theorem Dev.putFence_regs (d : Dev) (n : Nat) (x : Fence) : (d.putFence n x).regs = d.regs := rfl
@[simp] theorem Dev.putFence_proof (d : Dev) (n : Nat) (x : Fence) : (d.putFence n x).proof = d.proof := rfl
@[simp] theorem Dev.putFence_active (d : Dev) (n : Nat) (x : Fence) : (d.putFence n x).active = d.active := rfl
@[simp] theorem Dev.putFence_armed (d : Dev) (n : Nat) (x : Fence) : (d.putFence n x).armed = d.armed := rfl
@[simp] theorem Dev.putFence_late (d : Dev) (n : Nat) (x : Fence) : (d.putFence n x).late = d.late := rfl
@[simp] theorem Dev.putFence_strobes (d : Dev) (n : Nat) (x : Fence) : (d.putFence n x).strobes = d.strobes := rfl
@[simp] theorem Dev.putFence_seq (d : Dev) (n : Nat) (x : Fence) : (d.putFence n x).seq = d.seq := rfl
@[simp] theorem Dev.putFence_pipeSt (d : Dev) (n : Nat) (x : Fence) : (d.putFence n x).pipeSt = d.pipeSt := rfl
@[simp] theorem Dev.putFence_posted (d : Dev) (n : Nat) (x : Fence) : (d.putFence n x).posted = d.posted := rfl
@[simp] theorem Dev.putFence_heldReads (d : Dev) (n : Nat) (x : Fence) : (d.putFence n x).heldReads = d.heldReads := rfl
@[simp] theorem Dev.putFence_latch (d : Dev) (n : Nat) (x : Fence) : (d.putFence n x).latch = d.latch := rfl
@[simp] theorem Dev.putFence_heldLo (d : Dev) (n : Nat) (x : Fence) : (d.putFence n x).heldLo = d.heldLo := rfl
@[simp] theorem Dev.putFence_locked (d : Dev) (n : Nat) (x : Fence) : (d.putFence n x).locked = d.locked := rfl
@[simp] theorem Dev.putFence_mismatches (d : Dev) (n : Nat) (x : Fence) :
    (d.putFence n x).mismatches = d.mismatches := rfl
@[simp] theorem Dev.putFence_latent (d : Dev) (n : Nat) (x : Fence) : (d.putFence n x).latent = d.latent := rfl
@[simp] theorem Dev.putFence_superseded (d : Dev) (n : Nat) (x : Fence) :
    (d.putFence n x).superseded = d.superseded := rfl
@[simp] theorem Dev.putFence_accepted (d : Dev) (n : Nat) (x : Fence) : (d.putFence n x).accepted = d.accepted := rfl
@[simp] theorem Dev.putFence_log (d : Dev) (n : Nat) (x : Fence) : (d.putFence n x).log = d.log := rfl
@[simp] theorem Dev.putFence_logNext (d : Dev) (n : Nat) (x : Fence) : (d.putFence n x).logNext = d.logNext := rfl
@[simp] theorem Dev.putFence_logUsed (d : Dev) (n : Nat) (x : Fence) : (d.putFence n x).logUsed = d.logUsed := rfl
@[simp] theorem Dev.putFence_logDropped (d : Dev) (n : Nat) (x : Fence) :
    (d.putFence n x).logDropped = d.logDropped := rfl
@[simp] theorem Dev.putFence_logDeferred (d : Dev) (n : Nat) (x : Fence) :
    (d.putFence n x).logDeferred = d.logDeferred := rfl
@[simp] theorem Dev.putFence_logOverwritten (d : Dev) (n : Nat) (x : Fence) :
    (d.putFence n x).logOverwritten = d.logOverwritten := rfl
@[simp] theorem Dev.putFence_startAt (d : Dev) (n : Nat) (x : Fence) : (d.putFence n x).startAt = d.startAt := rfl
@[simp] theorem Dev.putFence_mem (d : Dev) (n : Nat) (x : Fence) : (d.putFence n x).mem = d.mem := rfl
@[simp] theorem Dev.putFence_hostMem (d : Dev) (n : Nat) (x : Fence) : (d.putFence n x).hostMem = d.hostMem := rfl
@[simp] theorem Dev.putFence_surf (d : Dev) (n : Nat) (x : Fence) : (d.putFence n x).surf = d.surf := rfl
@[simp] theorem Dev.putFence_fence (d : Dev) (n : Nat) (x : Fence) :
    (d.putFence n x).fence = Tab.put dfltFence d.fence n x := rfl
@[simp] theorem Dev.putFence_watchArmed (d : Dev) (n : Nat) (x : Fence) :
    (d.putFence n x).watchArmed = d.watchArmed := rfl
@[simp] theorem Dev.putFence_soon (d : Dev) (n : Nat) (x : Fence) : (d.putFence n x).soon = d.soon := rfl
@[simp] theorem Dev.putFence_bell (d : Dev) (n : Nat) (x : Fence) : (d.putFence n x).bell = d.bell := rfl
@[simp] theorem Dev.putFence_cmdAt (d : Dev) (n : Nat) (x : Fence) : (d.putFence n x).cmdAt = d.cmdAt := rfl
@[simp] theorem Dev.putFence_hints (d : Dev) (n : Nat) (x : Fence) : (d.putFence n x).hints = d.hints := rfl
@[simp] theorem Dev.putFence_hinted (d : Dev) (n : Nat) (x : Fence) : (d.putFence n x).hinted = d.hinted := rfl
@[simp] theorem Dev.putFence_changed (d : Dev) (n : Nat) (x : Fence) : (d.putFence n x).changed = d.changed := rfl
@[simp] theorem Dev.putFence_dirty (d : Dev) (n : Nat) (x : Fence) : (d.putFence n x).dirty = d.dirty := rfl
@[simp] theorem Dev.putFence_tiles (d : Dev) (n : Nat) (x : Fence) : (d.putFence n x).tiles = d.tiles := rfl
@[simp] theorem Dev.putFence_crust (d : Dev) (n : Nat) (x : Fence) : (d.putFence n x).crust = d.crust := rfl
@[simp] theorem Dev.putFence_claims (d : Dev) (n : Nat) (x : Fence) : (d.putFence n x).claims = d.claims := rfl
@[simp] theorem Dev.putFence_replan (d : Dev) (n : Nat) (x : Fence) : (d.putFence n x).replan = d.replan := rfl
@[simp] theorem Dev.putFence_tmRam (d : Dev) (n : Nat) (x : Fence) : (d.putFence n x).tmRam = d.tmRam := rfl
@[simp] theorem Dev.putFence_lutRam (d : Dev) (n : Nat) (x : Fence) : (d.putFence n x).lutRam = d.lutRam := rfl
@[simp] theorem Dev.putFence_loads (d : Dev) (n : Nat) (x : Fence) : (d.putFence n x).loads = d.loads := rfl
@[simp] theorem Dev.putFence_hist (d : Dev) (n : Nat) (x : Fence) : (d.putFence n x).hist = d.hist := rfl
@[simp] theorem Dev.putFence_refs (d : Dev) (n : Nat) (x : Fence) : (d.putFence n x).refs = d.refs := rfl
@[simp] theorem Dev.putFence_flipCarry (d : Dev) (n : Nat) (x : Fence) : (d.putFence n x).flipCarry = d.flipCarry := rfl
@[simp] theorem Dev.putFence_rises (d : Dev) (n : Nat) (x : Fence) : (d.putFence n x).rises = d.rises := rfl
@[simp] theorem Dev.putFence_ceTimes (d : Dev) (n : Nat) (x : Fence) : (d.putFence n x).ceTimes = d.ceTimes := rfl
@[simp] theorem Dev.putFence_declTest (d : Dev) (n : Nat) (x : Fence) : (d.putFence n x).declTest = d.declTest := rfl
@[simp] theorem Dev.putFence_poison (d : Dev) (n : Nat) (x : Fence) : (d.putFence n x).poison = d.poison := rfl
@[simp] theorem Dev.putFence_scJob (d : Dev) (n : Nat) (x : Fence) : (d.putFence n x).scJob = d.scJob := rfl
@[simp] theorem Dev.putFence_scLast (d : Dev) (n : Nat) (x : Fence) : (d.putFence n x).scLast = d.scLast := rfl
@[simp] theorem Dev.putFence_dmaWords (d : Dev) (n : Nat) (x : Fence) : (d.putFence n x).dmaWords = d.dmaWords := rfl
@[simp] theorem Dev.putFence_dmaServed (d : Dev) (n : Nat) (x : Fence) : (d.putFence n x).dmaServed = d.dmaServed := rfl
@[simp] theorem Dev.putFence_descBad (d : Dev) (n : Nat) (x : Fence) : (d.putFence n x).descBad = d.descBad := rfl
@[simp] theorem Dev.putFence_training (d : Dev) (n : Nat) (x : Fence) : (d.putFence n x).training = d.training := rfl
@[simp] theorem Dev.putFence_lastTick (d : Dev) (n : Nat) (x : Fence) : (d.putFence n x).lastTick = d.lastTick := rfl
@[simp] theorem Dev.putFence_tickSrc (d : Dev) (n : Nat) (x : Fence) : (d.putFence n x).tickSrc = d.tickSrc := rfl
@[simp] theorem Dev.putFence_refEdge (d : Dev) (n : Nat) (x : Fence) : (d.putFence n x).refEdge = d.refEdge := rfl
@[simp] theorem Dev.putFence_hearth (d : Dev) (n : Nat) (x : Fence) : (d.putFence n x).hearth = d.hearth := rfl
@[simp] theorem Dev.putFence_icp (d : Dev) (n : Nat) (x : Fence) : (d.putFence n x).icp = d.icp := rfl
@[simp] theorem Dev.putFence_power (d : Dev) (n : Nat) (x : Fence) : (d.putFence n x).power = d.power := rfl
@[simp] theorem Dev.putFence_test (d : Dev) (n : Nat) (x : Fence) : (d.putFence n x).test = d.test := rfl
@[simp] theorem Dev.putFence_challenge (d : Dev) (n : Nat) (x : Fence) : (d.putFence n x).challenge = d.challenge := rfl

@[simp] theorem Dev.restore_now (d : Dev) (b : Bank) (o : Nat) : (d.restore b o).now = d.now := rfl
@[simp] theorem Dev.restore_free (d : Dev) (b : Bank) (o : Nat) : (d.restore b o).free = d.free := rfl
@[simp] theorem Dev.restore_out (d : Dev) (b : Bank) (o : Nat) : (d.restore b o).out = d.out := rfl
@[simp] theorem Dev.restore_regs (d : Dev) (b : Bank) (o : Nat) : (d.restore b o).regs = d.regs := rfl
@[simp] theorem Dev.restore_proof (d : Dev) (b : Bank) (o : Nat) : (d.restore b o).proof = d.proof := rfl
@[simp] theorem Dev.restore_active (d : Dev) (b : Bank) (o : Nat) : (d.restore b o).active = d.active := rfl
@[simp] theorem Dev.restore_armed (d : Dev) (b : Bank) (o : Nat) : (d.restore b o).armed = d.armed := rfl
@[simp] theorem Dev.restore_late (d : Dev) (b : Bank) (o : Nat) : (d.restore b o).late = d.late := rfl
@[simp] theorem Dev.restore_strobes (d : Dev) (b : Bank) (o : Nat) : (d.restore b o).strobes = d.strobes := rfl
@[simp] theorem Dev.restore_seq (d : Dev) (b : Bank) (o : Nat) : (d.restore b o).seq = d.seq := rfl
@[simp] theorem Dev.restore_pipeSt (d : Dev) (b : Bank) (o : Nat) : (d.restore b o).pipeSt = d.pipeSt := rfl
@[simp] theorem Dev.restore_posted (d : Dev) (b : Bank) (o : Nat) : (d.restore b o).posted = d.posted := rfl
@[simp] theorem Dev.restore_heldReads (d : Dev) (b : Bank) (o : Nat) : (d.restore b o).heldReads = d.heldReads := rfl
@[simp] theorem Dev.restore_latch (d : Dev) (b : Bank) (o : Nat) : (d.restore b o).latch = d.latch := rfl
@[simp] theorem Dev.restore_heldLo (d : Dev) (b : Bank) (o : Nat) : (d.restore b o).heldLo = d.heldLo := rfl
@[simp] theorem Dev.restore_locked (d : Dev) (b : Bank) (o : Nat) : (d.restore b o).locked = d.locked := rfl
@[simp] theorem Dev.restore_mismatches (d : Dev) (b : Bank) (o : Nat) :
    (d.restore b o).mismatches = d.mismatches.filter (fun m => !(m.bank == b && m.off == o)) := rfl
@[simp] theorem Dev.restore_latent (d : Dev) (b : Bank) (o : Nat) :
    (d.restore b o).latent = d.latent.filter (fun m => !(m.bank == b && m.off == o)) := rfl
@[simp] theorem Dev.restore_superseded (d : Dev) (b : Bank) (o : Nat) : (d.restore b o).superseded = d.superseded := rfl
@[simp] theorem Dev.restore_accepted (d : Dev) (b : Bank) (o : Nat) : (d.restore b o).accepted = d.accepted := rfl
@[simp] theorem Dev.restore_log (d : Dev) (b : Bank) (o : Nat) : (d.restore b o).log = d.log := rfl
@[simp] theorem Dev.restore_logNext (d : Dev) (b : Bank) (o : Nat) : (d.restore b o).logNext = d.logNext := rfl
@[simp] theorem Dev.restore_logUsed (d : Dev) (b : Bank) (o : Nat) : (d.restore b o).logUsed = d.logUsed := rfl
@[simp] theorem Dev.restore_logDropped (d : Dev) (b : Bank) (o : Nat) : (d.restore b o).logDropped = d.logDropped := rfl
@[simp] theorem Dev.restore_logDeferred (d : Dev) (b : Bank) (o : Nat) :
    (d.restore b o).logDeferred = d.logDeferred := rfl
@[simp] theorem Dev.restore_logOverwritten (d : Dev) (b : Bank) (o : Nat) :
    (d.restore b o).logOverwritten = d.logOverwritten := rfl
@[simp] theorem Dev.restore_startAt (d : Dev) (b : Bank) (o : Nat) : (d.restore b o).startAt = d.startAt := rfl
@[simp] theorem Dev.restore_mem (d : Dev) (b : Bank) (o : Nat) : (d.restore b o).mem = d.mem := rfl
@[simp] theorem Dev.restore_hostMem (d : Dev) (b : Bank) (o : Nat) : (d.restore b o).hostMem = d.hostMem := rfl
@[simp] theorem Dev.restore_surf (d : Dev) (b : Bank) (o : Nat) : (d.restore b o).surf = d.surf := rfl
@[simp] theorem Dev.restore_fence (d : Dev) (b : Bank) (o : Nat) : (d.restore b o).fence = d.fence := rfl
@[simp] theorem Dev.restore_watchArmed (d : Dev) (b : Bank) (o : Nat) : (d.restore b o).watchArmed = d.watchArmed := rfl
@[simp] theorem Dev.restore_soon (d : Dev) (b : Bank) (o : Nat) : (d.restore b o).soon = d.soon := rfl
@[simp] theorem Dev.restore_bell (d : Dev) (b : Bank) (o : Nat) : (d.restore b o).bell = d.bell := rfl
@[simp] theorem Dev.restore_cmdAt (d : Dev) (b : Bank) (o : Nat) : (d.restore b o).cmdAt = d.cmdAt := rfl
@[simp] theorem Dev.restore_hints (d : Dev) (b : Bank) (o : Nat) : (d.restore b o).hints = d.hints := rfl
@[simp] theorem Dev.restore_hinted (d : Dev) (b : Bank) (o : Nat) : (d.restore b o).hinted = d.hinted := rfl
@[simp] theorem Dev.restore_changed (d : Dev) (b : Bank) (o : Nat) : (d.restore b o).changed = d.changed := rfl
@[simp] theorem Dev.restore_dirty (d : Dev) (b : Bank) (o : Nat) : (d.restore b o).dirty = d.dirty := rfl
@[simp] theorem Dev.restore_tiles (d : Dev) (b : Bank) (o : Nat) : (d.restore b o).tiles = d.tiles := rfl
@[simp] theorem Dev.restore_crust (d : Dev) (b : Bank) (o : Nat) : (d.restore b o).crust = d.crust := rfl
@[simp] theorem Dev.restore_claims (d : Dev) (b : Bank) (o : Nat) : (d.restore b o).claims = d.claims := rfl
@[simp] theorem Dev.restore_replan (d : Dev) (b : Bank) (o : Nat) : (d.restore b o).replan = d.replan := rfl
@[simp] theorem Dev.restore_tmRam (d : Dev) (b : Bank) (o : Nat) : (d.restore b o).tmRam = d.tmRam := rfl
@[simp] theorem Dev.restore_lutRam (d : Dev) (b : Bank) (o : Nat) : (d.restore b o).lutRam = d.lutRam := rfl
@[simp] theorem Dev.restore_loads (d : Dev) (b : Bank) (o : Nat) : (d.restore b o).loads = d.loads := rfl
@[simp] theorem Dev.restore_hist (d : Dev) (b : Bank) (o : Nat) : (d.restore b o).hist = d.hist := rfl
@[simp] theorem Dev.restore_refs (d : Dev) (b : Bank) (o : Nat) : (d.restore b o).refs = d.refs := rfl
@[simp] theorem Dev.restore_flipCarry (d : Dev) (b : Bank) (o : Nat) : (d.restore b o).flipCarry = d.flipCarry := rfl
@[simp] theorem Dev.restore_rises (d : Dev) (b : Bank) (o : Nat) : (d.restore b o).rises = d.rises := rfl
@[simp] theorem Dev.restore_ceTimes (d : Dev) (b : Bank) (o : Nat) : (d.restore b o).ceTimes = d.ceTimes := rfl
@[simp] theorem Dev.restore_declTest (d : Dev) (b : Bank) (o : Nat) : (d.restore b o).declTest = d.declTest := rfl
@[simp] theorem Dev.restore_poison (d : Dev) (b : Bank) (o : Nat) : (d.restore b o).poison = d.poison := rfl
@[simp] theorem Dev.restore_scJob (d : Dev) (b : Bank) (o : Nat) : (d.restore b o).scJob = d.scJob := rfl
@[simp] theorem Dev.restore_scLast (d : Dev) (b : Bank) (o : Nat) : (d.restore b o).scLast = d.scLast := rfl
@[simp] theorem Dev.restore_dmaWords (d : Dev) (b : Bank) (o : Nat) : (d.restore b o).dmaWords = d.dmaWords := rfl
@[simp] theorem Dev.restore_dmaServed (d : Dev) (b : Bank) (o : Nat) : (d.restore b o).dmaServed = d.dmaServed := rfl
@[simp] theorem Dev.restore_descBad (d : Dev) (b : Bank) (o : Nat) : (d.restore b o).descBad = d.descBad := rfl
@[simp] theorem Dev.restore_training (d : Dev) (b : Bank) (o : Nat) : (d.restore b o).training = d.training := rfl
@[simp] theorem Dev.restore_lastTick (d : Dev) (b : Bank) (o : Nat) : (d.restore b o).lastTick = d.lastTick := rfl
@[simp] theorem Dev.restore_tickSrc (d : Dev) (b : Bank) (o : Nat) : (d.restore b o).tickSrc = d.tickSrc := rfl
@[simp] theorem Dev.restore_refEdge (d : Dev) (b : Bank) (o : Nat) : (d.restore b o).refEdge = d.refEdge := rfl
@[simp] theorem Dev.restore_hearth (d : Dev) (b : Bank) (o : Nat) : (d.restore b o).hearth = d.hearth := rfl
@[simp] theorem Dev.restore_icp (d : Dev) (b : Bank) (o : Nat) : (d.restore b o).icp = d.icp := rfl
@[simp] theorem Dev.restore_power (d : Dev) (b : Bank) (o : Nat) : (d.restore b o).power = d.power := rfl
@[simp] theorem Dev.restore_test (d : Dev) (b : Bank) (o : Nat) : (d.restore b o).test = d.test := rfl
@[simp] theorem Dev.restore_challenge (d : Dev) (b : Bank) (o : Nat) : (d.restore b o).challenge = d.challenge := rfl

/-! ### Derived updates -/

theorem Dev.up_eq (d : Dev) (f : Fld) : d.up f = d.sg f 1 := rfl
theorem Dev.dn_eq (d : Dev) (f : Fld) : d.dn f = d.sg f 0 := rfl
theorem Dev.inc_eq (d : Dev) (f : Fld) : d.inc f = d.sg f ((d.rg f + 1) % 2 ^ f.len) := rfl
theorem Dev.incSat_eq (d : Dev) (f : Fld) : d.incSat f = d.sg f (satAdd f.len (d.rg f) 1) := rfl
theorem Dev.orBits_eq (d : Dev) (f : Fld) (m : Nat) : d.orBits f m = d.sg f (d.rg f ||| m) := rfl
theorem Dev.clrBits_eq (d : Dev) (f : Fld) (m : Nat) : d.clrBits f m = d.sg f (d.rg f - (d.rg f &&& m)) := rfl

@[simp] theorem Dev.onlyIf_true (d : Dev) (f : Dev → Dev) : d.onlyIf true f = f d := rfl
@[simp] theorem Dev.onlyIf_false (d : Dev) (f : Dev → Dev) : d.onlyIf false f = d := rfl
@[simp] theorem Dev.each_nil {α : Type} (f : α → Dev → Dev) (d : Dev) : Dev.each f [] d = d := rfl
@[simp] theorem Dev.each_cons {α : Type} (f : α → Dev → Dev) (a : α) (t : List α) (d : Dev) :
    Dev.each f (a :: t) d = Dev.each f t (f a d) := rfl

/-! ### Running a command -/

/-- Outside DEEP and structural scan a command's meaning runs. -/
theorem State.run_of {s : State} {f : Dev → Dev} (h : s.dev.dark = false) : s.run f = .next { s with dev := f s.dev } := by
  simp [State.run, h]

/-- In DEEP and in structural scan a command does nothing. -/
theorem State.run_dark {s : State} {f : Dev → Dev} (h : s.dev.dark = true) : s.run f = .next s := by
  simp [State.run, h]

/-- Outside structural scan an event of the always-on part runs. -/
theorem State.runAon_of {s : State} {f : Dev → Dev} (h : s.dev.power.scan = false) :
    s.runAon f = .next { s with dev := f s.dev } := by simp [State.runAon, h]

/-- In structural scan an event of the always-on part does nothing. -/
theorem State.runAon_scan {s : State} {f : Dev → Dev} (h : s.dev.power.scan = true) : s.runAon f = .next s := by
  simp [State.runAon, h]

/-- A meaning that gives device `e` completes there. -/
theorem Gives.run {c : Instr} {s : State} {f : Dev → Dev} {e : Dev} (hc : exec c s = s.run f) (h : s.dev.dark = false)
    (he : f s.dev = e) : Gives c s e := by rw [Gives, hc, State.run_of h, he]

/-- A meaning whose device satisfies `P` completes with `P`. -/
theorem Completes.run {c : Instr} {s : State} {f : Dev → Dev} {P : Dev → Prop} (hc : exec c s = s.run f)
    (h : s.dev.dark = false) (he : P (f s.dev)) : Completes c s P :=
  ⟨{ s with dev := f s.dev }, by rw [hc, State.run_of h], rfl, he⟩

/-! ### Fields that were set -/

/-- Setting bits puts the value, cut to the width, at its place. -/
theorem setBits_eq {v lo len x : Nat} :
    setBits v lo len x = v % 2 ^ lo + 2 ^ lo * (x % 2 ^ len + 2 ^ len * (v / 2 ^ (lo + len))) := by
  unfold setBits bits
  have h1 := Nat.div_add_mod v (2 ^ lo)
  have h2 := Nat.div_add_mod (v / 2 ^ lo) (2 ^ len)
  rw [Nat.div_div_eq_div_mul, ← Nat.pow_add] at h2
  generalize v / 2 ^ lo % 2 ^ len = m at *
  generalize v / 2 ^ (lo + len) = q at *
  generalize x % 2 ^ len = y at *
  rw [← h2] at h1
  have e : v - m * 2 ^ lo = 2 ^ lo * (2 ^ len * q) + v % 2 ^ lo := by
    rw [Nat.mul_comm m]
    conv => lhs; lhs; rw [← h1]
    rw [Nat.mul_add]
    omega
  rw [e, Nat.mul_add]
  have := Nat.mul_comm y (2 ^ lo)
  omega

/-- What was set is read back. -/
theorem bits_setBits {v lo len x : Nat} : bits (setBits v lo len x) lo len = x % 2 ^ len := by
  rw [setBits_eq, bits, Nat.add_mul_div_left _ _ (Nat.two_pow_pos lo), Nat.div_eq_of_lt (Nat.mod_lt _ (Nat.two_pow_pos lo)),
    Nat.zero_add, Nat.add_mul_mod_self_left, Nat.mod_mod]

/-- Bits below those set are unchanged. -/
theorem bits_setBits_below {v lo len x l n : Nat} (h : l + n ≤ lo) : bits (setBits v lo len x) l n = bits v l n := by
  unfold bits
  have key : ∀ w : Nat, w / 2 ^ l % 2 ^ n = w % 2 ^ lo / 2 ^ l % 2 ^ n := by
    intro w
    have hp : 2 ^ lo = 2 ^ l * 2 ^ (lo - l) := by rw [← Nat.pow_add]; congr 1; omega
    rw [hp, Nat.mod_mul_right_div_self]
    rw [Nat.mod_mod_of_dvd _ (Nat.pow_dvd_pow 2 (by omega))]
  rw [key, key v]
  congr 2
  rw [setBits_eq, Nat.add_mul_mod_self_left, Nat.mod_mod]

/-- Bits above those set are unchanged. -/
theorem bits_setBits_above {v lo len x l n : Nat} (h : lo + len ≤ l) : bits (setBits v lo len x) l n = bits v l n := by
  unfold bits
  have key : setBits v lo len x / 2 ^ (lo + len) = v / 2 ^ (lo + len) := by
    rw [setBits_eq, Nat.pow_add, ← Nat.div_div_eq_div_mul, Nat.add_mul_div_left _ _ (Nat.two_pow_pos lo),
      Nat.div_eq_of_lt (Nat.mod_lt _ (Nat.two_pow_pos lo)), Nat.zero_add, Nat.add_mul_div_left _ _ (Nat.two_pow_pos len),
      Nat.div_eq_of_lt (Nat.mod_lt _ (Nat.two_pow_pos len)), Nat.zero_add]
  have hp : 2 ^ l = 2 ^ (lo + len) * 2 ^ (l - (lo + len)) := by rw [← Nat.pow_add]; congr 1; omega
  rw [hp, ← Nat.div_div_eq_div_mul, ← Nat.div_div_eq_div_mul, key]

/-- Setting bits of a 32-bit number keeps it below 2 ^ 32. -/
theorem setBits_lt {v lo len x : Nat} (hv : v < 2 ^ 32) (h : lo + len ≤ 32) : setBits v lo len x < 2 ^ 32 := by
  have hp : 2 ^ 32 = 2 ^ lo * (2 ^ len * 2 ^ (32 - (lo + len))) := by
    rw [← Nat.pow_add, ← Nat.pow_add]; congr 1; omega
  rw [setBits_eq]
  have h1 := Nat.mod_lt v (Nat.two_pow_pos lo)
  have h2 := Nat.mod_lt x (Nat.two_pow_pos len)
  have h3 : v / 2 ^ (lo + len) < 2 ^ (32 - (lo + len)) := by
    apply Nat.div_lt_of_lt_mul
    rw [← Nat.pow_add]
    have : lo + len + (32 - (lo + len)) = 32 := by omega
    rw [this]; exact hv
  have h4 : x % 2 ^ len + 2 ^ len * (v / 2 ^ (lo + len)) < 2 ^ len * 2 ^ (32 - (lo + len)) := by
    calc x % 2 ^ len + 2 ^ len * (v / 2 ^ (lo + len)) < 2 ^ len + 2 ^ len * (v / 2 ^ (lo + len)) := by omega
      _ = 2 ^ len * (v / 2 ^ (lo + len) + 1) := by rw [Nat.mul_add, Nat.mul_one, Nat.add_comm]
      _ ≤ _ := Nat.mul_le_mul_left _ h3
  rw [hp]
  calc v % 2 ^ lo + 2 ^ lo * (x % 2 ^ len + 2 ^ len * (v / 2 ^ (lo + len)))
      < 2 ^ lo + 2 ^ lo * (x % 2 ^ len + 2 ^ len * (v / 2 ^ (lo + len))) := by omega
    _ = 2 ^ lo * (x % 2 ^ len + 2 ^ len * (v / 2 ^ (lo + len)) + 1) := by rw [Nat.mul_add _ _ 1, Nat.mul_one, Nat.add_comm]
    _ ≤ _ := Nat.mul_le_mul_left _ h4

/-- The registers of a canonical device are canonical. -/
theorem Dev.canon_regs {d : Dev} (h : d.canon = true) : Tab.wf dfltU d.regs = true := by
  simp only [Dev.canon, Bool.and_eq_true] at h
  exact h.1.1.1.1.1.1

/-- The word of a field that was set. -/
theorem Dev.unV_sg {d : Dev} {f : Fld} {v k : Nat} (h : Tab.wf dfltU d.regs = true) (hf : f.lo + f.len ≤ 32) :
    (d.sg f v).unV k =
      if k = f.off then BitVec.ofNat 32 (setBits (d.unV f.off).toNat f.lo f.len v) else d.unV k := by
  have hn : ¬ 32 < f.lo + f.len := by omega
  simp only [Dev.unV, Dev.sg_regs, Fld.set, if_neg hn]
  rw [Tab.get_put h]

/-- A field that was set reads as the value, cut to its width. -/
theorem Dev.rg_sg {d : Dev} {f : Fld} {v : Nat} (h : Tab.wf dfltU d.regs = true) (hf : f.lo + f.len ≤ 32) :
    (d.sg f v).rg f = v % 2 ^ f.len := by
  have hn : ¬ 32 < f.lo + f.len := by omega
  simp only [Dev.rg, View.g, Fld.get, if_neg hn, Nat.add_zero]
  rw [Dev.unV_sg h hf, if_pos rfl, BitVec.toNat_ofNat, Nat.mod_eq_of_lt (setBits_lt (d.unV f.off).isLt hf), bits_setBits]

/-- A field in another register is left as it was. -/
theorem Dev.rg_sg_off {d : Dev} {f g : Fld} {v : Nat} (h : Tab.wf dfltU d.regs = true) (hf : f.lo + f.len ≤ 32)
    (hg : g.lo + g.len ≤ 32) (hn : g.off ≠ f.off) : (d.sg f v).rg g = d.rg g := by
  have hn' : ¬ 32 < g.lo + g.len := by omega
  simp only [Dev.rg, View.g, Fld.get, if_neg hn', Nat.add_zero]
  rw [Dev.unV_sg h hf, if_neg hn]

/-- Another field of the same register is left as it was. -/
theorem Dev.rg_sg_bits {d : Dev} {f g : Fld} {v : Nat} (h : Tab.wf dfltU d.regs = true) (hf : f.lo + f.len ≤ 32)
    (hg : g.lo + g.len ≤ 32) (hn : g.lo + g.len ≤ f.lo ∨ f.lo + f.len ≤ g.lo) : (d.sg f v).rg g = d.rg g := by
  by_cases ho : g.off = f.off
  · have hn' : ¬ 32 < g.lo + g.len := by omega
    simp only [Dev.rg, View.g, Fld.get, if_neg hn', Nat.add_zero]
    rw [ho, Dev.unV_sg h hf, if_pos rfl, BitVec.toNat_ofNat, Nat.mod_eq_of_lt (setBits_lt (d.unV f.off).isLt hf)]
    rcases hn with hn | hn
    · rw [bits_setBits_below hn]
    · rw [bits_setBits_above hn]
  · exact Dev.rg_sg_off h hf hg ho

/-- The registers stay canonical. -/
theorem Dev.wf_sg {d : Dev} {f : Fld} {v : Nat} (h : Tab.wf dfltU d.regs = true) : Tab.wf dfltU (d.sg f v).regs = true := by
  rw [Dev.sg_regs, Fld.set]
  split
  · exact Tab.wf_put (Tab.wf_put h)
  · exact Tab.wf_put h

end Sys2Proof.Machine
end

