-- ==== Sys2Proof/Laws/Access.lean ====
section
/-! SUPPORT.  What a register write, a log entry and a row of ICP do, said once: the lemmas that a proof about a command
    cites in place of unfolding the access rules. -/

namespace Sys2Proof.Machine

/-- A direct 32-bit write of an ordinary register acts by `regBody`. -/
theorem regAt_eq_body_of {q : Rq} {off : Nat} {w : Word} {d : Dev} {r : Reg} (hs : d.starterBars q off = false)
   (h4 : primOf off = off) (h5 : off / 4 * 4 = off) (h6 : mapOf off = 0)  (hm : mapped off = true) (ha : areaOf off = none) (hr : findReg off = some (r, 0)) (hp : r.pair = false) :
   regAt q off w d = regBody q false off off [(off, w)] w d := by
  unfold regAt regWrite
  simp only [h4, hs, hm]
  simp [widthOf, regFull, h5, h4, h6, ha, regApply, hr, hp, Dev.aliasFlag, Dev.wordThrough]

/-- The row of the register table at an offset. -/
def regOf (off : Nat) : Reg := match findReg off with | some (r,_) => r | none => {off := 0, n1 := 1, s1 := 0, n2 := 1, s2 := 0, pair := false, flds := []}

/-- A direct 32-bit write at a fixed offset acts by `regBody`. -/
theorem regAt_eq_body {q : Rq} {off : Nat} {w : Word} {d : Dev} (hs : d.starterBars q off = false)
   (h : primOf off = off ∧ off / 4 * 4 = off ∧ mapOf off = 0 ∧ mapped off = true ∧ areaOf off = none ∧ (findReg off).map Prod.snd = some 0 ∧ (regOf off).pair = false) :
   regAt q off w d = regBody q false off off [(off, w)] w d := by
  obtain ⟨h4,h5,h6,hm,ha,hr,hp⟩ := h
  cases hf : findReg off with
  | none => simp [hf] at hr
  | some x => 
    obtain ⟨r,k⟩ := x
    simp [hf] at hr; subst hr
    exact regAt_eq_body_of hs h4 h5 h6 hm ha hf (by simpa [regOf, hf] using hp)

/-- Starter mode never bars the SYS block. -/
theorem starterBars_sys {q off} {d : Dev} (h : off < 0x10000) : d.starterBars q off = false := by simp [Dev.starterBars]; omega

/-- A requester whose writes reach the registers is not barred. -/
theorem starterBars_of_reaches {q off} {d : Dev} (h : d.reaches q = true) : d.starterBars q off = false := by
  simp [Dev.reaches] at h; simp [Dev.starterBars]; intro a b; rcases h.2 with h | h <;> simp_all

/-- A device whose registers are reached is not dark. -/
theorem dark_of_reaches {q} {d : Dev} (h : d.reaches q = true) : d.dark = false := by simp [Dev.reaches] at h; exact h.1

/-- A write of an unbanked register is one unbanked write. -/
theorem plainWrite_unbanked {q : Rq} {off : Nat} {w : Word} {d : Dev} (hb : hasBanked off = false) :
   plainWrite q false [(off, w)] d = d.putUnbanked q false off w := by
  simp [plainWrite, hb, Dev.each]

/-- Writing a word keeps the registers canonical. -/
theorem wf_sgWord {d : Dev} {k v} (h : Tab.wf dfltU d.regs = true) : Tab.wf dfltU (d.sgWord k v).regs = true := Tab.wf_put h

/-- The words after one is written. -/
theorem unV_sgWord {d : Dev} {k v j} (h : Tab.wf dfltU d.regs = true) : (d.sgWord k v).unV j = if j = k then v else d.unV j := by
  rw [Dev.unV, Dev.sgWord_regs, Tab.get_put h]; rfl

/-- No W1C bit of another register clears anything. -/
theorem clears_none {l : List (Fld × Fld)} {c : Nat} {g : Fld × Fld → Dev → Dev} {w : Word} {d : Dev} (h : l.all (fun p => p.1.off != c) = true) :
  Dev.each (fun (p : Fld × Fld) d => if p.1.off == c && bits w.toNat p.1.lo p.1.len != 0 then g p d else d) l d = d := by
  induction l generalizing d with
  | nil => rfl
  | cons a t ih => simp at h; simp [Dev.each, h.1]; simpa using ih (by simpa using h.2)

/-- The bits of a register that a direct write stores. -/
def storeBits (off : Nat) : Word := storeMask false (regOf off) 0

/-- The bits of a register that a write of 1 clears. -/
def clearBits (off : Nat) : Word := maskOf (regOf off) 0 (fun f => f.acc == .w1c)

/-- An unbanked write of a register without W1C bits stores its writable bits and nothing else. -/
theorem putUnbanked_store {q off w} {d : Dev} (hr : (findReg off).map Prod.snd = some 0) (hm : storeBits off ≠ 0) (hc : clearBits off = 0) (hw : Tab.wf dfltU d.regs = true)
   (hn : clearsWith.all (fun p => p.1.off != (regOf off).off) = true) :
   ((d.putUnbanked q false off w).unV (keyFor q off) = (d.unV (keyFor q off) &&& ~~~(storeBits off)) ||| (w &&& storeBits off)) ∧ d.sameBut (d.putUnbanked q false off w) [keyFor q off] := by
  cases hf : findReg off with
  | none => simp [hf] at hr
  | some x =>
    obtain ⟨r,k⟩ := x
    simp [hf] at hr; subst hr
    have e : regOf off = r := by simp [regOf, hf]
    simp only [storeBits, clearBits, e] at *
    have hw2 : Tab.wf dfltU ((d.sgWord (keyFor q off) (d.unV (keyFor q off) &&& ~~~storeMask false r 0 ||| w &&& storeMask false r 0)).restore .unbanked off).regs = true := wf_sgWord hw
    have nn := fun g d' => clears_none (l := clearsWith) (c := r.off) (w := w) (g := g) (d := d') (by simpa using hn)
    simp only [Dev.putUnbanked, hf, hm, if_false, Dev.w1c, hc]
    simp only [Nat.mul_zero, Nat.add_zero]
    rw [nn, if_neg (by decide)]
    refine ⟨?_, ?_, ?_⟩
    · rw [unV_sgWord hw2, if_pos rfl]
      show (Dev.unV (d.sgWord _ _) _) &&& _ = _
      rw [unV_sgWord hw, if_pos rfl]; rw [show (0 : Word) &&& w = 0 from BitVec.zero_and]; exact BitVec.and_allOnes
    · intro k hk
      simp at hk
      rw [unV_sgWord hw2, if_neg hk]
      show (Dev.unV (d.sgWord _ _) _)  = _
      rw [unV_sgWord hw, if_neg hk]
    · rfl

/-- An unbanked write of a register with W1C bits only clears them. -/
theorem putUnbanked_clear {q off w} {d : Dev} (hr : (findReg off).map Prod.snd = some 0) (hm : storeBits off = 0)
   (hn : clearsWith.all (fun p => p.1.off != (regOf off).off) = true) :
   d.putUnbanked q false off w = d.sgWord (keyFor q off) (d.unV (keyFor q off) &&& ~~~(clearBits off &&& w)) := by
  cases hf : findReg off with
  | none => simp [hf] at hr
  | some x =>
    obtain ⟨r,k⟩ := x
    simp [hf] at hr; subst hr
    have e : regOf off = r := by simp [regOf, hf]
    simp only [storeBits, clearBits, e] at *
    have nn := fun g d' => clears_none (l := clearsWith) (c := r.off) (w := w) (g := g) (d := d') (by simpa using hn)
    simp only [Dev.putUnbanked, hf, hm, if_true, Dev.w1c]
    simp only [Nat.mul_zero, Nat.add_zero]
    rw [nn, if_neg (by decide)]

/-- The same, with the fields that are cleared beside a flag. -/
theorem putUnbanked_clears {q off w} {d : Dev} (hr : (findReg off).map Prod.snd = some 0) (hm : storeBits off = 0) :
   d.putUnbanked q false off w = Dev.each (fun (p : Fld × Fld) d =>
      if p.1.off == (regOf off).off && bits w.toNat p.1.lo p.1.len != 0 then d.dn { p.2 with off := p.2.off + (off - p.1.off) }
      else d) clearsWith (d.ack (keyFor q off) (clearBits off) w) := by
  cases hf : findReg off with
  | none => simp [hf] at hr
  | some x =>
    obtain ⟨r,k⟩ := x
    simp [hf] at hr; subst hr
    have e : regOf off = r := by simp [regOf, hf]
    simp only [storeBits, clearBits, e] at *
    simp only [Dev.putUnbanked, hf, hm, if_true, Dev.w1c]
    rw [if_neg (by decide)]; rfl

/-- Only the pairs of the register that is written count. -/
theorem clears_filter {l : List (Fld × Fld)} {c : Nat} {g : Fld × Fld → Dev → Dev} {w : Word} {d : Dev} :
  Dev.each (fun (p : Fld × Fld) d => if p.1.off == c && bits w.toNat p.1.lo p.1.len != 0 then g p d else d) l d
   = Dev.each (fun (p : Fld × Fld) d => if bits w.toNat p.1.lo p.1.len != 0 then g p d else d) (l.filter (fun p => p.1.off == c)) d := by
  induction l generalizing d with
  | nil => rfl
  | cons a t ih =>
    by_cases h : a.1.off == c
    · simp only [Dev.each, h, Bool.true_and, List.filter, ih]
    · simp only [Dev.each, h, Bool.false_and, List.filter, ih]; simp


/-- A write of a W1C register clears its bits and what they stand for. -/
theorem plainWrite_acks {rq : Rq} {data : Word} {d : Dev} (off : Nat) (L : List (Fld × Fld)) (OnlyRegsMismatches : Word) (h1 : primOf off = off ∧ off / 4 * 4 = off ∧ mapOf off = 0 ∧ mapped off = true ∧ areaOf off = none ∧ (findReg off).map Prod.snd = some 0 ∧ (regOf off).pair = false)
     (h2 : storeBits off = 0) (h3 : clearBits off = OnlyRegsMismatches) (h4 : hasBanked off = false) (h5 : (clearsWith.filter (fun p => p.1.off == (regOf off).off)) = L) :
     plainWrite rq false [(off, data)] d = Dev.each (fun (p : Fld × Fld) d => if bits data.toNat p.1.lo p.1.len != 0 then d.dn { p.2 with off := p.2.off + (off - p.1.off) } else d) L (d.ack (keyFor rq off) OnlyRegsMismatches data) := by
  rw [plainWrite_unbanked h4, putUnbanked_clears h1.2.2.2.2.2.1 h2, clears_filter, h5, h3]

/-- A write of a W1C register clears its bits. -/
theorem plainWrite_ack {rq : Rq} {data : Word} {d : Dev} (off : Nat) (OnlyRegsMismatches : Word) (hr : (findReg off).map Prod.snd = some 0)
     (h2 : storeBits off = 0) (h3 : clearBits off = OnlyRegsMismatches) (h4 : hasBanked off = false) (h5 : clearsWith.all (fun p => p.1.off != (regOf off).off) = true) :
     plainWrite rq false [(off, data)] d = d.ack (keyFor rq off) OnlyRegsMismatches data := by
  rw [plainWrite_unbanked h4, putUnbanked_clear hr h2 h5, h3]; rfl

/-- A one-bit field of written data is one bit of it. -/
theorem on_of_bit {data : Word} {f : Fld} (h : f.len = 1) (h2 : f.lo + f.len ≤ 32) : View.on (fun _ => data) f = bit data.toNat f.lo := by
  have : ¬ 32 < f.lo + 1 := by omega
  simp only [View.on, View.g, Fld.get, bits, bit, h, this, if_false, Nat.add_zero, Nat.pow_one]
  generalize data.toNat / 2 ^ f.lo = n
  have := Nat.mod_two_eq_zero_or_one n
  rcases this with h | h <;> simp [h]

/-- A row that does not hold the offset is passed over. -/
theorem findReg_skip {off : Nat} {r : Reg} {t : List Reg} (h : r.wordAt off = none) : findReg.go off (r :: t) = findReg.go off t := by
  rw [findReg.go, h]

/-- A row that holds the offset is found. -/
theorem findReg_hit {off k : Nat} {r : Reg} {t : List Reg} (h : r.wordAt off = some k) : findReg.go off (r :: t) = some (r, k) := by
  rw [findReg.go, h]

/-- The first offset above a row. -/
def regEnd (r : Reg) : Nat := r.off + (r.n1 - 1) * r.s1 + (r.n2 - 1) * r.s2 + 4

/-- A row that ends below the offset does not hold it. -/
theorem wordAt_low {r : Reg} {off : Nat} (h : regEnd r < off) : r.wordAt off = none := by
  unfold Reg.wordAt regEnd at *
  have h0 : ¬ off < r.off := by omega
  rw [if_neg h0]
  dsimp only
  generalize hi : (if r.s1 = 0 then 0 else min ((off - r.off) / r.s1) (r.n1 - 1)) = i
  have hi' : i ≤ r.n1 - 1 := by rw [← hi]; split <;> omega
  generalize hj : (if r.s2 = 0 then 0 else min ((off - r.off - i * r.s1) / r.s2) (r.n2 - 1)) = j
  have hj' : j ≤ r.n2 - 1 := by rw [← hj]; split <;> omega
  have a := Nat.mul_le_mul_right r.s1 hi'
  have b := Nat.mul_le_mul_right r.s2 hj'
  rw [if_neg (by omega), if_neg (by simp; omega)]

/-- Rows that end below the offset are passed over. -/
theorem findReg_drop {off n : Nat} : ∀ {l : List Reg}, (l.all fun r => decide (regEnd r < n)) = true → n ≤ off → ∀ t, findReg.go off (l ++ t) = findReg.go off t
  | [], _, _, _ => rfl
  | r :: l, h, hn, t => by
    simp only [List.all_cons, Bool.and_eq_true, decide_eq_true_eq] at h
    rw [List.cons_append, findReg_skip (wordAt_low (by omega)), findReg_drop h.2 hn t]

/-- The word of a row at an offset given by its indices. -/
theorem wordAt_of {r : Reg} {off i j k : Nat} (h : off = r.off + i * r.s1 + j * r.s2 + 4 * k)
    (hi : (if r.s1 = 0 then 0 else min ((off - r.off) / r.s1) (r.n1 - 1)) = i)
    (hj : (if r.s2 = 0 then 0 else min ((off - r.off - i * r.s1) / r.s2) (r.n2 - 1)) = j)
    (hk : k = 0 ∨ k = 1 ∧ r.pair = true) : r.wordAt off = some k := by
  unfold Reg.wordAt
  rw [if_neg (by omega)]
  dsimp only
  rw [hi, hj]
  rcases hk with rfl | ⟨rfl, hp⟩
  · rw [if_pos (by omega)]
  · rw [if_neg (by omega), if_pos (by simp [hp]; omega)]

/-- The doorbells as a row of the register table. -/
def doorbellReg : Reg := ⟨0xE8000, 4096, 0x8, 1, 0x0, true, [F.FENCE_DB_VALUE]⟩

/-- The upper word of every doorbell. -/
theorem findReg_doorbell {i : Nat} (h : i < 4096) : findReg (0xE8004 + 8 * i) = some (doorbellReg, 1) := by
  have hp : (0xE8004 + 8 * i) / 65536 = 14 := by omega
  have hn : 0xE8000 ≤ 0xE8004 + 8 * i := by omega
  have h1 : 0xE8004 + 8 * i = 0xE8000 + i * 8 + 0 * 0 + 4 * 1 := by omega
  have h2 : min ((0xE8004 + 8 * i - 0xE8000) / 8) (4096 - 1) = i := by omega
  generalize 0xE8004 + 8 * i = off at *
  unfold findReg
  rw [hp]
  show findReg.go _ regsFENCE = _
  rw [show regsFENCE = regsFENCE.dropLast ++ [doorbellReg] by rfl, findReg_drop (n := 0xE8000) (by decide) hn]
  exact findReg_hit (wordAt_of (i := i) (j := 0) h1 ((if_neg (by decide)).trans h2) (if_pos rfl) (.inr ⟨rfl, rfl⟩))

/-- The coefficient store as a row of the register table. -/
def coefficientReg : Reg := ⟨0x68000, 32, 0x400, 256, 0x4, false, [F.LINESTORE_COEF_TAP_EVEN, F.LINESTORE_COEF_TAP_ODD]⟩

/-- Every word of the coefficient store. -/
theorem findReg_coef {off : Nat} (h : 0x68000 ≤ off) (h2 : off < 0x70000) (h4 : off % 4 = 0) : findReg off = some (coefficientReg, 0) := by
  have hp : off / 65536 = 6 := by omega
  have h1 : off = 0x68000 + (off - 0x68000) / 0x400 * 0x400 + (off - 0x68000) % 0x400 / 4 * 4 + 4 * 0 := by omega
  have ha : min ((off - 0x68000) / 0x400) (32 - 1) = (off - 0x68000) / 0x400 := by omega
  have hb : min ((off - 0x68000 - (off - 0x68000) / 0x400 * 0x400) / 4) (256 - 1) = (off - 0x68000) % 0x400 / 4 := by omega
  unfold findReg
  rw [hp]
  show findReg.go _ regsLINESTORE = _
  rw [show regsLINESTORE = regsLINESTORE.dropLast ++ [coefficientReg] by rfl, findReg_drop (n := 0x68000) (by decide) h]
  exact findReg_hit (wordAt_of h1 ((if_neg (by decide)).trans ha) ((if_neg (by decide)).trans hb) (.inl rfl))

/-- A direct write of the upper word of a pair takes the held lower word with it (R53). -/
theorem regAt_pair {q : Rq} {off : Nat} {w : Word} {d : Dev} {r : Reg} (hs : d.starterBars q off = false)
   (h4 : primOf off = off) (h5 : off / 4 * 4 = off) (h6 : mapOf off = 0)  (hm : mapped off = true) (ha : areaOf off = none) (hr : findReg off = some (r, 1)) (hp : r.pair = true) :
   regAt q off w d = regBody q false off off [(off - 4, d.lowWord q (off - 4)), (off, w)] w (d.lowDone q (off - 4)) := by
  unfold regAt regWrite
  simp only [h4, hs, hm]
  simp only [show widthOf 15 = .full from rfl]
  simp [regFull, h5, h4, h6, ha, regApply, hr, hp, Dev.aliasFlag]
  rfl

/-- A log entry changes the log and registers only. -/
theorem logE_only (d : Dev) (a b c n : Nat) : { d.logE a b c n with regs := d.regs, log := d.log, logNext := d.logNext, logUsed := d.logUsed, logOverwritten := d.logOverwritten, logDeferred := d.logDeferred, logDropped := d.logDropped } = d := by
  unfold Dev.logE Dev.logMore; dsimp only
  split
  · split
    · unfold Dev.onlyIf; split <;> rfl
    · rfl
  · split
    · unfold Dev.onlyIf; split <;> rfl
    · rfl

/-- A log entry of free content changes the log, registers and the free counter only. -/
theorem logOpen_only (d : Dev) : { d.logOpen with free := d.free, regs := d.regs, log := d.log, logNext := d.logNext, logUsed := d.logUsed, logOverwritten := d.logOverwritten, logDeferred := d.logDeferred, logDropped := d.logDropped } = d := by
  unfold Dev.logOpen; dsimp only
  have h := logE_only d.draw.2.draw.2.draw.2.draw.2 (d.draw.1 % 6) (d.draw.2.draw.1 % 256) (d.draw.2.draw.2.draw.1 % 65536) d.draw.2.draw.2.draw.2.draw.1
  generalize Dev.logE _ _ _ _ _ = y at *
  exact congrArg (fun z : Dev => { z with free := d.free }) h

/-- Nothing differs but the unbanked registers. -/
structure OnlyRegs (d e : Dev) : Prop where
  /-- The claim itself. -/
  h : { e with regs := d.regs } = d

theorem OnlyRegs.rf (d : Dev) : OnlyRegs d d := ⟨rfl⟩

theorem OnlyRegs.sg (d f n) : OnlyRegs d (Dev.sg d f n) := ⟨rfl⟩

theorem OnlyRegs.tr {a b c : Dev} (h : OnlyRegs a b) (g : OnlyRegs b c) : OnlyRegs a c := by
  obtain ⟨h⟩ := h; obtain ⟨g⟩ := g
  have : { c with regs := a.regs } = { ({ c with regs := b.regs } : Dev) with regs := a.regs } := rfl
  exact ⟨by rw [this, g, h]⟩

theorem OnlyRegs.each {α} {f : α → Dev → Dev} (hf : ∀ x d, OnlyRegs d (f x d)) (l : List α) : ∀ d, OnlyRegs d (Dev.each f l d) := by
  induction l with
  | nil => exact fun d => OnlyRegs.rf d
  | cons a t ih => exact fun d => OnlyRegs.tr (hf a d) (ih _)

/-- Nothing differs but the unbanked registers and the parity mismatches. -/
structure OnlyRegsMismatches (d e : Dev) : Prop where
  /-- The claim itself. -/
  h : { e with regs := d.regs, mismatches := d.mismatches, latent := d.latent } = d

theorem OnlyRegsMismatches.rf (d : Dev) : OnlyRegsMismatches d d := ⟨rfl⟩

theorem OnlyRegsMismatches.sg (d f n) : OnlyRegsMismatches d (Dev.sg d f n) := ⟨rfl⟩

theorem OnlyRegsMismatches.tr {a b c : Dev} (h : OnlyRegsMismatches a b) (g : OnlyRegsMismatches b c) : OnlyRegsMismatches a c := by
  obtain ⟨h⟩ := h; obtain ⟨g⟩ := g
  have : { c with regs := a.regs, mismatches := a.mismatches, latent := a.latent } = { ({ c with regs := b.regs, mismatches := b.mismatches, latent := b.latent } : Dev) with regs := a.regs, mismatches := a.mismatches, latent := a.latent } := rfl
  exact ⟨by rw [this, g, h]⟩

theorem OnlyRegsMismatches.each {α} {f : α → Dev → Dev} (hf : ∀ x d, OnlyRegsMismatches d (f x d)) (l : List α) : ∀ d, OnlyRegsMismatches d (Dev.each f l d) := by
  induction l with
  | nil => exact fun d => OnlyRegsMismatches.rf d
  | cons a t ih => exact fun d => OnlyRegsMismatches.tr (hf a d) (ih _)

theorem OnlyRegsMismatches.putUnbanked (q al off w) (d : Dev) : OnlyRegsMismatches d (d.putUnbanked q al off w) := by
  unfold Dev.putUnbanked
  cases findReg off with
  | none => exact OnlyRegsMismatches.rf d
  | some x =>
    dsimp only
    have hwc : ∀ d : Dev, OnlyRegsMismatches d (d.w1c (keyFor q off) off x.1 x.2 w) := by
      intro d; unfold Dev.w1c; dsimp only
      refine OnlyRegsMismatches.tr ?_ (OnlyRegsMismatches.each (fun p d => ?_) _ _)
      · exact ⟨rfl⟩
      · split <;> exact ⟨rfl⟩
    have h1 : OnlyRegsMismatches d (if storeMask al x.1 x.2 = 0 then d else (d.sgWord (keyFor q off) ((d.unV (keyFor q off) &&& ~~~storeMask al x.1 x.2) ||| (w &&& storeMask al x.1 x.2))).restore .unbanked off) := by
      split <;> exact ⟨rfl⟩
    split
    · exact h1
    · exact h1.tr (hwc _)

/-- Repairing parity changes the mismatches only. -/
theorem restoreIf_mismatches (k o : Nat) (w : Word) (d : Dev) : ∃ ms ls, Dev.restoreIf d k o w = { d with mismatches := ms, latent := ls } := by
    unfold Dev.restoreIf; cases findReg o with
    | none => exact ⟨_, _, rfl⟩
    | some x =>
      dsimp only; split
      · exact ⟨_, _, rfl⟩
      · exact ⟨_, _, rfl⟩

theorem Yields.run {c : Instr} {s : State} {f : Dev → Dev} {e g : Dev} (hc : exec c s = s.run f) (hd : s.dev.dark = false)
    (he : ∃ ms ls, f s.dev = { g with mismatches := ms, latent := ls }) (h : g = e) : Yields c s e := by
  obtain ⟨ms, ls, he⟩ := he
  exact ⟨ms, ls, by rw [hc, State.run_of hd, he, h]⟩

/-- What a row of ICP does when its tests pass. -/
theorem icpRun_answers {op : Nat} {bad : List Nat → Bool} {f : List Nat → Dev → Ans} {tr : Tr} {seq : BitVec 16} {ps : List Word} {d : Dev}
   (h : d.passes op tr seq ps = true) (hb : bad (nums ps) = false) (hc : (f (nums ps) d).code ≠ 0x43) (hl : (f (nums ps) d).later = false) :
   icpRun op bad f tr seq ps d = (f (nums ps) d).after ((f (nums ps) d).dev.answer tr op (seq.toNat % 256) ps true (f (nums ps) d).code (f (nums ps) d).pay) := by
  unfold Dev.passes at h
  simp only [Bool.and_eq_true] at h
  obtain ⟨⟨⟨⟨⟨hn, hs⟩, h1⟩, h2⟩, h3⟩, h4⟩ := h
  have hs' : d.fwResume = d := by unfold Dev.fwResume; rw [if_neg (by simpa using hs)]
  unfold icpRun
  dsimp only
  rw [hn, hs']
  simp only [Bool.not_true, Bool.false_eq_true, if_false]
  have h2' : d.testing = false := by simpa using h2
  rw [h2']
  simp only [Bool.false_eq_true, if_false]
  cases hr : opRow op with
  | none => rw [hr] at h4; cases h4
  | some r =>
    rw [hr] at h4
    dsimp only at h4 ⊢
    have : d.cmdTest tr r (ps.map (·.toNat)) = none := by simpa using h4
    rw [this]
    dsimp only
    have hb' : bad (ps.map (·.toNat)) = false := hb
    have hc' : (f (ps.map (·.toNat)) d).code ≠ 0x43 := hc
    have hl' : (f (ps.map (·.toNat)) d).later = false := hl
    have h3' : (d.inHold && !holdOp op) = false := by
      cases ha : d.inHold <;> cases hb : holdOp op <;> simp_all
    rw [hb', h3']
    simp only [Bool.false_eq_true, if_false]
    rw [if_neg hc', hl']
    simp only [Bool.false_eq_true, if_false]
    rfl

/-- A device on which an ICP row passes is not dark. -/
theorem dark_of_passes {d : Dev} {op tr seq ps} (h : d.passes op tr seq ps = true) : d.dark = false := by
  unfold Dev.passes at h
  simp only [Bool.and_eq_true] at h
  simpa using h.1.1.1.2

/-- A row that passes its tests replies. -/
theorem replies_of {c : Instr} {op : Nat} {bad : List Nat → Bool} {f : List Nat → Dev → Ans} {tr : Tr} {seq : BitVec 16} {ps : List Word} {s : State} {a : Ans}
   (hx : exec c s = s.run (icpRun op bad f tr seq ps)) (h : s.dev.passes op tr seq ps = true) (hb : bad (nums ps) = false) (ha : f (nums ps) s.dev = a)
   (hc : a.code ≠ 0x43) (hl : a.later = false) (haf : a.after = id) : Replies c op tr seq ps s a.code a.pay a.dev := by
  subst ha
  exact Gives.run hx (dark_of_passes h) ((icpRun_answers h hb hc hl).trans (by rw [haf]; rfl))

/-- A row that passes its tests replies and then begins what follows. -/
theorem gives_after {c : Instr} {op : Nat} {bad : List Nat → Bool} {f : List Nat → Dev → Ans} {tr : Tr} {seq : BitVec 16} {ps : List Word} {s : State} {a : Ans}
   (hx : exec c s = s.run (icpRun op bad f tr seq ps)) (h : s.dev.passes op tr seq ps = true) (hb : bad (nums ps) = false) (ha : f (nums ps) s.dev = a)
   (hc : a.code ≠ 0x43) (hl : a.later = false) : Gives c s (a.after (a.dev.answer tr op (seq.toNat % 256) ps true a.code a.pay)) := by
  subst ha
  exact Gives.run hx (dark_of_passes h) (icpRun_answers h hb hc hl)

/-- A row that passes its tests replies with a code and a payload. -/
theorem replies {c : Instr} {op : Nat} {bad : List Nat → Bool} {f : List Nat → Dev → Ans} {tr : Tr} {seq : BitVec 16} {ps : List Word} {s : State} {code : Nat} {pay : List Nat} {e : Dev}
   (hx : exec c s = s.run (icpRun op bad f tr seq ps)) (h : s.dev.passes op tr seq ps = true) (hb : bad (nums ps) = false) (ha : f (nums ps) s.dev = { code := code, pay := pay, dev := e })
   (hc : code ≠ 0x43) : Replies c op tr seq ps s code pay e :=
  replies_of (a := { code := code, pay := pay, dev := e }) hx h hb ha hc rfl rfl

/-- A row whose reply waits for its slice. -/
theorem icpRun_later {op : Nat} {bad : List Nat → Bool} {f : List Nat → Dev → Ans} {tr : Tr} {seq : BitVec 16} {ps : List Word} {d : Dev}
   (h : d.passes op tr seq ps = true) (hb : bad (nums ps) = false) (hc : (f (nums ps) d).code ≠ 0x43) (hl : (f (nums ps) d).later = true) :
   icpRun op bad f tr seq ps d = { (f (nums ps) d).dev with test := { (f (nums ps) d).dev.test with asker := some (tr, op, seq.toNat % 256) } } := by
  unfold Dev.passes at h
  simp only [Bool.and_eq_true] at h
  obtain ⟨⟨⟨⟨⟨hn, hs⟩, h1⟩, h2⟩, h3⟩, h4⟩ := h
  have hs' : d.fwResume = d := by unfold Dev.fwResume; rw [if_neg (by simpa using hs)]
  unfold icpRun
  dsimp only
  rw [hn, hs']
  simp only [Bool.not_true, Bool.false_eq_true, if_false]
  have h2' : d.testing = false := by simpa using h2
  rw [h2']
  simp only [Bool.false_eq_true, if_false]
  cases hr : opRow op with
  | none => rw [hr] at h4; cases h4
  | some r =>
    rw [hr] at h4
    dsimp only at h4 ⊢
    have : d.cmdTest tr r (ps.map (·.toNat)) = none := by simpa using h4
    rw [this]
    dsimp only
    have hb' : bad (ps.map (·.toNat)) = false := hb
    have hc' : (f (ps.map (·.toNat)) d).code ≠ 0x43 := hc
    have hl' : (f (ps.map (·.toNat)) d).later = true := hl
    have h3' : (d.inHold && !holdOp op) = false := by
      cases ha : d.inHold <;> cases hb : holdOp op <;> simp_all
    rw [hb', h3']
    simp only [Bool.false_eq_true, if_false]
    rw [if_neg hc', hl']
    rfl

end Sys2Proof.Machine
end

