-- ==== Sys2Proof/Laws/Exec.lean ====
section
/-! SUPPORT.  What every command does, said once: it completes with its queue, and keeps the canonical form of the tables;
    the commands that never store keep DRAM. -/

namespace Sys2Proof.Machine

/-- A command that needs the main supply. -/
theorem run_keeps {s : State} {f : Dev → Dev} {K : Dev → Dev → Prop} (hr : ∀ d, K d d) (hf : ∀ d, K d (f d)) :
    ∃ t, s.run f = .next t ∧ t.pending = s.pending ∧ K s.dev t.dev := by
  refine ⟨_, rfl, rfl, ?_⟩
  dsimp only
  split
  · exact hr _
  · exact hf _

/-- A command that acts in DEEP too. -/
theorem runAon_keeps {s : State} {f : Dev → Dev} {K : Dev → Dev → Prop} (hr : ∀ d, K d d) (hf : ∀ d, K d (f d)) :
    ∃ t, s.runAon f = .next t ∧ t.pending = s.pending ∧ K s.dev t.dev := by
  refine ⟨_, rfl, rfl, ?_⟩
  dsimp only
  split
  · exact hr _
  · exact hf _

/-- A command that acts always. -/
theorem runCold_keeps {s : State} {f : Dev → Dev} {K : Dev → Dev → Prop} (hf : ∀ d, K d (f d)) :
    ∃ t, s.runCold f = .next t ∧ t.pending = s.pending ∧ K s.dev t.dev := ⟨_, rfl, rfl, hf _⟩

/-- Every command completes with its queue and keeps the canonical form. -/
theorem exec_kc (c : Instr) (s : State) : ∃ t, exec c s = .next t ∧ t.pending = s.pending ∧ Kc s.dev t.dev := by
  cases c
  case regWrite rq win off be data => exact run_keeps .refl (fun d => (burstWrite_kc (.refl d)))
  case unmappedRead rq off be => exact run_keeps .refl (fun d => (regRead_kc (.refl d)))
  case unalignedRead rq off be => exact run_keeps .refl (fun d => (regRead_kc (.refl d)))
  case registerPairLowerRead rq off both => exact run_keeps .refl (fun d => (pairRead_kc (.refl d)))
  case postedWrite rq off data => exact run_keeps .refl (fun d => (regAt_kc (.refl d)))
  case postedWriteLanded area => exact run_keeps .refl (fun d => (postedLanded_kc (.refl d)))
  case sysUnlockWrite rq data => exact run_keeps .refl (fun d => (regAt_kc (.refl d)))
  case unlockTimeout rq => exact run_keeps .refl (fun d => (unlockTimeout_kc (.refl d)))
  case warmResetWrite rq data => exact run_keeps .refl (fun d => (regAt_kc (.refl d)))
  case sysLockdownWrite rq data => exact run_keeps .refl (fun d => (regAt_kc (.refl d)))
  case captureRearm rq cap data => exact run_keeps .refl (fun d => (regAt_kc (.refl d)))
  case sysTickCtrlWrite rq data => exact run_keeps .refl (fun d => (regAt_kc (.refl d)))
  case tickClrCounts rq data => exact run_keeps .refl (fun d => (regAt_kc (.refl d)))
  case fallbackTick dt => exact run_keeps .refl (fun d => (fallbackTick_kc (.refl d)))
  case fallbackTimerTick dt => exact run_keeps .refl (fun d => (fallbackTimerTick_kc (.refl d)))
  case flattenItemComplete pipe => exact run_keeps .refl (fun d => (Dev.engine_kc (fun e h => flattenItemComplete_kc h) (.refl d)))
  case crustSlotDrain pipe => exact run_keeps .refl (fun d => (Dev.engine_kc (fun e h => crustSlotDrain_kc h) (.refl d)))
  case commitStrobe rq data => exact run_keeps .refl (fun d => (regAt_kc (.refl d)))
  case commitValidationEnd rq => exact run_keeps .refl (fun d => (commitValidationEnd_kc (.refl d)))
  case commitClrCounts rq data => exact run_keeps .refl (fun d => (regAt_kc (.refl d)))
  case cutoff pipe => exact run_keeps .refl (fun d => (cutoff_kc (.refl d)))
  case swapPoint pipe dt => exact run_keeps .refl (fun d => (swapPointEvent_kc (.refl d)))
  case surfaceRetireDrain sid => exact run_keeps .refl (fun d => (surfaceRetireDrain_kc (.refl d)))
  case lineZero pipe => exact run_keeps .refl (fun d => (lineZero_kc (.refl d)))
  case scanOutFetchIssue pipe line => exact run_keeps .refl (fun d => (scanOutFetchIssue_kc (.refl d)))
  case underrun pipe line kind index => exact run_keeps .refl (fun d => (underrun_kc (.refl d)))
  case writebackLineOverflow pipe line => exact run_keeps .refl (fun d => (writebackLineOverflow_kc (.refl d)))
  case writebackFrameDone pipe => exact run_keeps .refl (fun d => (Dev.engine_kc (fun e h => writebackFrameDone_kc h) (.refl d)))
  case replayAbort pipe line => exact run_keeps .refl (fun d => (replayAbort_kc (.refl d)))
  case configScrubPass found => exact run_keeps .refl (fun d => (configScrubPass_kc (.refl d)))
  case safeBlackReload pipe => exact run_keeps .refl (fun d => (safeBlackReload_kc (.refl d)))
  case reloadFail pipe => exact run_keeps .refl (fun d => (reloadFail_kc (.refl d)))
  case surfCmdRegister rq data => exact run_keeps .refl (fun d => (timed_kc (fun e h => regAt_kc h) (.refl d)))
  case surfCmdUnregister rq data => exact run_keeps .refl (fun d => (timed_kc (fun e h => regAt_kc h) (.refl d)))
  case surfCmdClearTorn rq data => exact run_keeps .refl (fun d => (timed_kc (fun e h => regAt_kc h) (.refl d)))
  case surfCmdBadOp rq data => exact run_keeps .refl (fun d => (timed_kc (fun e h => regAt_kc h) (.refl d)))
  case sealCheckEnd => exact run_keeps .refl (fun d => (sealCheckEnd_kc (.refl d)))
  case descScrub hits => exact run_keeps .refl (fun d => (Dev.each_kc (fun x e h => descUpset_kc h) (.refl d)))
  case dramWindowWrite addr data dt => exact run_keeps .refl (fun d => (dramWindowWrite_kc (Dev.advance_kc (.refl d))))
  case dramWindowRead addr len => exact run_keeps .refl (fun d => (dramWindowRead_kc (.refl d)))
  case fenceCmdAlloc rq data => exact run_keeps .refl (fun d => (timed_kc (fun e h => regAt_kc h) (.refl d)))
  case fenceCmdFree rq data => exact run_keeps .refl (fun d => (timed_kc (fun e h => regAt_kc h) (.refl d)))
  case fenceCmdBadOp rq data => exact run_keeps .refl (fun d => (timed_kc (fun e h => regAt_kc h) (.refl d)))
  case fenceDoorbell rq fid data => exact run_keeps .refl (fun d => (timed_kc (fun e h => regAt_kc h) (.refl d)))
  case fenceScrub hits => exact run_keeps .refl (fun d => (Dev.each_kc (fun x e h => fenceUpset_kc h) (.refl d)))
  case coefWrite rq off data => exact run_keeps .refl (fun d => (regAt_kc (.refl d)))
  case claimScrub blocks => exact run_keeps .refl (fun d => (claimScrub_kc (.refl d)))
  case lsParity vl => exact run_keeps .refl (fun d => (lsParity_kc (.refl d)))
  case tmLoad rq layer data => exact run_keeps .refl (fun d => (regAt_kc (.refl d)))
  case tmLoadComplete layer => exact run_keeps .refl (fun d => (tmLoadComplete_kc (.refl d)))
  case tmParity layer => exact run_keeps .refl (fun d => (tmParity_kc (.refl d)))
  case lutLoad rq pipe data => exact run_keeps .refl (fun d => (regAt_kc (.refl d)))
  case lutLoadComplete pipe => exact run_keeps .refl (fun d => (lutLoadComplete_kc (.refl d)))
  case lutParity pipe => exact run_keeps .refl (fun d => (lutParity_kc (.refl d)))
  case crustHintGo rq data => exact run_keeps .refl (fun d => (regAt_kc (.refl d)))
  case crustTileSelWrite rq data => exact run_keeps .refl (fun d => (regAt_kc (.refl d)))
  case crustClrCounts rq pipe data => exact run_keeps .refl (fun d => (regAt_kc (.refl d)))
  case tileScrub hits => exact run_keeps .refl (fun d => (tileScrub_kc (.refl d)))
  case crustDataParity plane tile => exact run_keeps .refl (fun d => (crustDataParity_kc (.refl d)))
  case dramEccError ch uncorrectable reader dt => exact run_keeps .refl (fun d => (dramEccError_kc (Dev.advance_kc (.refl d))))
  case storeParity src => exact run_keeps .refl (fun d => (storeParity_kc (.refl d)))
  case refreshMultUpdate reports => exact run_keeps .refl (fun d => (refreshMultUpdate_kc (.refl d)))
  case dramRetrain ch => exact run_keeps .refl (fun d => (dramRetrain_kc (.refl d)))
  case fetchDeclWrite rq k data => exact run_keeps .refl (fun d => (regAt_kc (.refl d)))
  case declTestEnd => exact run_keeps .refl (fun d => (declTestEnd_kc (.refl d)))
  case fetchEffWrite rq data => exact run_keeps .refl (fun d => (regAt_kc (.refl d)))
  case classBRasterStop pipe => exact run_keeps .refl (fun d => (classBRasterStop_kc (.refl d)))
  case pixelPllLock pipe => exact run_keeps .refl (fun d => (pixelPllLock_kc (.refl d)))
  case linkTrainingComplete port => exact run_keeps .refl (fun d => (linkTrainingComplete_kc (.refl d)))
  case trainFail port => exact run_keeps .refl (fun d => (trainFail_kc (.refl d)))
  case retrainTimer port => exact run_keeps .refl (fun d => (retrainTimer_kc (.refl d)))
  case refInEdge dt => exact run_keeps .refl (fun d => (refInEdge_kc (.refl d)))
  case genlockRefLost pipe => exact run_keeps .refl (fun d => (genlockRefLost_kc (.refl d)))
  case teEdge pipe => exact run_keeps .refl (fun d => (teEdge_kc (.refl d)))
  case teTimeout pipe => exact run_keeps .refl (fun d => (teTimeout_kc (.refl d)))
  case hpdPlug port sink => exact runAon_keeps .refl (fun d => (hpdPlugEvent_kc (.refl d)))
  case hpdUnplug port => exact runAon_keeps .refl (fun d => (hpdUnplugEvent_kc (.refl d)))
  case irqHpd port linkLost hdcpReq => exact run_keeps .refl (fun d => (irqHpdEvent_kc (.refl d)))
  case hdcpAuthComplete port ok unwrapOk repeater => exact run_keeps .refl (fun d => (hdcpAuthComplete_kc (.refl d)))
  case hdcpRetry port => exact run_keeps .refl (fun d => (hdcpRetry_kc (.refl d)))
  case dsiErrorReport dsi => exact run_keeps .refl (fun d => (dsiErrorReport_kc (.refl d)))
  case sigSnapSelWrite rq data => exact run_keeps .refl (fun d => (regAt_kc (.refl d)))
  case sigClrCounts rq pipe data => exact run_keeps .refl (fun d => (regAt_kc (.refl d)))
  case sqTailWrite rq q data => exact run_keeps .refl (fun d => (regAt_kc (.refl d)))
  case sqResume rq q data => exact run_keeps .refl (fun d => (regAt_kc (.refl d)))
  case scraperJobStart => exact run_keeps .refl (fun d => (Dev.engine_kc (fun e h => scraperJobStart_kc h) (.refl d)))
  case scraperRowComplete => exact run_keeps .refl (fun d => (Dev.engine_kc (fun e h => scraperRowComplete_kc h) (.refl d)))
  case scraperJobEnd => exact run_keeps .refl (fun d => (Dev.engine_kc (fun e h => scraperJobEnd_kc h) (.refl d)))
  case dmaGo rq ch data => exact run_keeps .refl (fun d => (regAt_kc (.refl d)))
  case dmaResume rq ch data => exact run_keeps .refl (fun d => (regAt_kc (.refl d)))
  case dmaDescComplete ch hostData => exact run_keeps .refl (fun d => (Dev.engine_kc (fun e h => dmaDescComplete_kc h) (.refl d)))
  case dmaBusError kind addr ends data dt => exact run_keeps .refl (fun d => (dmaBusError_kc (Dev.advance_kc (.refl d))))
  case dmaHaltSettled => exact run_keeps .refl (fun d => (dmaHaltSettled_kc (.refl d)))
  case clearHalt rq data => exact run_keeps .refl (fun d => (regAt_kc (.refl d)))
  case chkInit rq unit data => exact run_keeps .refl (fun d => (regAt_kc (.refl d)))
  case chkFeed8 rq unit data => exact run_keeps .refl (fun d => (regAt_kc (.refl d)))
  case chkFeed16 rq unit data => exact run_keeps .refl (fun d => (regAt_kc (.refl d)))
  case chkFeed32 rq unit data => exact run_keeps .refl (fun d => (regAt_kc (.refl d)))
  case icpPacketReceived tr packet => exact run_keeps .refl (fun d => (icpPacketReceived_kc (.refl d)))
  case icpCmdTailWrite data => exact run_keeps .refl (fun d => (ringAt_kc (.refl d)))
  case icpRplHeadWrite data => exact run_keeps .refl (fun d => (ringAt_kc (.refl d)))
  case icpRingTake => exact run_keeps .refl (fun d => (icpRingTake_kc (.refl d)))
  case writePacket tr bytes => exact run_keeps .refl (fun d => (writePacket_kc (.refl d)))
  case readReply tr len => exact run_keeps .refl (fun d => (readReply_kc (.refl d)))
  case readStatus tr => exact run_keeps .refl (fun d => (readStatus_kc (.refl d)))
  case sidebandBadCommand tr => exact run_keeps .refl (fun d => (sidebandBadCommand_kc (.refl d)))
  case hostLost => exact run_keeps .refl (fun d => (hostLost_kc (.refl d)))
  case deviceInfo tr seq ps => exact run_keeps .refl (fun d => (icpRun_kc (fun p e h => opDeviceInfo_kc h) (.refl d)))
  case heartbeat tr seq ps => exact run_keeps .refl (fun d => (icpRun_kc (fun p e h => opHeartbeat_kc h) (.refl d)))
  case ackAttention tr seq ps => exact run_keeps .refl (fun d => (icpRun_kc (fun p e h => opAckAttention_kc h) (.refl d)))
  case getStatus tr seq ps => exact run_keeps .refl (fun d => (icpRun_kc (fun p e h => opGetStatus_kc h) (.refl d)))
  case claimControl tr seq ps => exact run_keeps .refl (fun d => (icpRun_kc (fun p e h => opClaimControl_kc h) (.refl d)))
  case releaseControl tr seq ps => exact run_keeps .refl (fun d => (icpRun_kc (fun p e h => opReleaseControl_kc h) (.refl d)))
  case softReset tr seq ps => exact run_keeps .refl (fun d => (icpRun_kc (fun p e h => opSoftReset_kc h) (.refl d)))
  case shutdown tr seq ps => exact run_keeps .refl (fun d => (icpRun_kc (fun p e h => opShutdown_kc h) (.refl d)))
  case powerState tr seq ps => exact run_keeps .refl (fun d => (icpRun_kc (fun p e h => opPowerState_kc h) (.refl d)))
  case surfRegister tr seq ps => exact run_keeps .refl (fun d => (icpRun_kc (fun p e h => opSurfRegister_kc h) (.refl d)))
  case surfUnregister tr seq ps => exact run_keeps .refl (fun d => (icpRun_kc (fun p e h => opSurfUnregister_kc h) (.refl d)))
  case surfClearTorn tr seq ps => exact run_keeps .refl (fun d => (icpRun_kc (fun p e h => opSurfClearTorn_kc h) (.refl d)))
  case surfQuery tr seq ps => exact run_keeps .refl (fun d => (icpRun_kc (fun p e h => opSurfQuery_kc h) (.refl d)))
  case surfSealStatus tr seq ps => exact run_keeps .refl (fun d => (icpRun_kc (fun p e h => opSurfSealStatus_kc h) (.refl d)))
  case fenceAlloc tr seq ps => exact run_keeps .refl (fun d => (icpRun_kc (fun p e h => opFenceAlloc_kc h) (.refl d)))
  case fenceFree tr seq ps => exact run_keeps .refl (fun d => (icpRun_kc (fun p e h => opFenceFree_kc h) (.refl d)))
  case fenceSignal tr seq ps => exact run_keeps .refl (fun d => (icpRun_kc (fun p e h => opFenceSignal_kc h) (.refl d)))
  case fenceRead tr seq ps => exact run_keeps .refl (fun d => (icpRun_kc (fun p e h => opFenceRead_kc h) (.refl d)))
  case pipeHandover tr seq ps => exact run_keeps .refl (fun d => (icpRun_kc (fun p e h => opPipeHandover_kc h) (.refl d)))
  case pipeReclaim tr seq ps => exact run_keeps .refl (fun d => (icpRun_kc (fun p e h => opPipeReclaim_kc h) (.refl d)))
  case layoutBegin tr seq ps => exact run_keeps .refl (fun d => (icpRun_kc (fun p e h => opLayoutBegin_kc h) (.refl d)))
  case layoutWindow tr seq ps => exact run_keeps .refl (fun d => (icpRun_kc (fun p e h => opLayoutWindow_kc h) (.refl d)))
  case layoutSet tr seq ps => exact run_keeps .refl (fun d => (icpRun_kc (fun p e h => opLayoutSet_kc h) (.refl d)))
  case layoutGet tr seq ps => exact run_keeps .refl (fun d => (icpRun_kc (fun p e h => opLayoutGet_kc h) (.refl d)))
  case atlasSet tr seq ps => exact run_keeps .refl (fun d => (icpRun_kc (fun p e h => opAtlasSet_kc h) (.refl d)))
  case meterTableSet tr seq ps => exact run_keeps .refl (fun d => (icpRun_kc (fun p e h => opMeterTableSet_kc h) (.refl d)))
  case meterWrite tr seq ps => exact run_keeps .refl (fun d => (icpRun_kc (fun p e h => opMeterWrite_kc h) (.refl d)))
  case pipeStatus tr seq ps => exact run_keeps .refl (fun d => (icpRun_kc (fun p e h => opPipeStatus_kc h) (.refl d)))
  case portStatus tr seq ps => exact run_keeps .refl (fun d => (icpRun_kc (fun p e h => opPortStatus_kc h) (.refl d)))
  case sinkRead tr seq ps seen => exact run_keeps .refl (fun d => (icpRun_kc (fun p e h => opSinkRead_kc h) (.refl d)))
  case dpcdWrite tr seq ps acked => exact run_keeps .refl (fun d => (icpRun_kc (fun p e h => opDpcdWrite_kc h) (.refl d)))
  case hdcpTopology tr seq ps seen => exact run_keeps .refl (fun d => (icpRun_kc (fun p e h => opHdcpTopology_kc h) (.refl d)))
  case pipeReset tr seq ps => exact run_keeps .refl (fun d => (icpRun_kc (fun p e h => opPipeReset_kc h) (.refl d)))
  case dsiDcs tr seq ps seen => exact run_keeps .refl (fun d => (icpRun_kc (fun p e h => opDsiDcs_kc h) (.refl d)))
  case pipeTimingSet tr seq ps => exact run_keeps .refl (fun d => (icpRun_kc (fun p e h => opPipeTimingSet_kc h) (.refl d)))
  case sensorRead tr seq ps => exact run_keeps .refl (fun d => (icpRun_kc (fun p e h => opSensorRead_kc h) (.refl d)))
  case logInfo tr seq ps => exact run_keeps .refl (fun d => (icpRun_kc (fun p e h => opLogInfo_kc h) (.refl d)))
  case logRead tr seq ps => exact run_keeps .refl (fun d => (icpRun_kc (fun p e h => opLogRead_kc h) (.refl d)))
  case healthRead tr seq ps => exact run_keeps .refl (fun d => (icpRun_kc (fun p e h => opHealthRead_kc h) (.refl d)))
  case marginRead tr seq ps => exact run_keeps .refl (fun d => (icpRun_kc (fun p e h => opMarginRead_kc h) (.refl d)))
  case fwInfo tr seq ps => exact run_keeps .refl (fun d => (icpRun_kc (fun p e h => opFwInfo_kc h) (.refl d)))
  case fwBegin tr seq ps => exact run_keeps .refl (fun d => (icpRun_kc (fun p e h => opFwBegin_kc h) (.refl d)))
  case fwChunk tr seq ps => exact run_keeps .refl (fun d => (icpRun_kc (fun p e h => opFwChunk_kc h) (.refl d)))
  case fwCommit tr seq ps => exact run_keeps .refl (fun d => (icpRun_kc (fun p e h => opFwCommit_kc h) (.refl d)))
  case fwActivate tr seq ps => exact run_keeps .refl (fun d => (icpRun_kc (fun p e h => opFwActivate_kc h) (.refl d)))
  case selftestRun tr seq ps => exact run_keeps .refl (fun d => (icpRun_kc (fun p e h => opSelftestRun_kc h) (.refl d)))
  case selftestResult tr seq ps => exact run_keeps .refl (fun d => (icpRun_kc (fun p e h => opSelftestResult_kc h) (.refl d)))
  case debugChallenge tr seq ps => exact run_keeps .refl (fun d => (icpRun_kc (fun p e h => opDebugChallenge_kc h) (.refl d)))
  case debugOpen tr seq ps => exact run_keeps .refl (fun d => (icpRun_kc (fun p e h => opDebugOpen_kc h) (.refl d)))
  case debugChallengeExpiry => exact run_keeps .refl (fun d => (debugChallengeExpiry_kc (.refl d)))
  case structuralScanEntry rq data => exact run_keeps .refl (fun d => (regAt_kc (.refl d)))
  case watchdogExpiry dt => exact run_keeps .refl (fun d => (watchdogExpiry_kc (.refl d)))
  case sensorSample therm droop dt => exact run_keeps .refl (fun d => (sensorSample_kc (.refl d)))
  case leavenRun => exact run_keeps .refl (fun d => (leavenRun_kc (.refl d)))
  case leavenRunComplete degrade => exact run_keeps .refl (fun d => (leavenRunComplete_kc (.refl d)))
  case aonPowerOn => exact runCold_keeps (fun d => (aonPowerOn_kc (.refl d)))
  case railTimeout rail => exact run_keeps .refl (fun d => (railTimeout_kc (.refl d)))
  case railRetry => exact run_keeps .refl (fun d => (railRetry_kc (.refl d)))
  case resetRelease seen => exact run_keeps .refl (fun d => (resetReleaseEvent_kc (.refl d)))
  case startTimeout => exact run_keeps .refl (fun d => (startTimeout_kc (.refl d)))
  case startSuccess => exact run_keeps .refl (fun d => (startSuccess_kc (.refl d)))
  case resetNAssert => exact run_keeps .refl (fun d => (resetNAssert_kc (.refl d)))
  case brownoutWarn island => exact runAon_keeps .refl (fun d => (brownoutWarn_kc (.refl d)))
  case brownoutRecovery island minMv micros => exact runAon_keeps .refl (fun d => (brownoutRecovery_kc (.refl d)))
  case brownoutReset island => exact run_keeps .refl (fun d => (brownoutReset_kc (.refl d)))
  case aonBrownout => exact runCold_keeps (fun d => (aonBrownout_kc (.refl d)))
  case functionLevelReset => exact run_keeps .refl (fun d => (functionLevelReset_kc (.refl d)))
  case perstAssert => exact runAon_keeps .refl (fun d => (perstAssert_kc (.refl d)))
  case perstDeassert => exact runAon_keeps .refl (fun d => (perstDeassert_kc (.refl d)))
  case powerPipeReset rq data => exact run_keeps .refl (fun d => (powerPipeReset_kc (.refl d)))
  case powerCtrlHold rq data => exact run_keeps .refl (fun d => (powerCtrlWrite_kc (.refl d)))
  case powerCtrlDeep rq data => exact run_keeps .refl (fun d => (powerCtrlWrite_kc (.refl d)))
  case powerCtrlActive rq data => exact run_keeps .refl (fun d => (powerCtrlWrite_kc (.refl d)))
  case thermalHoldExit => exact run_keeps .refl (fun d => (thermalHoldExit_kc (.refl d)))
  case wakeNFall => exact runAon_keeps .refl (fun d => (wakeNFall_kc (.refl d)))
  case sidebandWake tr => exact runAon_keeps .refl (fun d => (sidebandWake_kc (.refl d)))
  case sliceEnd seen => exact run_keeps .refl (fun d => (sliceEnd_kc (.refl d)))
  case sliceBudgetExpiry seen => exact run_keeps .refl (fun d => (sliceBudgetExpiry_kc (.refl d)))
  case refclkLost => exact runAon_keeps .refl (fun d => (refclkLost_kc (.refl d)))
  case refclkReturn => exact runAon_keeps .refl (fun d => (refclkReturn_kc (.refl d)))
  case holdEntryComplete => exact run_keeps .refl (fun d => (holdEntryComplete_kc (.refl d)))
  case holdExitComplete => exact run_keeps .refl (fun d => (holdExitComplete_kc (.refl d)))
  case deepEntryComplete => exact run_keeps .refl (fun d => (deepEntryComplete_kc (.refl d)))
  case healthRecordMinutes => exact run_keeps .refl (fun d => (healthRecordMinutes_kc (.refl d)))

/-- Every command that never stores completes with its queue and keeps DRAM. -/
theorem exec_km (c : Instr) (s : State) (h : c.sparesDram = true) :
    ∃ t, exec c s = .next t ∧ t.pending = s.pending ∧ Km s.dev t.dev := by
  cases c
  case regWrite _ _ _ _ _ => cases h
  case unmappedRead rq off be => exact run_keeps .refl (fun d => (regRead_km (.refl d)))
  case unalignedRead rq off be => exact run_keeps .refl (fun d => (regRead_km (.refl d)))
  case registerPairLowerRead rq off both => exact run_keeps .refl (fun d => (pairRead_km (.refl d)))
  case postedWrite _ _ _ => cases h
  case postedWriteLanded _ => cases h
  case sysUnlockWrite _ _ => cases h
  case unlockTimeout rq => exact run_keeps .refl (fun d => (unlockTimeout_km (.refl d)))
  case warmResetWrite _ _ => cases h
  case sysLockdownWrite _ _ => cases h
  case captureRearm _ _ _ => cases h
  case sysTickCtrlWrite _ _ => cases h
  case tickClrCounts _ _ => cases h
  case fallbackTick _ => cases h
  case fallbackTimerTick _ => cases h
  case flattenItemComplete pipe => exact run_keeps .refl (fun d => (Dev.engine_km (fun e h => flattenItemComplete_km h) (.refl d)))
  case crustSlotDrain pipe => exact run_keeps .refl (fun d => (Dev.engine_km (fun e h => crustSlotDrain_km h) (.refl d)))
  case commitStrobe _ _ => cases h
  case commitValidationEnd rq => exact run_keeps .refl (fun d => (commitValidationEnd_km (.refl d)))
  case commitClrCounts _ _ => cases h
  case cutoff pipe => exact run_keeps .refl (fun d => (cutoff_km (.refl d)))
  case swapPoint _ _ => cases h
  case surfaceRetireDrain sid => exact run_keeps .refl (fun d => (surfaceRetireDrain_km (.refl d)))
  case lineZero pipe => exact run_keeps .refl (fun d => (lineZero_km (.refl d)))
  case scanOutFetchIssue pipe line => exact run_keeps .refl (fun d => (scanOutFetchIssue_km (.refl d)))
  case underrun pipe line kind index => exact run_keeps .refl (fun d => (underrun_km (.refl d)))
  case writebackLineOverflow pipe line => exact run_keeps .refl (fun d => (writebackLineOverflow_km (.refl d)))
  case writebackFrameDone _ => cases h
  case replayAbort pipe line => exact run_keeps .refl (fun d => (replayAbort_km (.refl d)))
  case configScrubPass found => exact run_keeps .refl (fun d => (configScrubPass_km (.refl d)))
  case safeBlackReload pipe => exact run_keeps .refl (fun d => (safeBlackReload_km (.refl d)))
  case reloadFail pipe => exact run_keeps .refl (fun d => (reloadFail_km (.refl d)))
  case surfCmdRegister _ _ => cases h
  case surfCmdUnregister _ _ => cases h
  case surfCmdClearTorn _ _ => cases h
  case surfCmdBadOp _ _ => cases h
  case sealCheckEnd => cases h
  case descScrub hits => exact run_keeps .refl (fun d => (Dev.each_km (fun x e h => descUpset_km h) (.refl d)))
  case dramWindowWrite _ _ _ => cases h
  case dramWindowRead addr len => exact run_keeps .refl (fun d => (dramWindowRead_km (.refl d)))
  case fenceCmdAlloc _ _ => cases h
  case fenceCmdFree _ _ => cases h
  case fenceCmdBadOp _ _ => cases h
  case fenceDoorbell _ _ _ => cases h
  case fenceScrub hits => exact run_keeps .refl (fun d => (Dev.each_km (fun x e h => fenceUpset_km h) (.refl d)))
  case coefWrite _ _ _ => cases h
  case claimScrub blocks => exact run_keeps .refl (fun d => (claimScrub_km (.refl d)))
  case lsParity vl => exact run_keeps .refl (fun d => (lsParity_km (.refl d)))
  case tmLoad _ _ _ => cases h
  case tmLoadComplete layer => exact run_keeps .refl (fun d => (tmLoadComplete_km (.refl d)))
  case tmParity layer => exact run_keeps .refl (fun d => (tmParity_km (.refl d)))
  case lutLoad _ _ _ => cases h
  case lutLoadComplete pipe => exact run_keeps .refl (fun d => (lutLoadComplete_km (.refl d)))
  case lutParity pipe => exact run_keeps .refl (fun d => (lutParity_km (.refl d)))
  case crustHintGo _ _ => cases h
  case crustTileSelWrite _ _ => cases h
  case crustClrCounts _ _ _ => cases h
  case tileScrub hits => exact run_keeps .refl (fun d => (tileScrub_km (.refl d)))
  case crustDataParity plane tile => exact run_keeps .refl (fun d => (crustDataParity_km (.refl d)))
  case dramEccError _ _ _ _ => cases h
  case storeParity src => exact run_keeps .refl (fun d => (storeParity_km (.refl d)))
  case refreshMultUpdate reports => exact run_keeps .refl (fun d => (refreshMultUpdate_km (.refl d)))
  case dramRetrain ch => exact run_keeps .refl (fun d => (dramRetrain_km (.refl d)))
  case fetchDeclWrite _ _ _ => cases h
  case declTestEnd => exact run_keeps .refl (fun d => (declTestEnd_km (.refl d)))
  case fetchEffWrite _ _ => cases h
  case classBRasterStop pipe => exact run_keeps .refl (fun d => (classBRasterStop_km (.refl d)))
  case pixelPllLock pipe => exact run_keeps .refl (fun d => (pixelPllLock_km (.refl d)))
  case linkTrainingComplete port => exact run_keeps .refl (fun d => (linkTrainingComplete_km (.refl d)))
  case trainFail port => exact run_keeps .refl (fun d => (trainFail_km (.refl d)))
  case retrainTimer port => exact run_keeps .refl (fun d => (retrainTimer_km (.refl d)))
  case refInEdge _ => cases h
  case genlockRefLost pipe => exact run_keeps .refl (fun d => (genlockRefLost_km (.refl d)))
  case teEdge pipe => exact run_keeps .refl (fun d => (teEdge_km (.refl d)))
  case teTimeout pipe => exact run_keeps .refl (fun d => (teTimeout_km (.refl d)))
  case hpdPlug _ _ => cases h
  case hpdUnplug port => exact runAon_keeps .refl (fun d => (hpdUnplugEvent_km (.refl d)))
  case irqHpd port linkLost hdcpReq => exact run_keeps .refl (fun d => (irqHpdEvent_km (.refl d)))
  case hdcpAuthComplete port ok unwrapOk repeater => exact run_keeps .refl (fun d => (hdcpAuthComplete_km (.refl d)))
  case hdcpRetry port => exact run_keeps .refl (fun d => (hdcpRetry_km (.refl d)))
  case dsiErrorReport dsi => exact run_keeps .refl (fun d => (dsiErrorReport_km (.refl d)))
  case sigSnapSelWrite _ _ => cases h
  case sigClrCounts _ _ _ => cases h
  case sqTailWrite _ _ _ => cases h
  case sqResume _ _ _ => cases h
  case scraperJobStart => exact run_keeps .refl (fun d => (Dev.engine_km (fun e h => scraperJobStart_km h) (.refl d)))
  case scraperRowComplete => cases h
  case scraperJobEnd => cases h
  case dmaGo _ _ _ => cases h
  case dmaResume _ _ _ => cases h
  case dmaDescComplete _ _ => cases h
  case dmaBusError _ _ _ _ _ => cases h
  case dmaHaltSettled => exact run_keeps .refl (fun d => (dmaHaltSettled_km (.refl d)))
  case clearHalt _ _ => cases h
  case chkInit _ _ _ => cases h
  case chkFeed8 _ _ _ => cases h
  case chkFeed16 _ _ _ => cases h
  case chkFeed32 _ _ _ => cases h
  case icpPacketReceived tr packet => exact run_keeps .refl (fun d => (icpPacketReceived_km (.refl d)))
  case icpCmdTailWrite data => exact run_keeps .refl (fun d => (ringAt_km (.refl d)))
  case icpRplHeadWrite data => exact run_keeps .refl (fun d => (ringAt_km (.refl d)))
  case icpRingTake => exact run_keeps .refl (fun d => (icpRingTake_km (.refl d)))
  case writePacket tr bytes => exact run_keeps .refl (fun d => (writePacket_km (.refl d)))
  case readReply tr len => exact run_keeps .refl (fun d => (readReply_km (.refl d)))
  case readStatus tr => exact run_keeps .refl (fun d => (readStatus_km (.refl d)))
  case sidebandBadCommand tr => exact run_keeps .refl (fun d => (sidebandBadCommand_km (.refl d)))
  case hostLost => exact run_keeps .refl (fun d => (hostLost_km (.refl d)))
  case deviceInfo tr seq ps => exact run_keeps .refl (fun d => (icpRun_km (fun p e h => opDeviceInfo_km h) (.refl d)))
  case heartbeat tr seq ps => exact run_keeps .refl (fun d => (icpRun_km (fun p e h => opHeartbeat_km h) (.refl d)))
  case ackAttention tr seq ps => exact run_keeps .refl (fun d => (icpRun_km (fun p e h => opAckAttention_km h) (.refl d)))
  case getStatus tr seq ps => exact run_keeps .refl (fun d => (icpRun_km (fun p e h => opGetStatus_km h) (.refl d)))
  case claimControl tr seq ps => exact run_keeps .refl (fun d => (icpRun_km (fun p e h => opClaimControl_km h) (.refl d)))
  case releaseControl tr seq ps => exact run_keeps .refl (fun d => (icpRun_km (fun p e h => opReleaseControl_km h) (.refl d)))
  case softReset _ _ _ => cases h
  case shutdown _ _ _ => cases h
  case powerState _ _ _ => cases h
  case surfRegister tr seq ps => exact run_keeps .refl (fun d => (icpRun_km (fun p e h => opSurfRegister_km h) (.refl d)))
  case surfUnregister tr seq ps => exact run_keeps .refl (fun d => (icpRun_km (fun p e h => opSurfUnregister_km h) (.refl d)))
  case surfClearTorn tr seq ps => exact run_keeps .refl (fun d => (icpRun_km (fun p e h => opSurfClearTorn_km h) (.refl d)))
  case surfQuery tr seq ps => exact run_keeps .refl (fun d => (icpRun_km (fun p e h => opSurfQuery_km h) (.refl d)))
  case surfSealStatus tr seq ps => exact run_keeps .refl (fun d => (icpRun_km (fun p e h => opSurfSealStatus_km h) (.refl d)))
  case fenceAlloc tr seq ps => exact run_keeps .refl (fun d => (icpRun_km (fun p e h => opFenceAlloc_km h) (.refl d)))
  case fenceFree tr seq ps => exact run_keeps .refl (fun d => (icpRun_km (fun p e h => opFenceFree_km h) (.refl d)))
  case fenceSignal tr seq ps => exact run_keeps .refl (fun d => (icpRun_km (fun p e h => opFenceSignal_km h) (.refl d)))
  case fenceRead tr seq ps => exact run_keeps .refl (fun d => (icpRun_km (fun p e h => opFenceRead_km h) (.refl d)))
  case pipeHandover tr seq ps => exact run_keeps .refl (fun d => (icpRun_km (fun p e h => opPipeHandover_km h) (.refl d)))
  case pipeReclaim tr seq ps => exact run_keeps .refl (fun d => (icpRun_km (fun p e h => opPipeReclaim_km h) (.refl d)))
  case layoutBegin tr seq ps => exact run_keeps .refl (fun d => (icpRun_km (fun p e h => opLayoutBegin_km h) (.refl d)))
  case layoutWindow tr seq ps => exact run_keeps .refl (fun d => (icpRun_km (fun p e h => opLayoutWindow_km h) (.refl d)))
  case layoutSet _ _ _ => cases h
  case layoutGet tr seq ps => exact run_keeps .refl (fun d => (icpRun_km (fun p e h => opLayoutGet_km h) (.refl d)))
  case atlasSet tr seq ps => exact run_keeps .refl (fun d => (icpRun_km (fun p e h => opAtlasSet_km h) (.refl d)))
  case meterTableSet tr seq ps => exact run_keeps .refl (fun d => (icpRun_km (fun p e h => opMeterTableSet_km h) (.refl d)))
  case meterWrite _ _ _ => cases h
  case pipeStatus tr seq ps => exact run_keeps .refl (fun d => (icpRun_km (fun p e h => opPipeStatus_km h) (.refl d)))
  case portStatus tr seq ps => exact run_keeps .refl (fun d => (icpRun_km (fun p e h => opPortStatus_km h) (.refl d)))
  case sinkRead tr seq ps seen => exact run_keeps .refl (fun d => (icpRun_km (fun p e h => opSinkRead_km h) (.refl d)))
  case dpcdWrite tr seq ps acked => exact run_keeps .refl (fun d => (icpRun_km (fun p e h => opDpcdWrite_km h) (.refl d)))
  case hdcpTopology tr seq ps seen => exact run_keeps .refl (fun d => (icpRun_km (fun p e h => opHdcpTopology_km h) (.refl d)))
  case pipeReset _ _ _ => cases h
  case dsiDcs tr seq ps seen => exact run_keeps .refl (fun d => (icpRun_km (fun p e h => opDsiDcs_km h) (.refl d)))
  case pipeTimingSet tr seq ps => exact run_keeps .refl (fun d => (icpRun_km (fun p e h => opPipeTimingSet_km h) (.refl d)))
  case sensorRead tr seq ps => exact run_keeps .refl (fun d => (icpRun_km (fun p e h => opSensorRead_km h) (.refl d)))
  case logInfo tr seq ps => exact run_keeps .refl (fun d => (icpRun_km (fun p e h => opLogInfo_km h) (.refl d)))
  case logRead tr seq ps => exact run_keeps .refl (fun d => (icpRun_km (fun p e h => opLogRead_km h) (.refl d)))
  case healthRead tr seq ps => exact run_keeps .refl (fun d => (icpRun_km (fun p e h => opHealthRead_km h) (.refl d)))
  case marginRead tr seq ps => exact run_keeps .refl (fun d => (icpRun_km (fun p e h => opMarginRead_km h) (.refl d)))
  case fwInfo tr seq ps => exact run_keeps .refl (fun d => (icpRun_km (fun p e h => opFwInfo_km h) (.refl d)))
  case fwBegin tr seq ps => exact run_keeps .refl (fun d => (icpRun_km (fun p e h => opFwBegin_km h) (.refl d)))
  case fwChunk tr seq ps => exact run_keeps .refl (fun d => (icpRun_km (fun p e h => opFwChunk_km h) (.refl d)))
  case fwCommit tr seq ps => exact run_keeps .refl (fun d => (icpRun_km (fun p e h => opFwCommit_km h) (.refl d)))
  case fwActivate tr seq ps => exact run_keeps .refl (fun d => (icpRun_km (fun p e h => opFwActivate_km h) (.refl d)))
  case selftestRun tr seq ps => exact run_keeps .refl (fun d => (icpRun_km (fun p e h => opSelftestRun_km h) (.refl d)))
  case selftestResult tr seq ps => exact run_keeps .refl (fun d => (icpRun_km (fun p e h => opSelftestResult_km h) (.refl d)))
  case debugChallenge tr seq ps => exact run_keeps .refl (fun d => (icpRun_km (fun p e h => opDebugChallenge_km h) (.refl d)))
  case debugOpen tr seq ps => exact run_keeps .refl (fun d => (icpRun_km (fun p e h => opDebugOpen_km h) (.refl d)))
  case debugChallengeExpiry => exact run_keeps .refl (fun d => (debugChallengeExpiry_km (.refl d)))
  case structuralScanEntry _ _ => cases h
  case watchdogExpiry _ => cases h
  case sensorSample _ _ _ => cases h
  case leavenRun => exact run_keeps .refl (fun d => (leavenRun_km (.refl d)))
  case leavenRunComplete degrade => exact run_keeps .refl (fun d => (leavenRunComplete_km (.refl d)))
  case aonPowerOn => cases h
  case railTimeout rail => exact run_keeps .refl (fun d => (railTimeout_km (.refl d)))
  case railRetry => exact run_keeps .refl (fun d => (railRetry_km (.refl d)))
  case resetRelease _ => cases h
  case startTimeout => cases h
  case startSuccess => exact run_keeps .refl (fun d => (startSuccess_km (.refl d)))
  case resetNAssert => cases h
  case brownoutWarn island => exact runAon_keeps .refl (fun d => (brownoutWarn_km (.refl d)))
  case brownoutRecovery island minMv micros => exact runAon_keeps .refl (fun d => (brownoutRecovery_km (.refl d)))
  case brownoutReset _ => cases h
  case aonBrownout => cases h
  case functionLevelReset => cases h
  case perstAssert => cases h
  case perstDeassert => cases h
  case powerPipeReset _ _ => cases h
  case powerCtrlHold _ _ => cases h
  case powerCtrlDeep _ _ => cases h
  case powerCtrlActive _ _ => cases h
  case thermalHoldExit => exact run_keeps .refl (fun d => (thermalHoldExit_km (.refl d)))
  case wakeNFall => cases h
  case sidebandWake _ => cases h
  case sliceEnd _ => cases h
  case sliceBudgetExpiry _ => cases h
  case refclkLost => exact runAon_keeps .refl (fun d => (refclkLost_km (.refl d)))
  case refclkReturn => exact runAon_keeps .refl (fun d => (refclkReturn_km (.refl d)))
  case holdEntryComplete => cases h
  case holdExitComplete => exact run_keeps .refl (fun d => (holdExitComplete_km (.refl d)))
  case deepEntryComplete => cases h
  case healthRecordMinutes => exact run_keeps .refl (fun d => (healthRecordMinutes_km (.refl d)))

end Sys2Proof.Machine
end

