-- ==== Sys2Proof/Laws/Window.lean ====
section
/-! SUPPORT.  The bytes of a DRAM window write. -/

namespace Sys2Proof.Machine

/-- Bytes stored one by one where they may be: the memory that results. -/
theorem each_store_ok (d : Dev) (l : List (Nat × Byte)) (hw : Tab.wf dfltMem d.mem = true) (ok : Nat → Bool)
    (hok : ∀ m, (fun a => Dev.windowOk { d with mem := m } a) = ok) :
    ∃ m, Dev.each (fun x d => if d.windowOk x.1 then d.store x.1 [x.2] else d) l d = { d with mem := m } ∧
      Tab.wf dfltMem m = true ∧
      ∀ a, Tab.get dfltMem m a =
        (l.foldl (fun (v : Byte) x => if x.1 = a ∧ ok x.1 = true then x.2 else v) (Tab.get dfltMem d.mem a)) := by
  induction l generalizing d with
  | nil => exact ⟨d.mem, rfl, hw, fun a => rfl⟩
  | cons x t ih =>
    have h0 : d.windowOk x.1 = ok x.1 := congrFun (hok d.mem) x.1
    simp only [Dev.each, h0]
    by_cases ho : ok x.1 = true
    · rw [if_pos ho]
      obtain ⟨m, e1, e2, e3⟩ := ih (d.store x.1 [x.2]) (Tab.wf_putList hw) (fun m => hok m)
      refine ⟨m, e1, e2, fun a => ?_⟩
      rw [e3]
      simp only [List.foldl]
      congr 1
      show Tab.get dfltMem (Tab.put dfltMem d.mem x.1 x.2) a = _
      rw [Tab.get_put hw]
      by_cases ha : a = x.1
      · simp [ha, ho]
      · simp [ha]; intro h; exact absurd h.symm ha
    · rw [if_neg ho]
      obtain ⟨m, e1, e2, e3⟩ := ih d hw hok
      refine ⟨m, e1, e2, fun a => ?_⟩
      rw [e3]; simp [ho]

/-- The last byte written to an address by a run of bytes from `b`. -/
theorem foldl_bytes (bs : List Byte) (b a : Nat) (ok : Nat → Bool) (v : Byte) :
  ((((List.range' b bs.length)).zip bs).foldl (fun (v : Byte) x => if x.1 = a ∧ ok x.1 = true then x.2 else v) v)
   = if h : b ≤ a ∧ a - b < bs.length then (if ok a = true then bs[a-b]'h.2 else v) else v := by
  induction bs generalizing b v with
  | nil => simp
  | cons x t ih =>
    simp only [List.length_cons, List.range'_succ, List.zip_cons_cons, List.foldl_cons]
    rw [ih]
    by_cases hb : b = a
    · subst hb
      have hn : ¬ (b + 1 ≤ b) := by omega
      simp [hn]
    · by_cases h1 : b + 1 ≤ a ∧ a - (b+1) < t.length
      · have h2 : b ≤ a ∧ a - b < t.length + 1 := by omega
        rw [dif_pos h1, dif_pos h2]
        have : a - b = (a - (b+1)) + 1 := by omega
        simp [this, hb]
      · rw [dif_neg h1, dif_neg (by omega)]; simp [hb]

/-- What the window may reach does not depend on what DRAM holds. -/
theorem windowOk_mem (d : Dev) (m : Tab Byte) (a : Nat) : Dev.windowOk { d with mem := m } a = Dev.windowOk d a := by
  have r : ∀ f, Dev.rg { d with mem := m } f = d.rg f := fun _ => rfl
  have ac : Dev.acV { d with mem := m } = d.acV := rfl
  simp only [Dev.windowOk, Dev.windowBytes, Dev.inHold, Dev.usableBytes, Dev.inStore, Dev.inReplay, Dev.storeBase,
    Dev.storeLen, r, ac]
  congr 3

end Sys2Proof.Machine
end

