-- ==== Sys2Proof/Machine/Pins.lean ====
section
/-! DEFINITION.  The states of the device's own output balls that follow from its state (R534). -/

namespace Sys2Proof.Machine

/-- R534, R464, R486: EN_MAIN is high from the end of the AON power-on reset, but for the 100 ms after a failed rail and
    in DEEP.
    Log 62 (DESIGN CHOICE, unsafe). -/
def Dev.enMain (d : Dev) : Bool :=
  !d.deep && (d.power.boot == .rails || d.power.boot == .inReset || d.power.boot == .released)

/-- R534, R464, R486: EN_DRAM is high from step 3 of the power-up, which comes about between the rails and reset
    release.
    Log 62 (DESIGN CHOICE, unsafe). -/
def Dev.enDram (d : Dev) : Bool := !d.deep && (d.power.boot == .inReset || d.power.boot == .released)

/-- R534, R447, R475: DRAM_RESET_N_k is high once a start has passed its DRAM step, and while retained DRAM is kept
    through a reset.
    Log 62 (DESIGN CHOICE, unsafe). -/
def Dev.dramResetN (d : Dev) : Bool :=
  !d.deep && (d.power.kept.isSome || (d.power.boot == .released && d.rg F.HEARTH_STATE_STATE != 0))

/-- R534, R513: DBG_TDO is driven only while the debug port is open.
    Log 62 (DESIGN CHOICE, unsafe). -/
def Dev.dbgTdo (d : Dev) : Bool := !d.deep && d.fl F.SECURE_DEBUG_PORT_OPEN

end Sys2Proof.Machine
end

