-- ==== Sys2Proof/Tests/Slice0.lean ====
section
/-! SUPPORT.  Tests of the model: ill-formed commands, worked figures of the spec, and for each statement a concrete state
    and operands that meet its hypotheses. -/

namespace Sys2Proof.Tests

open Sys2Proof Sys2Proof.Machine

set_option maxRecDepth 20000

/-- The state after reset with register fields set. -/
def at' (l : List (Fld × Nat)) : State :=
  { State.reset with dev := Dev.each (fun (x : Fld × Nat) (d : Dev) => d.sg x.1 x.2) l State.reset.dev }

/-- The device of such a state, changed. -/
def dv (l : List (Fld × Nat)) : Dev := (at' l).dev

/-- The device after a command that completes. -/
def after (c : Instr) (d : Dev) : Dev :=
  match exec c { State.reset with dev := d } with
  | .next t => t.dev
  | _ => {}

/-! ### Well-formedness -/

theorem test_wf_ring_window : wellFormed (.regWrite .host .ring 0x100000 15 ⟨0, []⟩) = false := by decide
theorem test_wf_ring_last : wellFormed (.regWrite .host .ring 0xFFFFF 15 ⟨0, []⟩) = true := by decide
theorem test_wf_burst_end : wellFormed (.regWrite .host .ring 0xFFFFC 15 ⟨0, [(15, 0)]⟩) = false := by decide
theorem test_wf_pair : wellFormed (.registerPairLowerRead .host 0xE8004 false) = false := by decide
theorem test_wf_posted : wellFormed (.postedWrite .host 0xF0002 0) = false := by decide
theorem test_wf_scrub : wellFormed (.configScrubPass [⟨.active, 0x20001, false⟩]) = false := by decide
theorem test_wf_desc : wellFormed (.descScrub [⟨16384, true⟩]) = false := by decide
theorem test_wf_fence : wellFormed (.fenceScrub [⟨4096, true⟩]) = false := by decide
theorem test_wf_window_write_empty : wellFormed (.dramWindowWrite 0 [] 0) = false := by decide
theorem test_wf_window_write_end : wellFormed (.dramWindowWrite 0xFFFFFFFFFF [1, 2] 0) = false := by decide
theorem test_wf_window_read : wellFormed (.dramWindowRead 0xFFFFFFFFFF 2) = false := by decide
theorem test_wf_coef_low : wellFormed (.coefWrite .host 0x67FFC 0) = false := by decide
theorem test_wf_coef_high : wellFormed (.coefWrite .host 0x70000 0) = false := by decide
theorem test_wf_coef_align : wellFormed (.coefWrite .host 0x68002 0) = false := by decide
theorem test_wf_claims : wellFormed (.claimScrub [3, 3]) = false := by decide
theorem test_wf_refresh : wellFormed (.refreshMultUpdate []) = false := by decide
theorem test_wf_halt_twice : wellFormed (.dmaBusError .timeout 0 [(1, 0), (1, 0)] [] 0) = false := by decide
theorem test_wf_halt_bytes : wellFormed (.dmaBusError .timeout 0 [(1, 0)] [(1, [7])] 0) = false := by decide
theorem test_wf_packet : wellFormed (.icpPacketReceived .spi (List.replicate 257 0)) = false := by decide
theorem test_wf_write_packet_ring : wellFormed (.writePacket .pcie []) = false := by decide
theorem test_wf_write_packet_long : wellFormed (.writePacket .spi (List.replicate 259 0)) = false := by decide
theorem test_wf_read_reply : wellFormed (.readReply .pcie 4) = false := by decide
theorem test_wf_read_status : wellFormed (.readStatus .pcie) = false := by decide
theorem test_wf_bad_command : wellFormed (.sidebandBadCommand .pcie) = false := by decide
theorem test_wf_wake : wellFormed (.sidebandWake .pcie) = false := by decide
theorem test_wf_seq : wellFormed (.deviceInfo .spi 256 []) = false := by decide
theorem test_wf_params : wellFormed (.meterWrite .spi 0 (List.replicate 62 0)) = false := by decide
theorem test_wf_sensors : wellFormed (.sensorSample [] [] 0) = false := by decide
theorem test_wf_leaven : wellFormed (.leavenRunComplete []) = false := by decide
theorem test_decode_none : decodeTableWord 32 0 = none := rfl

theorem test_wf_start : wellFormed (.resetRelease ⟨⟨false, false, false, false⟩, 0, 0, 0, false, false, [], [], false⟩) = false := by
  decide

/-! ### Worked figures of the spec -/

/-- R395: the five check values of "123456789". -/
theorem test_check_values : [Alg.crc8, .crc16, .crc32, .crc32c, .fletcher32].map
    (fun a => (List.range 9).foldl (fun (c : ChkCtx) k => c.feed (0x31 + k)) (ChkCtx.start a) |>.result)
    = [0xF4, 0x29B1, 0xCBF43926, 0xE3069283, 0xDF09D509] := by decide

/-- R61, worked example: the key 0x6A3C_0005 arms SYS_RESET_CTRL. -/
theorem test_unlock_arms : (after (.sysUnlockWrite .host 0x6A3C0005) State.reset.dev).unlocked .host 0x14 = true := by
  decide

/-- R78, worked example: an alias write of 1 to WARM_RESET is captured with CAUSE 2 at its alias offset. -/
theorem test_alias_captured : (after (.regWrite .host .reg 0x1000014 15 ⟨1, []⟩) State.reset.dev).unV 0x44 = 0xC9000014 := by
  decide

/-- R22: source 5 is refused. -/
theorem test_bad_source : (after (.sysTickCtrlWrite .host 5) State.reset.dev).rg F.SYS_TICK_CTRL_SRC = 0 ∧
    (after (.sysTickCtrlWrite .host 5) State.reset.dev).rg F.SYS_TICK_STATUS_BAD_SRC = 1 := by decide

/-- R147: the first allocation takes FID 0. -/
theorem test_first_fence : ((after (.fenceCmdAlloc .host ⟨0x10010000, false⟩) State.reset.dev).fenceAt 0).alloc = true ∧
    (after (.fenceCmdAlloc .host ⟨0x10010000, false⟩) State.reset.dev).rg F.FENCE_OCCUPANCY_COUNT = 1 := by decide

/-- R149: a doorbell raises an allocated fence. -/
theorem test_doorbell : ((after (.fenceDoorbell .host 3 ⟨1, false⟩) (State.reset.dev.putFence 3 ⟨true, 7⟩)).fenceAt 3).val = 0x100000007 := by
  decide

/-- R134: unregistering a FREE surface answers NOT_REGISTERED. -/
theorem test_unregister_free : (after (.surfCmdUnregister .host ⟨0x20000005, false⟩) State.reset.dev).rg F.SURF_RESULT_CODE = 3 := by
  decide

/-- R416: TAIL 65 past HEAD 0 is refused. -/
theorem test_tail_bad : (after (.icpCmdTailWrite 65) State.reset.dev).rg F.ICP_RING_STATUS_TAIL_BAD = 1 ∧
    (after (.icpCmdTailWrite 65) State.reset.dev).rg F.ICP_CMD_TAIL_TAIL = 0 := by decide

/-- R421: a second packet sets OVERRUN. -/
theorem test_overrun : ((after (.writePacket .spi []) (State.reset.dev.putSide .spi
    { State.reset.dev.side .spi with busy := true })).side .spi).overrun = true := by decide

/-- A step takes the front command only. -/
theorem test_step_front : ∃ t, step { State.reset with pending := [.refclkReturn, .dmaHaltSettled] } = .next t ∧
    t.pending = [.dmaHaltSettled] := ⟨_, rfl, rfl⟩

/-! ### Witnesses: the hypotheses of each statement can be met -/

theorem wit_AStepRunsTheFrontCommand : ({ State.reset with pending := [.dmaHaltSettled] } : State).pending
    = .dmaHaltSettled :: [] ∧ State.reset.pending = [] := by decide

theorem wit_EveryStepKeepsTheTablesCanonical : State.reset.dev.canon = true ∧ State.reset.queueOk = true ∧
    step State.reset = .next State.reset := ⟨by decide, by decide, rfl⟩

theorem wit_DeepAndScanLeaveOnlyTheirOwnCommands : (dv [(F.POWER_STATUS_STATE, 3)]).deep = true ∧
    Instr.reach .dmaHaltSettled = .awake ∧ Instr.reach .refclkReturn ≠ .always ∧
    (dv [(F.POWER_STATUS_STATE, 3), (F.IO_STATUS_HOLDOVER, 1)]).dark = true ∧
    (after .refclkReturn (dv [(F.POWER_STATUS_STATE, 3), (F.IO_STATUS_HOLDOVER, 1)])).rg F.IO_STATUS_HOLDOVER = 0 := by
  decide

theorem wit_SparingCommandsLeaveDramAlone : Instr.sparesDram .sealCheckEnd = false ∧ Instr.sparesDram .hostLost = true := by
  decide

theorem wit_TickRegisterWrites : State.reset.dev.canon = true ∧ State.reset.dev.dark = false ∧ 5 ≤ (5 : Word).toNat % 8 ∧
    (4 : Word).toNat % 8 < 5 ∧ bit (0x100 : Word).toNat 8 = true := by decide

theorem wit_WritesOutsideTheRulesAreDiscarded : State.reset.dev.dark = false ∧
    State.reset.dev.starterBars .host (primOf 0x10) = false ∧ mapped (primOf 0x10) = true ∧
    mapped (primOf 0x200000) = false := by decide

theorem wit_RefusedReadsAnswerZerosOrOnes : (areaOf (primOf 0x10)).all (fun a => !State.reset.dev.areaBusy a) = true ∧
    mapped (primOf 0x10) = true ∧ mapped (primOf 0x200000) = false ∧ State.reset.dev.dark = false := by decide

theorem wit_PairReadLatchesTheUpperWord : State.reset.dev.dark = false ∧ 0xE8000 % 8 = 0 ∧ mapped 0xE8000 = true ∧
    areaOf 0xE8000 = none ∧ (findReg 0xE8000).map (fun x => (x.1.pair, x.2)) = some (true, 0) ∧
    (findReg 0xE8004).map Prod.snd = some 1 ∧ areaOf 0xE8004 = none ∧ Tab.wf dfltLatch State.reset.dev.latch = true := by
  decide

theorem wit_AliasWritesActOnReadWriteFieldsOnly : State.reset.dev.starterBars .host 0x80 = false ∧ mapped 0x80 = true ∧
    areaOf 0x80 = none ∧ (7 : Word) &&& ~~~aliasBits 0x80 = 0 ∧ (8 : Word) &&& ~~~aliasBits 0x80 ≠ 0 ∧
    aliasBits 0x10 = 0 := by decide

theorem wit_PostedWritesWaitAndLand : State.reset.dev.reaches .host = true ∧ mapped 0xF3000 = true ∧
    areaOf 0xF3000 = some 3 ∧ State.reset.dev.areaOff 3 0xF3000 = false ∧ State.reset.dev.areaBusy 3 = false ∧
    Dev.areaBusy { State.reset.dev with posted := [⟨3, .host, 0, 0xF3000, 0, true⟩] } 3 = true ∧
    firstWith (fun w => w.area == 3) [(⟨3, .host, 0, 0xF3000, 0, true⟩ : PostedWr)] = some ⟨3, .host, 0, 0xF3000, 0, true⟩ := by decide

theorem wit_PostedWriteToAnUnpoweredArea : (dv [(F.SECURE_FENCED_DP, 1)]).areaOff 6 0x91000 = true ∧
    areaOf 0x91000 = some 6 ∧ (dv [(F.SECURE_FENCED_DP, 1)]).reaches .host = true := by decide

theorem wit_UnlockAndLockdownWrites : State.reset.dev.fl F.SYS_LOCKDOWN_UNLOCK_DISABLE = false ∧
    State.reset.dev.locked = false ∧ ({ State.reset.dev with locked := true } : Dev).locked = true ∧
    State.reset.dev.canon = true ∧ State.reset.dev.dark = false := by decide

theorem wit_GuardedRegistersNeedTheirUnlock : State.reset.dev.reaches .host = true ∧
    State.reset.dev.unlocked .host 0x14 = false ∧ State.reset.dev.unlocked .host 0x80008 = false ∧
    State.reset.dev.unlocked .host 0x100040 = false ∧
    (dv [(F.SYS_UNLOCK_ARMED, 1), (F.SYS_UNLOCK_TARGET, 5)]).unlocked .host 0x14 = true ∧
    (dv [(F.SYS_UNLOCK_ARMED, 1), (F.SYS_UNLOCK_TARGET, 2)]).unlocked .host 0x80008 = true ∧
    (dv [(F.SYS_UNLOCK_ARMED, 1), (F.SYS_UNLOCK_TARGET, 16)]).unlocked .host 0x100040 = true ∧
    (dv [(F.SYS_UNLOCK_ARMED, 1), (F.SYS_UNLOCK_TARGET, 16)]).reaches .host = true := by decide

theorem wit_CaptureRegistersRearm : State.reset.dev.reaches .host = true ∧ bit (0x80000000 : Word).toNat 31 = true ∧
    bit (0x7FFFFFFF : Word).toNat 31 = false := by decide

theorem wit_ClrCountsClearsTheCounts : State.reset.dev.reaches .fw = true ∧ bit (0x100 : Word).toNat 8 = true ∧
    bit (0x800000 : Word).toNat 23 = true := by decide

/-- A device whose fence 0 is allocated. -/
def fenced : Dev := State.reset.dev.putFence 0 ⟨true, 5⟩

theorem wit_FenceCommandsAllocateAndFree : State.reset.dev.reaches .host = true ∧ State.reset.dev.freeFid = some 0 ∧
    (0x10010000 : Word).toNat / 2 ^ 28 = 1 ∧ (0x20000000 : Word).toNat / 2 ^ 28 = 2 ∧ (fenced.fenceAt 0).alloc = true ∧
    fenced.freeFid = some 1 ∧ fenced.fenceBound 0 = false ∧ fenced.fenceWaited 0 = false ∧
    (State.reset.dev.fenceAt 0).alloc = false ∧ (0x30000000 : Word).toNat / 2 ^ 28 ≠ 1 := by decide

/-- A surface that binds fence 0. -/
def binder : Surf := { st := .registered, retEn := true, retFid := 0 }

theorem wit_FenceInUse : (fenced.putSurf 2 binder).fenceBound 0 = true ∧ (fenced.putSurf 2 binder).reaches .host = true := by
  decide

/-- R534, R464: EN_MAIN is low in the AON power-on reset and high from its end. -/
theorem test_en_main : State.reset.dev.enMain = false ∧ (after .aonPowerOn State.reset.dev).enMain = true := by decide

theorem wit_SurfaceCommandsRegisterAndRelease : State.reset.dev.reaches .host = true ∧
    (State.reset.dev.surfAt 5).st = .free ∧ ((State.reset.dev.putSurf 5 binder).surfAt 5).st = .registered ∧
    (State.reset.dev.putSurf 5 binder).waitingNames 5 = false ∧
    (0x10000005 : Word).toNat / 2 ^ 28 = 1 ∧ (0x30000005 : Word).toNat / 2 ^ 28 = 3 ∧
    ((State.reset.dev.putSurf 5 { binder with st := .inScan }).surfAt 5).st = .inScan := by decide

/-- R130: a surface of 64 × 64 pixels in PK32. -/
def small : Surf := surfOfWords (fun k => [0, 0, 0, 0x12000000, 0x00400040, 4, 0, 0].getD k 0)

/-- The same, sealed with CRC-32C. -/
def sealed' : Surf := { small with check := 1 }

/-- A device with 1,024 MiB of usable DRAM. -/
def ram : Dev := dv [(F.FETCH_USABLE_MIB, 1024)]

theorem wit_RegistrationAnswers : ram.registerCheck small true 0 = .ok ∧ ram.registerCheck sealed' true 0 = .sealStarted ∧
    ram.registerCheck { small with fmt := 0xFF } true 0 = .badFormat ∧
    State.reset.dev.registerCheck small true 0 = .badRange ∧
    ram.registerCheck { small with retEn := true } true 0 = .badFence := by decide

theorem wit_TableScrubsAndDrains : ((State.reset.dev.putSurf 5 { binder with st := .retiring }).surfAt 5).st = .retiring ∧
    (⟨5, false⟩ : Upset).double = false ∧ (⟨5, true⟩ : Upset).double = true := by decide

theorem wit_SealCheckEndsRegisteredOrFree : (dv [(F.SURF_SEAL_BUSY, 1), (F.SURF_SEAL_SID, 5)]).fl F.SURF_SEAL_BUSY = true ∧
    (dv [(F.SURF_SEAL_BUSY, 1), (F.SURF_SEAL_SID, 5)]).dark = false := by decide

theorem wit_WindowWriteStoresItsBytesAndNoOthers : ram.canon = true ∧ ram.dark = false ∧
    ((ram.advance 0).windowFlags 0x100 2).windowOk 0x101 = true ∧
    ((ram.advance 0).windowFlags 0x40000000 2).windowOk 0x40000000 = false := by decide

theorem wit_MemoryErrorsAreCountedAndMarked : State.reset.dev.dark = false ∧
    ((dv [(F.FETCH_DRAM_ECC_EN, 1)]).advance 5).fl F.FETCH_DRAM_ECC_EN = true ∧
    ((dv [(F.FETCH_DRAM_ECC_EN, 1), (F.FETCH_ECC_CFG_STORM, 0)]).advance 5).rg F.FETCH_ECC_CFG_STORM = 0 ∧
    ((State.reset.dev).advance 5).fl F.FETCH_DRAM_ECC_EN = false := by decide

/-- A device whose active bank enables layer VL_0 on pipe 1 with curve RAM 1, and the LUT of pipe 1. -/
def curved : Dev :=
  let b := F.PIPE_OUT_CTRL_LUT_EN.i 1 |>.set dfltB ((F.VL_CSC_CTRL_TM_RAM.i 0).set dfltB ((F.VL_CSC_CTRL_TM_EN.i 0).set dfltB
    ((F.VL_CTRL_PIPE.i 0).set dfltB ((F.VL_CTRL_EN.i 0).set dfltB [] 1) 1) 1) 1) 1
  { State.reset.dev.sg ((curvePair 0).st 1) 2 |>.sg ((lutPair 1).st 0) 2 with active := b }

theorem wit_RamLoadsFillTheirRam :
    Tab.get dfltLoad ({ State.reset.dev with loads := Tab.put dfltLoad [] 0 (some ⟨1, 64⟩) } : Dev).loads 0 = some ⟨1, 64⟩ ∧
    curved.dark = false ∧ curved.ac (lf F.VL_CSC_CTRL_TM_RAM F.GL_CSC_CTRL_TM_RAM 0) = 1 ∧ pipeOf curved.acV 0 = some 1 ∧
    curved.acOn (lf F.VL_CSC_CTRL_TM_EN F.GL_CSC_CTRL_TM_EN 0) = true ∧ curved.rg ((curvePair 0).st 1) = 2 ∧
    curved.acOn (F.PIPE_OUT_CTRL_LUT_EN.i 1) = true ∧ curved.lutState 1 0 = 2 := by decide

/-- A device with pipe 1 in safe black. -/
def black : Dev := dv [(F.SYS_PARITY_STATUS_SAFE_BLACK, 2), (F.PIPE_TG_STATUS_RUNNING.i 1, 1)]

theorem wit_ScrubAndSafeBlackEvents : black.dark = false ∧ black.safeBlack 1 = true ∧ (black.pst 1).reloadFail = false ∧
    (black.pst 1).reloaded = false ∧ black.running 1 = true ∧
    (dv [(F.SYS_PARITY_STATUS_SAFE_BLACK, 2)]).running 1 = false := by decide

theorem wit_PortEventsFollowTheLink : (dv [(F.DP_HDCP_STATE.i 2, 1), (F.SECURE_KEYS_HDCP_KEYS, 2)]).rg (F.DP_HDCP_STATE.i 2) = 1 ∧
    (dv [(F.DP_HDCP_STATE.i 2, 1), (F.SECURE_KEYS_HDCP_KEYS, 2)]).rg F.SECURE_KEYS_HDCP_KEYS = 2 ∧
    (dv [(F.DP_HDCP_STATE.i 2, 3), (F.DP_STATUS_TRAINED.i 2, 1)]).rg (F.DP_HDCP_STATE.i 2) = 3 ∧
    ({ State.reset.dev with training := [2, 5] } : Dev).training.contains 2 = true ∧
    ({ State.reset.dev with training := [2, 5] } : Dev).training.contains 5 = true := by decide

/-- A running pipe 0 on DP_2, plugged and not trained. -/
def pipe0 : Dev :=
  let b := F.PIPE_TG_CTRL_PORT_SEL.i 0 |>.set dfltB ((F.PIPE_TG_CTRL_EN.i 0).set dfltB [] 1) 2
  { dv [(F.PIPE_TG_STATUS_RUNNING.i 0, 1), (F.DP_STATUS_PLUGGED.i 2, 1)] with active := b }

theorem wit_RetrainTimer : pipe0.dark = false ∧ pipe0.fl (F.DP_STATUS_PLUGGED.i 2) = true ∧
    pipe0.fl (F.DP_STATUS_TRAINED.i 2) = false ∧ pipe0.portRuns 2 = true ∧ pipe0.inHold = false ∧
    pipe0.training.contains 2 = false := by decide

/-- Pipe 0 on DSI_0, with a live frame, paced by TE. -/
def paced : Dev :=
  let b := F.PIPE_TE_EN.i 0 |>.set dfltB ((F.PIPE_TG_CTRL_PORT_SEL.i 0).set dfltB ((F.PIPE_TG_CTRL_EN.i 0).set dfltB [] 1) 4) 1
  { pipe0 with active := b }

/-- The same with a composed frame whose line 0 has not started, 100 ms after its swap point. -/
def held : Dev := { paced.putPst 0 { paced.pst 0 with frame := { live := true } } with now := 100000000 }

theorem wit_FrameEventsOfARunningPipe : pipe0.running 0 = true ∧ paced.running 0 = true ∧
    paced.acOn (F.PIPE_TE_EN.i 0) = true ∧ pipe0.acOn (F.PIPE_TE_EN.i 0) = false ∧ 4 ≤ portSel paced.acV 0 ∧
    portSel pipe0.acV 0 < 4 ∧ held.teHold 0 = true ∧ held.blankingOver 0 = true ∧ (held.pst 0).teGo = false ∧
    paced.blankingOver 0 = false ∧ paced.teHold 0 = false ∧
    (pipe0.up (F.DP_HDCP_ENCRYPTING.i 2)).protBlocked 0 = false ∧ pipe0.protBlocked 0 = true ∧ paced.protBlocked 0 = true ∧
    2 ≤ (dv [(F.PIPE_REST_STATUS_STATE.i 0, 2)]).rest 0 := by decide

theorem wit_SupplyAndResetEvents : State.reset.dev.power.boot = .aonReset ∧
    (after .aonPowerOn State.reset.dev).power.boot = .rails ∧ railIslands .vddioRef = [] ∧ railIslands .vddPhy ≠ [] ∧
    ({ State.reset.dev with power := { State.reset.dev.power with boot := .railWait } } : Dev).power.boot = .railWait ∧
    ({ State.reset.dev with power := { State.reset.dev.power with boot := .released } } : Dev).poweredUp = true ∧
    bit (State.reset.dev.rg F.POWER_BROWNOUT_ACTIVE) 3 = false ∧
    bit ((dv [(F.POWER_BROWNOUT_ACTIVE, 8)]).rg F.POWER_BROWNOUT_ACTIVE) 3 = true ∧
    State.reset.dev.fl F.IO_STATUS_HOLDOVER = false ∧ State.reset.dev.fl F.POWER_WAKE_PERST = true ∧
    State.reset.dev.fl F.POWER_WAKE_WAKE_N = true ∧ State.reset.dev.testing = false ∧
    (dv [(F.POWER_STATUS_STATE, 3)]).fl F.POWER_WAKE_SIDEBAND = false := by decide

/-- A released device. -/
def live : Dev := { State.reset.dev with power := { State.reset.dev.power with boot := .released } }

theorem wit_BrownoutWarn : live.supplied 3 = true ∧ live.power.scan = false := by decide

theorem wit_WarmResetLeavesOnlyWhatSurvives : live.dark = false ∧ live.poweredUp = true ∧
    (live.sg F.SYS_RESET_CTRL_RETAIN_DRAM 1).fl F.SYS_RESET_CTRL_RETAIN_DRAM = true ∧
    live.fl F.SYS_RESET_CTRL_RETAIN_DRAM = false := by decide

theorem wit_FunctionLevelResetStopsTheHostSide : live.dark = false := by decide

theorem wit_DoorbellsRaiseAllocatedFences : fenced.reaches .host = true ∧ (fenced.fenceAt 0).alloc = true ∧
    (fenced.fenceAt 0).val.toNat ≤ (fenced.lowWord .host 0xE8000).toNat + (1 : Word).toNat * 2 ^ 32 ∧
    (fenced.lowWord .host 0xE8000).toNat + (0 : Word).toNat * 2 ^ 32 ≤ (fenced.fenceAt 0).val.toNat ∧
    (State.reset.dev.fenceAt 0).alloc = false := by decide

theorem wit_DoorbellBelow :
    let d := { fenced with heldLo := Tab.put dfltHeld [] 0xE8000 (some (0, 4)) }
    (d.lowWord .host 0xE8000).toNat + (0 : Word).toNat * 2 ^ 32 < (d.fenceAt 0).val.toNat := by decide

theorem wit_CoefficientWritesRespectSetsInUse : State.reset.dev.reaches .host = true ∧
    Tab.wf dfltU State.reset.dev.regs = true ∧ (0x69000 - 0x68000) / 0x400 = 4 ∧ State.reset.dev.coefInUse 4 = false ∧
    (0x68FFC - 0x68000) / 0x400 = 3 := by decide

/-- VL_0 enabled, halving 64 × 64 pixels with coefficient set 4. -/
def scaled : Dev :=
  let l : List (Fld × Nat) := [(F.VL_CTRL_EN, 1), (F.VL_SCALE_COEF_H, 4), (F.VL_SRC_RECT_W, 64), (F.VL_SRC_RECT_H, 64),
    (F.VL_DST_RECT_W, 32), (F.VL_DST_RECT_H, 32)]
  { State.reset.dev with active := l.foldl (fun t x => x.1.set dfltB t x.2) [] }

theorem wit_CoefInUse : scaled.coefInUse 4 = true ∧ scaled.reaches .host = true := by decide

theorem wit_RamLoadStrobesStartOneLoad : ram.reaches .host = true ∧ bit (0x80000001 : Word).toNat 31 = true ∧
    ram.ramUsed (.layer 0) (lf F.VL_CSC_CTRL_TM_EN F.GL_CSC_CTRL_TM_EN 0) (lf F.VL_CSC_CTRL_TM_RAM F.GL_CSC_CTRL_TM_RAM 0) 1
      = false ∧
    Tab.get dfltLoad ram.loads (curvePair 0).key = none ∧ 0 + (curvePair 0).bytes ≤ ram.usableBytes ∧
    ram.protHit 0 (curvePair 0).bytes = none ∧
    curved.ramUsed (.layer 0) (lf F.VL_CSC_CTRL_TM_EN F.GL_CSC_CTRL_TM_EN 0) (lf F.VL_CSC_CTRL_TM_RAM F.GL_CSC_CTRL_TM_RAM 0) 1
      = true := by decide

/-- A device whose surface 5 is registered, with a hint for it staged behind fence 0. -/
def hinted : Dev := (dv [(F.CRUST_HINT_SID_SID, 5), (F.CRUST_HINT_FENCE_EN, 1), (F.CRUST_HINT_WAIT_VALUE, 9)]).putSurf 5 binder

theorem wit_DamageHintsApplyAtOnceOrWait : hinted.reaches .host = true ∧ bit (1 : Word).toNat 0 = true ∧
    (hinted.surfAt 5).st ≠ .free ∧ hinted.rg (F.CRUST_HINT_FENCE_EN.rq .host) = 1 ∧
    hinted.rg (F.CRUST_HINT_WAIT_VALUE.rq .host) > (hinted.fenceAt 0).val.toNat ∧ hinted.hints = [] ∧
    (State.reset.dev.surfAt 0).st = .free := by decide

theorem wit_TileSelectShowsTheEntry : State.reset.dev.reaches .host = true ∧
    0 < min 8192 (tileCount State.reset.dev.acV (planePipe 7)) ∧ planeCharged State.reset.dev.acV 7 = false ∧
    min 8192 (tileCount State.reset.dev.acV (planePipe 7)) ≤ 8191 := by decide

theorem wit_DeclaredStreamsPassATest : State.reset.dev.reaches .host = true ∧
    (dv [(F.FETCH_STATUS_DECL_PENDING, 1)]).fl F.FETCH_STATUS_DECL_PENDING = true ∧
    (dv [(F.COMMIT_STATUS_PENDING, 1)]).fl F.COMMIT_STATUS_PENDING = true ∧
    State.reset.dev.fl F.FETCH_STATUS_DECL_PENDING = false ∧ bit (0x80000005 : Word).toNat 31 = true ∧
    State.reset.dev.fl (F.FETCH_DECL_CTRL_EN.i 3) = false := by decide

theorem wit_CopyEngineStrobesAndHalt : State.reset.dev.reaches .host = true ∧ State.reset.dev.dmaState 4 = 0 ∧
    (dv [(F.DMA_CH_STATUS_STATE.i 4, 3), (F.DMA_ENGINE_STATUS_HALT, 1)]).dmaState 4 = 3 ∧
    (dv [(F.DMA_CH_STATUS_STATE.i 4, 2)]).dmaState 4 = 2 ∧ State.reset.dev.fl F.DMA_ENGINE_STATUS_SETTLED = false ∧
    (dv [(F.DMA_ENGINE_STATUS_HALT, 1)]).fl F.DMA_ENGINE_STATUS_HALT = true := by decide

theorem wit_CheckerUnitsStartAndTakeBytes : State.reset.dev.reaches .host = true ∧ State.reset.dev.reaches .fw = true ∧
    bits (0x80000005 : Word).toNat 0 3 = 5 ∧ bits (0x80000004 : Word).toNat 0 3 = 4 := by decide

theorem wit_ScraperTailsAndResume : (dv [(F.SCRAPER_CFG_SQ3_SERVICE, 1)]).fl F.SCRAPER_CFG_SQ3_SERVICE = true ∧
    1024 < subMod 11 1025 (State.reset.dev.rg (F.SQ_HEAD_HEAD.i 0)) ∧
    subMod 11 1024 (State.reset.dev.rg (F.SQ_HEAD_HEAD.i 0)) ≤ 1024 := by decide

theorem wit_StrobesSnapshotTheirTargets : State.reset.dev.reaches .host = true ∧
    State.reset.dev.strobeTargets .host 1 ≠ [] ∧ State.reset.dev.strobeTargets .host 0 = [] ∧
    bits (0x3000000 : Word).toNat 24 2 = 3 ∧
    (∀ b ∈ State.reset.dev.strobeTargets .host 1, State.reset.dev.barredFor .host b = []) ∧
    (dv [(F.COMMIT_STATUS_PENDING, 1)]).fl (F.COMMIT_STATUS_PENDING.rq .host) = true := by decide

/-- A device whose host strobe of pipe 0 waits for the checker. -/
def struck : Dev := after (.commitStrobe .host 1) State.reset.dev

theorem wit_ValidationEndsInAcceptanceOrRefusal : struck.dark = false ∧ struck.strobes.length = 1 ∧
    struck.strobes.all (fun st => st.rq == .host) = true ∧ struck.declTest = none ∧
    struck.strobes.all (fun st => (struck.check st (struck.checkOf st)).isNone) = true := by decide

theorem wit_LayerWritesLandInTheProofBank : State.reset.dev.reaches .host = true ∧
    (findReg 0x40000).map (fun x => (x.1.pair, x.2)) = some (false, 0) ∧ hasBanked 0x40000 = true ∧
    Tab.wf dfltB State.reset.dev.proof = true ∧ State.reset.dev.rg (F.COMMIT_VIEW_BANK.rq .host) = 0 ∧
    State.reset.dev.hostBarred .host 0x40000 = [] ∧
    (dv [(F.COMMIT_VIEW_BANK, 2)]).rg (F.COMMIT_VIEW_BANK.rq .host) = 2 := by decide

/-! ### Witnesses: ICP -/

/-- A device whose controller is the PCIe ring. -/
def ctl : Dev := dv [(F.ICP_ATTENTION_CONTROLLER, 1)]

/-- The same in Starter mode. -/
def star : Dev := dv [(F.ICP_ATTENTION_CONTROLLER, 1), (F.HEARTH_STATE_STATE, 2)]

/-- The same in normal service. -/
def norm : Dev := dv [(F.ICP_ATTENTION_CONTROLLER, 1), (F.HEARTH_STATE_STATE, 1)]

/-- The device with one command as its next listed step. -/
def asked (d : Dev) (op : Nat) (tr : Tr) (ps : List Word) : Dev :=
  { d with icp := { d.icp with svc := [{ tr := tr, words := BitVec.ofNat 32 (op * 65536) :: BitVec.ofNat 32 (ps.length + 3) :: ps ++ [0],
                                          stage := .passed, listed := true }] } }

/-- That command is executed. -/
def met (d : Dev) (op : Nat) (tr : Tr) (ps : List Word) : Bool := (asked d op tr ps).passes op tr 0 ps

theorem wit_IcpRowsAreTestedBeforeTheyRun : Instr.icpRow (.layoutBegin .pcie 3 [0]) = some (0x202, .pcie, 3, [0]) ∧
    (opRow 0x202).isSome = true ∧ (dv [(F.POWER_STATUS_STATE, 3)]).deep = true ∧
    ((opRow 0x202).map (fun r => (r.any, r.starter))) = some (false, false) ∧
    State.reset.dev.rg F.ICP_ATTENTION_CONTROLLER ≠ trCode .pcie ∧ star.starter = true ∧
    (dv [(F.ICP_ATTENTION_CONTROLLER, 1), (F.POWER_STATUS_STATE, 2)]).inHold = true ∧
    (asked State.reset.dev 0x202 .pcie [0]).svcNext .pcie 0x202 0 [0] = true ∧
    State.reset.dev.svcNext .pcie 0x202 0 [0] = false ∧ (asked star 0x202 .pcie [0]).dark = false ∧
    ((opRow 0x202).map (fun r => ((dv [(F.ICP_ATTENTION_CONTROLLER, 1), (F.POWER_STATUS_STATE, 2)]).cmdTest .pcie r
      (nums [0])).isNone)) = some true := by decide

theorem wit_IcpQueriesReportTheState : met ctl 0x0000 .pcie [] = true ∧ met ctl 0x0003 .pcie [] = true ∧
    met ctl 0x0103 .pcie [16383] = true ∧ met ctl 0x0104 .pcie [] = true ∧ met ctl 0x0113 .pcie [4095] = true ∧
    met ctl 0x0301 .pcie [5] = true ∧ met ctl 0x0300 .pcie [3] = true ∧ met ctl 0x0205 .pcie [3, 63] = true ∧
    met ctl 0x0400 .pcie [0x300000] = true ∧ met ctl 0x0401 .pcie [] = true ∧
    met ctl 0x0402 .pcie [0, 14] = true ∧ met ctl 0x0403 .pcie [165, 56] = true ∧
    met ctl 0x0404 .pcie [] = true ∧ met ctl 0x0500 .pcie [] = true ∧ met ctl 0x0601 .pcie [0] = true := by decide

theorem wit_IcpQueryCases : ctl.running 0 = false ∧ pipe0.running 0 = true ∧ ctl.logAt 0 = none ∧
    ctl.fl (F.PIPE_OWNER_OWNER.i 0) = false ∧ (dv [(F.PIPE_OWNER_OWNER.i 0, 1)]).fl (F.PIPE_OWNER_OWNER.i 0) = true ∧
    (ctl.logE 1 2 3 4).logAt 0 ≠ none ∧ isSlice 0 = true ∧ bits 0x10000 16 8 = 1 ∧
    bits 0x10000 8 8 + bits 0x10000 16 8 ≤ sensorCount (bits 0x10000 0 8) := by decide

theorem wit_IcpControlRowsTakeEffect : met ctl 0x0001 .pcie [60000] = true ∧ met ctl 0x0002 .pcie [2] = true ∧
    met star 0x0002 .pcie [2] = true ∧ star.starter = true ∧ ctl.starter = false ∧
    met ctl 0x0004 .pcie [] = true ∧ met ctl 0x0004 .spi [] = true ∧ met State.reset.dev 0x0004 .spi [] = true ∧
    met ctl 0x0005 .pcie [] = true ∧ met ctl 0x0006 .pcie [0x80000000] = true ∧
    met star 0x0006 .pcie [0x80000000] = true ∧ met ctl 0x0006 .pcie [0xF0F] = true ∧
    ctl.tablesInUse 0xF0F = false ∧ met ctl 0x0007 .pcie [3] = true ∧ met ctl 0x0008 .pcie [3] = true ∧
    norm.powerRefused 2 = false ∧ ctl.powerRefused 1 = true ∧ (asked star 0x0006 .pcie [0xF0F]).dark = false ∧
    (asked star 0x0006 .pcie [0xF0F]).svcNext .pcie 0x0006 0 [0xF0F] = true ∧ star.hearth.stopped = false ∧
    star.testing = false ∧ star.rg F.ICP_ATTENTION_CONTROLLER = trCode .pcie := by decide

theorem wit_TablesInUse : ((pipe0.putSurf 5 { binder with st := .retiring }).tablesInUse 0x800) = true := by decide

theorem wit_IcpPortRowsPassTheSinksAnswer : met ctl 0x0302 .pcie [2, 0x100000, 0] = true ∧
    badSinkRead (nums [2, 0x100000, 0]) = false ∧ pipe0.fl (F.DP_STATUS_PLUGGED.i 2) = true ∧
    met ctl 0x0303 .pcie [2, 0x10000, 0] = true ∧ badDpcdWrite (nums [2, 0x10000, 0]) = false ∧
    met ctl 0x0304 .pcie [3] = true ∧ met ctl 0x0306 .pcie [4, 0x10000, 0] = true ∧
    badDsiDcs (nums [4, 0x10000, 0]) = false ∧ (dv [(F.DSI_STATUS_READY.i 0, 1)]).fl (F.DSI_STATUS_READY.i 0) = true := by
  decide

theorem wit_IcpTableAndLayoutRows : met norm 0x0100 .pcie (List.replicate 9 0) = true ∧
    met norm 0x0101 .pcie [16383] = true ∧ met norm 0x0102 .pcie [0] = true ∧
    met norm 0x0110 .pcie [0, 0, 0] = true ∧ met norm 0x0111 .pcie [4095] = true ∧
    met norm 0x0112 .pcie [0, 5, 0] = true ∧ (fenced.fenceAt 0).val.toNat ≤ prm2 (nums [0, 5, 0]) 1 ∧
    met norm 0x0200 .pcie [3, 0, 0, 0x8000] = true ∧ met norm 0x0201 .pcie [3] = true ∧
    met norm 0x0305 .pcie [3] = true ∧ 4 ≤ norm.topSids.length ∧
    (norm.sg F.FETCH_USABLE_MIB 1024).regionOk norm.acV 3 0 (0x8000 * 4096) = true ∧
    norm.regionOk norm.acV 3 0 (0x8000 * 4096) = false ∧ norm.fl (F.PIPE_OWNER_PENDING.i 3) = false := by decide

/-- Pipe 0 owned by the layout service, with an empty staging. -/
def service : Dev :=
  let d := norm.sg (F.PIPE_OWNER_OWNER.i 0) 1
  d.putSvc 0 { d.svcOf 0 with staged := some emptyLayout, size := 2 ^ 27 }

theorem wit_IcpLayoutRowsStageAndSet : met service 0x0202 .pcie [0] = true ∧ service.serviceRefused 0 = none ∧
    norm.serviceRefused 0 ≠ none ∧ (service.svcOf 0).layout = [] ∧
    met service 0x0203 .pcie (0x1003F :: List.replicate 29 0) = true ∧
    (service.svcOf 0).staged = some emptyLayout ∧ met service 0x0204 .pcie [0] = true ∧
    service.fl (F.PIPE_OWNER_PENDING.i 0) = false ∧ (norm.svcOf 0).staged = none ∧
    met service 0x0210 .pcie [3, 16383, 0] = true ∧ met service 0x0211 .pcie [0, 0, 1024, 0, 0, 0, 0] = true ∧
    ram.usableBytes ≥ 0 + 4 * 1024 ∧ met service 0x0212 .pcie [0x10000, 7] = true ∧ badMeterWrite (nums [0x10000, 7]) = false ∧
    met service 0x0307 .pcie (0 :: List.replicate 7 0) = true := by decide

theorem wit_IcpFirmwareTestAndDebugRows : met norm 0x0501 .pcie [1, 2097152] = true ∧ norm.runningSlot = some 0 ∧
    met norm 0x0502 .pcie [0, 1] = true ∧ norm.hearth.transfer = none ∧ met norm 0x0503 .pcie [2] = true ∧
    met norm 0x0504 .pcie [0] = true ∧ norm.slotSt 0 = 2 ∧ norm.slotSt 1 ≠ 2 ∧ met norm 0x0600 .pcie [0] = true ∧
    isSlice 0 = true ∧ met norm 0x0610 .pcie [] = true ∧ met norm 0x0611 .pcie (List.replicate 24 0) = true ∧
    norm.fl F.SYS_LOCKDOWN_DEBUG_REQ_DISABLE = false ∧ norm.rg F.SECURE_DEBUG_DENIED_COUNT = 0 := by decide

theorem wit_SelftestRun : ctl.sliceRefused 0 = true := by decide

/-! ### Witnesses: events -/

theorem wit_HearthEventsTakeEffect : live.dark = false ∧ (live.advance 5).power.boot = .released ∧
    (live.advance 5).hearth.expiries.length < 2 ∧
    ({ State.reset.dev with hearth := { State.reset.dev.hearth with measuring := true } } : Dev).hearth.measuring = true ∧
    live.rg F.POWER_STATUS_STATE < 2 ∧ (dv [(F.POWER_STATUS_STATE, 2)]).rg F.POWER_STATUS_STATE ≥ 2 ∧
    live.rg F.HEARTH_STATE_STATE = 0 ∧ norm.rg F.HEARTH_STATE_STATE ≠ 0 ∧
    (dv [(F.SECURE_ST_STATUS_RUNNING, 1)]).fl F.SECURE_ST_STATUS_RUNNING = true ∧ live.testing = false ∧
    ctl.rg F.ICP_ATTENTION_CONTROLLER ≠ 0 ∧ ctl.fl F.ICP_RING_STATUS_HOST_LOST = false ∧
    ctl.icp.beatAt ≠ some ctl.now ∧ (ctl.beat .pcie).icp.beatAt = some (ctl.beat .pcie).now := by decide

theorem wit_MayRelease :
    ({ State.reset.dev with power := { State.reset.dev.power with boot := .rails } } : Dev).mayRelease = true := by decide

theorem wit_PowerCommandsAndTransitions : norm.powerRefused 0 = false ∧ norm.powerRefused 2 = false ∧
    norm.powerRefused 3 = false ∧ ctl.powerRefused 1 = true ∧ norm.inHold = false ∧
    (dv [(F.POWER_STATUS_STATE, 2), (F.POWER_STATUS_HOLD_THERMAL, 1)]).inHold = true ∧
    ({ norm with power := { norm.power with moving := .toHold } } : Dev).power.moving = .toHold ∧ norm.dark = false := by decide

theorem wit_HotPlugEventsReachThePort : bit ((dv [(F.SECURE_FENCED_DP, 4)]).rg F.SECURE_FENCED_DP) 2 = true ∧
    bit (pipe0.rg F.SECURE_FENCED_DP) 2 = false ∧ pipe0.deep = false ∧ pipe0.underTest 2 = false ∧
    pipe0.power.scan = false ∧
    (bit (pipe0.rg F.POWER_WAKE_HPD) 2 && !pipe0.fl (F.DP_STATUS_PLUGGED.i 2)) = false ∧
    (bit ((dv [(F.POWER_WAKE_HPD, 4), (F.POWER_STATUS_STATE, 3)]).rg F.POWER_WAKE_HPD) 2 &&
      !(dv [(F.POWER_WAKE_HPD, 4), (F.POWER_STATUS_STATE, 3)]).fl (F.DP_STATUS_PLUGGED.i 2)) = true := by decide

theorem wit_SwapPointsAndRasterStops : State.reset.dev.running 1 = false ∧ (State.reset.dev.advance 9).running 1 = false ∧
    pipe0.running 0 = true ∧ (pipe0.advance 9).running 0 = true ∧ pipe0.power.moving = .none ∧
    State.reset.dev.fl F.IO_STATUS_HOLDOVER = false ∧
    (dv [(F.PIPE_COMMIT_STATUS_CLASS_B.i 1, 1), (F.PIPE_TG_STATUS_STEP.i 1, 2)]).rg (F.PIPE_TG_STATUS_STEP.i 1) = 2 ∧
    genLocking State.reset.dev.acV 0 = false := by decide

/-- Pipe 0 two swap points into step 1 of a class B sequence that stops it. -/
def stopping : Dev :=
  (({ pipe0 with armed := [] }.sg (F.PIPE_COMMIT_STATUS_CLASS_B.i 0) 1).sg (F.PIPE_TG_STATUS_STEP.i 0) 1).putPst 0
    { pipe0.pst 0 with steps := 2 }

theorem wit_RasterStop : stopping.running 0 = true ∧ stopping.fl (F.PIPE_COMMIT_STATUS_CLASS_B.i 0) = true ∧
    stopping.rg (F.PIPE_TG_STATUS_STEP.i 0) = 1 ∧ 2 ≤ (stopping.pst 0).steps ∧ tgEn stopping.arV 0 = true := by decide

theorem wit_UnderrunAndWritebackEvents :
    let d := pipe0.putPst 0 { pipe0.pst 0 with frame := { live := true } }
    d.running 0 = true ∧ (d.frame 0).live = true ∧ (d.frame 0).blanked = false ∧ (d.frame 0).replay = false ∧
    (d.frame 0).notSent = false ∧ bit (d.frame 0).cause 0 = false ∧ 1079 < (rasterOf d.acV 0).vact ∧ d.scJob = none := by
  decide

theorem wit_TickAndReferenceEvents : (State.reset.dev.advance 100000000).lastTick.getD
    (State.reset.dev.advance 100000000).startAt + 100000000 ≤ (State.reset.dev.advance 100000000).now ∧
    (State.reset.dev.advance 100000000).fl F.SYS_TICK_STATUS_FALLBACK = false ∧
    (dv [(F.SYS_TICK_STATUS_FALLBACK, 1)]).lowRunning = none ∧ pipe0.lowRunning = some 0 ∧
    (dv [(F.SYS_TICK_CTRL_SRC, 4)]).rg F.SYS_TICK_CTRL_SRC = 4 ∧ (State.reset.dev.crustAt 0).item = none ∧
    (State.reset.dev.crustAt 0).draining = [] := by decide

/-- Queue 1 with one waiting descriptor. -/
def queued : Dev := dv [(F.SQ_CTRL_EN.i 1, 1), (F.SQ_TAIL_TAIL.i 1, 1)]

theorem wit_ScraperJobsRunRowByRow : queued.inHold = false ∧ queued.scJob = none ∧ queued.sqNext = some 1 ∧
    State.reset.dev.sqNext = none := by decide

theorem wit_CopiesCompleteAndHalt : (dv [(F.DMA_CH_STATUS_STATE.i 4, 1)]).dmaState 4 = 1 ∧
    State.reset.dev.fl F.DMA_ENGINE_STATUS_HALT = false ∧ State.reset.dev.dmaState 4 ≠ 1 ∧
    (dv [(F.DMA_ENGINE_ACTIVE_RUNNING, 16)]).rg F.DMA_ENGINE_ACTIVE_RUNNING ≠ 0 ∧
    State.reset.dev.rg F.DMA_ENGINE_ACTIVE_RUNNING = 0 := by decide

theorem wit_WindowReadsAndSnapshots : ram.protHit 0 4 = none ∧ ram.windowOk 0x3FFFFFFF = true ∧
    (ram.putSurf 5 { small with st := .registered, prot := true }).protHit 0 4 = some 5 ∧
    bits (0x17F : Word).toNat 8 2 = 1 ∧ bits (0x17F : Word).toNat 0 7 = 127 ∧ ram.reaches .host = true := by decide

/-- A DEVICE_INFO packet of three words with its trailer. -/
def info : List Byte := [0, 0, 0, 0, 3, 0, 0, 0] ++ leBytes 4 ((State.reset.dev.trailer [0, 3]).1)

theorem wit_PacketsAreTestedInOrder : receivedLength .spi info = 3 ∧ info.length = 12 ∧
    (State.reset.dev.trailer (wordsLe 3 info).dropLast).1 = (wordsLe 3 info).getLastD 0 ∧
    State.reset.dev.testing = false ∧ (State.reset.dev.trailer (wordsLe 3 info).dropLast).2.testing = false ∧
    (opRow 0x0000).isSome = true ∧ opRow 0xFFFF = none ∧ State.reset.dev.dark = false := by decide

theorem wit_RingTakesAndRefusesIndices : subMod 7 64 (State.reset.dev.rg F.ICP_CMD_HEAD_HEAD) ≤ 64 ∧
    64 < subMod 7 65 (State.reset.dev.rg F.ICP_CMD_HEAD_HEAD) ∧
    64 < subMod 7 (State.reset.dev.rg F.ICP_RPL_TAIL_TAIL) 1 ∧
    (dv [(F.ICP_RING_CTRL_EN, 1), (F.ICP_CMD_TAIL_TAIL, 1)]).fl F.ICP_RING_CTRL_EN = true ∧
    (dv [(F.ICP_RING_CTRL_EN, 1), (F.ICP_CMD_TAIL_TAIL, 1)]).rg F.ICP_CMD_TAIL_TAIL ≠ 0 := by decide

theorem wit_SideBandTransportsHoldOneOfEach : (State.reset.dev.side .spi).busy = false ∧
    (State.reset.dev.side .spi).reply = [] ∧ State.reset.dev.dark = false ∧
    ofLe (([12, 0] ++ List.replicate 12 (0 : Byte)).take 2) + 2 ≤ ([12, 0] ++ List.replicate 12 (0 : Byte)).length := by
  decide

/-! ### Witnesses: further clauses -/

theorem wit_IdleBlock : State.reset.dev.hearth.stopped = false ∧ State.reset.dev.dmaNext = none ∧
    State.reset.dev.dark = false ∧ (dv [(F.POWER_STATUS_STATE, 3)]).dark = true := by decide

/-- The first doubleword of a burst changes nothing and leaves the device up. -/
theorem wit_WriteOfTwoDoublewords : Gives (.regWrite .host .reg 0x10 0 ⟨5, []⟩) State.reset State.reset.dev ∧
    State.reset.dev.dark = false ∧ (0x10 : BitVec 26).toNat + 4 < 2 ^ 26 := ⟨rfl, by decide, by decide⟩

/-- The host's last command came 999 ns and 1,000 ns ago. -/
theorem wit_EarlyCommands :
    ((({ State.reset.dev.cmdTaken .host with now := 999 } : Dev).meets true).cmdBusy .host = true) ∧
    ((({ State.reset.dev.cmdTaken .host with now := 1000 } : Dev).meets true).cmdBusy .host = false) ∧
    ((({ State.reset.dev.cmdTaken .host with now := 999 } : Dev).meets false).cmdBusy .host = false) ∧
    ((({ State.reset.dev.cmdTaken .host with now := 999 } : Dev).meets true).cmdBusy .fw = false) := by decide

/-- A sealed check that runs on surface 5. -/
def sealing : Dev := (dv [(F.SURF_SEAL_BUSY, 1), (F.SURF_SEAL_SID, 5)]).putSurf 5 { sealed' with sealing := true }

theorem wit_SealRuns : (sealing.surfAt 5).sealing = true ∧ (sealing.surfAt 5).lost = false ∧
    sealing.fl F.SURF_SEAL_BUSY = true ∧ sealing.rg F.SURF_SEAL_SID = 5 ∧ sealing.dark = false ∧
    ((sealing.putSurf 5 { sealed' with lost := true }).surfAt 5).lost = true := by decide

/-- Two corrected errors in the last 1 ms, with STORM at 2 and at 3. -/
theorem wit_Storm :
    let d := fun n => { dv [(F.FETCH_DRAM_ECC_EN, 1), (F.FETCH_ECC_CFG_STORM, n)] with ceTimes := [(3, [7, 6])], now := 8 }
    let old := fun (n : Nat) => (Tab.get (fun _ => []) (d n).ceTimes 3).filter (fun t => decide ((d n).now < t + 1000000))
    (d 2).rg F.FETCH_ECC_CFG_STORM ≠ 0 ∧ (d 2).rg F.FETCH_ECC_CFG_STORM ≤ (old 2).length ∧
    (old 3).length < (d 3).rg F.FETCH_ECC_CFG_STORM := by decide

theorem wit_FirmwareRuns : black.hearth.stopped = false ∧ pipe0.hearth.stopped = false ∧
    (dv [(F.DP_HDCP_STATE.i 2, 1), (F.SECURE_KEYS_HDCP_KEYS, 2)]).hearth.stopped = false := by decide

theorem wit_PerstWhileAsleep : State.reset.dev.deep = false ∧ (dv [(F.POWER_STATUS_STATE, 3)]).deep = true ∧
    (dv [(F.POWER_WAKE_PERST, 0)]).fl F.POWER_WAKE_PERST = false := by decide

/-- A released device long after its start, with every engine idle. -/
theorem wit_ResetAlone : (live.power.boot == .inReset && live.now == live.startAt) = false ∧
    (∀ c ∈ List.range 16, live.dmaState c ≠ 1) ∧ live.scJob = none ∧
    live.fl F.SCRAPER_CFG_SQ3_SERVICE = false := by decide

theorem wit_TwoDoorbellsOfOneCycle :
    let d := { (fenced.meets true) with bell := some (0, 3) }
    d.bellBase 0 = 3 ∧ (fenced.fenceAt 0).val.toNat = 5 ∧ (fenced.meets false).bellBase 0 = 5 ∧ (fenced.meets true).bellBase 1 = 0 := by
  decide

/-- Pipe 0 with its under-crust on. -/
def crusted : Dev := { State.reset.dev with active := (F.CRUST_CTRL_EN.i 0).set dfltB [] 1 }

theorem wit_TileErrors : planeCharged crusted.acV 0 = true ∧ planeCharged State.reset.dev.acV 0 = false ∧
    0 < min 8192 (tileCount State.reset.dev.acV 0) ∧ min 8192 (tileCount State.reset.dev.acV 0) ≤ 8191 ∧
    (State.reset.dev.tileAt (tileKey 0 0)).invalid = false := by decide

theorem wit_LoweringADeclaration :
    let d := dv [(F.FETCH_DECL_CTRL_EN.i 3, 1), (F.FETCH_DECL_CTRL_MBPS.i 3, 9)]
    bit (0x80000005 : Word).toNat 31 = true ∧ d.fl (F.FETCH_DECL_CTRL_EN.i 3) = true ∧
    ¬ d.rg (F.FETCH_DECL_CTRL_MBPS.i 3) < bits (0x80000005 : Word).toNat 0 17 ∧
    d.rg (F.FETCH_DECL_CTRL_MBPS.i 3) < bits (0x8000000A : Word).toNat 0 17 := by decide

/-- A host strobe of layers that service-owned pipe 1 holds is barred; with the pipe of the host's own it is kept in part. -/
def halfOwned : Dev :=
  let l := (F.VL_CTRL_PIPE.i 0).set dfltB ((F.VL_CTRL_EN.i 0).set dfltB [] 1) 1
  { dv [(F.PIPE_OWNER_OWNER.i 1, 1)] with active := l, proof := l }

theorem wit_StrobesAndOwnership :
    let bs := State.reset.dev.strobeTargets .host 0
    bs = [] ∧ (State.reset.dev.up (F.COMMIT_STATUS_PENDING.rq .host)).fl (F.COMMIT_STATUS_PENDING.rq .host) = true ∧
    (State.reset.dev.strobeTargets .host 1).isEmpty = false ∧ (halfOwned.barredFor .host (.layer 0)).contains 1 = true ∧
    (halfOwned.barredFor .host (.pipe 0)) = [] := by decide

theorem wit_PlainRegisterWords : strobed 0x40000 = false ∧ strobed 0x80000 = false ∧ strobed 0x20010 = false ∧ hasBanked 0x80000 = false ∧
    State.reset.dev.rg (F.COMMIT_VIEW_BANK.rq .host) ≠ 1 := by decide

/-- The command that stands next is answered. -/
theorem wit_FirmwareTurn : (asked State.reset.dev 0x202 .pcie [0]).fwResume.testing = false ∧
    (asked star 0x202 .pcie [0]).fwResume.starter = true := by decide

theorem wit_HearthStopped :
    let d := { live with hearth := { live.hearth with stopped := true } }
    d.hearth.stopped = true ∧ d.dark = false ∧ bit (d.rg F.SECURE_FENCED_DP) 2 = false ∧ d.deep = false ∧
    (d.power.boot != .aonReset) = true ∧ d.power.scan = false := by decide

theorem wit_PortsOfAReleasedDevice :
    let d := { pipe0 with power := live.power }
    (d.hearth.stopped || d.power.boot != .released) = false ∧ d.fl (F.DP_STATUS_PLUGGED.i 2) = true ∧
    d.fl (F.DP_STATUS_PLUGGED.i 1) = false ∧ bit (d.rg F.SECURE_FENCED_DP) 2 = false ∧ d.underTest 2 = false ∧
    d.power.scan = false ∧ d.deep = false ∧ d.dark = false := by decide

/-- Pipe 0 in genlock group 1 behind a reference. -/
def locking : Dev :=
  let b := (F.PIPE_GENLOCK_GROUP.i 0).set dfltB ((F.PIPE_TG_CTRL_EN.i 0).set dfltB [] 1) 1
  { State.reset.dev with active := (F.PIPE_GENLOCK_SRC.i 0).set dfltB b 1 }

theorem wit_ReferenceLost : genLocking locking.acV 0 = true ∧ (locking.pst 0).gRef ≠ some locking.now ∧
    ((locking.putPst 0 { locking.pst 0 with gRef := some 0 }).pst 0).gRef = some locking.now := by decide

/-- Pipe 0 showing graphic layer 0 on its first lines, in a live frame. -/
def lit : Dev :=
  let l : List (Fld × Nat) := [(F.GL_CTRL_EN, 1), (F.GL_SRC_RECT_W, 8), (F.GL_SRC_RECT_H, 8), (F.GL_DST_POS_X, 0)]
  let d := pipe0.putPst 0 { pipe0.pst 0 with frame := { live := true } }
  { d with active := l.foldl (fun t x => x.1.set dfltB t x.2) d.active }

theorem wit_Fetching : lit.fetchesAt 0 5 0 .graphic = true ∧ lit.fetchesAt 0 8 0 .graphic = false ∧
    lit.running 0 = true ∧ (lit.frame 0).live = true ∧ (lit.frame 0).notSent = false ∧ (lit.frame 0).overtook = false := by
  decide

theorem wit_TickSources :
    let d := { dv [(F.SYS_TICK_CTRL_SRC, 4)] with lastTick := some 0, now := 2000000 }
    d.tickSrc ≠ 4 ∧ d.rg F.SYS_TICK_CTRL_SRC = 4 ∧ d.tickDue = true ∧ ({ d with tickSrc := 4 } : Dev).tickSrc = 4 ∧
    ({ d with now := 1999999 } : Dev).tickDue = false ∧ State.reset.dev.rg F.SYS_TICK_CTRL_SRC ≠ 4 := by decide

theorem wit_Flattening :
    let d := State.reset.dev.putCrust 0 { State.reset.dev.crustAt 0 with
      item := some { cfg := [], held := [], under := [], top := [], damage := [], force := [] }, draining := [0] }
    (d.crustAt 0).item.isSome = true ∧ (d.crustAt 0).draining ≠ [] ∧ d.inHold = false ∧ d.dark = false := by decide

theorem wit_Copying :
    let d := dv [(F.DMA_CH_STATUS_STATE.i 4, 1)]
    d.inHold = false ∧ d.fl F.DMA_ENGINE_STATUS_HALT = false ∧ d.dmaState 4 = 1 ∧
    (dv [(F.DMA_ENGINE_STATUS_HALT, 1)]).fl F.DMA_ENGINE_STATUS_HALT = true := by decide

theorem wit_PoisonedWords :
    let d := { ram with poison := [8] }
    d.poison.filter (fun w => overlaps w 8 12 4) = [8] ∧ d.poison.filter (fun w => overlaps w 8 16 4) = [] := by decide

theorem wit_WaitingPackets :
    let z : SvcStep := { tr := .spi, words := [], stage := .passed }
    let d := State.reset.dev.svcQueue z
    (firstWith (fun z : SvcStep => z.tr == Tr.spi) d.icp.svc).map (fun z => decide (z.stage ≠ .received)) = some true ∧
    firstWith (fun z : SvcStep => z.tr == Tr.spi) State.reset.dev.icp.svc = none ∧
    lengthOk .spi info = true ∧ packetWords .spi info = wordsLe 3 info := by decide

theorem wit_ReleasedAndUnplugged : live.rg F.HEARTH_STATE_STATE = 0 ∧ live.power.boot = .released ∧
    2 ≤ ({ live.hearth with expiries := [1, 2] } : Hearth).expiries.length ∧
    ({ live.hearth with attempt := 1 } : Hearth).attempt = 1 := by decide

/-! ### Worked figures: colour -/

/-- Chapter 06, worked example (R199, R201, R197): the HLG code 2,886 becomes 1.00390625 in working units. -/
theorem test_hlg_camera : (stepTf 3 0 1000 ⟨i32 2630 3504, i32 2630 3504, i32 2630 3504⟩).map toWork
    = ⟨0x3C04, 0x3C04, 0x3C04⟩ := by decide

/-- A view in which pipe 0 encodes to PQ. -/
def pqOut : View := fun k => if k = (F.PIPE_OUT_CTRL_OETF.i 0).off then BitVec.ofNat 32 (2 * 2 ^ (F.PIPE_OUT_CTRL_OETF.i 0).lo) else 0

/-- Chapter 06, worked example (R213, R215): its 10-bit full-range code is 594. -/
theorem test_pq_code : quant 10 true false (q32 1 2) (encoded pqOut 0 none ⟨0x3C02, 0x3C02, 0x3C02, 0x3C00⟩).g = 594 := by
  decide

end Sys2Proof.Tests
end

section
/-! SUPPORT.  Registers whose write acknowledges flags and, with CLR_COUNTS, clears counts (R120, R257, R347). -/

namespace Sys2Proof.Machine

/-- R11, R14: an unbanked register at a fixed offset whose W1C bits are `m` and that holds no bit a direct write stores, so
    that a write of it as its field types define it is an acknowledgement and nothing else. -/
def ackOnly (off : Nat) (m : Word) : Bool :=
  primOf off == off && off / 4 * 4 == off && mapOf off == 0 && mapped off && areaOf off == none
    && (findReg off).map Prod.snd == some 0 && !(regOf off).pair && storeBits off == 0 && clearBits off == m
    && !hasBanked off && clearsWith.all (fun x => x.1.off != (regOf off).off)

/-- A direct write of a register that is acknowledged only reaches the register's own rule, and its plain write is the
    acknowledgement. -/
theorem regAt_ackOnly {q : Rq} {off : Nat} {m w : Word} {d : Dev} (h : ackOnly off m = true) (hr : d.reaches q = true) :
    regAt q off w d = regBody q false off off [(off, w)] w d ∧
    plainWrite q false [(off, w)] d = d.ack (keyFor q off) m w := by
  simp only [ackOnly, Bool.and_eq_true, beq_iff_eq, Bool.not_eq_true'] at h
  obtain ⟨⟨⟨⟨⟨⟨⟨⟨⟨⟨hprim, halign⟩, hmap⟩, hmapped⟩, harea⟩, hword⟩, hpair⟩, hstore⟩, hclear⟩, hbank⟩, hbeside⟩ := h
  exact ⟨regAt_eq_body (starterBars_of_reaches hr) ⟨hprim, halign, hmap, hmapped, harea, hword, hpair⟩,
    plainWrite_ack off m hword hstore hclear hbank hbeside⟩

/-- A register that all requesters share has one word. -/
theorem keyFor_shared {q : Rq} {off : Nat} (h : perRequester off = false) : keyFor q off = off := by simp [keyFor, h]

/-- R120: the write of COMMIT_ERR with CLR_COUNTS = 1. -/
theorem regAt_commitErr_clrCounts {q : Rq} {w : Word} {d : Dev} (hr : d.reaches q = true) (hc : bit w.toNat 8 = true) :
    regAt q F.COMMIT_ERR_CLR_COUNTS.off w d =
      ((d.ack (rqKey q 0x10030) 7 w).dn (F.COMMIT_COUNTS_ACCEPTED.rq q)).dn (F.COMMIT_COUNTS_REFUSED.rq q) := by
  obtain ⟨hbody, hack⟩ := regAt_ackOnly (w := w) (show ackOnly 0x10030 7 = true by decide) hr
  have hon : View.on (fun _ => w) F.COMMIT_ERR_CLR_COUNTS = true := (on_of_bit rfl (by decide)).trans hc
  calc regAt q 0x10030 w d = commitClrCounts q w (plainWrite q false [(0x10030, w)] d) := hbody
    _ = _ := by rw [hack, commitClrCounts, if_pos hon]; rfl

/-- R257: the write of CRUST_PIPE_n_STATUS with CLR_COUNTS = 1. -/
theorem regAt_crustStatus_clrCounts {q : Rq} {p : Fin 4} {w : Word} {d : Dev} (hr : d.reaches q = true)
    (hc : bit w.toNat 23 = true) :
    regAt q (F.CRUST_PIPE_STATUS_CLR_COUNTS.i p.val).off w d =
      ((d.ack (0x70204 + 0x20 * p.val) 0xFE w).dn (F.CRUST_PIPE_COUNTS_TILES_WRITTEN.i p.val)).dn
        (F.CRUST_PIPE_COUNTS_TILES_SKIPPED.i p.val) := by
  obtain ⟨hreg, hshared⟩ : ackOnly (0x70204 + 0x20 * p.val) 0xFE = true ∧ perRequester (0x70204 + 0x20 * p.val) = false := by
    revert p; decide
  obtain ⟨hbody, hack⟩ := regAt_ackOnly (w := w) hreg hr
  have hon : View.on (fun _ => w) F.CRUST_PIPE_STATUS_CLR_COUNTS = true := (on_of_bit rfl (by decide)).trans hc
  have hoff : (F.CRUST_PIPE_STATUS_CLR_COUNTS.i p.val).off = 0x70204 + 0x20 * p.val := by fin_cases p <;> rfl
  have hrule : regBody q false (0x70204 + 0x20 * p.val) (0x70204 + 0x20 * p.val) [(0x70204 + 0x20 * p.val, w)] w d
      = crustStatusWrite q p.val w d := by fin_cases p <;> rfl
  rw [hoff, hbody, hrule, crustStatusWrite, hoff, hack, keyFor_shared hshared, if_pos hon]

/-- R347: the write of SIG_PIPE_n_STATUS with CLR_COUNTS = 1. -/
theorem regAt_sigStatus_clrCounts {q : Rq} {p : Fin 4} {w : Word} {d : Dev} (hr : d.reaches q = true)
    (hc : bit w.toNat 8 = true) :
    regAt q (F.SIG_PIPE_STATUS_CLR_COUNTS.i p.val).off w d =
      ((d.ack (0xA0104 + 0x10 * p.val) 1 w).dn (F.SIG_PIPE_COUNTS_TORN_FRAMES.i p.val)).dn
        (F.SIG_PIPE_COUNTS_INVALID_FRAMES.i p.val) := by
  obtain ⟨hreg, hshared⟩ : ackOnly (0xA0104 + 0x10 * p.val) 1 = true ∧ perRequester (0xA0104 + 0x10 * p.val) = false := by
    revert p; decide
  obtain ⟨hbody, hack⟩ := regAt_ackOnly (w := w) hreg hr
  have hon : View.on (fun _ => w) F.SIG_PIPE_STATUS_CLR_COUNTS = true := (on_of_bit rfl (by decide)).trans hc
  have hoff : (F.SIG_PIPE_STATUS_CLR_COUNTS.i p.val).off = 0xA0104 + 0x10 * p.val := by fin_cases p <;> rfl
  have hrule : regBody q false (0xA0104 + 0x10 * p.val) (0xA0104 + 0x10 * p.val) [(0xA0104 + 0x10 * p.val, w)] w d
      = sigStatusWrite q p.val w d := by fin_cases p <;> rfl
  rw [hoff, hbody, hrule, sigStatusWrite, hoff, hack, keyFor_shared hshared, if_pos hon]

end Sys2Proof.Machine
end

section
/-! SUPPORT.  A direct write of a register without a rule of its own (R10, R11, R36, R82, R84): it takes effect at once or in
    the proof bank. -/

namespace Sys2Proof.Machine

/-- R11: a register word that `strobed` leaves out has no rule of its own, whatever page it lies on. -/
theorem regBody_plain {q : Rq} {al : Bool} {off win : Nat} {ws : List (Nat × Word)} {w : Word} {d : Dev}
    (h : strobed off = false) : regBody q al off win ws w d = plainWrite q al ws d := by
  unfold strobed at h
  unfold regBody
  split <;> simp_all

/-- A direct write of a register word without a rule of its own is the plain write of its fields. -/
theorem regAt_plain {q : Rq} {off : Nat} {w : Word} {d : Dev} {r : Reg} (hr : d.reaches q = true) (hlt : off < 2 ^ 24)
    (hal : off % 4 = 0) (hm : mapped off = true) (ha : areaOf off = none) (hs : strobed off = false)
    (hf : findReg off = some (r, 0)) (hp : r.pair = false) : regAt q off w d = plainWrite q false [(off, w)] d := by
  rw [regAt_eq_body_of (starterBars_of_reaches hr) (by unfold primOf; omega) (by omega) (by unfold mapOf; omega) hm ha hf hp,
    regBody_plain hs]

/-- R36, R84: frame-banked fields that the requester may not change: what the gate makes of the write is all of it. -/
theorem plainWrite_gated {q : Rq} {off : Nat} {w : Word} {d e : Dev} (hb : hasBanked off = true)
    (hg : (d.putUnbanked q false off w).bankGate q off = some e) : plainWrite q false [(off, w)] d = e := by
  simp [plainWrite, hb, Dev.each, hg]

/-- R82: frame-banked fields that the requester may change are written. -/
theorem plainWrite_open {q : Rq} {off : Nat} {w : Word} {d : Dev} (hb : hasBanked off = true)
    (hg : (d.putUnbanked q false off w).bankGate q off = none) :
    plainWrite q false [(off, w)] d = (d.putUnbanked q false off w).putBanked off w := by
  simp [plainWrite, hb, Dev.each, hg]

/-- R84: a view of the armed or active bank closes the gate. -/
theorem bankGate_viewed {q : Rq} {off : Nat} {d : Dev}
    (h : d.rg (F.COMMIT_VIEW_BANK.rq q) = 1 ∨ d.rg (F.COMMIT_VIEW_BANK.rq q) = 2) :
    d.bankGate q off = some (d.up (F.COMMIT_ERR_VIEW_WRITE.rq q)) := by
  rcases h with h | h <;> simp [Dev.bankGate, within, h]

/-- R36: through a view of the proof bank, a service-owned pipe that holds the block closes the gate to the host. -/
theorem bankGate_barred {q : Rq} {off : Nat} {d : Dev} (h1 : d.rg (F.COMMIT_VIEW_BANK.rq q) ≠ 1)
    (h2 : d.rg (F.COMMIT_VIEW_BANK.rq q) ≠ 2) (hb : d.hostBarred q off ≠ []) :
    d.bankGate q off = some (Dev.each (fun p d => d.ownViolation p) (d.hostBarred q off) d) := by
  have hv : within 1 2 (d.rg (F.COMMIT_VIEW_BANK.rq q)) = false := by simp [within]; omega
  unfold Dev.bankGate
  rw [if_neg (by simp [hv])]
  split
  · contradiction
  · rfl

/-- R82: through a view of the proof bank, the gate is open to a write that no pipe's owner bars. -/
theorem bankGate_open {q : Rq} {off : Nat} {d : Dev} (h1 : d.rg (F.COMMIT_VIEW_BANK.rq q) ≠ 1)
    (h2 : d.rg (F.COMMIT_VIEW_BANK.rq q) ≠ 2) (hb : d.hostBarred q off = []) : d.bankGate q off = none := by
  have hv : within 1 2 (d.rg (F.COMMIT_VIEW_BANK.rq q)) = false := by simp [within]; omega
  simp [Dev.bankGate, hv, hb]

/-- R81, R82: writing frame-banked fields sets them in the proof bank, and leaves every other word of it and the other
    banks alone. -/
theorem putBanked_sets {off : Nat} {w : Word} {d : Dev} {r : Reg} {k : Nat} (hf : findReg off = some (r, k))
    (hw : Tab.wf dfltB d.proof = true) :
    (∀ j, j ≠ off → (d.putBanked off w).pfV j = d.pfV j) ∧
    (d.putBanked off w).pfV off = (d.pfV off &&& ~~~maskOf r k Fld.banked) ||| (w &&& maskOf r k Fld.banked) ∧
    (d.putBanked off w).active = d.active ∧ (d.putBanked off w).armed = d.armed ∧ (d.putBanked off w).late = d.late := by
  simp only [Dev.putBanked, hf]
  exact ⟨fun j hj => Tab.get_put_ne hw hj, Tab.get_put_self hw, rfl, rfl, rfl⟩

/-- What differs in unbanked registers only has the same banks. -/
theorem OnlyRegsMismatches.banks {d e : Dev} (h : OnlyRegsMismatches d e) :
    e.proof = d.proof ∧ e.active = d.active ∧ e.armed = d.armed ∧ e.late = d.late :=
  ⟨(congrArg Dev.proof h.h :), (congrArg Dev.active h.h :), (congrArg Dev.armed h.h :), (congrArg Dev.late h.h :)⟩

end Sys2Proof.Machine
end

section
/-! SUPPORT.  What stops with the engines at a reset (R14, R373, R389), and what a warm and a function-level reset leave. -/

namespace Sys2Proof.Machine

/-- Steps over a list are related as each step is, where the relation holds of nothing done and of one thing after another. -/
theorem Dev.each_related {α : Type} {R : Dev → Dev → Prop} (rf : ∀ d, R d d) (tr : ∀ {a b c}, R a b → R b c → R a c)
    {f : α → Dev → Dev} (hf : ∀ x d, R d (f x d)) (l : List α) : ∀ d, R d (Dev.each f l d) := by
  induction l with
  | nil => exact rf
  | cons a t ih => exact fun d => tr (hf a d) (ih (f a d))

/-- Steps that each leave a device as it is leave it together. -/
theorem Dev.each_fixed {α : Type} {f : α → Dev → Dev} {d : Dev} :
    ∀ {l : List α}, (∀ x ∈ l, f x d = d) → Dev.each f l d = d
  | [], _ => rfl
  | a :: t, h => by
    rw [Dev.each, h a List.mem_cons_self, Dev.each_fixed fun x hx => h x (List.mem_cons_of_mem a hx)]

/-- The device `d` with the memory, registers, free counter and marks of written layers of `m`. -/
def Dev.withMemory (d m : Dev) : Dev :=
  { d with free := m.free, regs := m.regs, mem := m.mem, hostMem := m.hostMem, dirty := m.dirty, changed := m.changed }

/-- Nothing differs but memory, the registers, the free counter and the marks that a write to memory leaves. -/
structure OnlyMemory (d e : Dev) : Prop where
  /-- The claim itself. -/
  same : e.withMemory d = d

namespace OnlyMemory

theorem refl (d : Dev) : OnlyMemory d d := ⟨rfl⟩

theorem trans {a b c : Dev} (h : OnlyMemory a b) (g : OnlyMemory b c) : OnlyMemory a c :=
  ⟨(congrArg (fun z : Dev => z.withMemory a) g.same).trans h.same⟩

theorem ite {d a b : Dev} {c : Prop} [Decidable c] (h : OnlyMemory d a) (g : OnlyMemory d b) :
    OnlyMemory d (if c then a else b) := by
  split <;> assumption

theorem each {α : Type} {f : α → Dev → Dev} (hf : ∀ x d, OnlyMemory d (f x d)) (l : List α) (d : Dev) :
    OnlyMemory d (Dev.each f l d) := Dev.each_related refl trans hf l d

theorem change (d : Dev) (p : Nat) : OnlyMemory d (d.change p) := ite (refl d) ⟨rfl⟩

/-- Marking the layers that show what was written. -/
theorem noteWrite (d : Dev) (engine : Bool) (a n : Nat) : OnlyMemory d (d.noteWrite engine a n) := by
  refine each (fun l d => ?_) allLayers d
  split
  · have hmark : OnlyMemory d (if d.dirty.contains l then d else { d with dirty := l :: d.dirty }) := ite (refl d) ⟨rfl⟩
    exact ite (ite (hmark.trans (change _ _)) hmark) (refl d)
  · exact refl d

theorem sg (d : Dev) (f : Fld) (v : Nat) : OnlyMemory d (d.sg f v) := ⟨rfl⟩

theorem store (d : Dev) (a : Nat) (bs : List Byte) : OnlyMemory d (d.store a bs) := ⟨rfl⟩

theorem hostStore (d : Dev) (a : Nat) (bs : List Byte) : OnlyMemory d (d.hostStore a bs) := ⟨rfl⟩

theorem freeBytes (d : Dev) (n : Nat) : OnlyMemory d (d.draw.2.freeBytes n).2 := ⟨rfl⟩

/-- R379: bytes that a channel copies. -/
theorem dmaMove (d : Dev) (c e : Nat) : OnlyMemory d (d.dmaMove c e) := by
  refine trans (ite ?_ ?_) (sg _ _ _)
  · exact hostStore _ _ _
  · exact (store _ _ _).trans (noteWrite _ _ _ _)

/-- R389: how far a channel has come, and what it has read of host memory, is drawn. -/
theorem dmaFar (d : Dev) (c : Nat) : OnlyMemory d (d.dmaFar c).2 :=
  (freeBytes d _).trans (ite (hostStore _ _ _) (refl _))

/-- R389: a channel stops at a burst boundary. -/
theorem dmaCut (c : Nat) (d : Dev) : OnlyMemory d (Dev.dmaCut c d) :=
  ite (ite (refl d) ((dmaFar d c).trans (dmaMove _ _ _))) (refl d)

/-- R363: a row of a Scraper job. -/
theorem scRow (d : Dev) (j : ScJob) : OnlyMemory d (d.scRow j) := by
  refine (each (fun x d => ?_) _ d).trans (noteWrite _ _ _ _)
  unfold ScJob.put
  dsimp only
  split <;> exact ⟨rfl⟩

/-- R389: the copy engine stops. -/
theorem dmaOff (d : Dev) : OnlyMemory { d with dmaWords := [], dmaServed := [], descBad := [] } d.dmaOff :=
  ⟨congrArg (fun z : Dev => { z with dmaWords := [], dmaServed := [], descBad := [] })
    (each dmaCut (List.range 16) d).same⟩

/-- R373: the Scraper stops. -/
theorem scStop (d : Dev) : OnlyMemory { d with scJob := none } d.scStop := by
  unfold Dev.scStop
  split
  · rename_i hjob
    have hd : ({ d with scJob := none } : Dev) = d := (congrArg (fun j => ({ d with scJob := j } : Dev)) hjob).symm
    rw [hd]
    exact refl d
  · rename_i j _
    have hrow : OnlyMemory d (if j.inRow then Dev.engine (·.scRow j) d else d) := ite (ite (refl d) (scRow d j)) (refl d)
    exact ⟨congrArg (fun z : Dev => { z with scJob := none }) hrow.same⟩

end OnlyMemory

/-- The device `d` with no copy-engine descriptor, and with `job` as the Scraper's. -/
def Dev.withEngines (d : Dev) (job : Option ScJob) : Dev :=
  { d with dmaWords := [], dmaServed := [], descBad := [], scJob := job }

/-- R373, R389: the engines stop: every descriptor ends, and so does the running job unless its queue is out of reach. -/
theorem enginesStop_only (d : Dev) (sq3 : Bool) :
    OnlyMemory (d.withEngines (if d.scJob.any (fun j => j.q == 3 && !sq3) then d.scJob else none)) (d.enginesStop sq3) := by
  have hoff : OnlyMemory (d.withEngines d.scJob) d.dmaOff := OnlyMemory.dmaOff d
  have hjob : d.dmaOff.scJob = d.scJob := (congrArg Dev.scJob hoff.same :)
  unfold Dev.enginesStop
  dsimp only
  rw [hjob]
  split
  · exact hoff
  · exact (show OnlyMemory (d.withEngines none) { d.dmaOff with scJob := none } from
      ⟨congrArg (fun z : Dev => { z with scJob := none }) hoff.same⟩).trans (OnlyMemory.scStop _)

/-- R389: with no channel running and no job, stopping the engines writes no memory. -/
theorem enginesStop_quiet {d : Dev} {sq3 : Bool} (hch : ∀ c, c < 16 → d.dmaState c ≠ 1) (hjob : d.scJob = none) :
    (d.enginesStop sq3).hostMem = d.hostMem ∧ (d.enginesStop sq3).mem = d.mem := by
  have hcut : Dev.each Dev.dmaCut (List.range 16) d = d :=
    Dev.each_fixed fun c hc => if_neg fun h => hch c (List.mem_range.mp hc) h.1
  simp [Dev.enginesStop, Dev.scStop, Dev.dmaOff, hcut, hjob]

/-- The device `d` with the registers, the proof bank and the active bank of `m`. -/
def Dev.withBanks (d m : Dev) : Dev := { d with regs := m.regs, proof := m.proof, active := m.active }

/-- Nothing differs but the registers, the proof bank and the active bank. -/
structure OnlyBanks (d e : Dev) : Prop where
  /-- The claim itself. -/
  same : e.withBanks d = d

namespace OnlyBanks

theorem trans {a b c : Dev} (h : OnlyBanks a b) (g : OnlyBanks b c) : OnlyBanks a c :=
  ⟨(congrArg (fun z : Dev => z.withBanks a) g.same).trans h.same⟩

theorem ofRegs {d e : Dev} (h : OnlyRegs d e) : OnlyBanks d e := ⟨(congrArg (fun z : Dev => z.withBanks d) h.h :)⟩

theorem mem {d e : Dev} (h : OnlyBanks d e) : e.mem = d.mem := (congrArg Dev.mem h.same :)

/-- What `d` has beside registers and banks, `e` has too. -/
theorem transfer {P : Dev → Prop} {d e : Dev} (h : OnlyBanks d e) (hp : P d) : P (e.withBanks d) := h.same.symm ▸ hp

end OnlyBanks

theorem OnlyRegs.resetRegs (d : Dev) (e : Nat) (reach : Nat → Bool) : OnlyRegs d (d.resetRegs e reach) := ⟨rfl⟩

theorem OnlyRegs.sgWord (d : Dev) (k : Nat) (w : Word) : OnlyRegs d (d.sgWord k w) := ⟨rfl⟩

theorem OnlyRegs.keepLive (d old : Dev) : OnlyRegs d (d.keepLive old) :=
  .tr (.each (fun f d => .sg d f _) _ _) (.each (fun s d => by split <;> exact ⟨rfl⟩) _ _)

theorem OnlyRegs.targets (d : Dev) : OnlyRegs d d.targets := .each (fun _ d => .sg d _ _) _ _

theorem OnlyBanks.edpStrap (d : Dev) : OnlyBanks d d.edpStrap := by
  unfold Dev.edpStrap
  split <;> exact ⟨rfl⟩

/-- R13, R74, R466, R524: what is shown once a reset has cleared the tables: registers and banks. -/
theorem OnlyBanks.afterReset (x old : Dev) (e : Nat) (reach : Nat → Bool) (k : Nat) (w : Word) :
    OnlyBanks x ((((x.resetRegs e reach).sgWord k w).keepLive old).edpStrap).targets :=
  (OnlyBanks.ofRegs (((OnlyRegs.resetRegs x e reach).tr (.sgWord _ k w)).tr (.keepLive _ old))).trans
    ((OnlyBanks.edpStrap _).trans (.ofRegs (.targets _)))

/-- R472 to R475, R492: what a warm reset leaves of `d`, whose engines it stops as `x`, beside registers and DRAM: the
    log, the MRAM, host memory and what has been sent. -/
def LeftByWarmReset (d x e : Dev) : Prop :=
  e.power.boot = .inReset ∧ e.power.moving = .none ∧ e.armed = [] ∧ e.late = [] ∧ e.strobes = [] ∧ e.posted = [] ∧
  e.surf = [] ∧ e.fence = [] ∧ e.tiles = [] ∧ e.claims = [] ∧ e.hints = [] ∧ e.scJob = none ∧ e.tmRam = [] ∧
  e.lutRam = [] ∧ e.locked = false ∧ e.mismatches = [] ∧ e.latch = [] ∧ e.heldLo = [] ∧
  e.log = d.log ∧ e.hearth.mram = d.hearth.mram ∧ e.out = d.out ∧ e.now = d.now ∧ e.hostMem = x.hostMem

theorem LeftByWarmReset.of {d x y e : Dev} (h : OnlyBanks y e) (hy : LeftByWarmReset d x y) : LeftByWarmReset d x e :=
  h.transfer (P := LeftByWarmReset d x) hy

/-- R472, R473, R475: a warm reset of any cause leaves this, and DRAM where it is kept. -/
theorem restart_leaves {d : Dev} {c : ResetCause} {island : Nat} (hc : c.rank = 3) :
    LeftByWarmReset d (d.enginesStop true) (d.restart c island) ∧
    (d.restart c island).mem = if d.dramKept c island then (d.enginesStop true).mem else [] := by
  have hstop := enginesStop_only d true
  have hlog : (d.enginesStop true).log = d.log := (congrArg Dev.log hstop.same :)
  have hmram : (d.enginesStop true).hearth.mram = d.hearth.mram := (congrArg (fun z : Dev => z.hearth.mram) hstop.same :)
  have hout : (d.enginesStop true).out = d.out := (congrArg Dev.out hstop.same :)
  have hnow : (d.enginesStop true).now = d.now := (congrArg Dev.now hstop.same :)
  unfold Dev.restart
  simp only [hc, Nat.reduceEqDiff, if_true, if_false]
  refine ⟨.of (OnlyBanks.afterReset _ _ _ _ _ _) ?_, (OnlyBanks.afterReset _ _ _ _ _ _).mem⟩
  exact ⟨rfl, rfl, rfl, rfl, rfl, rfl, rfl, rfl, rfl, rfl, rfl, rfl, rfl, rfl, rfl, rfl, rfl, rfl, hlog, hmram, hout, hnow,
    rfl⟩

end Sys2Proof.Machine
end

section
/-! SUPPORT.  What a function-level reset and PERST_N end (R14, R69, R389, R417, R477, R478). -/

namespace Sys2Proof.Machine

/-- A kept entry has a kept key. -/
theorem Tab.mem_keep {α : Type} {p : Nat → Bool} {x : Nat × α} : ∀ {t : Tab α}, x ∈ Tab.keep p t → p x.1 = true
  | (a, v) :: t, h => by
    rw [Tab.keep] at h
    split at h
    · rcases List.mem_cons.mp h with rfl | h
      · assumption
      · exact Tab.mem_keep h
    · exact Tab.mem_keep h

/-- A requester that is not the host is Hearth firmware. -/
theorem rq_eq_fw {q : Rq} (h : (q != Rq.host) = true) : q = .fw := by
  cases q
  · cases h
  · rfl

theorem OnlyRegs.hintCount (d : Dev) : OnlyRegs d d.hintCount := .each (fun _ d => .sg d _ _) _ _

theorem OnlyRegs.postedShow (d : Dev) : OnlyRegs d d.postedShow := .sg d _ _

theorem OnlyRegs.restShow (d : Dev) : OnlyRegs d d.restShow := by
  unfold Dev.restShow
  split
  · exact .rf d
  · exact .sg d _ _

/-- R69, R241, R482: what is shown once a function-level reset has cleared the host's side: registers only. -/
theorem OnlyRegs.afterHostReset (x : Dev) (e : Nat) (reach : Nat → Bool) :
    OnlyRegs x (((x.resetRegs e reach).hintCount).postedShow).restShow :=
  (((OnlyRegs.resetRegs x e reach).tr (.hintCount _)).tr (.postedShow _)).tr (.restShow _)

/-- R477: what a function-level reset of `d` ends, and what it leaves as it was. -/
def HostSideEnded (d e : Dev) : Prop :=
  e.dmaWords = [] ∧ e.icp.slots = [] ∧ e.watchArmed = 0xFFFF ∧
  (∀ x ∈ e.strobes, x.rq = .host → x.lost = true) ∧ (∀ x ∈ e.heldReads, x.rq = .fw) ∧
  (∀ x ∈ e.hints, x.rq = .fw) ∧ (∀ x ∈ e.icp.svc, x.tr = .pcie → x.lost = true) ∧
  (∀ x ∈ e.latch, fwCopy ≤ x.1) ∧ (∀ x ∈ e.heldLo, fwCopy ≤ x.1) ∧
  (d.fl F.SCRAPER_CFG_SQ3_SERVICE = false → e.scJob = none) ∧
  e.proof = d.proof ∧ e.active = d.active ∧ e.armed = d.armed ∧ e.late = d.late ∧
  e.surf = d.surf ∧ e.pipeSt = d.pipeSt ∧ e.hearth.mram = d.hearth.mram

theorem HostSideEnded.of {d y e : Dev} (h : OnlyRegs y e) (hy : HostSideEnded d y) : HostSideEnded d e := by
  have : HostSideEnded d { e with regs := y.regs } := h.h.symm ▸ hy
  exact this

/-- R373, R389: the engines end, and the banks, slots, surfaces and pipes stay, where a function-level reset stops them. -/
theorem enginesStop_flr (d : Dev) :
    let x := d.enginesStop (!d.fl F.SCRAPER_CFG_SQ3_SERVICE)
    x.dmaWords = [] ∧ (d.fl F.SCRAPER_CFG_SQ3_SERVICE = false → x.scJob = none) ∧
    x.proof = d.proof ∧ x.active = d.active ∧ x.armed = d.armed ∧ x.late = d.late ∧
    x.surf = d.surf ∧ x.pipeSt = d.pipeSt ∧ x.hearth.mram = d.hearth.mram ∧ x.power = d.power := by
  have h := (enginesStop_only d (!d.fl F.SCRAPER_CFG_SQ3_SERVICE)).same
  have hjob := congrArg Dev.scJob h
  refine ⟨(congrArg Dev.dmaWords h :), fun hs => ?_, (congrArg Dev.proof h :), (congrArg Dev.active h :),
    (congrArg Dev.armed h :), (congrArg Dev.late h :), (congrArg Dev.surf h :), (congrArg Dev.pipeSt h :),
    (congrArg (fun z : Dev => z.hearth.mram) h :), (congrArg Dev.power h :)⟩
  refine hjob.trans (if_neg ?_)
  simp [hs]

/-- R477: a function-level reset ends the host's side. -/
theorem functionLevelReset_ends (d : Dev) : HostSideEnded d (functionLevelReset d) := by
  obtain ⟨hwords, hjob, hproof, hactive, harmed, hlate, hsurf, hpipe, hmram, -⟩ := enginesStop_flr d
  refine .of (OnlyRegs.afterHostReset _ _ _) ?_
  refine ⟨hwords, rfl, rfl, fun x hx hq => ?_, fun x hx => ?_, fun x hx => ?_, fun x hx ht => ?_, fun x hx => ?_,
    fun x hx => ?_, hjob, hproof, hactive, harmed, hlate, hsurf, hpipe, hmram⟩
  · obtain ⟨y, -, rfl⟩ := List.mem_map.mp hx
    by_cases hy : y.rq = .host <;> simp_all
  · exact rq_eq_fw (List.mem_filter.mp hx).2
  · exact rq_eq_fw (List.mem_filter.mp hx).2
  · obtain ⟨y, -, rfl⟩ := List.mem_map.mp hx
    by_cases hy : y.tr = .pcie <;> simp_all
  · exact of_decide_eq_true (Tab.mem_keep hx)
  · exact of_decide_eq_true (Tab.mem_keep hx)

/-- R477: a function-level reset leaves the power state alone. -/
theorem functionLevelReset_power (d : Dev) : (functionLevelReset d).power = d.power := by
  obtain ⟨-, -, -, -, -, -, -, -, -, hpower⟩ := enginesStop_flr d
  unfold functionLevelReset
  exact (congrArg Dev.power (OnlyRegs.afterHostReset _ _ _).h :).trans hpower

/-- R478: PERST_N outside DEEP is a function-level reset that also closes the link. -/
theorem perstAssert_awake {d : Dev} (h : d.deep = false) :
    perstAssert d = { functionLevelReset d with power := { d.power with perst := true, pcie := false } } := by
  simp [perstAssert, h, functionLevelReset_power]

end Sys2Proof.Machine
end
section
/-! SUPPORT.  The settled statements of chapter 00: resets and register writes. -/

namespace Sys2Proof.Machine

/-- Settles O3: every table is empty at reset, and so is the queue. -/
theorem resetTablesAreCanonical : Obligations.ResetTablesAreCanonical := ⟨rfl, rfl⟩

/-- Settles O16: each write acknowledges the flags of its register, and the register's own rule then clears the counts. -/
theorem clrCountsClearsTheCounts : Obligations.ClrCountsClearsTheCounts :=
  ⟨fun _ _ _ hr hc => Gives.run rfl (dark_of_reaches hr) (regAt_commitErr_clrCounts hr hc),
    fun _ _ _ _ hr hc => Gives.run rfl (dark_of_reaches hr) (regAt_crustStatus_clrCounts hr hc),
    fun _ _ _ _ hr hc => Gives.run rfl (dark_of_reaches hr) (regAt_sigStatus_clrCounts hr hc)⟩

/-- Settles O28: RESET_N stops the engines and restarts the device, and what then stands is what `restart_leaves` lists. -/
theorem warmResetLeavesOnlyWhatSurvives : Obligations.WarmResetLeavesOnlyWhatSurvives := by
  rintro s _ hdark hup hfirst rfl
  have hreset : resetNAssert s.dev = s.dev.restart .pin 15 := by
    simp [resetNAssert, hup, Dev.warmReset, Dev.warmBy, hfirst]
  have hkept : s.dev.dramKept .pin 15 = s.dev.fl F.SYS_RESET_CTRL_RETAIN_DRAM := by simp [Dev.dramKept, ResetCause.rank]
  refine Completes.run (f := resetNAssert) rfl hdark ?_
  rw [hreset]
  obtain ⟨hleft, hmem⟩ := restart_leaves (d := s.dev) (c := .pin) (island := 15) rfl
  rw [hkept] at hmem
  have hdram : (s.dev.fl F.SYS_RESET_CTRL_RETAIN_DRAM = true →
        (s.dev.restart .pin 15).mem = (s.dev.enginesStop true).mem) ∧
      (s.dev.fl F.SYS_RESET_CTRL_RETAIN_DRAM = false → (s.dev.restart .pin 15).mem = []) :=
    ⟨fun h => hmem.trans (if_pos h), fun h => hmem.trans (if_neg (by simp [h]))⟩
  simpa only [LeftByWarmReset, and_assoc] using And.intro hleft (And.intro hdram enginesStop_quiet)

/-- Settles O29: PERST_N outside DEEP is a function-level reset that closes the link, and that reset ends the host's side. -/
theorem functionLevelResetStopsTheHostSide : Obligations.FunctionLevelResetStopsTheHostSide := by
  intro c s hc hdark
  obtain ⟨hdeep, hscan⟩ : s.dev.deep = false ∧ s.dev.power.scan = false := by simpa [Dev.dark] using hdark
  have hends := functionLevelReset_ends s.dev
  rcases hc with rfl | rfl
  · refine Completes.run (f := functionLevelReset) rfl hdark ?_
    simpa [HostSideEnded, and_assoc, functionLevelReset_power] using hends
  · refine ⟨{ s with dev := perstAssert s.dev }, State.runAon_of hscan, rfl, ?_⟩
    rw [perstAssert_awake hdeep]
    simpa [HostSideEnded, and_assoc] using hends

/-- Settles O41: the write is the plain write of the register's fields; with frame-banked fields among them the gate decides
    between the proof bank and a flag. -/
theorem layerWritesLandInTheProofBank : Obligations.LayerWritesLandInTheProofBank := by
  intro rq off data r s hr hlt hal hm ha hs hf hp mask n key d
  have hdark : s.dev.dark = false := dark_of_reaches hr
  have hwrite : regAt rq off.toNat data s.dev = plainWrite rq false [(off.toNat, data)] s.dev :=
    regAt_plain hr hlt hal hm ha hs hf hp
  have hreg : regOf off.toNat = r := by simp [regOf, hf]
  have hkept : OnlyRegsMismatches s.dev d := OnlyRegsMismatches.putUnbanked rq false off.toNat data s.dev
  refine ⟨fun hb => ?_, fun hb hw hn hc hclr => ?_, fun hb hw h1 h2 hbar => ?_, fun hb hv => ?_, fun hb h1 h2 hbar => ?_⟩
  · exact Gives.run rfl hdark (hwrite.trans (plainWrite_unbanked hb))
  · have hstore : storeBits off.toNat = n := by rw [storeBits, hreg]
    have hclear : clearBits off.toNat = 0 := by rw [clearBits, hreg, hc]
    refine Completes.run (f := regAt rq off.toNat data) rfl hdark ?_
    rw [hwrite, plainWrite_unbanked hb, ← hstore]
    exact putUnbanked_store (by simp [hf]) (hstore ▸ hn) hclear hw (hreg ▸ hclr)
  · obtain ⟨hproof, hactive, harmed, hlate⟩ := hkept.banks
    have hpf : d.pfV = s.dev.pfV := by rw [Dev.pfV, hproof]; rfl
    refine Completes.run (f := regAt rq off.toNat data) rfl hdark ?_
    rw [hwrite, plainWrite_open hb (bankGate_open h1 h2 hbar), ← hpf, ← hactive, ← harmed, ← hlate]
    exact putBanked_sets hf (hproof ▸ hw)
  · exact Gives.run rfl hdark (hwrite.trans (plainWrite_gated hb (bankGate_viewed hv)))
  · exact Gives.run rfl hdark (hwrite.trans (plainWrite_gated hb (bankGate_barred h1 h2 hbar)))

end Sys2Proof.Machine
end

section
/-! SUPPORT.  A step, and what the block does while no command waits (log 1). -/

namespace Sys2Proof.Machine

/-- A step with commands waiting is the front command's, on the state with the queue's rest. -/
theorem step_cons {s : State} {c : Instr} {rest : List Instr} (h : s.pending = c :: rest) :
    step s = exec c { s with pending := rest } := by rw [step, h]

/-- A step with no command waiting is the idle one. -/
theorem step_nil {s : State} (h : s.pending = []) : step s = idle s := by rw [step, h]

/-- A meaning that leaves the device as it is leaves the state as it is, dark or not. -/
theorem State.run_fixed {s : State} {f : Dev → Dev} (h : f s.dev = s.dev) : s.run f = .next s := by
  simp [State.run, h]

/-- R323: Hearth firmware that is not stopped has nothing to catch up on. -/
theorem fwResume_running {d : Dev} (h : d.hearth.stopped = false) : d.fwResume = d := by simp [Dev.fwResume, h]

/-- R384: with no channel ready, in HOLD or not, the copy engine moves nothing. -/
theorem engine_dmaBurst_none {d : Dev} (h : d.dmaNext = none) : Dev.engine Dev.dmaBurst d = d := by
  have hburst : d.dmaBurst = d := by rw [Dev.dmaBurst, h]
  rw [Dev.engine, hburst, ite_self]

end Sys2Proof.Machine
end

section
/-! SUPPORT.  The writes of SYS_TICK_CTRL and SYS_TICK_STATUS (R22, R29, R30). -/

namespace Sys2Proof.Machine

/-- A field of a written word is its bits. -/
theorem View.g_const {w : Word} {f : Fld} (h : f.lo + f.len ≤ 32) : View.g (fun _ => w) f = bits w.toNat f.lo f.len := by
  simp [View.g, Fld.get, Nat.not_lt.mpr h]

/-- R22: SRC of a written word. -/
theorem tickSrc_of_word (w : Word) : View.g (fun _ => w) F.SYS_TICK_CTRL_SRC = w.toNat % 8 := by
  rw [View.g_const (by decide), bits, show F.SYS_TICK_CTRL_SRC.lo = 0 from rfl, Nat.pow_zero, Nat.div_one]
  rfl

/-- A direct write of SYS_TICK_CTRL acts by its own rule. -/
theorem regAt_tickCtrl (q : Rq) (w : Word) (d : Dev) : regAt q F.SYS_TICK_CTRL_SRC.off w d = tickCtrlWrite q false w d :=
  regAt_eq_body (starterBars_sys (by decide)) (by decide)

/-- A direct write of SYS_TICK_STATUS acts by its own rule. -/
theorem regAt_tickStatus (q : Rq) (w : Word) (d : Dev) :
    regAt q F.SYS_TICK_STATUS_CLR_COUNTS.off w d = tickStatusWrite q w d :=
  regAt_eq_body (starterBars_sys (by decide)) (by decide)

/-- R22: a source above 4 is flagged. -/
theorem tickCtrlWrite_bad {q : Rq} {w : Word} {d : Dev} (h : 5 ≤ w.toNat % 8) :
    tickCtrlWrite q false w d = d.up F.SYS_TICK_STATUS_BAD_SRC := by rw [tickCtrlWrite, tickSrc_of_word, if_pos h]

/-- R22, R29: a source of 0 to 4 is stored in the field, and nothing else changes. -/
theorem tickCtrlWrite_stores {q : Rq} {w : Word} {d : Dev} (h : w.toNat % 8 < 5) (hw : Tab.wf dfltU d.regs = true) :
    (tickCtrlWrite q false w d).unV F.SYS_TICK_CTRL_SRC.off = (d.unV F.SYS_TICK_CTRL_SRC.off &&& ~~~7) ||| (w &&& 7) ∧
    d.sameBut (tickCtrlWrite q false w d) [F.SYS_TICK_CTRL_SRC.off] := by
  have hmask : storeBits F.SYS_TICK_CTRL_SRC.off = 7 := by decide
  have hkey : keyFor q F.SYS_TICK_CTRL_SRC.off = F.SYS_TICK_CTRL_SRC.off := keyFor_shared (by decide)
  rw [tickCtrlWrite, tickSrc_of_word, if_neg (by omega), plainWrite_unbanked (by decide), ← hmask]
  have hput := putUnbanked_store (q := q) (w := w) (off := F.SYS_TICK_CTRL_SRC.off) (by decide) (by decide) (by decide)
    hw (by decide)
  rwa [hkey] at hput

/-- R30: CLR_COUNTS clears both tick counts, once BAD_SRC is acknowledged. -/
theorem tickStatusWrite_clears {q : Rq} {w : Word} {d : Dev} (h : bit w.toNat 8 = true) :
    tickStatusWrite q w d =
      ((d.ack F.SYS_TICK_STATUS_BAD_SRC.off 0x20 w).dn F.SYS_TICK_STATUS_SKIPPED_COUNT).dn F.SYS_TICK_CARRY_COUNT := by
  have hon : View.on (fun _ => w) F.SYS_TICK_STATUS_CLR_COUNTS = true := (on_of_bit rfl (by decide)).trans h
  have hack : plainWrite q false [(F.SYS_TICK_STATUS_BAD_SRC.off, w)] d = d.ack F.SYS_TICK_STATUS_BAD_SRC.off 0x20 w := by
    rw [plainWrite_ack _ 0x20 (by decide) (by decide) (by decide) (by decide) (by decide), keyFor_shared (by decide)]
  rw [tickStatusWrite, hack, if_pos hon]

end Sys2Proof.Machine
end

section
/-! SUPPORT.  The commit strobe (R85 to R89, R94, R98): what refuses it, and what a strobe that is taken leaves. -/

namespace Sys2Proof.Machine

/-- R86: the strobe has LAYER_SEL = 3, or names no target. -/
def Dev.strobeBad (d : Dev) (q : Rq) (w : Word) : Bool :=
  decide (bits w.toNat 24 2 = 3) || (d.strobeTargets q w).isEmpty

/-- R38: a strobe that is not refused flags and counts the targets barred to its requester on their service-owned pipes. -/
def Dev.strobeFlagged (d : Dev) (q : Rq) (w : Word) : Dev :=
  Dev.each (fun p d => d.ownViolation p)
    (pipes.filter (fun p => (d.strobeTargets q w).any (fun b => (d.barredFor q b).contains p))) d

/-- R38: the targets of a strobe on `d` that `e`, `d` with the violations flagged, does not bar to the requester. -/
def Dev.strobeKept (d e : Dev) (q : Rq) (w : Word) : List BlkId :=
  (d.strobeTargets q w).filter (fun b => (e.barredFor q b).isEmpty)

/-- R87 to R89, R98: a strobe of the targets `bs` is taken. -/
def Dev.strobeTake (d0 : Dev) (q : Rq) (bs : List BlkId) : Dev :=
  let d := d0.snapParity bs
  let seq := (d.seq + 1) % 65536
  let snaps := bs.map (d.snapshot q seq)
  let late := d.latePipes (d.pipeSet snaps)
  let d1 := (Dev.each (fun p d => d.lateCount p) late d).onlyIf (!late.isEmpty) (·.attn .late)
  let st : Strobe :=
    { rq := q, seq := seq, pipes := d.pipeSet snaps, snaps := snaps, late := late,
      swapsAt := pipes.map (fun p => d.rg (F.PIPE_SWAP_COUNT_SWAPS.i p)), parity := d.parityIn bs }
  ((({ d1 with seq := seq, strobes := d1.strobes ++ [st] }.sg (F.COMMIT_STATUS_SEQ.rq q) seq).up
    (F.COMMIT_STATUS_PENDING.rq q)).dn (F.COMMIT_STATUS_DONE.rq q)).dn (F.COMMIT_STATUS_ACCEPTED.rq q)

/-- R86, R94: a strobe that is bad, or that meets the requester's last, sets the flags of what it is and nothing else. -/
theorem commitStrobe_refused {q : Rq} {w : Word} {d : Dev} (h : (d.strobeBad q w || d.strobeBusy q) = true) :
    commitStrobe q w d =
      (d.onlyIf (d.strobeBad q w) (·.up (F.COMMIT_ERR_BAD_STROBE.rq q))).onlyIf (d.strobeBusy q)
        (·.up (F.COMMIT_ERR_STROBE_BUSY.rq q)) :=
  if_pos h

/-- R38: every target of a strobe is barred to its requester. -/
theorem commitStrobe_barred {q : Rq} {w : Word} {d : Dev} (hbad : d.strobeBad q w = false) (hbusy : d.strobeBusy q = false)
    (hkept : d.strobeKept (d.strobeFlagged q w) q w = []) :
    commitStrobe q w d = (d.strobeFlagged q w).up (F.COMMIT_ERR_BAD_STROBE.rq q) :=
  have hopen : ¬ (d.strobeBad q w || d.strobeBusy q) = true := by simp [hbad, hbusy]
  (if_neg hopen).trans (if_pos hkept)

/-- R87: a strobe with a target that is not barred to its requester is taken. -/
theorem commitStrobe_taken {q : Rq} {w : Word} {d : Dev} (hbad : d.strobeBad q w = false) (hbusy : d.strobeBusy q = false)
    (hkept : d.strobeKept (d.strobeFlagged q w) q w ≠ []) :
    commitStrobe q w d = (d.strobeFlagged q w).strobeTake q (d.strobeKept (d.strobeFlagged q w) q w) :=
  have hopen : ¬ (d.strobeBad q w || d.strobeBusy q) = true := by simp [hbad, hbusy]
  (if_neg hopen).trans (if_neg hkept)

/-- A direct write of COMMIT_STROBE acts by its own rule. -/
theorem regAt_commitStrobe {q : Rq} {w : Word} {d : Dev} (hr : d.reaches q = true) :
    regAt q F.COMMIT_STROBE_PIPE.off w d = commitStrobe q w d :=
  regAt_eq_body (starterBars_of_reaches hr) (by decide)

end Sys2Proof.Machine
end

section
/-! SUPPORT.  The surface, fence and pipe rows of ICP (R41, R42, R149, R423, R427): which operands they refuse, and what each
    answers. -/

namespace Sys2Proof.Machine

/-- The codes of the surface and fence tables are not BAD_PARAM (R132, R148). -/
theorem TabCode.num_ne_badParam (c : TabCode) : c.num ≠ 0x43 := by cases c <;> decide

/-- R132: a SID in range is no bad parameter. -/
theorem badSid_of_lt {ps : List Word} (h : param ps 0 < 16384) : badSid (nums ps) = false :=
  decide_eq_false (Nat.not_le.mpr h)

/-- R147: a FID in range is no bad parameter. -/
theorem badFid_of_lt {ps : List Word} (h : param ps 0 < 4096) : badFid (nums ps) = false :=
  decide_eq_false (Nat.not_le.mpr h)

/-- R41: a pipe in range is no bad parameter. -/
theorem badPipe_of_lt {ps : List Word} (h : param ps 0 < 4) : badPipe (nums ps) = false :=
  decide_eq_false (Nat.not_le.mpr h)

/-- R423: PIPE_HANDOVER takes a pipe and a base aligned to 4 KiB below 2⁴⁰. -/
theorem badHandover_of {ps : List Word} (hpipe : param ps 0 < 4) (halign : param ps 1 % 4096 = 0) (hbase : param ps 2 < 256) :
    badHandover (nums ps) = false := by
  have ha : prm (nums ps) 1 % 4096 = 0 := halign
  have hb : ¬ 256 ≤ prm (nums ps) 2 := Nat.not_le.mpr hbase
  simp [badHandover, badPipe_of_lt hpipe, ha, hb]

/-- R151: outside the cycle of an earlier doorbell, a doorbell is tested against the fence's value. -/
theorem bellBase_alone {d : Dev} {f : Nat} (h : d.soon = false) : d.bellBase f = (d.fenceAt f).val.toNat := by
  rw [Dev.bellBase, h]

section
variable {p : List Nat} {d : Dev}

/-- R147: FENCE_ALLOC answers what the table's ALLOC does.  Stated of a result given by name, so that comparing two results
    never searches the table. -/
theorem opFenceAlloc_eq {r : TabCode × Nat × Dev}
    (h : d.fenceAllocate (bit (prm p 0) 16) (prm p 0 % 4096) (prm2 p 1) = r) :
    opFenceAlloc p d = { code := r.1.num, pay := [r.2.1], dev := r.2.2 } := by
  rw [opFenceAlloc, h]

/-- R149: a FENCE_SIGNAL of a FREE fence. -/
theorem opFenceSignal_free (h : (d.fenceAt (prm p 0)).alloc = false) :
    opFenceSignal p d = { code := 3, dev := d.up F.FENCE_STATUS_DOORBELL_FREE } := by
  simp [opFenceSignal, Dev.doorbell, h]

/-- R149: a FENCE_SIGNAL of a lower value. -/
theorem opFenceSignal_backward (h : (d.fenceAt (prm p 0)).alloc = true) (hv : prm2 p 1 < d.bellBase (prm p 0)) :
    opFenceSignal p d = { code := 0x50, dev := d.up F.FENCE_STATUS_BACKWARD } := by
  simp [opFenceSignal, Dev.doorbell, h, hv]

/-- R149: a FENCE_SIGNAL of a value that is not lower. -/
theorem opFenceSignal_raises (h : (d.fenceAt (prm p 0)).alloc = true) (hv : d.bellBase (prm p 0) ≤ prm2 p 1) :
    opFenceSignal p d = { dev := ({ d with bell := some (prm p 0, d.bellBase (prm p 0)) }.fenceNow (prm p 0)
      { d.fenceAt (prm p 0) with val := BitVec.ofNat 64 (max (prm2 p 1) (d.fenceAt (prm p 0)).val.toNat) }) } := by
  simp [opFenceSignal, Dev.doorbell, h, Nat.not_lt.mpr hv]

/-- R41: PIPE_HANDOVER while a change of owner is under way. -/
theorem opPipeHandover_pending (hp : d.fl (F.PIPE_OWNER_PENDING.i (prm p 0)) = true) :
    opPipeHandover p d = { code := 0x48, dev := d } := by
  rw [opPipeHandover, if_pos hp]

/-- R41: PIPE_HANDOVER of a pipe that the service owns. -/
theorem opPipeHandover_owned (hp : d.fl (F.PIPE_OWNER_PENDING.i (prm p 0)) = false)
    (ho : d.fl (F.PIPE_OWNER_OWNER.i (prm p 0)) = true) : opPipeHandover p d = { code := 0x4A, dev := d } := by
  simp [opPipeHandover, hp, ho]

/-- R427: PIPE_HANDOVER with a region that does not fit. -/
theorem opPipeHandover_badRegion (hp : d.fl (F.PIPE_OWNER_PENDING.i (prm p 0)) = false)
    (ho : d.fl (F.PIPE_OWNER_OWNER.i (prm p 0)) = false)
    (hr : d.regionOk d.acV (prm p 0) (prm2 p 1) (prm p 3 * 4096) = false) : opPipeHandover p d = { code := 7, dev := d } := by
  simp [opPipeHandover, hp, ho, hr]

/-- R427: PIPE_HANDOVER with fewer than four SIDs free. -/
theorem opPipeHandover_full (hp : d.fl (F.PIPE_OWNER_PENDING.i (prm p 0)) = false)
    (ho : d.fl (F.PIPE_OWNER_OWNER.i (prm p 0)) = false)
    (hr : d.regionOk d.acV (prm p 0) (prm2 p 1) (prm p 3 * 4096) = true) (hs : d.topSids.length < 4) :
    opPipeHandover p d = { code := 1, dev := d } := by
  simp [opPipeHandover, hp, ho, hr, hs]

/-- R41, R427: PIPE_HANDOVER of a host-owned pipe with a region that fits. -/
theorem opPipeHandover_begins (hp : d.fl (F.PIPE_OWNER_PENDING.i (prm p 0)) = false)
    (ho : d.fl (F.PIPE_OWNER_OWNER.i (prm p 0)) = false)
    (hr : d.regionOk d.acV (prm p 0) (prm2 p 1) (prm p 3 * 4096) = true) (hs : 4 ≤ d.topSids.length) :
    opPipeHandover p d =
      let e := d.putSvc (prm p 0) { base := prm2 p 1, size := prm p 3 * 4096, timing := timingWords d.acV (prm p 0) }
      { dev := (e.overlaysOn e.acV (prm p 0)).ownerBegin (prm p 0) } := by
  simp [opPipeHandover, hp, ho, hr, Nat.not_lt.mpr hs]

/-- R42: PIPE_RECLAIM while a change of owner is under way. -/
theorem opPipeReclaim_pending (hp : d.fl (F.PIPE_OWNER_PENDING.i (prm p 0)) = true) :
    opPipeReclaim p d = { code := 0x48, dev := d } := by
  rw [opPipeReclaim, if_pos hp]

/-- R42: PIPE_RECLAIM of a pipe that the host owns. -/
theorem opPipeReclaim_unowned (hp : d.fl (F.PIPE_OWNER_PENDING.i (prm p 0)) = false)
    (ho : d.fl (F.PIPE_OWNER_OWNER.i (prm p 0)) = false) : opPipeReclaim p d = { code := 0x49, dev := d } := by
  simp [opPipeReclaim, hp, ho]

/-- R42, R425: PIPE_RECLAIM of a pipe that the service owns drops its staging. -/
theorem opPipeReclaim_begins (hp : d.fl (F.PIPE_OWNER_PENDING.i (prm p 0)) = false)
    (ho : d.fl (F.PIPE_OWNER_OWNER.i (prm p 0)) = true) :
    opPipeReclaim p d =
      { dev := (d.putSvc (prm p 0) { d.svcOf (prm p 0) with staged := none }).ownerBegin (prm p 0) } := by
  simp [opPipeReclaim, hp, ho]

end

end Sys2Proof.Machine
end

section
/-! SUPPORT.  The settled statements of chapter 01: the step, ticks, commit strobes and the table and pipe rows of ICP. -/

namespace Sys2Proof.Machine

/-- Settles O1: a step is the front command's, which completes with its queue (`exec_kc`), or the idle one. -/
theorem aStepRunsTheFrontCommand : Obligations.AStepRunsTheFrontCommand := by
  intro s
  refine ⟨fun c rest hq => ⟨step_cons hq, ?_⟩, fun hq hdark => ?_, fun hq hdark => ?_, fun hq hrun hnone => ?_⟩
  · obtain ⟨t, hexec, hpending, -⟩ := exec_kc c { s with pending := rest }
    exact ⟨t, hexec, hpending⟩
  · rw [step_nil hq, idle, State.run_dark hdark]
  · rw [step_nil hq, idle, State.run_of hdark]
  · rw [step_nil hq, idle, State.run_fixed]
    rw [fwResume_running hrun, engine_dmaBurst_none hnone]

/-- Settles O7: each register is written by its own rule, in the SYS block, which Starter mode never bars. -/
theorem tickRegisterWrites : Obligations.TickRegisterWrites := by
  intro rq data s hcanon hdark
  refine ⟨fun hbad => ?_, fun hsrc => ?_, fun hclr => ?_⟩
  · exact Gives.run rfl hdark ((regAt_tickCtrl rq data s.dev).trans (tickCtrlWrite_bad hbad))
  · refine Completes.run (f := regAt rq F.SYS_TICK_CTRL_SRC.off data) rfl hdark ?_
    rw [regAt_tickCtrl]
    exact tickCtrlWrite_stores hsrc (Dev.canon_regs hcanon)
  · exact Gives.run rfl hdark ((regAt_tickStatus rq data s.dev).trans (tickStatusWrite_clears hclr))

/-- Settles O39: the strobe is refused with the flags of what it is, keeps no target, or is taken with those it keeps. -/
theorem strobesSnapshotTheirTargets : Obligations.StrobesSnapshotTheirTargets := by
  intro rq data s hr bs bad busy d0 kept
  have gives : ∀ {e : Dev}, commitStrobe rq data s.dev = e → Gives (.commitStrobe rq data) s e :=
    fun h => Gives.run rfl (dark_of_reaches hr) ((regAt_commitStrobe hr).trans h)
  have refused : (bad || busy) = true → commitStrobe rq data s.dev =
      (s.dev.onlyIf bad (·.up (F.COMMIT_ERR_BAD_STROBE.rq rq))).onlyIf busy (·.up (F.COMMIT_ERR_STROBE_BUSY.rq rq)) :=
    commitStrobe_refused
  refine ⟨fun hbad hbusy => gives ?_, fun hbad hbusy => gives ?_, fun hbad hbusy => gives ?_,
    fun hbad hbusy hkept => gives (commitStrobe_barred hbad hbusy hkept),
    fun hbad hbusy hkept => gives (commitStrobe_taken hbad hbusy hkept)⟩
  all_goals rw [refused (by rw [hbad, hbusy]; rfl), hbad, hbusy]; rfl

/-- Settles O46: each row passes its tests and has no bad operand, so that it replies what its operation answers. -/
theorem icpTableAndLayoutRows : Obligations.IcpTableAndLayoutRows := by
  intro tr seq ps s d P n f own pend hw
  refine ⟨fun h => ?_, fun h hsid => ?_, fun h hsid => ?_, fun h => ?_, fun h hfid => ?_, bellBase_alone,
    fun h hfid halloc hv => ?_, fun h hfid halloc hv => ?_, fun h hfid hfree => ?_, fun h hpipe halign hbase => ?_,
    fun h hpipe => ?_, fun h hpipe => ?_⟩
  · exact replies (f := opSurfRegister) rfl h rfl rfl (TabCode.num_ne_badParam _)
  · exact replies (f := opSurfUnregister) rfl h (badSid_of_lt hsid) rfl (TabCode.num_ne_badParam _)
  · exact replies (f := opSurfClearTorn) rfl h (badSid_of_lt hsid) rfl (TabCode.num_ne_badParam _)
  · exact replies rfl h rfl (opFenceAlloc_eq rfl) (TabCode.num_ne_badParam _)
  · exact replies (f := opFenceFree) rfl h (badFid_of_lt hfid) rfl (TabCode.num_ne_badParam _)
  · exact replies rfl h (badFid_of_lt hfid) (opFenceSignal_raises halloc hv) (by decide)
  · exact replies rfl h (badFid_of_lt hfid) (opFenceSignal_backward halloc hv) (by decide)
  · exact replies rfl h (badFid_of_lt hfid) (opFenceSignal_free hfree) (by decide)
  · have hbad := badHandover_of hpipe halign hbase
    exact ⟨fun hp => replies rfl h hbad (opPipeHandover_pending hp) (by decide),
      fun hp ho => replies rfl h hbad (opPipeHandover_owned hp ho) (by decide),
      fun hp ho hr => replies rfl h hbad (opPipeHandover_badRegion hp ho hr) (by decide),
      fun hp ho hr hs => replies rfl h hbad (opPipeHandover_full hp ho hr hs) (by decide),
      fun hp ho hr hs => replies rfl h hbad (opPipeHandover_begins hp ho hr hs) (by decide)⟩
  · have hbad := badPipe_of_lt hpipe
    exact ⟨fun hp => replies rfl h hbad (opPipeReclaim_pending hp) (by decide),
      fun hp ho => replies rfl h hbad (opPipeReclaim_unowned hp ho) (by decide),
      fun hp ho => replies rfl h hbad (opPipeReclaim_begins hp ho) (by decide)⟩
  · exact replies (f := opPipeReset) rfl h (badPipe_of_lt hpipe) rfl (by decide)

end Sys2Proof.Machine
end

section
/-! SUPPORT.  An access to a doubleword of the register window (R47 to R52): how its byte enables class it, and what a write or a
    read outside the rules answers. -/

namespace Sys2Proof.Machine

/-- R52: an aligned 8-bit or 16-bit access is narrow. -/
theorem widthOf_narrow {be : BitVec 4} (h : be = 1 ∨ be = 2 ∨ be = 4 ∨ be = 8 ∨ be = 3 ∨ be = 12) :
    widthOf be.toNat = .narrow := by
  rcases h with rfl | rfl | rfl | rfl | rfl | rfl <;> rfl

/-- R52: any other access that is not of all four bytes is unaligned. -/
theorem widthOf_unaligned {be : BitVec 4}
    (h : be = 5 ∨ be = 6 ∨ be = 7 ∨ be = 9 ∨ be = 10 ∨ be = 11 ∨ be = 13 ∨ be = 14) : widthOf be.toNat = .unaligned := by
  rcases h with rfl | rfl | rfl | rfl | rfl | rfl | rfl | rfl <;> rfl

/-- R51: an access has no width only where it enables no byte. -/
theorem widthOf_ne_none {be : BitVec 4} (h : be ≠ 0) : widthOf be.toNat ≠ .none := by
  revert be; decide

section
variable {q : Rq} {win be : Nat} {w : Word} {d : Dev}

/-- R51: a write with no byte enabled does nothing. -/
theorem regWrite_none (hw : widthOf be = .none) : regWrite q win be w d = d := by simp [regWrite, hw]

/-- R49: a write to an unmapped offset, of any width. -/
theorem regWrite_unmapped (hw : widthOf be ≠ .none) (hs : d.starterBars q (primOf win) = false)
    (hm : mapped (primOf win) = false) : regWrite q win be w d = d.accErr q .unmapped true (firstByte win be) := by
  simp [regWrite, hw, hs, hm]

/-- R52: a narrow write to a mapped offset. -/
theorem regWrite_narrow (hw : widthOf be = .narrow) (hs : d.starterBars q (primOf win) = false)
    (hm : mapped (primOf win) = true) : regWrite q win be w d = d.accErr q .width true (firstByte win be) := by
  simp [regWrite, hw, hs, hm]

/-- R52: an unaligned write to a mapped offset. -/
theorem regWrite_unaligned (hw : widthOf be = .unaligned) (hs : d.starterBars q (primOf win) = false)
    (hm : mapped (primOf win) = true) : regWrite q win be w d = d.accErr q .align true (firstByte win be) := by
  simp [regWrite, hw, hs, hm]

/-- R58: a read is not held where its posted area, if any, has no write in flight. -/
theorem regRead_now (hw : widthOf be ≠ .none) (hidle : (areaOf (primOf win)).all (fun a => !d.areaBusy a) = true) :
    regRead q win be d = readNow q win be d := by
  unfold regRead
  rw [if_neg hw]
  cases harea : areaOf (primOf win) with
  | none => rfl
  | some a =>
    have hfree : d.areaBusy a = false := by simpa [harea] using hidle
    simp [hfree]

/-- R49: a read of an unmapped offset. -/
theorem readNow_unmapped (hm : mapped (primOf win) = false) :
    readNow q win be d = (d.accErr q .unmapped false (firstByte win be)).send (.read q (laneBytes be 0)) := by
  simp [readNow, hm]

/-- R52: an unaligned read of a mapped offset. -/
theorem readNow_unaligned (hw : widthOf be = .unaligned) (hm : mapped (primOf win) = true) :
    readNow q win be d = (d.accErr q .align false (firstByte win be)).send (.read q (laneBytes be (BitVec.allOnes 32))) := by
  simp [readNow, hw, hm]

end

/-- R51: a write request outside DEEP and structural scan: its first doubleword, then the rest at the next address. -/
theorem exec_regWrite {q : Rq} {win : Win} {off : BitVec 26} {be : BitVec 4} {w : Word} {more : List (BitVec 4 × Word)}
    {s : State} (h : s.dev.dark = false) :
    exec (.regWrite q win off be ⟨w, more⟩) s =
      .next { s with dev := burstWrite q win (off.toNat + 4) more (winWrite q win off.toNat be.toNat w s.dev) } :=
  State.run_of (f := burstWrite q win off.toNat ((be, w) :: more)) h

/-- R51: the device after the first doubleword of a write request is the one in which the rest acts. -/
theorem exec_regWrite_cons {q : Rq} {win : Win} {off : BitVec 26} {be : BitVec 4} {w : Word} {x : BitVec 4 × Word}
    {more : List (BitVec 4 × Word)} {s : State} {e : Dev} (hlt : off.toNat + 4 < 2 ^ 26) (hs : s.dev.dark = false)
    (he : e.dark = false) (hfirst : Gives (.regWrite q win off be ⟨w, []⟩) s e) :
    exec (.regWrite q win off be ⟨w, x :: more⟩) s
      = exec (.regWrite q win (off + 4) x.1 ⟨x.2, more⟩) { s with dev := e } := by
  have hdev : winWrite q win off.toNat be.toNat w s.dev = e := by
    rw [Gives, exec_regWrite hs] at hfirst
    injection hfirst with hstate
    exact congrArg State.dev hstate
  have hnext : (off + 4).toNat = off.toNat + 4 := by
    rw [BitVec.toNat_add]
    exact Nat.mod_eq_of_lt hlt
  rw [exec_regWrite hs, exec_regWrite (s := { s with dev := e }) he, hdev, hnext]
  rfl

end Sys2Proof.Machine
end

section
/-! SUPPORT.  Posted areas (R58 to R60): a write to one waits, or is dropped, and one that has waited lands. -/

namespace Sys2Proof.Machine

/-- R47: an aligned offset below 2²⁴ names a doubleword of the primary map. -/
theorem primary_of_aligned {off : Nat} (hlt : off < 2 ^ 24) (hal : off % 4 = 0) :
    primOf off = off ∧ off / 4 * 4 = off ∧ mapOf off = 0 := by
  refine ⟨?_, by omega, ?_⟩
  · unfold primOf; omega
  · unfold mapOf; omega

section
variable {q : Rq} {off a : Nat} {w : Word} {d : Dev}

/-- A direct write of all four bytes of a mapped doubleword acts at once or is posted. -/
theorem regAt_full (hr : d.reaches q = true) (hlt : off < 2 ^ 24) (hal : off % 4 = 0) (hm : mapped off = true) :
    regAt q off w d = regFull q off w d := by
  obtain ⟨hprim, halign, -⟩ := primary_of_aligned hlt hal
  simp [regAt, regWrite, show widthOf 15 = .full from rfl, hprim, halign, hm, starterBars_of_reaches hr]

/-- R60: a write to an unpowered posted area is dropped. -/
theorem regFull_unpowered (hlt : off < 2 ^ 24) (hal : off % 4 = 0) (ha : areaOf off = some a) (hoff : d.areaOff a off = true) :
    regFull q off w d = d.postedDrop q a true off := by
  simp [regFull, (primary_of_aligned hlt hal).1, ha, hoff]

/-- R58: a write to a busy posted area is dropped. -/
theorem regFull_busy (hlt : off < 2 ^ 24) (hal : off % 4 = 0) (ha : areaOf off = some a) (hoff : d.areaOff a off = false)
    (hbusy : d.areaBusy a = true) : regFull q off w d = d.postedDrop q a false off := by
  simp [regFull, (primary_of_aligned hlt hal).1, ha, hoff, hbusy]

/-- R58: a direct write to an idle posted area waits, and its area shows BUSY. -/
theorem regFull_waits (hlt : off < 2 ^ 24) (hal : off % 4 = 0) (ha : areaOf off = some a) (hoff : d.areaOff a off = false)
    (hbusy : d.areaBusy a = false) :
    regFull q off w d = ({ d with posted := d.posted ++ [(⟨a, q, 0, off, w, true⟩ : PostedWr)] }).postedShow := by
  obtain ⟨hprim, -, hmap⟩ := primary_of_aligned hlt hal
  simp [regFull, hprim, hmap, ha, hoff, hbusy, Dev.aliasFlag]

end

/-- R58: the first waiting write of an area takes its effect, and with no read held nothing else happens. -/
theorem postedLanded_unread {a : Nat} {x : PostedWr} {d e : Dev} (hx : firstWith (fun w => w.area == a) d.posted = some x)
    (he : e = regApply x.rq x.map x.off x.off x.data ({ d with posted := d.posted.erase x }).postedShow)
    (hread : e.heldReads = []) : postedLanded a d = e := by
  have hsame : { e with heldReads := [] } = e := hread ▸ rfl
  simp [postedLanded, hx, ← he, hread, hsame]

end Sys2Proof.Machine
end

section
/-! SUPPORT.  The key-guarded registers and SYS_LOCKDOWN (R61 to R63). -/

namespace Sys2Proof.Machine

section
variable {q : Rq} {w : Word} {d : Dev}

/-- R61: the targets of the three guarded registers. -/
theorem unlockTarget_listed {t : Nat} : rwkOffs.any (fun o => unlockTarget o == t) = true ↔ t = 5 ∨ t = 2 ∨ t = 16 := by
  have htargets : rwkOffs.map unlockTarget = [5, 2, 16] := by decide
  have hany : rwkOffs.any (fun o => unlockTarget o == t) = (rwkOffs.map unlockTarget).any (· == t) := by
    rw [List.any_map]; rfl
  rw [hany, htargets]
  simp only [List.any_cons, List.any_nil, Bool.or_false, Bool.or_eq_true, beq_iff_eq]
  omega

/-- R61, R62: the keys that arm an unlock: the key constant over the target of a guarded register. -/
theorem unlockKey_iff {n : Nat} :
    (n / 65536 = 0x6A3C ∧ rwkOffs.any (fun o => unlockTarget o == n % 65536) = true) ↔
      n = 0x6A3C0005 ∨ n = 0x6A3C0002 ∨ n = 0x6A3C0010 := by
  rw [unlockTarget_listed]
  omega

/-- R62: a listed key arms the requester's unlock. -/
theorem unlockWrite_arms {win : Nat} (hkey : w.toNat = 0x6A3C0005 ∨ w.toNat = 0x6A3C0002 ∨ w.toNat = 0x6A3C0010)
    (hon : d.fl F.SYS_LOCKDOWN_UNLOCK_DISABLE = false) :
    unlockWrite q w win d =
      ((d.up (F.SYS_UNLOCK_ARMED.rq q)).sg (F.SYS_UNLOCK_TARGET.rq q) (w.toNat % 65536)).restore .unbanked 0x10 := by
  obtain ⟨hconst, htarget⟩ := unlockKey_iff.mpr hkey
  exact if_pos ⟨hconst, htarget, by simp [hon]⟩

/-- R62: any other write of SYS_UNLOCK, or any while unlocks are disabled, cancels the unlock and is flagged. -/
theorem unlockWrite_refused {win : Nat} (h : ¬ ((w.toNat = 0x6A3C0005 ∨ w.toNat = 0x6A3C0002 ∨ w.toNat = 0x6A3C0010) ∧
    d.fl F.SYS_LOCKDOWN_UNLOCK_DISABLE = false)) : unlockWrite q w win d = (d.unlockOff q).accErr q .keyBad true win :=
  if_neg fun ⟨hconst, htarget, hon⟩ => h ⟨unlockKey_iff.mp ⟨hconst, htarget⟩, by simpa using hon⟩

/-- A direct write of SYS_UNLOCK acts by its own rule. -/
theorem regAt_sysUnlock : regAt q F.SYS_UNLOCK_TARGET.off w d = unlockWrite q w 0x10 d :=
  regAt_eq_body (starterBars_sys (by decide)) (by decide)

/-- A direct write of SYS_LOCKDOWN acts by its own rule. -/
theorem regAt_sysLockdown : regAt q F.SYS_LOCKDOWN_UNLOCK_DISABLE.off w d = lockdownWrite q w 0x18 d :=
  regAt_eq_body (starterBars_sys (by decide)) (by decide)

/-- R63, R73: the first write of SYS_LOCKDOWN stores its two bits and locks it. -/
theorem lockdownWrite_first {win : Nat} (h : d.locked = false) :
    lockdownWrite q w win d = { d.putUnbanked q false 0x18 w with locked := true } := by
  have hplain : plainWrite q false [(F.SYS_LOCKDOWN_UNLOCK_DISABLE.off, w)] d = d.putUnbanked q false 0x18 w :=
    plainWrite_unbanked (by decide)
  rw [lockdownWrite, h, hplain]
  rfl

/-- R63: a later write of the host is a lock violation. -/
theorem lockdownWrite_host {win : Nat} (h : d.locked = true) :
    lockdownWrite .host w win d = (d.accErr .host .lockViolation true win).incSat F.SYS_ACCESS_COUNT_LOCK_VIOLATIONS :=
  if_pos h

/-- R63: a later write of Hearth firmware does nothing. -/
theorem lockdownWrite_fw {win : Nat} (h : d.locked = true) : lockdownWrite .fw w win d = d := if_pos h

/-- R62: without its unlock a guarded register is not written. -/
theorem keyed_locked {off win : Nat} {f : Dev → Dev} (h : d.unlocked q off = false) :
    d.keyed q off win f = d.accErr q .lockedWrite true win := by
  rw [Dev.keyed, h]; rfl

/-- R62: a write that meets its unlock uses it up. -/
theorem keyed_unlocked {off win : Nat} {f : Dev → Dev} (h : d.unlocked q off = true) :
    d.keyed q off win f = f (d.unlockOff q) := if_pos h

/-- A direct write of SYS_RESET_CTRL needs its unlock. -/
theorem regAt_sysResetCtrl :
    regAt q F.SYS_RESET_CTRL_WARM_RESET.off w d = d.keyed q 0x14 0x14 (resetCtrlWrite w) :=
  regAt_eq_body (starterBars_sys (by decide)) (by decide)

/-- A direct write of FETCH_EFF needs its unlock. -/
theorem regAt_fetchEff (hr : d.reaches q = true) : regAt q F.FETCH_EFF_EFF.off w d =
    d.keyed q 0x80008 0x80008 (fun d => (fetchEffWrite w d).restore .unbanked 0x80008) :=
  regAt_eq_body (starterBars_of_reaches hr) (by decide)

/-- A direct write of SECURE_DEBUG needs its unlock. -/
theorem regAt_secureDebug (hr : d.reaches q = true) : regAt q F.SECURE_DEBUG_SCAN_REQ.off w d =
    d.keyed q 0x100040 0x100040 (fun d => scanReq w ((d.w1cAt 0x100040 w).restore .unbanked 0x100040)) :=
  regAt_eq_body (starterBars_of_reaches hr) (by decide)

/-- R72: RETAIN_DRAM of a written word. -/
theorem retainDram_of_word : b2n (View.on (fun _ => w) F.SYS_RESET_CTRL_RETAIN_DRAM) = w.toNat / 256 % 2 := by
  rw [on_of_bit rfl (by decide), show F.SYS_RESET_CTRL_RETAIN_DRAM.lo = 8 from rfl, bit, b2n]
  rcases Nat.mod_two_eq_zero_or_one (w.toNat / 256) with h | h <;> simp [h]

/-- R72: SYS_RESET_CTRL takes RETAIN_DRAM, and WARM_RESET resets the device. -/
theorem resetCtrlWrite_eq : resetCtrlWrite w d =
    ((d.sg F.SYS_RESET_CTRL_RETAIN_DRAM (w.toNat / 256 % 2)).restore .unbanked 0x14).onlyIf (bit w.toNat 0)
      (·.warmReset .software) := by
  have hreset : View.on (fun _ => w) F.SYS_RESET_CTRL_WARM_RESET = bit w.toNat 0 := on_of_bit rfl (by decide)
  rw [resetCtrlWrite, retainDram_of_word, hreset]
  rfl

/-- R288: FETCH_EFF takes the value clamped between 5,000 and the ceiling. -/
theorem fetchEffWrite_eq : fetchEffWrite w d =
    let e := max 5000 (min (w.toNat % 16384) (d.rg F.FETCH_EFF_CEILING))
    let d1 := d.onlyIf (bit w.toNat 15) (·.dn F.FETCH_EFF_EFF_CLAMPED)
    ({ d1 with replan := true }.sg F.FETCH_EFF_EFF e).onlyIf (e != w.toNat % 16384) (·.up F.FETCH_EFF_EFF_CLAMPED) := by
  have hclamped : View.on (fun _ => w) F.FETCH_EFF_EFF_CLAMPED = bit w.toNat 15 := on_of_bit rfl (by decide)
  have heff : View.g (fun _ => w) F.FETCH_EFF_EFF = w.toNat % 16384 := by
    rw [View.g_const (by decide), bits, show F.FETCH_EFF_EFF.lo = 0 from rfl, Nat.pow_zero, Nat.div_one]; rfl
  rw [fetchEffWrite, heff, hclamped]
  rfl

/-- R515: SCAN_REQ enters structural scan where the debug port is open. -/
theorem scanReq_eq : scanReq w d =
    if bit w.toNat 30 = false then d else if d.fl F.SECURE_DEBUG_PORT_OPEN then d.scanEnter
    else d.up F.SECURE_DEBUG_SCAN_REFUSED := by
  have hreq : View.on (fun _ => w) F.SECURE_DEBUG_SCAN_REQ = bit w.toNat 30 := on_of_bit rfl (by decide)
  rw [scanReq, hreq]
  cases bit w.toNat 30 <;> rfl

end

end Sys2Proof.Machine
end

section
/-! SUPPORT.  The capture registers (R544): a write of 1 to VALID re-arms one. -/

namespace Sys2Proof.Machine

/-- R544: VALID of a capture register. -/
def capValid : Cap → Fld
  | .accessAddr => F.SYS_ACCESS_ADDR_VALID
  | .parityAddr => F.SYS_PARITY_ADDR_VALID
  | .surfErrSid => F.SURF_ERR_SID_VALID
  | .fenceErrFid => F.FENCE_ERR_FID_VALID

/-- R78, R544: what re-arming a capture register returns to 0. -/
def capFields : Cap → List Fld
  | .accessAddr =>
    [F.SYS_ACCESS_ADDR_OFFSET, F.SYS_ACCESS_ADDR_CAUSE, F.SYS_ACCESS_ADDR_WRITE, F.SYS_ACCESS_COUNT_ERRORS]
  | .parityAddr => [F.SYS_PARITY_ADDR_OFFSET, F.SYS_PARITY_ADDR_BANK]
  | .surfErrSid => [F.SURF_ERR_SID_SID]
  | .fenceErrFid => [F.FENCE_ERR_FID_FID]

/-- R544: VALID is the top bit of its register, and the only one that a write of 1 clears. -/
theorem capValid_top (c : Cap) : (capValid c).off = capOff c ∧ (capValid c).lo = 31 ∧ (capValid c).len = 1 ∧
    storeBits (capOff c) = 0 ∧ clearBits (capOff c) = 0x80000000 ∧ hasBanked (capOff c) = false ∧
    perRequester (capOff c) = false := by
  cases c <;> decide

/-- Where a capture register stands. -/
theorem capOff_plain (c : Cap) : primOf (capOff c) = capOff c ∧ capOff c / 4 * 4 = capOff c ∧ mapOf (capOff c) = 0 ∧
    mapped (capOff c) = true ∧ areaOf (capOff c) = none ∧ (findReg (capOff c)).map Prod.snd = some 0 ∧
    (regOf (capOff c)).pair = false := by
  cases c <;> decide

/-- R544: VALID takes the captured fields with it, and nothing else. -/
theorem clearsWith_cap (c : Cap) :
    clearsWith.filter (fun p => p.1.off == (regOf (capOff c)).off) = (capFields c).map (Prod.mk (capValid c)) := by
  cases c <;> decide

/-- Steps over the image of a list. -/
theorem Dev.each_map {α β : Type} (f : β → Dev → Dev) (g : α → β) :
    ∀ (l : List α) (d : Dev), Dev.each f (l.map g) d = Dev.each (fun x => f (g x)) l d
  | [], _ => rfl
  | a :: t, d => Dev.each_map f g t (f (g a) d)

/-- A direct write of a capture register is the plain write of its fields. -/
theorem regAt_capture {c : Cap} {q : Rq} {w : Word} {d : Dev} (hr : d.reaches q = true) :
    regAt q (capOff c) w d = plainWrite q false [(capOff c, w)] d := by
  rw [regAt_eq_body (starterBars_of_reaches hr) (capOff_plain c)]
  cases c <;> rfl

/-- R544: a write of a capture register acknowledges VALID, and VALID written with 1 returns the captured fields to 0. -/
theorem regAt_rearms {c : Cap} {q : Rq} {w : Word} {d : Dev} (hr : d.reaches q = true) :
    regAt q (capOff c) w d =
      Dev.each (fun f d => if bit w.toNat 31 then d.dn f else d) (capFields c) (d.ack (capOff c) 0x80000000 w) := by
  obtain ⟨hoff, hlo, hlen, hstore, hclear, hbank, hshared⟩ := capValid_top c
  have hbit : (bits w.toNat 31 1 != 0) = bit w.toNat 31 := by
    rw [bits, bit]
    generalize w.toNat / 2 ^ 31 = n
    rcases Nat.mod_two_eq_zero_or_one n with h | h <;> simp [h]
  rw [regAt_capture hr, plainWrite_acks (capOff c) _ _ (capOff_plain c) hstore hclear hbank (clearsWith_cap c), Dev.each_map,
    keyFor_shared hshared]
  simp only [hoff, hlo, hlen, hbit, Nat.sub_self, Nat.add_zero]

end Sys2Proof.Machine
end

section
/-! SUPPORT.  A doorbell (R53, R149, R151): the upper word forms the value with the held lower word, and what the fence makes of
    it. -/

namespace Sys2Proof.Machine

/-- The words of the doorbells lie in the FENCE block, past its other registers. -/
theorem regBody_doorbell {q : Rq} {off : Nat} {ws : List (Nat × Word)} {w : Word} {d : Dev} (hlo : 0xE8000 ≤ off)
    (hhi : off < 0xF0000) : regBody q false off off ws w d = doorbellWrite ws d := by
  have hpage : off / 65536 = 14 := by omega
  have hsurf : off ≠ F.SURF_CMD_OP.off := Nat.ne_of_gt (Nat.lt_of_lt_of_le (by decide) hlo)
  have hfence : off ≠ F.FENCE_CMD_OP.off := Nat.ne_of_gt (Nat.lt_of_lt_of_le (by decide) hlo)
  simp [regBody, hpage, hsurf, hfence, hlo]

/-- R53, R149: the write of a doorbell's upper word rings it with the 64-bit value, and uses the held lower word up. -/
theorem regAt_doorbell {q : Rq} {fid : Nat} {w : Word} {d : Dev} (hf : fid < 4096) (hr : d.reaches q = true) :
    regAt q (0xE8004 + 8 * fid) w d =
      (d.lowDone q (0xE8000 + 8 * fid)).doorbell fid
        ((d.lowWord q (0xE8000 + 8 * fid)).toNat + w.toNat * 2 ^ 32) := by
  obtain ⟨hprim, halign, hmap⟩ := primary_of_aligned (off := 0xE8004 + 8 * fid) (by omega) (by omega)
  have hmapped : mapped (0xE8004 + 8 * fid) = true := by simp [mapped, within]; omega
  have harea : areaOf (0xE8004 + 8 * fid) = none := by
    have h1 : within 0xF0000 0xF4FFF (0xE8004 + 8 * fid) = false := by simp [within]; omega
    have h2 : within 0x88000 0x88FFF (0xE8004 + 8 * fid) = false := by simp [within]; omega
    have h3 : within 0x90000 0x9BFFF (0xE8004 + 8 * fid) = false := by simp [within]; omega
    simp [areaOf, h1, h2, h3]
  have hlow : 0xE8004 + 8 * fid - 4 = 0xE8000 + 8 * fid := by omega
  have hfid : (0xE8000 + 8 * fid - 0xE8000) / 8 = fid := by omega
  rw [regAt_pair (starterBars_of_reaches hr) hprim halign hmap hmapped harea (findReg_doorbell hf) rfl, hlow,
    regBody_doorbell (by omega) (by omega), doorbellWrite, hfid]

section
variable {d : Dev} {f v : Nat}

/-- R149: a doorbell of a FREE fence. -/
theorem doorbell_free (h : (d.fenceAt f).alloc = false) : d.doorbell f v = d.up F.FENCE_STATUS_DOORBELL_FREE := by
  simp [Dev.doorbell, h]

/-- R149: a doorbell of a lower value. -/
theorem doorbell_backward (h : (d.fenceAt f).alloc = true) (hv : v < d.bellBase f) :
    d.doorbell f v = d.up F.FENCE_STATUS_BACKWARD := by
  simp [Dev.doorbell, h, hv]

/-- R149, R151: a doorbell of a value that is not lower. -/
theorem doorbell_raises (h : (d.fenceAt f).alloc = true) (hv : d.bellBase f ≤ v) :
    d.doorbell f v = { d with bell := some (f, d.bellBase f) }.fenceNow f
      { d.fenceAt f with val := BitVec.ofNat 64 (max v (d.fenceAt f).val.toNat) } := by
  simp [Dev.doorbell, h, Nat.not_lt.mpr hv]

end

end Sys2Proof.Machine
end

section
/-! SUPPORT.  The configuration scrubber and safe black (R65 to R67): what a reload and its failure do. -/

namespace Sys2Proof.Machine

/-- R67: the device `d` with the parity mismatches of pipe `p`'s active bank repaired. -/
def Dev.reloadBank (d : Dev) (p : Nat) : Dev :=
  { d with mismatches := d.mismatches.filter (fun m => !(m.bank == Bank.active && d.parityPipe m.off == some p)) }

section
variable {p : Nat} {d : Dev}

/-- R67: the first failure of a reload that has not come is shown and logged. -/
theorem reloadFail_first (hblack : d.safeBlack p = true) (hfail : (d.pst p).reloadFail = false)
    (hdone : (d.pst p).reloaded = false) : reloadFail p d =
      ((d.putPst p { d.pst p with reloadFail := true }).up F.SYS_PARITY_STATUS_RELOAD_FAIL).logE 4 1 2 (p + 256) := by
  simp [reloadFail, hblack, hfail, hdone]

/-- R67: a reload repairs the active bank; a running pipe shows it from its next swap point, a stopped one leaves safe black. -/
theorem safeBlackReload_eq (hblack : d.safeBlack p = true) (hfail : (d.pst p).reloadFail = false)
    (hrun : d.hearth.stopped = false) : safeBlackReload p d =
      if (d.reloadBank p).running p
      then (d.reloadBank p).putPst p { (d.reloadBank p).pst p with reloaded := true }
      else (d.reloadBank p).safeBlackOff p := by
  simp [safeBlackReload, hblack, hfail, hrun, Dev.reloadBank]

end

end Sys2Proof.Machine
end

section
/-! SUPPORT.  The firmware, self-test and debug rows of ICP (R442, R505, R513): what each answers. -/

namespace Sys2Proof.Machine

/-- R423: a slot in range is no bad parameter. -/
theorem badSlot_of_lt {ps : List Word} (h : param ps 0 < 3) : badSlot (nums ps) = false := decide_eq_false (Nat.not_le.mpr h)

/-- R423: a slice of the table is no bad parameter. -/
theorem badSlice_of {ps : List Word} (h : isSlice (param ps 0) = true) : badSlice (nums ps) = false := by
  rw [badSlice, Bool.not_eq_false']
  exact h

/-- R442: FW_BEGIN takes an image of a slot that does not run, and the configuration record. -/
theorem fwBeginCode_ok {slot size : Nat} {d : Dev}
    (h : (slot < 2 ∧ d.runningSlot ≠ some slot ∧ 4096 ≤ size ∧ size ≤ 2097152) ∨ (slot = 2 ∧ size = 64)) :
    d.fwBeginCode slot size = 0 := by
  rcases h with ⟨hslot, hrun, hmin, hmax⟩ | ⟨rfl, rfl⟩
  · have h2 : slot ≠ 2 := by omega
    have h3 : ¬ 2 < slot := by omega
    simp [Dev.fwBeginCode, h2, h3, hrun, hmin, hmax]
  · rfl

/-- R442: FW_BEGIN refuses the running slot. -/
theorem fwBeginCode_running {slot size : Nat} {d : Dev} (hslot : slot < 2) (hrun : d.runningSlot = some slot) :
    d.fwBeginCode slot size = 0x54 := by
  have h2 : slot ≠ 2 := by omega
  have h3 : ¬ 2 < slot := by omega
  simp [Dev.fwBeginCode, h2, h3, hrun]

/-- A row whose reply waits for its slice leaves what its operation does, and who asks. -/
theorem gives_later {c : Instr} {op : Nat} {bad : List Nat → Bool} {f : List Nat → Dev → Ans} {tr : Tr} {seq : BitVec 16}
    {ps : List Word} {s : State} {e : Dev} (hx : exec c s = s.run (icpRun op bad f tr seq ps))
    (h : s.dev.passes op tr seq ps = true) (hb : bad (nums ps) = false)
    (ha : f (nums ps) s.dev = { dev := e, later := true }) :
    Gives c s { e with test := { e.test with asker := some (tr, op, seq.toNat % 256) } } := by
  have hcode : (f (nums ps) s.dev).code ≠ 0x43 := by rw [ha]; exact Nat.zero_ne_add_one _
  have hlater : (f (nums ps) s.dev).later = true := by rw [ha]
  exact Gives.run hx (dark_of_passes h) ((icpRun_later h hb hcode hlater).trans (by rw [ha]))

/-- R441, R442: the device `d` with a transfer of `size` bytes open for a slot, which is WRITING. -/
def Dev.fwOpened (d : Dev) (slot size : Nat) : Dev :=
  { d with hearth := { d.hearth with transfer := some ⟨slot, size, 0, []⟩ } }.fwState slot 1

section
variable {p : List Nat} {d : Dev}

/-- R442: a FW_BEGIN that is refused changes nothing. -/
theorem opFwBegin_refused {c : Nat} (h : d.fwBeginCode (prm p 0) (prm p 1) = c) (hc : c ≠ 0) :
    opFwBegin p d = { code := c, dev := d } := by
  simp [opFwBegin, h, hc]

/-- R442: a FW_BEGIN that is taken opens its transfer. -/
theorem opFwBegin_opens (h : d.fwBeginCode (prm p 0) (prm p 1) = 0)
    (hst : (d.fwOpened (prm p 0) (prm p 1)).rg F.HEARTH_STATE_STATE ≠ 2) :
    opFwBegin p d = { dev := d.fwOpened (prm p 0) (prm p 1) } := by
  have hdo : d.fwBeginDo (prm p 0) (prm p 1) = d.fwOpened (prm p 0) (prm p 1) := if_neg hst
  simp [opFwBegin, h, hdo]

/-- R446: in Starter mode the service state becomes RECOVERY with it. -/
theorem opFwBegin_recovers (h : d.fwBeginCode (prm p 0) (prm p 1) = 0)
    (hst : (d.fwOpened (prm p 0) (prm p 1)).rg F.HEARTH_STATE_STATE = 2) :
    opFwBegin p d = { dev := (d.fwOpened (prm p 0) (prm p 1)).sg F.HEARTH_STATE_STATE 4 } := by
  have hdo : d.fwBeginDo (prm p 0) (prm p 1) = (d.fwOpened (prm p 0) (prm p 1)).sg F.HEARTH_STATE_STATE 4 := if_pos hst
  simp [opFwBegin, h, hdo]

/-- R442: a FW_CHUNK with no transfer open. -/
theorem opFwChunk_closed (h : d.hearth.transfer = none) : opFwChunk p d = { code := 0x51, dev := d } := by
  simp [opFwChunk, Dev.fwChunkDo, h]

/-- R442: a FW_CHUNK out of order. -/
theorem opFwChunk_astray {t : Transfer} (h : d.hearth.transfer = some t) (hp : prm p 0 ≠ t.next) :
    opFwChunk p d = { code := 0x51, dev := d } := by
  simp [opFwChunk, Dev.fwChunkDo, h, hp]

/-- R442: a FW_CHUNK of an image in order stores its bytes into the slot's region. -/
theorem opFwChunk_stores {t : Transfer} (h : d.hearth.transfer = some t) (hp : prm p 0 = t.next) (ht : t.slot ≠ 2) :
    opFwChunk p d =
      let bs := (p.drop 1).flatMap (leBytes 4)
      let e := d.mramStore (slotBase t.slot + prm p 0) (bs.take (2097152 - prm p 0))
      { dev := { e with hearth := { e.hearth with transfer := some { t with next := t.next + bs.length, data := [] } } } } := by
  simp [opFwChunk, Dev.fwChunkDo, h, hp, ht]

/-- R442: a FW_COMMIT with no transfer open. -/
theorem opFwCommit_closed (h : d.hearth.transfer = none) : opFwCommit p d = { code := 0x51, dev := d } := by
  simp [opFwCommit, Dev.fwCommitDo, h]

/-- R442: FW_ACTIVATE selects a VERIFIED slot. -/
theorem opFwActivate_selects (hslot : prm p 0 < 2) (hst : d.slotSt (prm p 0) = 2) :
    opFwActivate p d = { dev := ({ d with hearth := { d.hearth with selected := prm p 0 } } : Dev).attn .fw } := by
  simp [opFwActivate, Dev.fwActivateDo, hslot, hst]

/-- R442: FW_ACTIVATE of the configuration record, or of a slot that is not VERIFIED. -/
theorem opFwActivate_refused (h : prm p 0 = 2 ∨ d.slotSt (prm p 0) ≠ 2) :
    opFwActivate p d = { code := 0x51, dev := d } := by
  have hno : ¬ (prm p 0 < 2 ∧ d.slotSt (prm p 0) = 2) := by
    rintro ⟨hlt, hst⟩
    rcases h with h2 | hne
    · omega
    · exact hne hst
  rw [opFwActivate, Dev.fwActivateDo, if_neg hno]

/-- R505: a slice that may not run on demand now. -/
theorem opSelftestRun_refused (h : d.sliceRefused (prm p 0) = true) :
    opSelftestRun p d = { code := 0x57, dev := d } := if_pos h

/-- R505: a slice that may run starts, and the reply waits for its end. -/
theorem opSelftestRun_starts (h : d.sliceRefused (prm p 0) = false) :
    opSelftestRun p d = { dev := d.sliceStart true (prm p 0), later := true } := by
  simp [opSelftestRun, h]

/-- R513: a challenge while requests to open the debug port are disabled. -/
theorem opDebugChallenge_off (h : d.debugOff = true) : opDebugChallenge p d = { code := 0x55, dev := d } := if_pos h

/-- R513: an opening while requests to open the debug port are disabled. -/
theorem opDebugOpen_off (h : d.debugOff = true) : opDebugOpen p d = { code := 0x55, dev := d } := if_pos h

/-- R513: the response answers the challenge that is out. -/
def Dev.responseOk (d : Dev) (p : List Nat) : Bool :=
  match d.challenge with
  | some c => Config.verifyDebug (sha384 (c.flatMap (fun w => leBytes 4 w.toNat))) (p.flatMap (leBytes 4))
  | none => false

/-- R513, R514: a response uses the challenge up, and opens the port or counts a denial. -/
theorem opDebugOpen_on (h : d.debugOff = false) :
    opDebugOpen p d =
      let e := { d with challenge := none }
      if d.responseOk p then { dev := e.debugOpen }
      else { code := 0x56, dev := (e.incSat F.SECURE_DEBUG_DENIED_COUNT).attn .security } := by
  rw [opDebugOpen, h]
  rfl

end

end Sys2Proof.Machine
end

section
/-! SUPPORT.  What the registers read at reset (R14, R81): no word is listed, so each reads its reset word. -/

namespace Sys2Proof.Machine

/-- At reset an unbanked word reads its reset word. -/
theorem unV_reset : State.reset.dev.unV = dfltU := rfl

/-- At reset a word of the proof bank reads its reset word. -/
theorem pfV_reset : State.reset.dev.pfV = dfltB := rfl

/-- At reset a word of the active bank reads its reset word. -/
theorem acV_reset : State.reset.dev.acV = dfltB := rfl

end Sys2Proof.Machine
end

section
/-! SUPPORT.  The settled statements of chapter 02: register accesses, doorbells, captures, scrubs and the firmware rows. -/

namespace Sys2Proof.Machine

/-- Settles O4: every register reads its reset word, which the register tables give field by field. -/
theorem resetLeavesTheStatedValues : Obligations.ResetLeavesTheStatedValues := by
  simp only [Obligations.ResetLeavesTheStatedValues, Dev.starter, Dev.deep, Dev.inHold, Dev.rg, unV_reset, pfV_reset,
    acV_reset]
  decide

/-- Settles O8: the byte enables class the write, the class gives its outcome, and a burst acts in the device that its first
    doubleword leaves. -/
theorem writesOutsideTheRulesAreDiscarded : Obligations.WritesOutsideTheRulesAreDiscarded := by
  intro rq off be data s hdark hbar
  have gives : ∀ {e : Dev}, regWrite rq off.toNat be.toNat data s.dev = e →
      Gives (.regWrite rq .reg off be ⟨data, []⟩) s e := Gives.run rfl hdark
  refine ⟨fun hbe => gives (regWrite_none (hbe ▸ rfl)),
    fun hbe hm => gives (regWrite_unmapped (widthOf_ne_none hbe) hbar hm),
    fun hm hbe => gives (regWrite_narrow (widthOf_narrow hbe) hbar hm),
    fun hm hbe => gives (regWrite_unaligned (widthOf_unaligned hbe) hbar hm),
    fun win x more e hlt he hfirst => exec_regWrite_cons hlt hdark he hfirst⟩

/-- Settles O9: with the posted area idle the read is answered now, and where and how wide it is gives the answer. -/
theorem refusedReadsAnswerZerosOrOnes : Obligations.RefusedReadsAnswerZerosOrOnes := by
  intro rq off be s hdark hidle hbe
  have hnow : regRead rq off.toNat be.toNat s.dev = readNow rq off.toNat be.toNat s.dev :=
    regRead_now (widthOf_ne_none hbe) hidle
  exact ⟨fun hm => Gives.run rfl hdark (hnow.trans (readNow_unmapped hm)),
    fun hm hun => Gives.run rfl hdark (hnow.trans (readNow_unaligned (widthOf_unaligned hun) hm))⟩

/-- Settles O12: the area is unpowered, busy or idle; the write that has waited longest takes its effect as it lands. -/
theorem postedWritesWaitAndLand : Obligations.PostedWritesWaitAndLand := by
  refine ⟨fun rq off data a s hr hal hm ha => ?_, fun a x s hdark hx hheld => ?_⟩
  · have hlt : off.toNat < 2 ^ 24 := off.isLt
    have gives : ∀ {e : Dev}, regFull rq off.toNat data s.dev = e → Gives (.postedWrite rq off data) s e :=
      fun h => Gives.run rfl (dark_of_reaches hr) ((regAt_full hr hlt hal hm).trans h)
    exact ⟨fun hoff hbusy => gives (regFull_waits hlt hal ha hoff hbusy),
      fun hoff hbusy => gives (regFull_busy hlt hal ha hoff hbusy),
      fun hoff => gives (regFull_unpowered hlt hal ha hoff)⟩
  · exact Completes.run (f := postedLanded a.val) rfl hdark ⟨_, rfl, postedLanded_unread hx rfl⟩

/-- Settles O13: SYS_UNLOCK tells a listed key from any other, and SYS_LOCKDOWN its first write from a later one. -/
theorem unlockAndLockdownWrites : Obligations.UnlockAndLockdownWrites := by
  refine ⟨fun rq data s hdark => ⟨fun hkey hon => ?_, fun hno => ?_, ?_⟩,
    fun rq data s hcanon hdark => ⟨fun hfirst => ?_, fun hlocked hq => ?_, fun hlocked hq => ?_⟩⟩
  · exact Gives.run rfl hdark (regAt_sysUnlock.trans (unlockWrite_arms hkey hon))
  · exact Gives.run rfl hdark (regAt_sysUnlock.trans (unlockWrite_refused hno))
  · exact Gives.run (f := unlockTimeout rq) rfl hdark rfl
  · refine Completes.run (f := regAt rq F.SYS_LOCKDOWN_UNLOCK_DISABLE.off data) rfl hdark ?_
    rw [regAt_sysLockdown, lockdownWrite_first hfirst]
    obtain ⟨hword, hother, hsame⟩ := putUnbanked_store (q := rq) (off := 0x18) (w := data) (d := s.dev) (by decide) (by decide)
      (by decide) (Dev.canon_regs hcanon) (by decide)
    have hkey : keyFor rq 0x18 = 0x18 := keyFor_shared (by decide)
    have hmask : storeBits 0x18 = 3 := by decide
    rw [hkey] at hword hother
    rw [hmask] at hword
    exact ⟨hword, rfl, hother, congrArg (fun z : Dev => { z with locked := s.dev.locked }) hsame⟩
  · subst hq
    exact Gives.run rfl hdark (regAt_sysLockdown.trans (lockdownWrite_host hlocked))
  · subst hq
    exact Gives.run rfl hdark (regAt_sysLockdown.trans (lockdownWrite_fw hlocked))

/-- Settles O14: each register asks for its unlock, and acts by its own rule once that is used up. -/
theorem guardedRegistersNeedTheirUnlock : Obligations.GuardedRegistersNeedTheirUnlock := by
  refine ⟨fun rq data s hr => ?_, fun rq data s hr hun => ?_, fun rq data s hr hun => ?_, fun rq data s hr hun => ?_⟩
  all_goals have hdark : s.dev.dark = false := dark_of_reaches hr
  · exact ⟨fun hun => Gives.run rfl hdark (regAt_sysResetCtrl.trans (keyed_locked hun)),
      fun hun => Gives.run rfl hdark ((regAt_fetchEff hr).trans (keyed_locked hun)),
      fun hun => Gives.run rfl hdark ((regAt_secureDebug hr).trans (keyed_locked hun))⟩
  · have hwrite := (regAt_sysResetCtrl (q := rq) (w := data) (d := s.dev)).trans
      ((keyed_unlocked hun).trans resetCtrlWrite_eq)
    exact ⟨fun hbit => Gives.run rfl hdark (by rw [hwrite, hbit]; rfl),
      fun hbit => Gives.run rfl hdark (by rw [hwrite, hbit]; rfl)⟩
  · exact Gives.run rfl hdark ((regAt_fetchEff hr).trans ((keyed_unlocked hun).trans (by rw [fetchEffWrite_eq])))
  · exact Gives.run rfl hdark ((regAt_secureDebug hr).trans ((keyed_unlocked hun).trans scanReq_eq))

/-- Settles O15: a write of 1 to VALID takes the captured fields with it (`regAt_rearms`), and one of 0 takes nothing. -/
theorem captureRegistersRearm : Obligations.CaptureRegistersRearm := by
  intro rq data s hr
  have gives : ∀ (c : Cap) {e : Dev},
      Dev.each (fun f d => if bit data.toNat 31 then d.dn f else d) (capFields c)
        (s.dev.ack (capOff c) 0x80000000 data) = e → Gives (.captureRearm rq c data) s e :=
    fun c _ h => Gives.run rfl (dark_of_reaches hr) ((regAt_rearms hr).trans h)
  refine ⟨fun hbit => ?_, fun hbit => ?_⟩
  all_goals
    rw [hbit] at gives
    exact ⟨gives _ rfl, gives _ rfl, gives _ rfl, gives _ rfl⟩

/-- Settles O24: a pass is its hits in order; in safe black a reload fails once, or repairs the bank it reloads. -/
theorem scrubAndSafeBlackEvents : Obligations.ScrubAndSafeBlackEvents := by
  intro s hdark
  refine ⟨fun found => Gives.run (f := configScrubPass found) rfl hdark rfl,
    fun p hblack hfail hdone => Gives.run rfl hdark (reloadFail_first hblack hfail hdone),
    fun p d hblack hfail hrun hd => ?_⟩
  have hbank : d = s.dev.reloadBank p.val := hd
  have hreload : safeBlackReload p.val s.dev =
      if d.running p.val then d.putPst p.val { d.pst p.val with reloaded := true } else d.safeBlackOff p.val :=
    hbank ▸ safeBlackReload_eq hblack hfail hrun
  exact ⟨fun h => Gives.run rfl hdark (hreload.trans (if_pos h)),
    fun h => Gives.run rfl hdark (hreload.trans (if_neg (ne_true_of_eq_false h)))⟩

/-- Settles O30: the upper word rings the doorbell (`regAt_doorbell`), which raises the fence or is refused. -/
theorem doorbellsRaiseAllocatedFences : Obligations.DoorbellsRaiseAllocatedFences := by
  intro rq fid data second s hr lo d x v base
  have gives : ∀ {e : Dev}, d.doorbell fid.toNat v = e → Gives (.fenceDoorbell rq fid ⟨data, second⟩) s e.alone := by
    intro e h
    have hring : regAt rq (0xE8004 + 8 * fid.toNat) data (s.dev.meets second) = e := 
      (regAt_doorbell (d := s.dev.meets second) fid.isLt hr).trans h
    exact Gives.run (f := timed second (regAt rq (0xE8004 + 8 * fid.toNat) data)) rfl (dark_of_reaches hr)
      (congrArg Dev.alone hring)
  exact ⟨fun hlone => bellBase_alone hlone, fun halloc hv => gives (doorbell_raises halloc hv),
    fun halloc hv => gives (doorbell_backward halloc hv), fun hfree => gives (doorbell_free hfree)⟩

/-- Settles O48: each row passes its tests and has no bad operand, so that it replies what its operation answers; a slice on
    demand starts and leaves the reply to its end. -/
theorem icpFirmwareTestAndDebugRows : Obligations.IcpFirmwareTestAndDebugRows := by
  intro tr seq ps s d P bs off
  refine ⟨fun h hslot hrun => ?_, fun h hok => ?_, fun h hnone => ?_, fun h t ht hp => ?_, fun h t ht hp h2 => ?_,
    fun h hslot hnone => ?_, fun h hslot hcode => ?_, fun h hslot hst => ?_, fun h hslot hno => ?_,
    fun h hslice hno => ?_, fun h hslice hyes => ?_, fun h hoff => ?_, fun h hon => ?_, fun h hoff => ?_,
    fun h hon => ?_⟩
  · exact replies rfl h rfl (opFwBegin_refused (fwBeginCode_running hslot hrun) (by decide)) (by decide)
  · have hcode := fwBeginCode_ok hok
    exact ⟨fun hst => replies rfl h rfl (opFwBegin_opens hcode hst) (by decide),
      fun hst => replies rfl h rfl (opFwBegin_recovers hcode hst) (by decide)⟩
  · exact replies rfl h rfl (opFwChunk_closed hnone) (by decide)
  · exact replies rfl h rfl (opFwChunk_astray ht hp) (by decide)
  · exact replies rfl h rfl (opFwChunk_stores ht hp h2) (by decide)
  · exact replies rfl h (badSlot_of_lt hslot) (opFwCommit_closed hnone) (by decide)
  · exact replies (f := opFwCommit) rfl h (badSlot_of_lt hslot) rfl hcode
  · exact replies rfl h (badSlot_of_lt (Nat.lt_succ_of_lt hslot)) (opFwActivate_selects hslot hst) (by decide)
  · exact replies rfl h (badSlot_of_lt hslot) (opFwActivate_refused hno) (by decide)
  · exact replies rfl h (badSlice_of hslice) (opSelftestRun_refused hno) (by decide)
  · exact gives_later rfl h (badSlice_of hslice) (opSelftestRun_starts hyes)
  · exact replies rfl h rfl (opDebugChallenge_off hoff) (by decide)
  · exact replies (f := opDebugChallenge) rfl h rfl (if_neg (ne_true_of_eq_false hon)) (by decide)
  · exact replies rfl h rfl (opDebugOpen_off hoff) (by decide)
  · have hopen := opDebugOpen_on (p := nums ps) (show d.debugOff = false from hon)
    exact ⟨fun hok => replies rfl h rfl (hopen.trans (if_pos hok)) (by decide),
      fun hok => replies rfl h rfl (hopen.trans (if_neg (ne_true_of_eq_false hok))) (by decide)⟩

end Sys2Proof.Machine
end

section
/-! SUPPORT.  Every step keeps the canonical form of the tables and runs the queue down (R81, R124, R147). -/

namespace Sys2Proof.Machine

/-- What happens while no command waits keeps the canonical form: firmware runs again and the copy engine moves a burst. -/
theorem idle_kc (s : State) : ∃ t, idle s = .next t ∧ t.pending = s.pending ∧ Kc s.dev t.dev :=
  run_keeps .refl (fun d => Dev.engine_kc (fun _ h => Dev.dmaBurst_kc h) (Dev.fwResume_kc (.refl d)))

/-- A step takes the front command off the queue, where there is one, and keeps the canonical form. -/
theorem step_kc (s : State) : ∃ t, step s = .next t ∧ t.pending = s.pending.tail ∧ Kc s.dev t.dev := by
  cases hq : s.pending with
  | nil =>
    obtain ⟨t, hidle, hpending, hkept⟩ := idle_kc s
    exact ⟨t, (step_nil hq).trans hidle, hpending.trans hq, hkept⟩
  | cons c rest =>
    obtain ⟨t, hexec, hpending, hkept⟩ := exec_kc c { s with pending := rest }
    exact ⟨t, (step_cons hq).trans hexec, hpending, hkept⟩

/-- A well-formed queue without its front command is well formed. -/
theorem State.queueOk_of_tail {s t : State} (ht : t.pending = s.pending.tail) (h : s.queueOk = true) : t.queueOk = true := by
  have hall : ∀ c ∈ s.pending, wellFormed c = true := List.all_eq_true.mp h
  rw [State.queueOk, ht, List.all_eq_true]
  exact fun c hc => hall c (List.mem_of_mem_tail hc)

end Sys2Proof.Machine
end

section
/-! SUPPORT.  The events of a running pipe's frame: line 0, TE edges and their loss, the abort of a replay (R308, R309, R313,
    R320, R321). -/

namespace Sys2Proof.Machine

/-- R320: at line 0 HDCP of a DisplayPort port follows its enable, and an authenticated one encrypts. -/
def Dev.encryptStart (d : Dev) (k : Nat) : Dev :=
  if k < 4 then
    if (d.hdcpEnable k).rg (F.DP_HDCP_STATE.i k) = 2 then (d.hdcpEnable k).up (F.DP_HDCP_ENCRYPTING.i k) else d.hdcpEnable k
  else d

/-- R320, R321: the device once line 0 of pipe `p`'s unpaced frame has begun, before its port is tested. -/
def Dev.lineBegun (d : Dev) (p : Nat) : Dev :=
  (d.putPst p { d.pst p with line0 := true, teGo := false }).encryptStart (portSel d.acV p)

/-- R321: the flag of a port that may carry no protected content. -/
def protFlag (k : Nat) : Fld := if k < 4 then F.DP_HDCP_PROT_BLOCKED.i k else F.DSI_STATUS_PROT_BLOCKED.i (k - 4)

section
variable {p : Nat} {d : Dev}

/-- R308: a pipe without TE pacing does not hold before line 0. -/
theorem teHold_unpaced (hte : d.acOn (F.PIPE_TE_EN.i p) = false) : d.teHold p = false := by simp [Dev.teHold, hte]

/-- R320, R321: line 0 of an unpaced live frame begins it, and marks it where its port is not protected as it needs. -/
theorem lineZero_unpaced (hrun : d.running p = true) (hlive : (d.pst p).frame.live = true) (hfirst : (d.pst p).line0 = false)
    (hte : d.acOn (F.PIPE_TE_EN.i p) = false) :
    lineZero p d =
      let e := d.lineBegun p
      if e.protBlocked p then (e.up (protFlag (portSel d.acV p))).putFrame p { e.frame p with prot := true } else e := by
  have hpaced : (d.putPst p { d.pst p with line0 := true, teGo := false }).acOn (F.PIPE_TE_EN.i p) = false := hte
  simp only [lineZero, hrun, hlive, hfirst, teHold_unpaced hte, hpaced, Bool.not_true, Bool.false_and, Bool.or_false,
    Bool.false_eq_true, if_false]
  change (if !(d.lineBegun p).protBlocked p then _ else _) = _
  cases (d.lineBegun p).protBlocked p <;> rfl

/-- R308, R309: an edge while a frame is held at the end of its blanking releases it and ends the loss of edges. -/
theorem teEdge_releases {dt : Nat} {e : Dev} (he : d.advance dt = e) (hrun : e.running p = true)
    (hte : e.acOn (F.PIPE_TE_EN.i p) = true) (hheld : e.teHold p = true) (hover : e.blankingOver p = true) :
    teEdge p dt d = (e.putPst p { e.pst p with teGo := true }).dn (F.PIPE_TE_STATUS_LOST_ACTIVE.i p) := by
  simp [teEdge, he, hrun, hte, hheld, hover]

/-- R309: any other edge ends the loss of edges alone. -/
theorem teEdge_found {dt : Nat} {e : Dev} (he : d.advance dt = e) (hrun : e.running p = true)
    (hte : e.acOn (F.PIPE_TE_EN.i p) = true) (h : e.teHold p = false ∨ e.blankingOver p = false) :
    teEdge p dt d = e.dn (F.PIPE_TE_STATUS_LOST_ACTIVE.i p) := by
  have hnone : (e.teHold p && e.blankingOver p) = false := Bool.and_eq_false_iff.mpr h
  simp [teEdge, he, hrun, hte, hnone]

/-- R309: a held frame that no edge has released: the edges are lost. -/
theorem teTimeout_lost (hheld : d.teHold p = true) (hgo : (d.pst p).teGo = false) :
    teTimeout p d =
      ((d.up (F.PIPE_TE_STATUS_TE_LOST.i p)).up (F.PIPE_TE_STATUS_LOST_ACTIVE.i p)).attn .link := by
  simp [teTimeout, hheld, hgo]

/-- R313: the abort of a replayed frame. -/
theorem replayAbort_live {line : Nat} (hrest : 2 ≤ d.rest p) (hlive : (d.frame p).live = true) :
    replayAbort p line d =
      (((d.mark p .replayAbort [] (·.blackOn line)).up (F.PIPE_REST_STATUS_REPLAY_ABORT.i p)).dn
        (F.PIPE_REST_STATUS_STATE.i p)).restShow := by
  simp [replayAbort, Nat.not_lt.mpr hrest, hlive]

end

end Sys2Proof.Machine
end

section
/-! SUPPORT.  The end of a validation (R92, R94, R95): what the checker lets go of, and what a refusal leaves alone. -/

namespace Sys2Proof.Machine

/-- R40, R267: the checker has taken its oldest strobe: the others wait, and no declaration test is behind it. -/
def Dev.checkerTakes (d : Dev) (rest : List Strobe) : Dev :=
  { d with strobes := rest, declTest := d.declTest.map (fun (t : DeclTest) => { t with behind := false }) }

section
variable {q : Rq} {st : Strobe} {rest : List Strobe} {d : Dev}

/-- R95: a strobe with no failing check is accepted and reported. -/
theorem commitValidationEnd_accepts (hs : d.strobes = st :: rest) (hq : st.rq = q)
    (ht : d.declTest.any (fun t => !t.behind) = false)
    (hc : (d.checkerTakes rest).check st ((d.checkerTakes rest).checkOf st) = none) :
    commitValidationEnd q d =
      ((d.checkerTakes rest).accept st ((d.checkerTakes rest).checkOf st)).report st ⟨0, 0, 0, 0, 0⟩ := by
  unfold Dev.checkerTakes at hc
  simp [commitValidationEnd, hs, hq, ht, hc, Dev.checkerTakes]

/-- R92, R125: a strobe with a failing check is reported, and lost descriptors that nothing names any more are released. -/
theorem commitValidationEnd_refuses {r : Result} (hs : d.strobes = st :: rest) (hq : st.rq = q)
    (ht : d.declTest.any (fun t => !t.behind) = false)
    (hc : (d.checkerTakes rest).check st ((d.checkerTakes rest).checkOf st) = some r) :
    commitValidationEnd q d = ((d.checkerTakes rest).report st r).lostSweep := by
  unfold Dev.checkerTakes at hc
  simp [commitValidationEnd, hs, hq, ht, hc, Dev.checkerTakes]

end

theorem Dev.incSat_kb {d0 d : Dev} {f : Fld} (h : Kb d0 d) : Kb d0 (d.incSat f) := Dev.sg_kb h

/-- R120: the report of a validation writes registers alone: the result's five fields, a count and the status. -/
theorem Dev.report_kb {d0 d : Dev} {st : Strobe} {r : Result} (h : Kb d0 d) : Kb d0 (d.report st r) := by
  unfold Dev.report
  exact ite_kb h (Dev.sg_kb (Dev.up_kb (Dev.dn_kb (Dev.incSat_kb
    (Dev.sg_kb (Dev.sg_kb (Dev.sg_kb (Dev.sg_kb (Dev.sg_kb h)))))))))

/-- R83, R94, R125: a refusal leaves the strobes still waiting, both banks, the armed bank and the late store as they were. -/
theorem refusal_kb (d : Dev) (st : Strobe) (r : Result) : Kb d (d.report st r).lostSweep :=
  Dev.lostSweep_kb (Dev.report_kb (.refl d))

end Sys2Proof.Machine
end

section
/-! SUPPORT.  The settled statements of chapter 03: the canonical form, frame events and the end of a validation. -/

namespace Sys2Proof.Machine

/-- Settles O2: a step answers one state (`step_kc`), canonical where the first was, and its queue is the first one's rest. -/
theorem everyStepKeepsTheTablesCanonical : Obligations.EveryStepKeepsTheTablesCanonical := by
  rintro s t ⟨hcanon, hqueue⟩ hstep
  obtain ⟨u, hnext, hpending, hkept⟩ := step_kc s
  obtain rfl : u = t := Host.Outcome.next.inj (hnext.symm.trans hstep)
  exact ⟨hkept.canon hcanon, State.queueOk_of_tail hpending hqueue⟩

/-- Settles O26: each event acts by its own rule on the running pipe; at line 0 the port's kind says which flag is set. -/
theorem frameEventsOfARunningPipe : Obligations.FrameEventsOfARunningPipe := by
  intro p s hdark hrun
  refine ⟨?_, ?_, fun hheld hgo => Gives.run rfl hdark (teTimeout_lost hheld hgo),
    fun line hrest hlive => Gives.run rfl hdark (replayAbort_live hrest hlive), Gives.run rfl hdark (if_pos hrun)⟩
  · rintro x k d1 d2 rfl hlive hfirst hte rfl rfl hd2
    have hline := lineZero_unpaced hrun hlive hfirst hte
    have hbegun : s.dev.lineBegun p.val = d2 := hd2.symm
    rw [hbegun] at hline
    refine ⟨fun hopen => ?_, fun hdp hblocked => ?_, fun hdsi hblocked => ?_⟩
    · exact Gives.run rfl hdark (hline.trans (if_neg (ne_true_of_eq_false hopen)))
    · rw [protFlag, if_pos hdp] at hline
      exact Gives.run rfl hdark (hline.trans (if_pos hblocked))
    · rw [protFlag, if_neg (Nat.not_lt.mpr hdsi)] at hline
      exact Gives.run rfl hdark (hline.trans (if_pos hblocked))
  · intro dt d hd hrun' hte
    exact ⟨fun hheld hover => Gives.run rfl hdark (teEdge_releases hd.symm hrun' hte hheld hover),
      fun h => Gives.run rfl hdark (teEdge_found hd.symm hrun' hte h)⟩

/-- Settles O40: with no failing check the strobe is accepted, with one it is refused, and a refusal changes no bank
    (`refusal_kb`). -/
theorem validationEndsInAcceptanceOrRefusal : Obligations.ValidationEndsInAcceptanceOrRefusal := by
  intro rq st rest s hdark hs hq ht d k
  refine ⟨fun hc => Gives.run rfl hdark (commitValidationEnd_accepts hs hq ht hc),
    fun r hc => Gives.run rfl hdark (commitValidationEnd_refuses hs hq ht hc), fun r hc => ?_⟩
  refine Completes.run (f := commitValidationEnd rq) rfl hdark ?_
  rw [commitValidationEnd_refuses hs hq ht hc]
  have hsame := (refusal_kb (s.dev.checkerTakes rest) st r).same
  simp only [Prod.mk.injEq] at hsame
  exact hsame

end Sys2Proof.Machine
end

section
/-! SUPPORT.  A surface or fence command of a register (R131): what its word holds, when it is discarded, and how its row runs
    it. -/

namespace Sys2Proof.Machine

/-- R131: OP of a command word. -/
theorem bits_op (w : Word) : bits w.toNat 28 4 = w.toNat / 2 ^ 28 := by
  have hlt := w.isLt
  simp only [bits]
  omega

section
variable {q : Rq} {early : Bool} {w : Word} {d : Dev} {f : Dev → Dev}

/-- R131: a command that meets an uncompleted one of its requester. -/
theorem ifIdle_busy (h : d.cmdBusy q = true) : d.ifIdle q f = d.up F.SURF_STATUS_CMD_BUSY := if_pos h

/-- R131: a command that meets none is taken. -/
theorem ifIdle_idle (h : d.cmdBusy q = false) : d.ifIdle q f = f (d.cmdTaken q) := if_neg (ne_true_of_eq_false h)

/-- R131: a register command acts on the device as it meets it, and nothing is under way after it. -/
theorem gives_timed {c : Instr} {off : Nat} {s : State} {e : Dev}
    (hc : exec c s = s.run (timed early (regAt q off w))) (hr : s.dev.reaches q = true)
    (h : regAt q off w (s.dev.meets early) = e) : Gives c s e.alone :=
  Gives.run hc (dark_of_reaches hr) (congrArg Dev.alone h)

/-- A direct write of FENCE_CMD acts by its own rule. -/
theorem regAt_fenceCmd (hr : d.reaches q = true) : regAt q F.FENCE_CMD_OP.off w d = fenceCmdWrite q w d :=
  regAt_eq_body (starterBars_of_reaches hr) (by decide)

/-- A direct write of SURF_CMD acts by its own rule. -/
theorem regAt_surfCmd (hr : d.reaches q = true) : regAt q F.SURF_CMD_OP.off w d = surfCmdWrite q w d :=
  regAt_eq_body (starterBars_of_reaches hr) (by decide)

end

end Sys2Proof.Machine
end

section
/-! SUPPORT.  The fence table's commands (R147, R148): the cases of ALLOC and FREE, and what FENCE_CMD answers. -/

namespace Sys2Proof.Machine

/-- A list that holds an element with `p` has a first one. -/
theorem firstWith_of_mem {α : Type} {p : α → Bool} {a : α} :
    ∀ {l : List α}, a ∈ l → p a = true → ∃ b, firstWith p l = some b
  | x :: t, hmem, ha => by
    rw [firstWith]
    split
    · exact ⟨x, rfl⟩
    · rename_i hx
      rcases List.mem_cons.mp hmem with rfl | hrest
      · exact absurd ha hx
      · exact firstWith_of_mem hrest ha

section
variable {d : Dev} {fid low init : Nat} {any : Bool}

/-- R147: while a fence is FREE, there is a lowest FREE one. -/
theorem freeFid_of_free (hlt : fid < 4096) (h : (d.fenceAt fid).alloc = false) : ∃ low, d.freeFid = some low := by
  unfold Dev.freeFid
  exact firstWith_of_mem (List.mem_range.mpr hlt) (by rw [h]; rfl)

/-- R147: the lowest FREE fence is the fence table's alone. -/
theorem freeFid_congr {e : Dev} (h : e.fence = d.fence) : e.freeFid = d.freeFid := by
  unfold Dev.freeFid Dev.fenceAt
  rw [h]

/-- R147: ALLOC with every fence allocated. -/
theorem fenceAllocate_full (h : d.freeFid = none) :
    d.fenceAllocate any fid init = (.tableFull, fid, d.up F.FENCE_STATUS_FULL_SEEN) := by
  unfold Dev.fenceAllocate
  generalize d.freeFid = first at h
  subst h
  rfl

/-- R147: ALLOC while a fence is FREE.  The search of the table is named away, so that nothing evaluates it. -/
theorem fenceAllocate_free (h : d.freeFid = some low) :
    d.fenceAllocate any fid init =
      if !any && (d.fenceAt fid).alloc then (.idInUse, fid, d)
      else (.ok, if any then low else fid, (d.fenceOcc (d.rg F.FENCE_OCCUPANCY_COUNT + 1)).fenceNow
        (if any then low else fid) ⟨true, BitVec.ofNat 64 init⟩) := by
  unfold Dev.fenceAllocate
  generalize d.freeFid = first at h
  subst h
  rfl

/-- R147: ALLOC of any fence takes the lowest FREE one. -/
theorem fenceAllocate_any (h : d.freeFid = some low) :
    d.fenceAllocate true fid init =
      (.ok, low, (d.fenceOcc (d.rg F.FENCE_OCCUPANCY_COUNT + 1)).fenceNow low ⟨true, BitVec.ofNat 64 init⟩) :=
  fenceAllocate_free h

/-- R147: ALLOC of a named FREE fence. -/
theorem fenceAllocate_named (hlt : fid < 4096) (h : (d.fenceAt fid).alloc = false) :
    d.fenceAllocate false fid init =
      (.ok, fid, (d.fenceOcc (d.rg F.FENCE_OCCUPANCY_COUNT + 1)).fenceNow fid ⟨true, BitVec.ofNat 64 init⟩) := by
  obtain ⟨low, hlow⟩ := freeFid_of_free hlt h
  simp [fenceAllocate_free hlow, h]

/-- R147: ALLOC of a named fence that is allocated, while another is FREE. -/
theorem fenceAllocate_taken (hlow : d.freeFid = some low) (h : (d.fenceAt fid).alloc = true) :
    d.fenceAllocate false fid init = (.idInUse, fid, d) := by
  simp [fenceAllocate_free hlow, h]

/-- R148: FREE of a FREE fence. -/
theorem fenceRelease_free (h : (d.fenceAt fid).alloc = false) : d.fenceRelease fid = (.notRegistered, d) := by
  simp [Dev.fenceRelease, h]

/-- R148: FREE of a fence that a surface binds or a layer waits on. -/
theorem fenceRelease_used (h : (d.fenceAt fid).alloc = true) (hused : (d.fenceBound fid || d.fenceWaited fid) = true) :
    d.fenceRelease fid = (.inUse, d) := by
  simp only [Dev.fenceRelease, h, hused, Bool.not_true, Bool.false_eq_true, if_false, if_true]

/-- R148: FREE of an allocated fence that nothing names. -/
theorem fenceRelease_ok (h : (d.fenceAt fid).alloc = true) (hbound : d.fenceBound fid = false)
    (hwaited : d.fenceWaited fid = false) :
    d.fenceRelease fid = (.ok, (d.fenceOcc (d.rg F.FENCE_OCCUPANCY_COUNT - 1)).fenceNow fid {}) := by
  simp [Dev.fenceRelease, h, hbound, hwaited]

end

section
variable {q : Rq} {w : Word} {d : Dev}

/-- R131: OP of FENCE_CMD. -/
theorem fenceOp_of_word (w : Word) : View.g (fun _ => w) F.FENCE_CMD_OP = w.toNat / 2 ^ 28 :=
  (View.g_const (by decide)).trans (bits_op w)

/-- FID of FENCE_CMD. -/
theorem fenceFid_of_word (w : Word) : View.g (fun _ => w) F.FENCE_CMD_FID = w.toNat % 4096 := by
  rw [View.g_const (by decide), bits, show F.FENCE_CMD_FID.lo = 0 from rfl, Nat.pow_zero, Nat.div_one]
  rfl

/-- R131: a FENCE_CMD that meets an uncompleted command. -/
theorem fenceCmdWrite_busy (h : d.cmdBusy q = true) : fenceCmdWrite q w d = d.up F.SURF_STATUS_CMD_BUSY := ifIdle_busy h

/-- R147: an ALLOC that is taken. -/
theorem fenceCmdWrite_alloc {any : Bool} {c : TabCode} {fid : Nat} {e : Dev} (hidle : d.cmdBusy q = false)
    (hop : w.toNat / 2 ^ 28 = 1) (hbit : bit w.toNat 16 = any)
    (h : (d.cmdTaken q).fenceAllocate any (w.toNat % 4096) ((d.cmdTaken q).rg (F.FENCE_INIT_VALUE.rq q)) = (c, fid, e)) :
    fenceCmdWrite q w d = e.fenceResult q c fid := by
  have hany : View.on (fun _ => w) F.FENCE_CMD_ALLOC_ANY = any := (on_of_bit rfl (by decide)).trans hbit
  rw [fenceCmdWrite, ifIdle_idle hidle, fenceOp_of_word, hop]
  simp only [fenceCmdAlloc, hany, fenceFid_of_word, h]

/-- R148: a FREE that is taken. -/
theorem fenceCmdWrite_free {c : TabCode} {e : Dev} (hidle : d.cmdBusy q = false) (hop : w.toNat / 2 ^ 28 = 2)
    (h : (d.cmdTaken q).fenceRelease (w.toNat % 4096) = (c, e)) :
    fenceCmdWrite q w d = e.fenceResult q c (w.toNat % 4096) := by
  rw [fenceCmdWrite, ifIdle_idle hidle, fenceOp_of_word, hop]
  simp only [fenceCmdFree, fenceFid_of_word, h]

/-- R148: any other OP that is taken. -/
theorem fenceCmdWrite_badOp (hidle : d.cmdBusy q = false) (halloc : w.toNat / 2 ^ 28 ≠ 1) (hfree : w.toNat / 2 ^ 28 ≠ 2) :
    fenceCmdWrite q w d = (d.cmdTaken q).fenceResult q .badOp (w.toNat % 4096) := by
  rw [fenceCmdWrite, ifIdle_idle hidle, fenceOp_of_word]
  split
  · contradiction
  · contradiction
  · rw [fenceCmdBadOp, fenceFid_of_word]

end

end Sys2Proof.Machine
end

section
/-! SUPPORT.  The surface table's commands (R132 to R134): the cases of REGISTER, UNREGISTER and CLEAR_TORN, and what SURF_CMD
    answers. -/

namespace Sys2Proof.Machine

section
variable {d : Dev} {x : Surf} {alloc : Bool} {sid : Nat}

/-- R132: a registration that no check fails and that has no sealed check to wait for. -/
theorem register_ok (h : d.registerCheck x alloc sid = .ok) :
    d.register x alloc sid = (.ok, if alloc then d.lowSid else sid,
      (d.putSurf (if alloc then d.lowSid else sid) { x with st := .registered }).surfOcc
        (d.rg F.SURF_OCCUPANCY_COUNT + 1)) := by
  rw [Dev.register, h]

/-- R132, R136: a registration whose sealed check starts. -/
theorem register_sealStarted (h : d.registerCheck x alloc sid = .sealStarted) :
    d.register x alloc sid = (.sealStarted, if alloc then d.lowSid else sid,
      ((((d.putSurf (if alloc then d.lowSid else sid) { x with sealing := true }).surfOcc
        (d.rg F.SURF_OCCUPANCY_COUNT + 1)).sg F.SURF_SEAL_SID (if alloc then d.lowSid else sid)).dn F.SURF_SEAL_DONE).up
          F.SURF_SEAL_BUSY) := by
  rw [Dev.register, h]

/-- R132: a registration with the table full answers the SID it names. -/
theorem register_tableFull (h : d.registerCheck x alloc sid = .tableFull) :
    d.register x alloc sid = (.tableFull, sid, d.up F.SURF_STATUS_FULL_SEEN) := by
  rw [Dev.register, h]

/-- R132: any other refusal changes nothing. -/
theorem register_refused {c : TabCode} (h : d.registerCheck x alloc sid = c)
    (hc : c ≠ .ok ∧ c ≠ .sealStarted ∧ c ≠ .tableFull) :
    d.register x alloc sid = (c, if alloc then d.lowSid else sid, d) := by
  obtain ⟨hok, hseal, hfull⟩ := hc
  rw [Dev.register, h]
  split
  · contradiction
  · contradiction
  · contradiction
  · rfl

/-- R134: UNREGISTER of a FREE SID. -/
theorem unregister_free (h : (d.surfAt sid).st = .free) : d.unregister sid = (.notRegistered, d) := by
  rw [Dev.unregister, if_pos h]

/-- R134: UNREGISTER of a surface in use. -/
theorem unregister_used (h : (d.surfAt sid).st = .inScan ∨ (d.surfAt sid).st = .retiring ∨
    (d.surfAt sid).st = .registered ∧ d.waitingNames sid = true) : d.unregister sid = (.inUse, d) := by
  rw [Dev.unregister]
  rcases h with hst | hst | ⟨hst, hnamed⟩
  · simp [hst]
  · simp [hst]
  · simp [hst, hnamed]

/-- R134: UNREGISTER of a REGISTERED surface that nothing names. -/
theorem unregister_ok (hst : (d.surfAt sid).st = .registered) (hnamed : d.waitingNames sid = false) :
    d.unregister sid = (.ok, (d.putSurf sid {}).surfOcc (d.rg F.SURF_OCCUPANCY_COUNT - 1)) := by
  simp [Dev.unregister, hst, hnamed]

/-- R134: CLEAR_TORN of a FREE SID. -/
theorem clearTorn_free (h : (d.surfAt sid).st = .free) : d.clearTorn sid = (.notRegistered, d) := if_pos h

/-- R134: CLEAR_TORN of a surface. -/
theorem clearTorn_ok (h : (d.surfAt sid).st ≠ .free) :
    d.clearTorn sid = (.ok, d.putSurf sid { d.surfAt sid with torn := 0 }) := if_neg h

end

/-- R131: OP of SURF_CMD. -/
theorem surfOp_of_word (w : Word) : View.g (fun _ => w) F.SURF_CMD_OP = w.toNat / 2 ^ 28 :=
  (View.g_const (by decide)).trans (bits_op w)

/-- SID of SURF_CMD. -/
theorem surfSid_of_word (w : Word) : View.g (fun _ => w) F.SURF_CMD_SID = w.toNat % 16384 := by
  rw [View.g_const (by decide), bits, show F.SURF_CMD_SID.lo = 0 from rfl, Nat.pow_zero, Nat.div_one]
  rfl

section
variable {q : Rq} {w : Word} {d e : Dev} {c : TabCode}

/-- R131: a SURF_CMD that meets an uncompleted command. -/
theorem surfCmdWrite_busy (h : d.cmdBusy q = true) : surfCmdWrite q w d = d.up F.SURF_STATUS_CMD_BUSY := ifIdle_busy h

/-- R132: a REGISTER that is taken acts on the requester's staged descriptor. -/
theorem surfCmdWrite_register {x : Surf} {sid : Nat} (hidle : d.cmdBusy q = false) (hop : w.toNat / 2 ^ 28 = 1)
    (hx : x = surfOfWords (fun k => ((d.cmdTaken q).unV (rqKey q (0xE0000 + 4 * k))).toNat))
    (h : (d.cmdTaken q).register x (bit w.toNat 16) (w.toNat % 16384) = (c, sid, e)) :
    surfCmdWrite q w d = e.surfResult q c sid := by
  have halloc : View.on (fun _ => w) F.SURF_CMD_ALLOC = bit w.toNat 16 := on_of_bit rfl (by decide)
  rw [surfCmdWrite, ifIdle_idle hidle, surfOp_of_word, hop]
  simp only [surfCmdRegister, ← hx, halloc, surfSid_of_word, h]

/-- R134: an UNREGISTER that is taken. -/
theorem surfCmdWrite_unregister (hidle : d.cmdBusy q = false) (hop : w.toNat / 2 ^ 28 = 2)
    (h : (d.cmdTaken q).unregister (w.toNat % 16384) = (c, e)) :
    surfCmdWrite q w d = e.surfResult q c (w.toNat % 16384) := by
  rw [surfCmdWrite, ifIdle_idle hidle, surfOp_of_word, hop]
  simp only [surfCmdUnregister, surfSid_of_word, h]

/-- R134: a CLEAR_TORN that is taken. -/
theorem surfCmdWrite_clearTorn (hidle : d.cmdBusy q = false) (hop : w.toNat / 2 ^ 28 = 3)
    (h : (d.cmdTaken q).clearTorn (w.toNat % 16384) = (c, e)) :
    surfCmdWrite q w d = e.surfResult q c (w.toNat % 16384) := by
  rw [surfCmdWrite, ifIdle_idle hidle, surfOp_of_word, hop]
  simp only [surfCmdClearTorn, surfSid_of_word, h]

/-- R134: any other OP that is taken. -/
theorem surfCmdWrite_badOp (hidle : d.cmdBusy q = false) (hop : w.toNat / 2 ^ 28 = 0 ∨ 4 ≤ w.toNat / 2 ^ 28) :
    surfCmdWrite q w d = (d.cmdTaken q).surfResult q .badOp (w.toNat % 16384) := by
  rw [surfCmdWrite, ifIdle_idle hidle, surfOp_of_word]
  split
  · omega
  · omega
  · omega
  · rw [surfCmdBadOp, surfSid_of_word]

end

end Sys2Proof.Machine
end

section
/-! SUPPORT.  Upsets in the descriptor and fence tables and the drain of a surface (R125, R138, R153). -/

namespace Sys2Proof.Machine

section
variable {u : Upset} {d : Dev}

/-- R138: the drain of a RETIRING surface. -/
theorem surfaceRetireDrain_retiring {sid : Nat} (h : (d.surfAt sid).st = .retiring) :
    surfaceRetireDrain sid d = (d.putSurf sid { d.surfAt sid with st := .registered }).retire sid := if_pos h

/-- R125: a single-bit upset of a descriptor word. -/
theorem descUpset_single (h : u.double = false) :
    descUpset u d = (d.up F.SURF_STATUS_DESC_FIXED).surfErr (u.index.toNat % 16384) := if_neg (ne_true_of_eq_false h)

/-- R125: a double upset of a descriptor word loses a descriptor that is in use. -/
theorem descUpset_double (h : u.double = true) :
    descUpset u d = Dev.lostOne (u.index.toNat % 16384)
      ((((d.up F.SURF_STATUS_DESC_LOST).surfErr (u.index.toNat % 16384)).logOpen).putSurf (u.index.toNat % 16384)
        (if (d.surfAt (u.index.toNat % 16384)).st = .free ∧ (d.surfAt (u.index.toNat % 16384)).sealing = false
          then d.surfAt (u.index.toNat % 16384)
          else { d.surfAt (u.index.toNat % 16384) with lost := true })) := by
  rw [descUpset, if_pos h]
  simp only [Bool.not_eq_true']

/-- R153: a single-bit upset of a fence. -/
theorem fenceUpset_single (h : u.double = false) : fenceUpset u d = d.up F.FENCE_STATUS_ECC_FIXED :=
  if_neg (ne_true_of_eq_false h)

/-- R153: a double upset of a fence sets it to its greatest value. -/
theorem fenceUpset_double (h : u.double = true) :
    fenceUpset u d = (((d.up F.FENCE_STATUS_ECC_LOST).capture F.FENCE_ERR_FID_VALID
      [(F.FENCE_ERR_FID_FID, u.index.toNat % 4096)]).logOpen).fenceNow (u.index.toNat % 4096)
        { d.fenceAt (u.index.toNat % 4096) with val := BitVec.allOnes 64 } := if_pos h

end

end Sys2Proof.Machine
end

section
/-! SUPPORT.  The end of a sealed check (R135, R136). -/

namespace Sys2Proof.Machine

/-- R136: a check that ends on a SEALING SID with its descriptor intact registers the surface or frees the SID, as its trailer
    says. -/
theorem sealCheckEnd_checked {d : Dev} {sid : Nat} {x : Surf} {bs want : List Byte} {r : Nat × Dev}
    (hbusy : d.fl F.SURF_SEAL_BUSY = true) (hsid : sid = d.rg F.SURF_SEAL_SID) (hx : x = d.surfAt sid)
    (hsealing : x.sealing = true) (hlost : x.lost = false) (hbs : bs = x.covered d)
    (hr : r = d.chkRun 2 (if x.check = 1 then .crc32c else .crc32) bs)
    (hwant : want = leBytes 4 r.1 ++ leBytes 4 bs.length ++ leBytes 4 (x.fmt * 2 ^ 24 + x.w) ++ leBytes 4 x.h) :
    sealCheckEnd d =
      let pass := d.bytesAt x.trailer 16 == want
      let e := if pass then
          ((r.2.putSurf sid { x with st := .registered, sealing := false }).store x.trailer (leBytes 16 0)).noteWrite
            false x.trailer 16
        else ((r.2.putSurf sid {}).surfOcc (d.rg F.SURF_OCCUPANCY_COUNT - 1)).up F.SURF_STATUS_SEAL_FAIL
      ((e.sg F.SURF_SEAL_CODE (if pass then 0x00 else 0x0A)).up F.SURF_SEAL_DONE).dn F.SURF_SEAL_BUSY := by
  simp only [sealCheckEnd, hbusy, ← hsid, ← hx, hsealing, hlost, ← hbs, ← hr, ← hwant, Bool.not_true, Bool.or_self,
    Bool.false_eq_true, if_false]
  rfl

end Sys2Proof.Machine
end

section
/-! SUPPORT.  The bytes of a DRAM window write (R144, R231, R261, R314). -/

namespace Sys2Proof.Machine

/-- R81: DRAM of a canonical device is canonical. -/
theorem Dev.canon_mem {d : Dev} (h : d.canon = true) : Tab.wf dfltMem d.mem = true := by
  simp only [Dev.canon, Bool.and_eq_true] at h
  obtain ⟨⟨⟨⟨-, hmem⟩, -⟩, -⟩, -⟩ := h
  exact hmem

/-- R231, R261, R314: what each DRAM address reads once a window write's bytes have been stored where they may be. -/
theorem windowStores_byteAt {d : Dev} {a : Nat} {bs : List Byte} (hw : Tab.wf dfltMem d.mem = true) (b : Nat) :
    (Dev.each (fun (x : Nat × Byte) d => if d.windowOk x.1 then d.store x.1 [x.2] else d)
      ((List.range bs.length).map (a + ·) |>.zip bs) d).byteAt b =
        if h : a ≤ b ∧ b - a < bs.length then (if d.windowOk b = true then bs[b - a]'h.2 else d.byteAt b)
        else d.byteAt b := by
  obtain ⟨m, hstored, -, hread⟩ := each_store_ok d ((List.range' a bs.length).zip bs) hw d.windowOk
    (fun m => funext (windowOk_mem d m))
  rw [← List.range'_eq_map_range, hstored]
  exact (hread b).trans (foldl_bytes bs a b d.windowOk (d.byteAt b))

/-- R144, R145: what each DRAM address reads after a window write: the marks of what it tears write no DRAM. -/
theorem dramWindowWrite_byteAt {d : Dev} {a : Nat} {bs : List Byte} (hw : Tab.wf dfltMem (d.windowFlags a bs.length).mem = true)
    (b : Nat) :
    (dramWindowWrite a bs d).byteAt b =
      if h : a ≤ b ∧ b - a < bs.length then
        (if (d.windowFlags a bs.length).windowOk b = true then bs[b - a]'h.2 else (d.windowFlags a bs.length).byteAt b)
      else (d.windowFlags a bs.length).byteAt b := by
  rw [← windowStores_byteAt hw b, dramWindowWrite]
  generalize Dev.each _ _ (d.windowFlags a bs.length) = e
  have hmarks : Km e (Dev.each (fun sid d => d.tornWrite a bs.length sid) (e.surf.map (·.1)) (e.noteWrite false a bs.length)) :=
    Dev.each_km (fun _ _ h => Dev.tornWrite_km h) (Dev.noteWrite_km (.refl e))
  exact congrArg (fun m => Tab.get dfltMem m b) hmarks.mem

end Sys2Proof.Machine
end

section
/-! SUPPORT.  The load strobes of the curve and LUT RAMs (R204, R212): which register asks for which pair, and what a load
    asked for does. -/

namespace Sys2Proof.Machine

section
variable {q : Rq} {w : Word} {d : Dev}

/-- Where the load strobes of the 128 layers stand. -/
theorem tmLoadOff_plain (l : Fin 128) :
    let off := (lf F.VL_TM_LOAD_GO F.GL_TM_LOAD_GO l.val).off
    primOf off = off ∧ off / 4 * 4 = off ∧ mapOf off = 0 ∧ mapped off = true ∧ areaOf off = none ∧
      (findReg off).map Prod.snd = some 0 ∧ (regOf off).pair = false := by
  revert l; decide

/-- Where the load strobes of the pipes stand. -/
theorem lutLoadOff_plain (p : Fin 4) :
    let off := (F.PIPE_LUT_LOAD_GO.i p.val).off
    primOf off = off ∧ off / 4 * 4 = off ∧ mapOf off = 0 ∧ mapped off = true ∧ areaOf off = none ∧
      (findReg off).map Prod.snd = some 0 ∧ (regOf off).pair = false := by
  revert p; decide

/-- R225: the strobe of a layer of the VL or GL page acts on that layer. -/
theorem regBody_tmLoad {l win : Nat} {ws : List (Nat × Word)} (hl : l < 128) :
    regBody q false (lf F.VL_TM_LOAD_GO F.GL_TM_LOAD_GO l).off win ws w d = tmLoad l w d := by
  by_cases hvl : l < 64
  · have hoff : (lf F.VL_TM_LOAD_GO F.GL_TM_LOAD_GO l).off = 0x40188 + l * 0x400 := by rw [lf, if_pos hvl]; rfl
    have hpage : (0x40188 + l * 0x400) / 65536 = 4 := by omega
    have hreg : (0x40188 + l * 0x400) % 0x400 = F.VL_TM_LOAD_GO.off % 0x400 := by
      rw [show F.VL_TM_LOAD_GO.off % 0x400 = 0x188 from rfl]; omega
    have hlayer : (0x40188 + l * 0x400 - 0x40000) / 0x400 = l := by omega
    simp only [regBody, hoff, hpage, hreg, hlayer, if_true]
  · have hoff : (lf F.VL_TM_LOAD_GO F.GL_TM_LOAD_GO l).off = 0x50188 + (l - 64) * 0x200 := by rw [lf, if_neg hvl]; rfl
    have hpage : (0x50188 + (l - 64) * 0x200) / 65536 = 5 := by omega
    have hreg : (0x50188 + (l - 64) * 0x200) % 0x200 = F.GL_TM_LOAD_GO.off % 0x200 := by
      rw [show F.GL_TM_LOAD_GO.off % 0x200 = 0x188 from rfl]; omega
    have hlayer : 64 + (0x50188 + (l - 64) * 0x200 - 0x50000) / 0x200 = l := by omega
    simp only [regBody, hoff, hpage, hreg, hlayer, if_true]

/-- A direct write of a layer's load strobe acts by its own rule. -/
theorem regAt_tmLoad {l : Fin 128} (hr : d.reaches q = true) :
    regAt q (lf F.VL_TM_LOAD_GO F.GL_TM_LOAD_GO l.val).off w d = tmLoad l.val w d :=
  (regAt_eq_body (starterBars_of_reaches hr) (tmLoadOff_plain l)).trans (regBody_tmLoad l.isLt)

/-- A direct write of a pipe's load strobe acts by its own rule. -/
theorem regAt_lutLoad {p : Fin 4} (hr : d.reaches q = true) :
    regAt q (F.PIPE_LUT_LOAD_GO.i p.val).off w d = lutLoad p.val w d := by
  rw [regAt_eq_body (starterBars_of_reaches hr) (lutLoadOff_plain p)]
  fin_cases p <;> rfl

/-- R204: GO asks for a load of the layer's RAM that RAM names. -/
theorem tmLoad_eq {l k : Nat} (hk : k = bits w.toNat 0 1) :
    tmLoad l w d = if bit w.toNat 31 then
      d.ramLoad (curvePair l) (d.ramUsed (.layer l) (lf F.VL_CSC_CTRL_TM_EN F.GL_CSC_CTRL_TM_EN l)
        (lf F.VL_CSC_CTRL_TM_RAM F.GL_CSC_CTRL_TM_RAM l) k) k
      else d := by
  have hgo : View.on (fun _ => w) F.VL_TM_LOAD_GO = bit w.toNat 31 := on_of_bit rfl (by decide)
  have hram : View.g (fun _ => w) F.VL_TM_LOAD_RAM = k := (View.g_const (by decide)).trans hk.symm
  rw [tmLoad, hgo, hram]

/-- R212: GO asks for a load of the pipe's RAM that RAM names. -/
theorem lutLoad_eq {p k : Nat} (hk : k = bits w.toNat 0 1) :
    lutLoad p w d = if bit w.toNat 31 then
      d.ramLoad (lutPair p) (d.ramUsed (.pipe p) (F.PIPE_OUT_CTRL_LUT_EN.i p) (F.PIPE_OUT_CTRL_LUT_RAM.i p) k) k
      else d := by
  have hgo : View.on (fun _ => w) F.PIPE_LUT_LOAD_GO = bit w.toNat 31 := on_of_bit rfl (by decide)
  have hram : View.g (fun _ => w) F.PIPE_LUT_LOAD_RAM = k := (View.g_const (by decide)).trans hk.symm
  rw [lutLoad, hgo, hram]

end

section
variable {d : Dev} {r : RamPair} {used : Bool} {k a : Nat}

/-- R204: a load that nothing refuses makes its RAM LOADING and keeps its source. -/
theorem ramLoad_starts (ha : a = d.rg r.lo * 64 + d.rg r.hi * 2 ^ 32) (hused : used = false)
    (hidle : Tab.get dfltLoad d.loads r.key = none) (hrange : a + r.bytes ≤ d.usableBytes)
    (hopen : d.protHit a r.bytes = none) :
    d.ramLoad r used k = { d with loads := Tab.put dfltLoad d.loads r.key (some ⟨k, a⟩) }.sg (r.st k) 1 := by
  have hnone : (used || (Tab.get dfltLoad d.loads r.key).isSome || decide (d.usableBytes < a + r.bytes) ||
      (d.protHit a r.bytes).isSome) = false := by
    simp [hused, hidle, hrange, hopen]
  subst ha
  exact if_neg (ne_true_of_eq_false hnone)

/-- R204: a load that some case refuses sets the flag of every case that holds. -/
theorem ramLoad_refused (ha : a = d.rg r.lo * 64 + d.rg r.hi * 2 ^ 32)
    (h : (used || (Tab.get dfltLoad d.loads r.key).isSome || decide (d.usableBytes < a + r.bytes) ||
      (d.protHit a r.bytes).isSome) = true) :
    d.ramLoad r used k =
      (((d.onlyIf used (·.up r.inUse)).onlyIf (Tab.get dfltLoad d.loads r.key).isSome (·.up r.busy)).onlyIf
        (decide (d.usableBytes < a + r.bytes)) (·.up r.badAddr)).onlyIf (d.protHit a r.bytes).isSome (·.up r.prot) := by
  subst ha
  exact if_pos h

end

end Sys2Proof.Machine
end

section
/-! SUPPORT.  DRAM window reads (R142, R231, R261, R314), byte by byte, and SIG_SNAP_SEL (R335). -/

namespace Sys2Proof.Machine

/-- Byte `i` of a run of bytes given by their numbers. -/
theorem getD_map_range (f : Nat → Byte) {n i : Nat} (h : i < n) : ((List.range n).map f).getD i 0 = f i := by
  simp [h]

section
variable {d : Dev} {a : Nat}

/-- R261: a byte beyond the usable DRAM. -/
theorem windowByte_beyond (h : d.usableBytes ≤ a) : d.windowByte a = 0xFF := if_pos h

/-- R142, R231, R314: a byte that the window may not reach, or of a protected surface. -/
theorem windowByte_barred (h : a < d.usableBytes) (hbar : d.windowOk a = false ∨ (d.protHit a 1).isSome = true) :
    d.windowByte a = 0 := by
  rw [Dev.windowByte, if_neg (Nat.not_le.mpr h)]
  rcases hbar with hbar | hbar <;> simp [hbar]

/-- Any other byte is DRAM's. -/
theorem windowByte_open (h : a < d.usableBytes) (hok : d.windowOk a = true) (hprot : d.protHit a 1 = none) :
    d.windowByte a = d.byteAt a := by
  rw [Dev.windowByte, if_neg (Nat.not_le.mpr h)]
  simp [hok, hprot]

end

/-- R335: the history that a KIND and an INDEX name, if any. -/
def snapKey (kind ix : Nat) : Option Nat :=
  match kind with
  | 0 => if ix < 4 then some ix else none
  | 1 => if ix < 64 then some (128 + ix) else none
  | 2 => if ix < 64 then some (192 + ix) else none
  | _ => none

/-- R335: a KIND and INDEX that name a target. -/
theorem snapKey_some {kind ix k : Nat}
    (h : kind = 0 ∧ ix < 4 ∧ k = ix ∨ kind = 1 ∧ ix < 64 ∧ k = 128 + ix ∨ kind = 2 ∧ ix < 64 ∧ k = 192 + ix) :
    snapKey kind ix = some k := by
  rcases h with ⟨rfl, hix, rfl⟩ | ⟨rfl, hix, rfl⟩ | ⟨rfl, hix, rfl⟩ <;> exact if_pos hix

/-- R335: a KIND and INDEX that name none. -/
theorem snapKey_none {kind ix : Nat} (h : kind = 3 ∨ kind = 0 ∧ 4 ≤ ix ∨ 64 ≤ ix) : snapKey kind ix = none := by
  unfold snapKey
  split
  · exact if_neg (by omega)
  · exact if_neg (by omega)
  · exact if_neg (by omega)
  · rfl

section
variable {q : Rq} {w : Word} {d : Dev}

/-- R335: the device `d` with KIND and INDEX of a written SIG_SNAP_SEL. -/
def Dev.snapSelect (d : Dev) (q : Rq) (w : Word) : Dev :=
  (d.sg (F.SIG_SNAP_SEL_KIND.rq q) (bits w.toNat 8 2)).sg (F.SIG_SNAP_SEL_INDEX.rq q) (bits w.toNat 0 7)

/-- R335: a named target's three newest entries are shown, and VALID says that there are some. -/
theorem sigSnapSelWrite_eq :
    sigSnapSelWrite q w d =
      match snapKey (bits w.toNat 8 2) (bits w.toNat 0 7) with
      | some k =>
        let h := (d.snapSelect q w).history k
        ((((d.snapSelect q w).showEntry q 0 h[0]?).showEntry q 1 h[1]?).showEntry q 2 h[2]?).up (F.SIG_SNAP_SEL_VALID.rq q)
      | none => (d.snapSelect q w).dn (F.SIG_SNAP_SEL_VALID.rq q) := by
  have hkind : View.g (fun _ => w) F.SIG_SNAP_SEL_KIND = bits w.toNat 8 2 := View.g_const (by decide)
  have hindex : View.g (fun _ => w) F.SIG_SNAP_SEL_INDEX = bits w.toNat 0 7 := View.g_const (by decide)
  simp only [sigSnapSelWrite, hkind, hindex]
  rfl

/-- A direct write of SIG_SNAP_SEL stores its fields, and then acts by its own rule. -/
theorem regAt_sigSnapSel (hr : d.reaches q = true) :
    regAt q F.SIG_SNAP_SEL_INDEX.off w d =
      sigSnapSelWrite q w (d.putUnbanked q false F.SIG_SNAP_SEL_INDEX.off w) := by
  have hplain : plainWrite q false [(F.SIG_SNAP_SEL_INDEX.off, w)] d = d.putUnbanked q false F.SIG_SNAP_SEL_INDEX.off w :=
    plainWrite_unbanked (by decide)
  have hbody : regAt q F.SIG_SNAP_SEL_INDEX.off w d =
      sigSnapSelWrite q w (plainWrite q false [(F.SIG_SNAP_SEL_INDEX.off, w)] d) :=
    regAt_eq_body (starterBars_of_reaches hr) (by decide)
  rw [hbody, hplain]

end

end Sys2Proof.Machine
end

section
/-! SUPPORT.  The settled statements of chapter 04: fence and surface commands, scrubs and sealed checks, the DRAM window, RAM
    loads and SIG_SNAP_SEL. -/

namespace Sys2Proof.Machine

/-- Settles O17: ALLOC and FREE answer what the fence table's cases do (`fenceAllocate_any` and its siblings). -/
theorem fenceCommandsAllocateAndFree : Obligations.FenceCommandsAllocateAndFree := by
  intro rq data early s hr
  have gives : ∀ {c : Instr} {e : Dev}, exec c s = s.run (timed early (regAt rq F.FENCE_CMD_OP.off data)) →
      fenceCmdWrite rq data (s.dev.meets early) = e → Gives c s e.alone :=
    fun hc h => gives_timed hc hr ((regAt_fenceCmd (d := s.dev.meets early) hr).trans h)
  have hlt : data.toNat % 4096 < 4096 := Nat.mod_lt _ (by decide)
  refine ⟨fun hidle => ?_, fun hbusy => ?_⟩
  · intro d
    rw [show s.dev.freeFid = d.freeFid from freeFid_congr rfl]
    refine ⟨fun f hop hfree hany => ?_, fun hop hany hfree => ?_, fun hop hnone => ?_, fun f hop hfree hany htaken => ?_,
      fun hop halloc hbound hwaited => ?_, fun hop hfree => ?_, fun hop halloc hused => ?_, fun halloc hfree => ?_⟩
    · exact gives rfl (fenceCmdWrite_alloc hidle hop hany (fenceAllocate_any (d := d) hfree))
    · exact gives rfl (fenceCmdWrite_alloc hidle hop hany (fenceAllocate_named (d := d) hlt hfree))
    · exact gives rfl (fenceCmdWrite_alloc hidle hop rfl (fenceAllocate_full (d := d) hnone))
    · exact gives rfl (fenceCmdWrite_alloc hidle hop hany (fenceAllocate_taken (d := d) hfree htaken))
    · exact gives rfl (fenceCmdWrite_free hidle hop (fenceRelease_ok (d := d) halloc hbound hwaited))
    · exact gives rfl (fenceCmdWrite_free hidle hop (fenceRelease_free (d := d) hfree))
    · exact gives rfl (fenceCmdWrite_free hidle hop (fenceRelease_used (d := d) halloc hused))
    · exact gives rfl (fenceCmdWrite_badOp hidle halloc hfree)
  · have hgives := fenceCmdWrite_busy (w := data) hbusy
    exact ⟨gives rfl hgives, gives rfl hgives, gives rfl hgives⟩

/-- Settles O18: REGISTER, UNREGISTER and CLEAR_TORN answer what the surface table's cases do (`register_ok` and its
    siblings). -/
theorem surfaceCommandsRegisterAndRelease : Obligations.SurfaceCommandsRegisterAndRelease := by
  intro rq data early s hr
  have gives : ∀ {c : Instr} {e : Dev}, exec c s = s.run (timed early (regAt rq F.SURF_CMD_OP.off data)) →
      surfCmdWrite rq data (s.dev.meets early) = e → Gives c s e.alone :=
    fun hc h => gives_timed hc hr ((regAt_surfCmd (d := s.dev.meets early) hr).trans h)
  refine ⟨fun hidle => ?_, fun hbusy => ?_⟩
  · intro d
    refine ⟨?_, ?_, ?_, fun hop => gives rfl (surfCmdWrite_badOp hidle hop)⟩
    · rintro x sid hop hx rfl
      refine ⟨fun h => ?_, fun h => ?_, fun h => ?_, fun c h hrefused => ?_⟩
      · exact gives rfl (surfCmdWrite_register hidle hop hx (register_ok h))
      · exact gives rfl (surfCmdWrite_register hidle hop hx (register_sealStarted h))
      · exact gives rfl (surfCmdWrite_register hidle hop hx (register_tableFull h))
      · have hc : c ≠ .ok ∧ c ≠ .sealStarted ∧ c ≠ .tableFull := by
          rcases hrefused with rfl | rfl | rfl | rfl | rfl | rfl | rfl <;> decide
        exact gives rfl (surfCmdWrite_register hidle hop hx (register_refused h hc))
    · rintro sid hop rfl
      exact ⟨fun hst hnamed => gives rfl (surfCmdWrite_unregister hidle hop (unregister_ok hst hnamed)),
        fun hused => gives rfl (surfCmdWrite_unregister hidle hop (unregister_used hused)),
        fun hst => gives rfl (surfCmdWrite_unregister hidle hop (unregister_free hst))⟩
    · rintro sid hop rfl
      exact ⟨fun hst => gives rfl (surfCmdWrite_clearTorn hidle hop (clearTorn_ok hst)),
        fun hst => gives rfl (surfCmdWrite_clearTorn hidle hop (clearTorn_free hst))⟩
  · have hgives := surfCmdWrite_busy (w := data) hbusy
    exact ⟨gives rfl hgives, gives rfl hgives, gives rfl hgives, gives rfl hgives⟩

/-- Settles O19: a drain, and a scrub of one upset of either kind, of a descriptor and of a fence. -/
theorem tableScrubsAndDrains : Obligations.TableScrubsAndDrains := by
  intro s hdark
  refine ⟨fun sid hst => ?_, fun u hu => ⟨?_, ?_⟩, fun u hu => ?_, fun u hu => ?_⟩
  · exact Gives.run rfl hdark (surfaceRetireDrain_retiring hst)
  · exact Gives.run (f := Dev.each descUpset [u]) rfl hdark (descUpset_single hu)
  · exact Gives.run (f := Dev.each fenceUpset [u]) rfl hdark (fenceUpset_single hu)
  · exact Completes.run (f := Dev.each descUpset [u]) rfl hdark ⟨_, rfl, descUpset_double hu⟩
  · exact Completes.run (f := Dev.each fenceUpset [u]) rfl hdark ⟨_, rfl, fenceUpset_double hu⟩

/-- Settles O20: the end of the check is decided by the trailer's bytes (`sealCheckEnd_checked`). -/
theorem sealCheckEndsRegisteredOrFree : Obligations.SealCheckEndsRegisteredOrFree := by
  intro sid x bs want r s hdark hbusy hsid hx hsealing hlost hbs hr hwant
  have hend := sealCheckEnd_checked hbusy hsid hx hsealing hlost hbs hr hwant
  refine ⟨fun h => Gives.run rfl hdark (hend.trans ?_), fun h => Gives.run rfl hdark (hend.trans ?_)⟩
  · rw [beq_iff_eq.mpr h]
    rfl
  · rw [beq_eq_false_iff_ne.mpr h]
    rfl

/-- Settles O21: the bytes after the write are those stored (`dramWindowWrite_byteAt`); time and the access flags change none. -/
theorem windowWriteStoresItsBytesAndNoOthers : Obligations.WindowWriteStoresItsBytesAndNoOthers := by
  intro addr data dt s d hcanon hdark hd
  have hflags : Km s.dev ((s.dev.advance dt).windowFlags addr.toNat data.length) :=
    Dev.windowFlags_km (Dev.advance_km (.refl s.dev))
  have hwf : Tab.wf dfltMem ((s.dev.advance dt).windowFlags addr.toNat data.length).mem = true := by
    rw [hflags.mem]
    exact Dev.canon_mem hcanon
  refine Completes.run (f := fun e => dramWindowWrite addr.toNat data (e.advance dt)) rfl hdark fun a => ?_
  have hread := dramWindowWrite_byteAt hwf a
  rw [← hd] at hread hflags
  have hbefore : d.byteAt a = s.dev.byteAt a := congrArg (fun m => Tab.get dfltMem m a) hflags.mem
  refine ⟨fun h hok => ?_, fun hout => ?_⟩
  · rw [hread, dif_pos h, if_pos hok]
  · rw [hread, ← hbefore]
    rcases hout with hrange | hbarred
    · exact dif_neg hrange
    · simp [hbarred]

/-- Settles O32: either strobe asks its pair for a load (`tmLoad_eq`, `lutLoad_eq`), which starts or is refused. -/
theorem ramLoadStrobesStartOneLoad : Obligations.RamLoadStrobesStartOneLoad := by
  intro c r used k data rq s hr hstrobe a
  have hacts : ∃ f : Dev → Dev, exec c s = s.run f ∧
      f s.dev = if bit data.toNat 31 then s.dev.ramLoad r used k else s.dev := by
    rcases hstrobe with ⟨l, rfl, rfl, hk, rfl⟩ | ⟨p, rfl, rfl, hk, rfl⟩
    · exact ⟨_, rfl, (regAt_tmLoad hr).trans (tmLoad_eq hk)⟩
    · exact ⟨_, rfl, (regAt_lutLoad hr).trans (lutLoad_eq hk)⟩
  obtain ⟨f, hexec, hf⟩ := hacts
  refine ⟨fun hgo => ?_, fun hgo hused hidle hrange hopen => ?_, fun hgo hrefused => ?_⟩
  · exact Gives.run hexec (dark_of_reaches hr) (hf.trans (if_neg (ne_true_of_eq_false hgo)))
  · exact Gives.run hexec (dark_of_reaches hr)
      (hf.trans ((if_pos hgo).trans (ramLoad_starts rfl hused hidle hrange hopen)))
  · exact Gives.run hexec (dark_of_reaches hr) (hf.trans ((if_pos hgo).trans (ramLoad_refused rfl hrefused)))

/-- Settles O57: a window read answers byte by byte (`windowByte_beyond` and its siblings), and SIG_SNAP_SEL shows what its KIND
    and INDEX name (`snapKey_some`, `snapKey_none`). -/
theorem windowReadsAndSnapshots : Obligations.WindowReadsAndSnapshots := by
  refine ⟨fun addr len s hdark => ?_, fun rq data s hr => ?_⟩
  · intro d e e2 bad x bs
    refine ⟨Gives.run (f := dramWindowRead addr.toNat len.toNat) rfl hdark rfl, fun hnone => ?_, fun i hi => ?_⟩
    · exact congrArg e2.poisonedBy hnone
    · have hbyte : bs.getD i 0 = x.windowByte (addr.toNat + i) :=
        getD_map_range (fun i => x.windowByte (addr.toNat + i)) hi
      rw [hbyte]
      exact ⟨windowByte_beyond, windowByte_open, windowByte_barred⟩
  · intro y kind ix e
    have hwrite := (regAt_sigSnapSel (w := data) hr).trans sigSnapSelWrite_eq
    refine ⟨fun k hk => ?_, fun hnone => ?_⟩
    · rw [snapKey_some hk] at hwrite
      exact Gives.run rfl (dark_of_reaches hr) hwrite
    · rw [snapKey_none hnone] at hwrite
      exact Gives.run rfl (dark_of_reaches hr) hwrite

end Sys2Proof.Machine
end

section
/-! SUPPORT.  DRAM errors under inline ECC (R262): what a report does, and when corrected ones are a storm. -/

namespace Sys2Proof.Machine

section
variable {d : Dev} {ch : Nat}

/-- R262: the corrected errors of a channel within the last 1 ms, newest first. -/
def Dev.recentCe (d : Dev) (ch : Nat) : List Nat :=
  (Tab.get (fun _ => []) d.ceTimes ch).filter (fun t => decide (d.now < t + 1000000))

/-- R262: the device once it has noted and counted a corrected error of a channel. -/
def Dev.ceCounted (d : Dev) (ch : Nat) : Dev :=
  Dev.incSat { d with ceTimes := Tab.put (fun _ => []) d.ceTimes ch ((d.now :: d.recentCe ch).take 256) }
    (F.CH_ERRORS_CE_COUNT.i ch)

/-- R262: a corrected error that STORM of 0 or too few recent ones leave alone is counted only. -/
theorem corrected_calm (h : d.rg F.FETCH_ECC_CFG_STORM = 0 ∨ (d.recentCe ch).length < d.rg F.FETCH_ECC_CFG_STORM) :
    d.corrected ch = d.ceCounted ch := by
  have hcalm : (d.rg F.FETCH_ECC_CFG_STORM != 0 && decide (d.rg F.FETCH_ECC_CFG_STORM ≤ (d.recentCe ch).length)) = false := by
    rcases h with h | h
    · simp [h]
    · simp [Nat.not_le.mpr h]
  exact if_neg (ne_true_of_eq_false hcalm)

/-- R262: a corrected error past STORM recent ones flags the storm and raises FAULT, and is logged where the flag was clear. -/
theorem corrected_storm (hon : d.rg F.FETCH_ECC_CFG_STORM ≠ 0)
    (hmany : d.rg F.FETCH_ECC_CFG_STORM ≤ (d.recentCe ch).length) :
    d.corrected ch =
      if (d.ceCounted ch).fl F.FETCH_STATUS_CE_STORM then ((d.ceCounted ch).up F.FETCH_STATUS_CE_STORM).attn .fault
      else (((d.ceCounted ch).up F.FETCH_STATUS_CE_STORM).attn .fault).logE 4 3 3 ch := by
  have hstorm : (d.rg F.FETCH_ECC_CFG_STORM != 0 && decide (d.rg F.FETCH_ECC_CFG_STORM ≤ (d.recentCe ch).length)) = true := by
    simp [hon, hmany]
  have hcases : d.corrected ch =
      (((d.ceCounted ch).up F.FETCH_STATUS_CE_STORM).attn .fault).onlyIf (!(d.ceCounted ch).fl F.FETCH_STATUS_CE_STORM)
        (·.logE 4 3 3 ch) := if_pos hstorm
  rw [hcases]
  cases (d.ceCounted ch).fl F.FETCH_STATUS_CE_STORM <;> rfl

section
variable {r : Reader} {addr : Nat}

/-- R262: without inline ECC no error is seen. -/
theorem dramEccError_off {unc : Bool} (h : d.fl F.FETCH_DRAM_ECC_EN = false) : dramEccError ch unc r addr d = d := by
  simp [dramEccError, h]

/-- R262: an uncorrectable error is reported and reaches its reader. -/
theorem dramEccError_uncorrected (h : d.fl F.FETCH_DRAM_ECC_EN = true) :
    dramEccError ch true r addr d = (d.uncorrected ch).eccReader r addr := by
  simp [dramEccError, h]

/-- R262: a corrected error does not reach its reader. -/
theorem dramEccError_corrected (h : d.fl F.FETCH_DRAM_ECC_EN = true) :
    dramEccError ch false r addr d = d.corrected ch := by
  simp [dramEccError, h]

end

end

end Sys2Proof.Machine
end

section
/-! SUPPORT.  Writes of the coefficient store (R173 to R175, R195): where its words stand, and who may write which set. -/

namespace Sys2Proof.Machine

section
variable {q : Rq} {off : Nat} {w : Word} {d : Dev}

variable (hlo : 0x68000 ≤ off) (hhi : off < 0x70000) (hal : off % 4 = 0)
include hlo hhi hal

/-- A direct write of a coefficient word acts by its own rule, and then restores parity where it stored. -/
theorem regAt_coef (hr : d.reaches q = true) : regAt q off w d = (coefWrite q off w d).restoreIf off off w := by
  obtain ⟨hprim, halign, hmap⟩ := primary_of_aligned (off := off) (by omega) hal
  have hmapped : mapped off = true := by simp [mapped, within]; omega
  have harea : areaOf off = none := by
    have hbelow : ∀ a b : Nat, 0x70000 ≤ a → within a b off = false := fun a b ha => by simp [within]; omega
    simp [areaOf, hbelow]
  have hpage : off / 65536 = 6 := by omega
  rw [regAt_eq_body_of (starterBars_of_reaches hr) hprim halign hmap hmapped harea (findReg_coef hlo hhi hal) rfl]
  simp only [regBody, hpage, if_pos hlo]

/-- The words of the coefficient store pass the rule's own test of where they stand. -/
theorem coefWord_within : (within 0x68000 0x6FFFF off && off % 4 == 0) = true := by simp [within, hal]; omega

/-- R173, R175: firmware, or the host in a set from 4 that no layer uses, stores the two taps. -/
theorem coefWrite_stores (h : q = .fw ∨ 4 ≤ (off - 0x68000) / 0x400 ∧ d.coefInUse ((off - 0x68000) / 0x400) = false) :
    coefWrite q off w d = d.sgWord off (w &&& 0x0FFF0FFF) := by
  cases q with
  | fw => simp [coefWrite, coefWord_within hlo hhi hal]
  | host =>
    obtain ⟨hset, hfree⟩ := h.resolve_left (by decide)
    simp [coefWrite, coefWord_within hlo hhi hal, Nat.not_lt.mpr hset, hfree]

/-- R173: the host may not write sets 0 to 3. -/
theorem coefWrite_reserved (hset : (off - 0x68000) / 0x400 < 4) :
    coefWrite .host off w d = d.up F.LINESTORE_STATUS_COEF_RESERVED := by
  simp [coefWrite, coefWord_within hlo hhi hal, hset]

/-- R175: the host may not write a set that a layer uses. -/
theorem coefWrite_inUse (hset : 4 ≤ (off - 0x68000) / 0x400) (hused : d.coefInUse ((off - 0x68000) / 0x400) = true) :
    coefWrite .host off w d = d.up F.LINESTORE_STATUS_COEF_IN_USE := by
  simp [coefWrite, coefWord_within hlo hhi hal, Nat.not_lt.mpr hset, hused]

end

/-- Storing a register word, with parity restored where the register holds what was written, changes that word alone. -/
theorem sgWord_restoreIf_sameBut {k off : Nat} {v w : Word} {d : Dev} (hw : Tab.wf dfltU d.regs = true) :
    ((d.sgWord k v).restoreIf k off w).unV k = v ∧ d.sameBut ((d.sgWord k v).restoreIf k off w) [k] := by
  obtain ⟨ms, ls, h⟩ := restoreIf_mismatches k off w (d.sgWord k v)
  rw [h]
  refine ⟨(unV_sgWord hw).trans (if_pos rfl), fun j hj => ?_, rfl⟩
  exact (unV_sgWord hw).trans (if_neg (by simpa using hj))

/-- Restoring parity changes no register word. -/
theorem restoreIf_regs {k off : Nat} {w : Word} {d : Dev} : (d.restoreIf k off w).regs = d.regs := by
  obtain ⟨ms, ls, h⟩ := restoreIf_mismatches k off w d
  rw [h]

end Sys2Proof.Machine
end

section
/-! SUPPORT.  The settled statements of chapter 05: memory errors and coefficient writes. -/

namespace Sys2Proof.Machine

/-- Settles O22: a DRAM error goes by ECC's enable and its kind, a corrected one by STORM (`corrected_calm`,
    `corrected_storm`); the other rows do what their rule says in every state. -/
theorem memoryErrorsAreCountedAndMarked : Obligations.MemoryErrorsAreCountedAndMarked := by
  intro s hdark
  refine ⟨fun vl line => Gives.run rfl hdark rfl, fun l line => Gives.run rfl hdark rfl,
    fun q line => Gives.run rfl hdark rfl, fun ch => Gives.run (f := dramRetrain ch.val) rfl hdark rfl, ?_, ?_⟩
  · rintro ch r a dt d rfl
    have gives : ∀ {u : Bool} {e : Dev}, dramEccError ch.val u r a.toNat (s.dev.advance dt) = e →
        Gives (.dramEccError ch u ⟨r, a⟩ dt) s e :=
      Gives.run (f := fun d => dramEccError ch.val _ r a.toNat (d.advance dt)) rfl hdark
    refine ⟨fun hon => gives (dramEccError_uncorrected hon), ?_, fun u hoff => gives (dramEccError_off hoff)⟩
    rintro old d2 hon rfl rfl
    exact ⟨fun hcalm => gives ((dramEccError_corrected hon).trans (corrected_calm hcalm)),
      fun hstorm hmany => gives ((dramEccError_corrected hon).trans (corrected_storm hstorm hmany))⟩
  · rintro reports d rfl
    exact Gives.run (f := refreshMultUpdate reports) rfl hdark rfl

/-- Settles O31: who writes and which set decide what the write does (`coefWrite_stores` and its siblings); parity that it
    restores is no register word. -/
theorem coefficientWritesRespectSetsInUse : Obligations.CoefficientWritesRespectSetsInUse := by
  intro rq off data s hr hwf hlo hhi hal k
  have completes : ∀ {e : Dev} {P : Dev → Prop}, coefWrite rq off.toNat data s.dev = e →
      P (e.restoreIf off.toNat off.toNat data) → Completes (.coefWrite rq off data) s P := by
    rintro e P rfl hP
    exact Completes.run (f := regAt rq off.toNat data) rfl (dark_of_reaches hr) ((regAt_coef hlo hhi hal hr).symm ▸ hP)
  refine ⟨fun hmay => ?_, ?_, ?_⟩
  · exact completes (coefWrite_stores hlo hhi hal hmay) (sgWord_restoreIf_sameBut hwf)
  · rintro rfl hset
    exact completes (coefWrite_reserved hlo hhi hal hset) restoreIf_regs
  · rintro rfl hset hused
    exact completes (coefWrite_inUse hlo hhi hal hset hused) restoreIf_regs

end Sys2Proof.Machine
end

section
/-! SUPPORT.  The curve and LUT RAMs (R204, R205, R212): the end of a load, and a parity error of the RAM that is in use. -/

namespace Sys2Proof.Machine

section
variable {l p k line : Nat} {x : RamLoad} {d : Dev}

/-- R204: the end of a running load fills the layer's curve RAM from DRAM and makes it VALID. -/
theorem tmLoadComplete_running (h : Tab.get dfltLoad d.loads l = some x) :
    tmLoadComplete l d =
      { d with
        loads := Tab.put dfltLoad d.loads l none
        tmRam := Tab.put dfltRam d.tmRam (2 * l + x.ram) (entriesOf 2 1024 (d.bytesAt x.addr 2048)) }.sg
        ((curvePair l).st x.ram) 2 := by
  rw [tmLoadComplete, h]

/-- R212: the end of a running load fills the pipe's LUT RAM from DRAM and makes it VALID. -/
theorem lutLoadComplete_running (h : Tab.get dfltLoad d.loads (128 + p) = some x) :
    lutLoadComplete p d =
      { d with
        loads := Tab.put dfltLoad d.loads (128 + p) none
        lutRam := Tab.put dfltRam d.lutRam (2 * p + x.ram) (entriesOf 8 35937 (d.bytesAt x.addr 287496)) }.sg
        ((lutPair p).st x.ram) 2 := by
  rw [lutLoadComplete, h]

/-- R205: a parity error of the VALID curve RAM that a layer of pipe `p` reads; the layer goes without it from the next
    line. -/
theorem tmParity_used (hk : d.ac (lf F.VL_CSC_CTRL_TM_RAM F.GL_CSC_CTRL_TM_RAM l) = k) (hp : pipeOf d.acV l = some p)
    (hen : d.acOn (lf F.VL_CSC_CTRL_TM_EN F.GL_CSC_CTRL_TM_EN l) = true) (hvalid : d.rg ((curvePair l).st k) = 2) :
    tmParity l line d = (d.ramParity (curvePair l) k).mark p .ram [] (fun f =>
      { f with openLines := line :: f.openLines, noTm := (l, line + 1) :: f.noTm }) := by
  simp only [tmParity, hk, hp, hen, hvalid, beq_self_eq_true, Bool.and_self, if_true]

/-- R212: a parity error of the VALID LUT RAM that a pipe reads; the pipe goes without it from the next line. -/
theorem lutParity_used (hk : d.ac (F.PIPE_OUT_CTRL_LUT_RAM.i p) = k) (hen : d.acOn (F.PIPE_OUT_CTRL_LUT_EN.i p) = true)
    (hvalid : d.lutState p k = 2) :
    lutParity p line d = (d.ramParity (lutPair p) k).mark p .ram [] (fun f =>
      { f with openLines := line :: f.openLines
               noLut := some (min (f.noLut.getD (line + 1)) (line + 1)) }) := by
  simp only [lutParity, hk, hen, hvalid, beq_self_eq_true, Bool.and_self, if_true]

end

end Sys2Proof.Machine
end

section
/-! SUPPORT.  What befalls a composed frame on its way out: the first underrun (R281 to R284), a fetch that overtakes a raced
    job (R368), and its writeback (R222, R223). -/

namespace Sys2Proof.Machine

/-- R281, R368: pipe `p` runs and sends a composed frame, in which nothing has run short so far. -/
structure ComposesFrame (d : Dev) (p : Nat) : Prop where
  /-- The pipe runs. -/
  running : d.running p = true
  /-- A frame is open. -/
  live : (d.frame p).live = true
  /-- It is not a black frame. -/
  shown : (d.frame p).blanked = false
  /-- It is not replayed. -/
  fresh : (d.frame p).replay = false
  /-- It is sent. -/
  sent : (d.frame p).notSent = false
  /-- It has had no underrun. -/
  whole : bit (d.frame p).cause 0 = false

/-- R120, R282: an underrun of pipe `p` on line `line` is counted, flagged and captured with the kind and index `k`. -/
def Dev.underCaptured (d : Dev) (p line : Nat) (k : Nat × Nat) : Dev :=
  ((((d.incSat (F.PIPE_UNDERRUN_STATUS_COUNT.i p)).up (F.PIPE_UNDERRUN_STATUS_UNDERRUN.i p)).sg
    (F.PIPE_UNDERRUN_LAST_LINE.i p) line).sg (F.PIPE_UNDERRUN_LAST_KIND.i p) k.1).sg (F.PIPE_UNDERRUN_LAST_INDEX.i p) k.2

/-- R282, R333: the captured underrun marks the frame, on which it acts by `g`, raises UNDERRUN and is logged. -/
def Dev.underReported (d : Dev) (p line : Nat) (k : Nat × Nat) (g : Frame → Frame) : Dev :=
  let e := ((d.faultSum F.SYS_FAULT_SUMMARY_UNDERRUN).mark p .underrun (layersOf d.acV p) g).attn .underrun
  e.logMore 4 3 1 (line % 2 ^ 14 * 2 ^ 16 + k.1 * 2 ^ 12 + k.2 + p * 2 ^ 30) e.channelLog

section
variable {p line : Nat} {d : Dev}

section
variable {kind : UnderKind} {index : Nat}

/-- R281 to R284: the first underrun of a composed frame, where something is fetched, cuts the frame at the line where its
    mode is RESTART_NOW, and otherwise makes it black from the line on. -/
theorem underrun_first (hf : ComposesFrame d p) (hline : line < (rasterOf d.acV p).vact)
    (hfetch : d.fetchesAt p line index kind = true) :
    underrun p line kind index d =
      ((d.underMode p).2.underCaptured p line (underCode p index kind)).underReported p line (underCode p index kind)
        (fun f => if (d.underMode p).1 then { f with cut := some line } else f.blackOn line) := by
  have hacts : (!d.running p || !(d.frame p).live || (d.frame p).blanked || (d.frame p).replay || (d.frame p).notSent
      || bit (d.frame p).cause 0 || decide ((rasterOf d.acV p).vact ≤ line) || !d.fetchesAt p line index kind) = false := by
    simp [hf.running, hf.live, hf.shown, hf.fresh, hf.sent, hf.whole, hline, hfetch]
  exact if_neg (ne_true_of_eq_false hacts)

/-- R281: a stopped pipe, a pipe with no open frame and one that does not fetch the layer or plane there cannot underrun. -/
theorem underrun_none (h : d.running p = false ∨ (d.frame p).live = false ∨ d.fetchesAt p line index kind = false) :
    underrun p line kind index d = d := by
  refine if_pos ?_
  rcases h with hstopped | hclosed | hunfetched
  · simp [hstopped]
  · simp [hclosed]
  · simp [hunfetched]

end

/-- R368: without a scraper job no fetch overtakes one. -/
theorem scanOutFetchIssue_idle (h : d.scJob = none) : scanOutFetchIssue p line d = d := by rw [scanOutFetchIssue, h]

/-- R368: the first fetch of a composed frame that overtakes the job that races the pipe is flagged, counted and captured. -/
theorem scanOutFetchIssue_overtakes {j : ScJob} (hf : ComposesFrame d p) (hjob : d.scJob = some j)
    (hfirst : (d.frame p).overtook = false) (hgood : j.bad = none) (hon : j.raceOff = false)
    (hrace : bit (j.words.getD 0 0) 14 = true) (hpipe : j.f 0 15 2 = p)
    (hpast : allLayers.any (fun l => d.overtakes j p l line) = true) :
    scanOutFetchIssue p line d =
      let e := { d.putFrame p { d.frame p with overtook := true } with scJob := some { j with overtaken := true } }
      (((e.up (F.SCRAPER_BEAM_OVERTAKE.i p)).incSat (F.SCRAPER_BEAM_COUNT.i p)).sg (F.SCRAPER_BEAM_QUEUE.i p) j.q).sg
        (F.SCRAPER_BEAM_SLOT.i p) j.slot := by
  have hacts : (d.running p && (d.frame p).live && !(d.frame p).blanked && !(d.frame p).replay && !(d.frame p).notSent &&
      !bit (d.frame p).cause 0 && !(d.frame p).overtook && j.bad.isNone && !j.raceOff && bit (j.words.getD 0 0) 14
      && j.f 0 15 2 == p && allLayers.any (fun l => d.overtakes j p l line)) = true := by
    simp only [hf.running, hf.live, hf.shown, hf.fresh, hf.sent, hf.whole, hfirst, hgood, hon, hrace, hpipe, hpast,
      Option.isNone_none, Bool.not_false, beq_self_eq_true, Bool.and_self]
  rw [scanOutFetchIssue, hjob]
  exact if_pos hacts

/-- R223: an overflow on an active line cuts the frame that is written back, at the first such line. -/
theorem writebackLineOverflow_cuts {w : WbFrame} (hwb : (d.pst p).wb = some w) (hline : line < (rasterOf d.acV p).vact) :
    writebackLineOverflow p line d =
      (d.putPst p { d.pst p with wb := some { w with cut := some (min (w.cut.getD line) line) } }).up
        (F.PIPE_WB_STATUS_OVERFLOW.i p) := by
  rw [writebackLineOverflow, hwb]
  exact if_pos hline

/-- R222, R484: out of HOLD an ended writeback frame is stored, sets DONE, and signals its fence where enabled. -/
theorem writebackFrameDone_ended {e : WbEnd} (hhold : d.inHold = false) (hend : (d.pst p).wbEnd = some e) :
    Dev.engine (writebackFrameDone p) d =
      let e1 := ((d.putPst p { d.pst p with wbEnd := none }).putWrites true e.writes).up (F.PIPE_WB_STATUS_DONE.i p)
      if e.fenceEn then e1.signalSet e.fid e.k else e1 := by
  rw [Dev.engine, if_neg (ne_true_of_eq_false hhold), writebackFrameDone, hend]

end

end Sys2Proof.Machine
end

section
/-! SUPPORT.  The settled statements of chapter 06: curve and LUT RAMs, underruns and writeback. -/

namespace Sys2Proof.Machine

/-- Settles O23: each row acts by its own rule on the load that runs, or on the RAM that the active bank uses. -/
theorem ramLoadsFillTheirRam : Obligations.RamLoadsFillTheirRam := by
  refine ⟨fun l x s hdark hload => Gives.run rfl hdark (tmLoadComplete_running hload),
    fun p x s hdark hload => Gives.run rfl hdark (lutLoadComplete_running hload), ?_, ?_⟩
  · intro l line k p s hdark hk hp hen hvalid
    exact Gives.run rfl hdark (tmParity_used hk.symm hp hen hvalid)
  · intro p line k s hdark hk hen hvalid
    exact Gives.run rfl hdark (lutParity_used hk.symm hen hvalid)

/-- Settles O53: a composed frame (`ComposesFrame`) underruns by its mode and is overtaken by its rule; writeback events act
    on the frame that is, or has been, written back. -/
theorem underrunAndWritebackEvents : Obligations.UnderrunAndWritebackEvents := by
  intro pipe s hdark d p f
  refine ⟨?_, fun line kind index h => Gives.run rfl hdark (underrun_none h),
    fun line hidle => Gives.run rfl hdark (scanOutFetchIssue_idle hidle), ?_,
    fun line w hwb hline => Gives.run rfl hdark (writebackLineOverflow_cuts hwb hline), ?_⟩
  · intro line kind index hrun hlive hshown hfresh hsent hwhole hline hfetch
    have hf : ComposesFrame d p := ⟨hrun, hlive, hshown, hfresh, hsent, hwhole⟩
    have hunder := underrun_first hf hline hfetch
    refine ⟨fun hmode => ?_, fun hmode => ?_⟩
    · simp only [hmode, if_true] at hunder
      exact Gives.run rfl hdark hunder
    · simp only [hmode, Bool.false_eq_true, if_false] at hunder
      exact Gives.run rfl hdark hunder
  · intro line j hjob hrun hlive hshown hfresh hsent hwhole hfirst hgood hon hrace hpipe hpast
    have hf : ComposesFrame d p := ⟨hrun, hlive, hshown, hfresh, hsent, hwhole⟩
    exact Gives.run rfl hdark (scanOutFetchIssue_overtakes hf hjob hfirst hgood hon hrace hpipe hpast)
  · intro e hhold hend
    have hdone := writebackFrameDone_ended hhold hend
    exact ⟨fun hfence => Gives.run rfl hdark (hdone.trans (if_pos hfence)),
      fun hfence => Gives.run rfl hdark (hdone.trans (if_neg (ne_true_of_eq_false hfence)))⟩

end Sys2Proof.Machine
end

section
/-! SUPPORT.  Damage hints (R241): what a staged hint's submission does, and which hints wait. -/

namespace Sys2Proof.Machine

section
variable {q : Rq} {w : Word} {d : Dev}

/-- R241: the hint that requester `q` has staged in its registers. -/
def Dev.stagedHint (d : Dev) (q : Rq) : Hint :=
  ⟨q, d.rg (F.CRUST_HINT_SID_SID.rq q), d.rg (F.CRUST_HINT_RECT_X.rq q), d.rg (F.CRUST_HINT_RECT_Y.rq q),
    d.rg (F.CRUST_HINT_RECT_W.rq q), d.rg (F.CRUST_HINT_RECT_H.rq q), d.rg (F.CRUST_HINT_SID_FORCE.rq q) != 0,
    d.rg (F.CRUST_HINT_FENCE_FID.rq q), d.rg (F.CRUST_HINT_WAIT_VALUE.rq q)⟩

/-- A direct write of CRUST_HINT_GO acts by its own rule. -/
theorem regAt_crustHintGo (hr : d.reaches q = true) : regAt q F.CRUST_HINT_GO_GO.off w d = crustHintGo q w d :=
  regAt_eq_body (starterBars_of_reaches hr) (by decide)

/-- R241: without GO nothing is submitted. -/
theorem crustHintGo_idle (hgo : bit w.toNat 0 = false) : crustHintGo q w d = d := by
  have hon : View.on (fun _ => w) F.CRUST_HINT_GO_GO = false := (on_of_bit rfl (by decide)).trans hgo
  exact if_pos (by simp [hon])

/-- R241: GO submits the staged hint, which the surface, the fence and the queue decide on in this order. -/
theorem crustHintGo_submits (hgo : bit w.toNat 0 = true) :
    crustHintGo q w d =
      if (d.surfAt (d.stagedHint q).sid).st = .free then d.up F.CRUST_STATUS_HINT_BAD
      else if d.rg (F.CRUST_HINT_FENCE_EN.rq q) = 0 then d.hintApply (d.stagedHint q)
      else if 16 ≤ countP (fun x => x.rq == q) d.hints then d.up F.CRUST_STATUS_HINT_FULL
      else ({ d with hints := d.hints ++ [d.stagedHint q] }).hintsDue := by
  have hon : View.on (fun _ => w) F.CRUST_HINT_GO_GO = true := (on_of_bit rfl (by decide)).trans hgo
  exact if_neg (by simp [hon])

/-- R241: the fence of hint `x` is allocated and has reached its wait value. -/
def Dev.hintIsDue (d : Dev) (x : Hint) : Bool := x.wait ≤ (d.fenceAt x.fid).val.toNat && (d.fenceAt x.fid).alloc

/-- R241: the due hints are applied in their order, and the others go on waiting. -/
theorem hintsDue_eq :
    d.hintsDue = (Dev.each (fun x d => d.hintApply x) (d.hints.filter d.hintIsDue)
      { d with hints := d.hints.filter (!d.hintIsDue ·) }).hintCount := rfl

/-- R241: where no pending hint is due, all of them go on waiting. -/
theorem hintsDue_none (h : ∀ x ∈ d.hints, (d.fenceAt x.fid).alloc = true → (d.fenceAt x.fid).val.toNat < x.wait) :
    d.hintsDue = d.hintCount := by
  have hwaits : ∀ x ∈ d.hints, d.hintIsDue x = false := by
    intro x hx
    rw [Dev.hintIsDue]
    cases halloc : (d.fenceAt x.fid).alloc with
    | false => exact Bool.and_false _
    | true => simpa using h x hx halloc
  have hnone : d.hints.filter d.hintIsDue = [] :=
    List.filter_eq_nil_iff.mpr fun x hx => ne_true_of_eq_false (hwaits x hx)
  have hall : d.hints.filter (!d.hintIsDue ·) = d.hints :=
    List.filter_eq_self.mpr fun x hx => by simp [hwaits x hx]
  rw [hintsDue_eq, hnone, hall, Dev.each]

/-- R241: a hint whose fence has not reached its value joins the others that wait. -/
theorem hintsDue_append {x : Hint} (hx : (d.fenceAt x.fid).val.toNat < x.wait)
    (h : ∀ y ∈ d.hints, (d.fenceAt y.fid).alloc = true → (d.fenceAt y.fid).val.toNat < y.wait) :
    ({ d with hints := d.hints ++ [x] }).hintsDue = ({ d with hints := d.hints ++ [x] }).hintCount := by
  refine hintsDue_none fun y hy halloc => ?_
  rcases List.mem_append.mp hy with hold | hnew
  · exact h y hold halloc
  · rw [List.mem_singleton.mp hnew]; exact hx

end

end Sys2Proof.Machine
end

section
/-! SUPPORT.  The crust's tiles: what CRUST_TILE_SEL shows (R255), and what a parity error leaves of a tile (R249, R250). -/

namespace Sys2Proof.Machine

section
variable {q : Rq} {w : Word} {d : Dev}

/-- R255: the fields that a CRUST_TILE_SEL naming plane `p` and tile `t` fills, with what they show of the entry `x`. -/
def tileShown (p t : Nat) (x : Tile) : List (Fld × Nat) :=
  [(F.CRUST_TILE_SEL_PLANE, p), (F.CRUST_TILE_SEL_TILE, t), (F.CRUST_TILE_W0_DAMAGE, b2n x.damage),
   (F.CRUST_TILE_W0_VIS, b2n x.vis), (F.CRUST_TILE_W0_INVALID, b2n x.invalid),
   (F.CRUST_TILE_W0_STATE1, x.v1.st.num), (F.CRUST_TILE_W0_STATE0, x.v0.st.num), (F.CRUST_TILE_W0_SIG, x.sig),
   (F.CRUST_TILE_W1_PAYLOAD0_LO, x.v0.payload), (F.CRUST_TILE_W2_PAYLOAD0_HI, x.v0.payload / 2 ^ 32),
   (F.CRUST_TILE_W3_PAYLOAD1_LO, x.v1.payload), (F.CRUST_TILE_W4_PAYLOAD1_HI, x.v1.payload / 2 ^ 32)]

/-- R255: PLANE and TILE are kept, and the entry they name is shown. -/
theorem crustTileSelWrite_eq :
    crustTileSelWrite w d = Dev.each (fun (x : Fld × Nat) d => d.sg x.1 x.2)
      (tileShown (bits w.toNat 16 3) (bits w.toNat 0 13) (d.tileAt (tileKey (bits w.toNat 16 3) (bits w.toNat 0 13)))) d := by
  have hplane : View.g (fun _ => w) F.CRUST_TILE_SEL_PLANE = bits w.toNat 16 3 := View.g_const (by decide)
  have htile : View.g (fun _ => w) F.CRUST_TILE_SEL_TILE = bits w.toNat 0 13 := View.g_const (by decide)
  simp only [crustTileSelWrite, hplane, htile, tileShown]

/-- What differs in unbanked registers only has the same tile tables. -/
theorem OnlyRegsMismatches.tileAt {e : Dev} (h : OnlyRegsMismatches d e) (k : Nat) : e.tileAt k = d.tileAt k :=
  congrArg (Tab.get dfltTile · k) (congrArg Dev.tiles h.h :)

/-- A direct write of CRUST_TILE_SEL stores its fields, and then acts by its own rule. -/
theorem regAt_crustTileSel (hr : d.reaches q = true) :
    regAt q F.CRUST_TILE_SEL_TILE.off w d =
      crustTileSelWrite w (d.putUnbanked q false F.CRUST_TILE_SEL_TILE.off w) := by
  have hplain : plainWrite q false [(F.CRUST_TILE_SEL_TILE.off, w)] d = d.putUnbanked q false F.CRUST_TILE_SEL_TILE.off w :=
    plainWrite_unbanked (by decide)
  have hbody : regAt q F.CRUST_TILE_SEL_TILE.off w d =
      crustTileSelWrite w (plainWrite q false [(F.CRUST_TILE_SEL_TILE.off, w)] d) :=
    regAt_eq_body (starterBars_of_reaches hr) (by decide)
  rw [hbody, hplain]

end

section
variable {flag : Fld} {q t line : Nat} {g : Frame → Frame} {d : Dev}

/-- R249, R250: a parity error of plane `q` sets its pipe's flag and is logged. -/
def Dev.tileReported (d : Dev) (flag : Fld) (q : Nat) : Dev := (d.up (flag.i (planePipe q))).logOpen

/-- R249: tile `t` of plane `q` is INVALID and damaged, and no version being built or ready clears that. -/
def Dev.tileSpoiled (d : Dev) (q t : Nat) : Dev :=
  let k := tileKey q t
  let c := d.crustAt (planePipe q)
  (d.putTile k { d.tileAt k with invalid := true, damage := true }).putCrust (planePipe q) { c with
    item := c.item.map (fun i => { i with inv := i.inv.filter (· != k) })
    ready := c.ready.map (fun r => { r with inv := r.inv.filter (· != k) }) }

/-- R229: an error outside the raster's tiles is reported and leaves the tile table alone. -/
theorem tileInvalid_outside (h : min 8192 (tileCount d.acV (planePipe q)) ≤ t) :
    d.tileInvalid flag q t line g = d.tileReported flag q := if_neg (Nat.not_lt.mpr h)

/-- R249, R250: a tile of the raster is spoiled; where a visible version charges its plane, the frame is marked as well. -/
theorem tileInvalid_inside (h : t < min 8192 (tileCount d.acV (planePipe q))) :
    d.tileInvalid flag q t line g =
      let d1 := d.tileReported flag q
      let k := tileKey q t
      (d1.tileSpoiled q t).onlyIf (planeCharged d1.acV q) (fun e => e.mark (planePipe q) .crust [] (fun f =>
        g (if (d1.tileAt k).invalid then f else { f with empty := (k, line) :: f.empty }))) := if_pos h

/-- R249: in a plane that no visible version charges, spoiling the tile is all. -/
theorem tileInvalid_uncharged (h : t < min 8192 (tileCount d.acV (planePipe q)))
    (hcharged : planeCharged (d.tileReported flag q).acV q = false) :
    d.tileInvalid flag q t line g = (d.tileReported flag q).tileSpoiled q t :=
  (tileInvalid_inside h).trans (if_neg (ne_true_of_eq_false hcharged))

/-- R249, R250: in a charged plane the frame is marked, and shows a tile that was not INVALID yet as EMPTY. -/
theorem tileInvalid_charged (h : t < min 8192 (tileCount d.acV (planePipe q)))
    (hcharged : planeCharged (d.tileReported flag q).acV q = true) :
    d.tileInvalid flag q t line g =
      ((d.tileReported flag q).tileSpoiled q t).mark (planePipe q) .crust [] (fun f =>
        g (if ((d.tileReported flag q).tileAt (tileKey q t)).invalid then f
          else { f with empty := (tileKey q t, line) :: f.empty })) :=
  (tileInvalid_inside h).trans (if_pos hcharged)

/-- R249: a scrub of one entry finds it at the line that its pipe starts next. -/
theorem tileScrub_one {x : BitVec 16} {d0 : Dev} (hline : (line, d0) = d.nextLine (planePipe (x.toNat / 8192))) :
    tileScrub [x] d = d0.tileInvalid F.CRUST_PIPE_STATUS_ENTRY_PARITY (x.toNat / 8192) (x.toNat % 8192) line id := by
  rw [tileScrub, Dev.each, ← hline]
  rfl

end

end Sys2Proof.Machine
end

section
/-! SUPPORT.  The settled statements of chapter 07: damage hints and the crust's tiles. -/

namespace Sys2Proof.Machine

/-- Settles O33: what GO submits is applied, refused or left to wait by the cases of `crustHintGo_submits`. -/
theorem damageHintsApplyAtOnceOrWait : Obligations.DamageHintsApplyAtOnceOrWait := by
  intro rq data s h hr hh
  obtain rfl : h = s.dev.stagedHint rq := hh
  have gives : ∀ {e : Dev}, crustHintGo rq data s.dev = e → Gives (.crustHintGo rq data) s e :=
    fun he => Gives.run rfl (dark_of_reaches hr) ((regAt_crustHintGo hr).trans he)
  refine ⟨fun hgo => gives (crustHintGo_idle hgo), fun hgo hfree => ?_, fun hgo hused hopen => ?_,
    fun hgo hused hfenced hfull => ?_, fun hgo hused hfenced hroom hwait hothers => ?_⟩
  · exact gives ((crustHintGo_submits hgo).trans (if_pos hfree))
  · exact gives (by rw [crustHintGo_submits hgo, if_neg hused, if_pos hopen])
  · have hen : s.dev.rg (F.CRUST_HINT_FENCE_EN.rq rq) ≠ 0 := by omega
    exact gives (by rw [crustHintGo_submits hgo, if_neg hused, if_neg hen, if_pos hfull])
  · have hen : s.dev.rg (F.CRUST_HINT_FENCE_EN.rq rq) ≠ 0 := by omega
    exact gives (by
      rw [crustHintGo_submits hgo, if_neg hused, if_neg hen, if_neg (Nat.not_le.mpr hroom), hintsDue_append hwait hothers])

/-- Settles O34: CRUST_TILE_SEL shows the entry it names (`crustTileSelWrite_eq`); either error spoils its tile by the cases of
    `tileInvalid`. -/
theorem tileSelectShowsTheEntry : Obligations.TileSelectShowsTheEntry := by
  refine ⟨fun rq data s hr => ?_, fun c flag q t line g s d0 hdark hc => ?_⟩
  · have hkept := OnlyRegsMismatches.putUnbanked rq false F.CRUST_TILE_SEL_TILE.off data s.dev
    have hwrite := (regAt_crustTileSel (w := data) hr).trans crustTileSelWrite_eq
    rw [hkept.tileAt] at hwrite
    exact Gives.run rfl (dark_of_reaches hr) hwrite
  · have gives : ∀ {e : Dev}, d0.tileInvalid flag q t line g = e → Gives c s e := by
      rintro e rfl
      rcases hc with ⟨x, rfl, rfl, rfl, rfl, rfl, hline⟩ | ⟨plane, tile, l, rfl, rfl, rfl, rfl, rfl, rfl, rfl⟩
      · exact Gives.run (f := tileScrub [x]) rfl hdark (tileScrub_one hline)
      · exact Gives.run (f := crustDataParity plane.val tile.toNat l.toNat) rfl hdark rfl
    exact ⟨fun hout => gives (tileInvalid_outside hout),
      fun hin hcharged => gives (tileInvalid_uncharged hin hcharged),
      fun hin hcharged => gives (tileInvalid_charged hin hcharged)⟩

end Sys2Proof.Machine
end

section
/-! SUPPORT.  Declared streams (R267): the rule of FETCH_DECL_k_CTRL, and the end of a declaration's test (R279). -/

namespace Sys2Proof.Machine

/-- R267: the device with declaration `k` as the word `w` gives it. -/
def Dev.declSet (d : Dev) (k : Nat) (w : Word) : Dev :=
  (d.sg (F.FETCH_DECL_CTRL_EN.i k) (b2n (bit w.toNat 31))).sg (F.FETCH_DECL_CTRL_MBPS.i k) (bits w.toNat 0 17)

/-- R267: the word `w` enables declaration `k`, or raises its rate with EN as it stands. -/
def Dev.declGrows (d : Dev) (k : Nat) (w : Word) : Bool :=
  let en := bit w.toNat 31
  let was := d.fl (F.FETCH_DECL_CTRL_EN.i k)
  (en && !was) || (en == was && decide (d.rg (F.FETCH_DECL_CTRL_MBPS.i k) < bits w.toNat 0 17))

/-- R267: the device whose declaration test is over, with no outcome shown yet. -/
def Dev.declTaken (d : Dev) : Dev := { d with declTest := none }.dn F.FETCH_STATUS_DECL_PENDING

/-- R267, R279: what is declared in `e` fits the configuration to be of `d` and its active one. -/
def Dev.declFits (d e : Dev) : Bool :=
  let c := d.cfg91 []
  let cb := pipes.filter (fun p => d.tClass c.act c.v p == .classB)
  (d.admits c cb e.declared).isNone && (d.admits d.cfgAct [] e.declared).isNone

section
variable {q : Rq} {w : Word} {d : Dev}

/-- R290: EN and MBPS of a word written to FETCH_DECL_k_CTRL. -/
theorem declFields_of_word : View.on (fun _ => w) F.FETCH_DECL_CTRL_EN = bit w.toNat 31 ∧
    View.g (fun _ => w) F.FETCH_DECL_CTRL_MBPS = bits w.toNat 0 17 :=
  ⟨on_of_bit rfl (by decide), View.g_const (by decide)⟩

/-- FETCH_DECL_k_CTRL is an ordinary register at a fixed offset. -/
theorem declOff_plain (k : Fin 8) :
    let off := (F.FETCH_DECL_CTRL_EN.i k.val).off
    primOf off = off ∧ off / 4 * 4 = off ∧ mapOf off = 0 ∧ mapped off = true ∧ areaOf off = none ∧
      (findReg off).map Prod.snd = some 0 ∧ (regOf off).pair = false := by
  revert k; decide

/-- A write of FETCH_DECL_k_CTRL acts by its own rule, and repairs its parity. -/
theorem regBody_fetchDecl {al : Bool} {k win : Nat} {ws : List (Nat × Word)} (hk : k < 8) :
    regBody q al (F.FETCH_DECL_CTRL_EN.i k).off win ws w d =
      (fetchDeclCtrl k w d).restoreIf (0x80040 + 0x10 * k) (0x80040 + 0x10 * k) w := by
  have hoff : (F.FETCH_DECL_CTRL_EN.i k).off = 0x80040 + k * 0x10 := rfl
  have hpage : (0x80040 + k * 0x10) / 65536 = 8 := by omega
  have hother : 0x80040 + k * 0x10 ≠ F.FETCH_EFF_EFF.off := by rw [show F.FETCH_EFF_EFF.off = 0x80008 from rfl]; omega
  have hdecl : within 0x80040 0x800BF (0x80040 + k * 0x10) = true := by
    simp only [within, Bool.and_eq_true, decide_eq_true_eq]; omega
  have hindex : (0x80040 + k * 0x10 - 0x80040) / 0x10 = k := by omega
  have hctrl : (0x80040 + k * 0x10) % 0x10 = 0 := by omega
  simp only [regBody, hoff, hpage, if_neg hother, hdecl, hindex, hctrl, if_true, declWrite]

/-- A direct write of FETCH_DECL_k_CTRL acts by its own rule, up to the mismatches that it repairs. -/
theorem regAt_fetchDecl {k : Fin 8} (hr : d.reaches q = true) :
    ∃ ms ls, regAt q (F.FETCH_DECL_CTRL_EN.i k.val).off w d =
      { fetchDeclCtrl k.val w d with mismatches := ms, latent := ls } := by
  rw [regAt_eq_body (starterBars_of_reaches hr) (declOff_plain k), regBody_fetchDecl k.isLt]
  exact restoreIf_mismatches _ _ _ _

/-- R267: a write while a test runs is busy, one that grows waits for the host's strobe or is tested, any other is applied. -/
theorem fetchDeclCtrl_eq {k : Nat} : fetchDeclCtrl k w d =
    if d.fl F.FETCH_STATUS_DECL_PENDING then d.up F.FETCH_STATUS_DECL_BUSY
    else if d.declGrows k w then
      if d.fl F.COMMIT_STATUS_PENDING then d.up F.FETCH_STATUS_DECL_BUSY
      else { d with declTest := some ⟨k, w, !d.strobes.isEmpty⟩ }.up F.FETCH_STATUS_DECL_PENDING
    else (d.declSet k w).declShow := by
  obtain ⟨hen, hmbps⟩ := declFields_of_word (w := w)
  rw [fetchDeclCtrl, hen, hmbps]
  rfl

/-- R267: a test at the head of the checker applies its declaration where it fits, and refuses it otherwise. -/
theorem declTestEnd_eq {t : DeclTest} (ht : d.declTest = some t) (hfirst : t.behind = false) : declTestEnd d =
    if d.declTaken.declFits (d.declTaken.declSet t.k t.word) then (d.declTaken.declSet t.k t.word).declShow
    else d.declTaken.up F.FETCH_STATUS_DECL_REFUSED := by
  obtain ⟨hen, hmbps⟩ := declFields_of_word (w := t.word)
  simp only [declTestEnd, ht, hfirst, hen, hmbps]
  rfl

end

end Sys2Proof.Machine
end

section
/-! SUPPORT.  The settled statements of chapter 08: declared streams. -/

namespace Sys2Proof.Machine

/-- Settles O35, by the cases of `fetchDeclCtrl_eq` for a write and of `declTestEnd_eq` for the end of a test. -/
theorem declaredStreamsPassATest : Obligations.DeclaredStreamsPassATest := by
  refine ⟨fun rq k data s hr => ?_, fun t s hdark ht hfirst => ?_⟩
  · have yields : ∀ {e : Dev}, fetchDeclCtrl k.val data s.dev = e → Yields (.fetchDeclWrite rq k data) s e :=
      fun he => Yields.run rfl (dark_of_reaches hr) (regAt_fetchDecl hr) he
    refine ⟨fun htesting => ?_, fun hidle (hgrows : s.dev.declGrows k.val data = true) hstrobe => ?_,
      fun hidle (hgrows : s.dev.declGrows k.val data = true) hfree => ?_,
      fun hidle (hshrinks : s.dev.declGrows k.val data = false) => ?_⟩
    · exact yields (fetchDeclCtrl_eq.trans (if_pos htesting))
    all_goals have hidle := ne_true_of_eq_false hidle
    · exact yields (by rw [fetchDeclCtrl_eq, if_neg hidle, if_pos hgrows, if_pos hstrobe])
    · exact yields (by rw [fetchDeclCtrl_eq, if_neg hidle, if_pos hgrows, if_neg (ne_true_of_eq_false hfree)])
    · exact yields (by rw [fetchDeclCtrl_eq, if_neg hidle, if_neg (ne_true_of_eq_false hshrinks)]; rfl)
  · have gives : ∀ {e : Dev}, declTestEnd s.dev = e → Gives .declTestEnd s e := fun he => Gives.run rfl hdark he
    exact ⟨fun hfits => gives ((declTestEnd_eq ht hfirst).trans (if_pos hfits)),
      fun hmisfits => gives ((declTestEnd_eq ht hfirst).trans (if_neg (ne_true_of_eq_false hmisfits)))⟩

end Sys2Proof.Machine
end

section
/-! SUPPORT.  Ports (R306, R316, R318, R320, R322, R323): what the end of a training, the retrain timer and HDCP's reports do. -/

namespace Sys2Proof.Machine

section
variable {k : Nat} {d : Dev}

/-- R318: what shows that a DisplayPort port is trained. -/
theorem trainedFld_dp (hk : k < 4) : trainedFld k = F.DP_STATUS_TRAINED.i k := if_pos hk

/-- R322: what shows that a DSI port is trained. -/
theorem trainedFld_dsi : trainedFld (4 + k) = F.DSI_STATUS_READY.i k := by
  rw [trainedFld, if_neg (Nat.not_lt.mpr (Nat.le_add_right 4 k)), Nat.add_sub_cancel_left]

/-- R318, R483: outside HOLD a DisplayPort port that is not in training begins it, and loses TRAINED. -/
theorem train_begins (hk : k < 4) (hhold : d.inHold = false) (hidle : d.training.contains k = false) :
    d.train k = ({ d with training := k :: d.training }.dn (F.DP_STATUS_TRAINED.i k)).hdcpAgain k := by
  simp only [Dev.train, hhold, hidle, hk, trainedFld_dp hk, Bool.false_eq_true, if_false, if_true]

/-- R318: the timer trains a plugged port without a link that a running pipe selects, while Hearth firmware runs. -/
theorem retrainTimer_trains (hplug : d.fl (F.DP_STATUS_PLUGGED.i k) = true) (hlink : d.fl (F.DP_STATUS_TRAINED.i k) = false)
    (hruns : d.portRuns k = true) (hfw : d.hearth.stopped = false) : retrainTimer k d = d.train k := by
  simp [retrainTimer, hplug, hlink, hruns, hfw]

/-- R306, R318: a training that fails leaves TRAIN_FAIL and LINK, and the sequence that waited goes on. -/
theorem trainFail_of_training (h : d.training.contains k = true) :
    trainFail k d = (((d.trainDone k).up (F.DP_STATUS_TRAIN_FAIL.i k)).attn .link).stepDone k := by
  rw [trainFail, h]; rfl

/-- R306, R318, R320: a DisplayPort port that is trained takes its lanes and its HDCP state, and the sequence goes on. -/
theorem linkTrainingComplete_dp (hk : k < 4) (h : d.training.contains k = true) :
    linkTrainingComplete k d =
      (((((d.trainDone k).up (F.DP_STATUS_TRAINED.i k)).lanes k).hdcpAgain k).hdcpEnable k).stepDone k := by
  rw [linkTrainingComplete, h, trainedFld_dp hk]; simp only [if_pos hk]; rfl

/-- R306, R322: a DSI port that is trained is ready, and the sequence goes on. -/
theorem linkTrainingComplete_dsi (h : d.training.contains (4 + k) = true) :
    linkTrainingComplete (4 + k) d = ((d.trainDone (4 + k)).up (F.DSI_STATUS_READY.i k)).stepDone (4 + k) := by
  rw [linkTrainingComplete, h, trainedFld_dsi]; simp only [if_neg (Nat.not_lt.mpr (Nat.le_add_right 4 k))]; rfl

/-- R320: with unwrapped keys the end of an authentication leaves AUTHENTICATED, counted, or FAILED. -/
theorem hdcpAuthComplete_unwrapped {ok uw rep : Bool} (hstate : d.rg (F.DP_HDCP_STATE.i k) = 1)
    (hkeys : d.rg F.SECURE_KEYS_HDCP_KEYS = 2) (hfw : d.hearth.stopped = false) :
    hdcpAuthComplete k ok uw rep d =
      if ok then ((d.hdcpTo k 2).incSat (F.DP_HDCP_AUTH_COUNT.i k)).sg (F.DP_HDCP_REPEATER.i k) (b2n rep)
      else d.hdcpTo k 3 := by
  simp [hdcpAuthComplete, hstate, hkeys, hfw]

/-- R320: a retry of a failed authentication on a trained link authenticates again. -/
theorem hdcpRetry_again (hstate : d.rg (F.DP_HDCP_STATE.i k) = 3) (hlink : d.fl (F.DP_STATUS_TRAINED.i k) = true)
    (hfw : d.hearth.stopped = false) : hdcpRetry k d = d.hdcpTo k 1 := by
  simp [hdcpRetry, hstate, hlink, hfw]

end

end Sys2Proof.Machine
end

section
/-! SUPPORT.  Hot-plug events (R318, R320, R323, R487, R488, R506, R509): which of them reach their port, which wait for Hearth
    firmware, and what those that are seen do. -/

namespace Sys2Proof.Machine

/-- R323, R447: Hearth firmware is stopped or has not started, so that HPD events wait for it. -/
def Dev.fwAway (d : Dev) : Bool := d.hearth.stopped || d.power.boot != .released

/-- R323: HPD event `i` waits for Hearth firmware, behind those that wait already. -/
def Dev.hpdWaits (d : Dev) (i : Instr) : Dev := { d with hearth := { d.hearth with queued := d.hearth.queued ++ [i] } }

/-- An event of the always-on part that gives device `e` completes there. -/
theorem Gives.runAon {c : Instr} {s : State} {f : Dev → Dev} {e : Dev} (hc : exec c s = s.runAon f)
    (hscan : s.dev.power.scan = false) (he : f s.dev = e) : Gives c s e := by rw [Gives, hc, State.runAon_of hscan, he]

section
variable {k : Nat} {i : Instr} {d : Dev}

/-- R486, R515: a device that is not dark is neither in DEEP nor in structural scan. -/
theorem dark_eq_false_iff : d.dark = false ↔ d.deep = false ∧ d.power.scan = false := Bool.or_eq_false_iff

/-- Where firmware runs, the always-on part has left its reset. -/
theorem boot_ne_aonReset_of_fw (hfw : d.fwAway = false) : d.power.boot ≠ .aonReset := by
  intro hboot
  simp [Dev.fwAway, hboot] at hfw

/-! ### Which events are seen -/

/-- R323: on a port that is not fenced off an event waits while firmware is away. -/
theorem hpdGuard_waits (hopen : bit (d.rg F.SECURE_FENCED_DP) k = false) (hfw : d.fwAway = true) :
    d.hpdGuard k i = d.hpdWaits i := by
  rw [Dev.hpdGuard, if_neg (ne_true_of_eq_false hopen)]
  exact if_pos hfw

/-- R318, R506: on a port neither fenced off nor under test an event is answered while firmware runs. -/
theorem hpdGuard_answers (hopen : bit (d.rg F.SECURE_FENCED_DP) k = false) (hfw : d.fwAway = false)
    (htest : d.underTest k = false) : d.hpdGuard k i = hpdAnswer i d := by
  rw [Dev.hpdGuard, if_neg (ne_true_of_eq_false hopen)]
  exact (if_neg (ne_true_of_eq_false hfw)).trans (if_neg (ne_true_of_eq_false htest))

/-- R509: a plug at a fenced port, or before the always-on part has left its reset, does nothing. -/
theorem hpdPlugEvent_barred (h : bit (d.rg F.SECURE_FENCED_DP) k = true ∨ d.power.boot = .aonReset) :
    hpdPlugEvent k i d = d := by
  refine if_pos ?_
  rcases h with hfenced | hboot
  · rw [hfenced, Bool.true_or]
  · rw [hboot]; exact Bool.or_true _

/-- R318: outside DEEP a plug that wakes nothing goes to the guard of its port. -/
theorem hpdPlugEvent_awake (hopen : bit (d.rg F.SECURE_FENCED_DP) k = false) (hboot : d.power.boot ≠ .aonReset)
    (hdeep : d.deep = false) (hwake : (bit (d.rg F.POWER_WAKE_HPD) k && !d.fl (F.DP_STATUS_PLUGGED.i k)) = false) :
    hpdPlugEvent k i d = d.hpdGuard k i := by
  simp [hpdPlugEvent, hopen, hboot, hdeep, hwake]

/-- R487, R488: in DEEP a plug is noted, and wakes the device where that is enabled. -/
theorem hpdPlugEvent_deep (hopen : bit (d.rg F.SECURE_FENCED_DP) k = false) (hboot : d.power.boot ≠ .aonReset)
    (hdeep : d.deep = true) (hwake : (bit (d.rg F.POWER_WAKE_HPD) k && !d.fl (F.DP_STATUS_PLUGGED.i k)) = true) :
    hpdPlugEvent k i d = (d.up (F.DP_STATUS_PLUGGED.i k)).wakeEvent (4 + k) := by
  simp only [hpdPlugEvent, hopen, beq_eq_false_iff_ne.mpr hboot, hdeep, hwake, Bool.or_false, Bool.false_eq_true, if_false,
    if_true, Dev.onlyIf_true]

/-- R318: outside DEEP an unplug goes to the guard of its port. -/
theorem hpdUnplugEvent_awake (hdeep : d.deep = false) (hboot : d.power.boot ≠ .aonReset) :
    hpdUnplugEvent k i d = d.hpdGuard k i := by simp [hpdUnplugEvent, hdeep, bne_iff_ne.mpr hboot]

/-- R318: outside DEEP a pulse goes to the guard of its port. -/
theorem irqHpdEvent_awake (hdeep : d.deep = false) (hboot : d.power.boot ≠ .aonReset) :
    irqHpdEvent k i d = d.hpdGuard k i := by simp [irqHpdEvent, hdeep, bne_iff_ne.mpr hboot]

/-- R318: outside DEEP an unplug completes with what the guard of its port makes of it. -/
theorem gives_hpdUnplug {port : Fin 4} {s : State} {g : Dev} (hscan : s.dev.power.scan = false) (hdeep : s.dev.deep = false)
    (hboot : s.dev.power.boot ≠ .aonReset) (hg : s.dev.hpdGuard port.val (.hpdUnplug port) = g) :
    Gives (.hpdUnplug port) s g := Gives.runAon rfl hscan ((hpdUnplugEvent_awake hdeep hboot).trans hg)

/-- R318, R320: outside DEEP a pulse completes with what the guard of its port makes of it. -/
theorem gives_irqHpd {port : Fin 4} {lost req : Bool} {s : State} {g : Dev} (hdark : s.dev.dark = false)
    (hboot : s.dev.power.boot ≠ .aonReset) (hg : s.dev.hpdGuard port.val (.irqHpd port lost req) = g) :
    Gives (.irqHpd port lost req) s g :=
  Gives.run rfl hdark ((irqHpdEvent_awake (dark_eq_false_iff.mp hdark).1 hboot).trans hg)

/-! ### What an event that is seen does -/

/-- R318: a port with no sink has nothing to unplug. -/
theorem hpdUnplug_unplugged (h : d.fl (F.DP_STATUS_PLUGGED.i k) = false) : hpdUnplug k d = d := by rw [hpdUnplug, h]; rfl

/-- R318, R320, R324: an unplug ends the link and its training, shows HOTPLUG and disables HDCP. -/
theorem hpdUnplug_plugged (h : d.fl (F.DP_STATUS_PLUGGED.i k) = true) :
    hpdUnplug k d =
      ((((((d.dn (F.DP_STATUS_PLUGGED.i k)).dn (F.DP_STATUS_TRAINED.i k)).up (F.DP_STATUS_HOTPLUG.i k)).attn
        .hotplug).hdcpTo k 0).trainDone k).stepDone k := by rw [hpdUnplug, h]; rfl

/-- R318: a pulse of a port with no sink does nothing. -/
theorem irqHpd_unplugged {lost req : Bool} (h : d.fl (F.DP_STATUS_PLUGGED.i k) = false) : irqHpd k lost req d = d := by
  rw [irqHpd, h]; rfl

/-- R318: IRQ_HPD shows that the link of port `k` is lost, and the loss is counted. -/
def Dev.linkGone (d : Dev) (k : Nat) : Dev :=
  (((d.up (F.DP_STATUS_IRQ_HPD.i k)).up (F.DP_STATUS_LINK_LOST.i k)).incSat (F.DP_STATUS_RETRAIN_COUNT.i k)).dn
    (F.DP_STATUS_TRAINED.i k)

/-- R318, R320: a pulse of a plugged port trains a lost link again, and authenticates again where the sink asks for it. -/
theorem irqHpd_plugged {lost req : Bool} (h : d.fl (F.DP_STATUS_PLUGGED.i k) = true) :
    irqHpd k lost req d =
      (if lost then (d.linkGone k).train k else d.up (F.DP_STATUS_IRQ_HPD.i k)).onlyIf req (·.hdcpAgain k) := by
  rw [irqHpd, h]; rfl

end

end Sys2Proof.Machine
end

section
/-! SUPPORT.  The settled statements of chapter 09: ports and hot-plug events. -/

namespace Sys2Proof.Machine

/-- Settles O25: each report moves its port by its own rule; a training that ends is told apart by the kind of its port. -/
theorem portEventsFollowTheLink : Obligations.PortEventsFollowTheLink := by
  intro s hdark
  refine ⟨fun p uw rep hstate hkeys hfw => ?_, fun p hstate hlink hfw => ?_, fun p htraining => ?_, fun k htraining => ?_,
    fun p hplug hlink hruns hhold hidle hfw => ?_, fun k => Gives.run rfl hdark rfl⟩
  · exact ⟨Gives.run rfl hdark (hdcpAuthComplete_unwrapped hstate hkeys hfw),
      Gives.run rfl hdark (hdcpAuthComplete_unwrapped hstate hkeys hfw)⟩
  · exact Gives.run rfl hdark (hdcpRetry_again hstate hlink hfw)
  · exact ⟨Gives.run rfl hdark (trainFail_of_training htraining),
      Gives.run rfl hdark (linkTrainingComplete_dp p.isLt htraining)⟩
  · exact Gives.run rfl hdark (linkTrainingComplete_dsi htraining)
  · exact Gives.run rfl hdark ((retrainTimer_trains hplug hlink hruns hfw).trans (train_begins p.isLt hhold hidle))

/-- Settles O51: an event goes by its power state to the guard of its port (`hpdPlugEvent_awake` and its like), which keeps
    it (`hpdGuard_waits`) or answers it (`hpdGuard_answers`). -/
theorem hotPlugEventsReachThePort : Obligations.HotPlugEventsReachThePort := by
  intro port s d k plugged fenced kept e wakes stopped away
  have answers {i : Instr} {g : Dev} (hopen : fenced = false) (hfw : stopped = false) (htest : d.underTest k = false)
      (hg : hpdAnswer i d = g) : d.hpdGuard k i = g := (hpdGuard_answers hopen hfw htest).trans hg
  refine ⟨fun hscan hbarred sink => Gives.runAon rfl hscan (hpdPlugEvent_barred hbarred),
    fun hscan hopen hdeep htest hfw hwake sink => ?_, fun hscan hopen hdeep hboot hfw hwake sink => ?_,
    fun hscan hopen hdeep hboot hwake sink => Gives.runAon rfl hscan (hpdPlugEvent_deep hopen hboot hdeep hwake),
    fun hscan hdeep => Gives.runAon rfl hscan (if_pos hdeep),
    fun hscan hdeep hopen hfw htest hplug => ?_, fun hscan hdeep hopen hfw htest hplug => ?_,
    fun hdark hopen hfw htest hplug => ?_, fun hdark hopen hfw htest hplug a b => ?_, fun hdark hopen hfw hboot => ?_⟩
  · refine Gives.runAon rfl hscan ((hpdPlugEvent_awake hopen ?_ hdeep hwake).trans (answers hopen hfw htest rfl))
    exact boot_ne_aonReset_of_fw hfw
  · exact Gives.runAon rfl hscan ((hpdPlugEvent_awake hopen hboot hdeep hwake).trans (hpdGuard_waits hopen hfw))
  · exact gives_hpdUnplug hscan hdeep (boot_ne_aonReset_of_fw hfw) (answers hopen hfw htest (hpdUnplug_plugged hplug))
  · exact gives_hpdUnplug hscan hdeep (boot_ne_aonReset_of_fw hfw) (answers hopen hfw htest (hpdUnplug_unplugged hplug))
  · have pulse {a b : Bool} {g : Dev} (hg : irqHpd k a b d = g) : Gives (.irqHpd port a b) s g :=
      gives_irqHpd hdark (boot_ne_aonReset_of_fw hfw) (answers hopen hfw htest hg)
    exact ⟨pulse (irqHpd_plugged hplug), pulse (irqHpd_plugged hplug), pulse (irqHpd_plugged hplug),
      pulse (irqHpd_plugged hplug)⟩
  · exact gives_irqHpd hdark (boot_ne_aonReset_of_fw hfw) (answers hopen hfw htest (irqHpd_unplugged hplug))
  · obtain ⟨hdeep, hscan⟩ := dark_eq_false_iff.mp hdark
    exact ⟨gives_hpdUnplug hscan hdeep hboot (hpdGuard_waits hopen hfw),
      fun a b => gives_irqHpd hdark hboot (hpdGuard_waits hopen hfw)⟩

end Sys2Proof.Machine
end

section
/-! SUPPORT.  Writes of a Scraper queue's TAIL and STATUS (R350, R353, R370, R378): whose queue it is, and what they do. -/

namespace Sys2Proof.Machine

section
variable {q : Rq} {w : Word} {d : Dev}

/-- R353: the host may not write queue `n`, which is lent to Hearth firmware. -/
def Dev.sqBarred (d : Dev) (q : Rq) (n : Nat) : Bool := q == .host && n == 3 && d.fl F.SCRAPER_CFG_SQ3_SERVICE

/-- R353: a barred write sets QUEUE_OWNED, whatever its register does. -/
theorem sqOwned_barred {n : Nat} {f : Dev → Dev} (h : d.sqBarred q n = true) :
    sqOwned q n d f = d.up F.SCRAPER_STATUS_QUEUE_OWNED := if_pos h

/-- R353: any other write acts by its register's rule. -/
theorem sqOwned_open {n : Nat} {f : Dev → Dev} (h : d.sqBarred q n = false) : sqOwned q n d f = f d :=
  if_neg (ne_true_of_eq_false h)

/-- The TAIL and the STATUS of each queue are ordinary registers at fixed offsets. -/
theorem sqOff_plain : ∀ f ∈ [F.SQ_TAIL_TAIL, F.SQ_STATUS_STOPPED], ∀ k : Fin 4,
    let off := (f.i k.val).off
    primOf off = off ∧ off / 4 * 4 = off ∧ mapOf off = 0 ∧ mapped off = true ∧ areaOf off = none ∧
      (findReg off).map Prod.snd = some 0 ∧ (regOf off).pair = false := by
  decide

/-- A direct write of a queue's TAIL acts by its own rule, and repairs its parity, unless it is barred. -/
theorem regAt_sqTail {k : Fin 4} (hr : d.reaches q = true) :
    regAt q (F.SQ_TAIL_TAIL.i k.val).off w d = sqOwned q k.val d (fun d =>
      (sqTailWrite k.val w d).restoreIf (0xB0118 + 0x40 * k.val) (0xB0118 + 0x40 * k.val) w) := by
  rw [regAt_eq_body (starterBars_of_reaches hr) (sqOff_plain F.SQ_TAIL_TAIL (by simp) k)]
  fin_cases k <;> rfl

/-- R350: a tail that puts more than 1,024 descriptors in flight is refused, another is taken. -/
theorem sqTailWrite_eq {n : Nat} : sqTailWrite n w d =
    if 1024 < subMod 11 (bits w.toNat 0 11) (d.rg (F.SQ_HEAD_HEAD.i n)) then d.up (F.SQ_STATUS_TAIL_BAD.i n)
    else (d.sg (F.SQ_TAIL_TAIL.i n) (bits w.toNat 0 11)).sqIdle n := by
  rw [sqTailWrite, View.g_const (by decide)]
  rfl

/-- A one-bit field of a number is not 0 where its bit is set. -/
theorem bits_one_ne_zero (v i : Nat) : (bits v i 1 != 0) = bit v i := by
  rw [bits, bit]
  rcases Nat.mod_two_eq_zero_or_one (v / 2 ^ i) with h | h <;> simp [h]

/-- R370: a write of a queue's STATUS clears the W1C flags written as 1, ERR with its count, and stores nothing. -/
theorem plainWrite_sqStatus {k : Fin 4} : plainWrite q false [((F.SQ_STATUS_STOPPED.i k.val).off, w)] d =
    (d.ack (F.SQ_STATUS_STOPPED.i k.val).off 0x7C w).onlyIf (bit w.toNat 4) (·.dn (F.SQ_STATUS_ERR_COUNT.i k.val)) := by
  obtain ⟨hstore, hclear, hbank, hbeside, hshared, hcount⟩ :
      let off := (F.SQ_STATUS_STOPPED.i k.val).off
      storeBits off = 0 ∧ clearBits off = 0x7C ∧ hasBanked off = false ∧
        clearsWith.filter (fun p => p.1.off == (regOf off).off) = [(F.SQ_STATUS_ERR, F.SQ_STATUS_ERR_COUNT)] ∧
        perRequester off = false ∧
        { F.SQ_STATUS_ERR_COUNT with off := F.SQ_STATUS_ERR_COUNT.off + (off - F.SQ_STATUS_ERR.off) } =
          F.SQ_STATUS_ERR_COUNT.i k.val := by
    revert k; decide
  have herr : (bits w.toNat F.SQ_STATUS_ERR.lo F.SQ_STATUS_ERR.len != 0) = bit w.toNat 4 := bits_one_ne_zero _ _
  rw [plainWrite_acks _ _ _ (sqOff_plain F.SQ_STATUS_STOPPED (by simp) k) hstore hclear hbank hbeside,
    keyFor_shared hshared, Dev.each_cons, Dev.each_nil, herr, hcount, Dev.onlyIf]

/-- A direct write of a queue's STATUS is an acknowledgement, unless it is barred. -/
theorem regAt_sqStatus {k : Fin 4} (hr : d.reaches q = true) :
    regAt q (F.SQ_STATUS_STOPPED.i k.val).off w d = sqOwned q k.val d (fun d =>
      (d.ack (F.SQ_STATUS_STOPPED.i k.val).off 0x7C w).onlyIf (bit w.toNat 4) (·.dn (F.SQ_STATUS_ERR_COUNT.i k.val))) := by
  have hbody : regBody q false (F.SQ_STATUS_STOPPED.i k.val).off (F.SQ_STATUS_STOPPED.i k.val).off
      [((F.SQ_STATUS_STOPPED.i k.val).off, w)] w d =
        sqOwned q k.val d (plainWrite q false [((F.SQ_STATUS_STOPPED.i k.val).off, w)]) := by
    fin_cases k <;> rfl
  rw [regAt_eq_body (starterBars_of_reaches hr) (sqOff_plain F.SQ_STATUS_STOPPED (by simp) k), hbody]
  exact congrArg _ (funext fun _ => plainWrite_sqStatus)

end

end Sys2Proof.Machine
end

section
/-! SUPPORT.  The Scraper's jobs (R352, R354 to R356, R365, R366, R369, R370): how one starts, what a completed row does, and
    when one ends. -/

namespace Sys2Proof.Machine

/-- R484: out of HOLD an engine's event that gives device `e` completes there. -/
theorem Gives.engine {c : Instr} {s : State} {f : Dev → Dev} {e : Dev} (hc : exec c s = s.run (Dev.engine f))
    (hdark : s.dev.dark = false) (hhold : s.dev.inHold = false) (he : f s.dev = e) : Gives c s e :=
  Gives.run hc hdark ((if_neg (ne_true_of_eq_false hhold)).trans he)

/-- R354: the job that queue `q`'s next descriptor, as copied, asks for. -/
def Dev.sqJob (d : Dev) (q : Nat) : ScJob :=
  let slot := d.rg (F.SQ_HEAD_HEAD.i q) % 1024
  let words := (List.range 16).map (fun k => d.leAt (d.rg (F.SQ_BASE_BASE.i q) * 65536 + 64 * slot + 4 * k) 4)
  let j : ScJob := { q := q, slot := slot, words := words, src := {}, dst := {} }
  { j with src := d.surfAt j.srcSid, dst := d.surfAt j.dstSid }

/-- R352, R356: the device in which job `j`, tested, is the running job, with the flags of a refusal for protection. -/
def Dev.jobTested (d : Dev) (j : ScJob) : Dev :=
  { (if d.scTest j == some 0x11 then d.protFlags j.srcRange j.dstRange else d) with
    scJob := some { j with bad := d.scTest j }, scLast := j.q }

/-- R366: the row of job `j` under way is the one that reaches its watermark. -/
def ScJob.marks (j : ScJob) : Bool := j.f 5 0 14 != 0 && decide (j.f 5 0 14 ≤ j.rows + 1) && !j.wmSent

/-- R363, R365: the device with the row of job `j` under way drawn and counted. -/
def Dev.rowDrawn (d : Dev) (j : ScJob) : Dev :=
  { d.scRow j with scJob := some { j with rows := j.rows + 1, wmSent := j.wmSent || j.marks } }.sg
    (F.SQ_DONE_LINE_DONE_LINE.i j.q) (j.rows + 1)

section
variable {d : Dev} {j : ScJob}

/-- R352: no job starts while one runs. -/
theorem scraperJobStart_busy (h : d.scJob.isSome = true) : scraperJobStart d = d := if_pos h

/-- R352: no job starts where no queue may be served. -/
theorem scraperJobStart_idle (hjob : d.scJob = none) (hnext : d.sqNext = none) : scraperJobStart d = d := by
  simp [scraperJobStart, hjob, hnext]

/-- R352, R354, R356: at a job boundary the next queue's descriptor is copied and tested, and its job runs. -/
theorem scraperJobStart_starts {q : Nat} (hjob : d.scJob = none) (hnext : d.sqNext = some q) : scraperJobStart d =
    ((((((d.jobTested (d.sqJob q)).up (F.SQ_STATUS_RUNNING.i q)).up (F.SQ_DONE_LINE_ACTIVE.i q)).sg
      (F.SQ_DONE_LINE_SLOT.i q) (d.sqJob q).slot).dn (F.SQ_DONE_LINE_DONE_LINE.i q)).sqIdle q).restShow := by
  simp only [scraperJobStart, hjob, hnext]
  rfl

/-- R363, R365, R366: a row of a good job is drawn and counted, and sends the watermark interrupt where it reaches the mark. -/
theorem scraperRowComplete_row (hjob : d.scJob = some j) (hgood : j.bad = none) (hleft : j.rows < j.total) :
    scraperRowComplete d = (d.rowDrawn j).onlyIf j.marks (fun d => d.msix (d.rg (F.SQ_CTRL_WM_VECTOR.i j.q))) := by
  have hrow : ¬ (!j.inRow) = true := by simp [ScJob.inRow, hgood, hleft]
  rw [scraperRowComplete, hjob]
  exact if_neg hrow

/-- R356, R370: a refused job ends with the code of its test. -/
theorem scraperJobEnd_refused {c : Nat} (hjob : d.scJob = some j) (hbad : j.bad = some c) :
    scraperJobEnd d = d.scEnd j c := by simp only [scraperJobEnd, hjob, hbad]

/-- R369: a good job ends OK once its last row is drawn, and not before. -/
theorem scraperJobEnd_good (hjob : d.scJob = some j) (hgood : j.bad = none) :
    scraperJobEnd d = if j.rows = j.total then d.scEnd j 0 else d := by simp only [scraperJobEnd, hjob, hgood]

end

end Sys2Proof.Machine
end

section
/-! SUPPORT.  The settled statements of chapter 11: the Scraper's queues and jobs. -/

namespace Sys2Proof.Machine

/-- Settles O38: a write of a barred queue is refused whole (`sqOwned_barred`), any other acts by the rule of TAIL
    (`sqTailWrite_eq`) or of STATUS (`regAt_sqStatus`). -/
theorem scraperTailsAndResume : Obligations.ScraperTailsAndResume := by
  intro rq q data s hr barred t
  have hdark := dark_of_reaches hr
  have resume {e : Dev} (he : sqOwned rq q.val s.dev _ = e) : Gives (.sqResume rq q data) s e :=
    Gives.run rfl hdark ((regAt_sqStatus hr).trans he)
  have tail {e : Dev} (hopen : barred = false) (he : sqTailWrite q.val data s.dev = e) :
      Yields (.sqTailWrite rq q data) s e := by
    refine Yields.run rfl hdark ?_ he
    rw [regAt_sqTail hr, sqOwned_open hopen]
    exact restoreIf_mismatches _ _ _ _
  refine ⟨fun hbar => ?_, fun hbar => ?_, fun hopen hmany => ?_, fun hopen hfew => ?_, fun hopen herr => ?_,
    fun hopen herr => ?_⟩
  · exact Gives.run rfl hdark ((regAt_sqTail hr).trans (sqOwned_barred hbar))
  · exact resume (sqOwned_barred hbar)
  · exact tail hopen (sqTailWrite_eq.trans (if_pos hmany))
  · exact tail hopen (sqTailWrite_eq.trans (if_neg (Nat.not_lt.mpr hfew)))
  · exact resume ((sqOwned_open hopen).trans (by rw [herr]; rfl))
  · exact resume ((sqOwned_open hopen).trans (by rw [herr]; rfl))

/-- Settles O55: out of HOLD each event acts by its own rule: a start by the job that runs and the queue that is next, a row
    by its watermark, an end by the job's test and the rows it has drawn. -/
theorem scraperJobsRunRowByRow : Obligations.ScraperJobsRunRowByRow := by
  intro s hdark hhold d
  have gives {c : Instr} {f : Dev → Dev} {e : Dev} (hc : exec c s = s.run (Dev.engine f)) (he : f d = e) : Gives c s e :=
    Gives.engine hc hdark hhold he
  refine ⟨fun q hjob hnext => ?_, fun hjob hnext => ?_, fun hjob => ?_, fun j hjob hgood hleft => ?_,
    fun j hjob hgood hlast => ?_, fun j c hjob hbad => ?_, fun j hjob hgood hleft => ?_⟩
  · exact gives rfl (scraperJobStart_starts hjob hnext)
  · exact gives rfl (scraperJobStart_idle hjob hnext)
  · exact gives rfl (scraperJobStart_busy hjob)
  · have hrow := scraperRowComplete_row hjob hgood hleft
    refine ⟨fun (hmark : j.marks = true) => ?_, fun (hmark : j.marks = false) => ?_⟩
    · exact gives rfl (hrow.trans (by rw [hmark]; rfl))
    · exact gives rfl (hrow.trans (by rw [hmark]; rfl))
  · exact gives rfl ((scraperJobEnd_good hjob hgood).trans (if_pos hlast))
  · exact gives rfl (scraperJobEnd_refused hjob hbad)
  · exact gives rfl ((scraperJobEnd_good hjob hgood).trans (if_neg (Nat.ne_of_lt hleft)))

end Sys2Proof.Machine
end

section
/-! SUPPORT.  The copy engine's strobes, its halt and its completions (R381 to R388, R392). -/

namespace Sys2Proof.Machine

section
variable {q : Rq} {w : Word} {d : Dev}

/-- R381: the GO of each channel is an ordinary register at a fixed offset. -/
theorem dmaGoOff_plain (c : Fin 16) :
    let off := (F.DMA_CH_GO_GO.i c.val).off
    primOf off = off ∧ off / 4 * 4 = off ∧ mapOf off = 0 ∧ mapped off = true ∧ areaOf off = none ∧
      (findReg off).map Prod.snd = some 0 ∧ (regOf off).pair = false := by
  revert c; decide

/-- R381: a direct write of a channel's GO acts by its own rule. -/
theorem regAt_dmaGo {c : Fin 16} (hr : d.reaches q = true) :
    regAt q (F.DMA_CH_GO_GO.i c.val).off w d = dmaGoWrite c.val w d := by
  obtain ⟨hpage, hother, hchan, hindex, hgo⟩ :
      let off := (F.DMA_CH_GO_GO.i c.val).off
      off / 65536 = 12 ∧ off ≠ F.DMA_ENGINE_CTRL_CLEAR_HALT.off ∧ within 0xC0100 0xC04FF off = true ∧
        (off - 0xC0100) / 0x40 = c.val ∧ off % 0x40 = 0x10 := by
    revert c; decide
  rw [regAt_eq_body (starterBars_of_reaches hr) (dmaGoOff_plain c)]
  simp only [regBody, hpage, if_neg hother, hchan, hindex, hgo, if_true, List.length_singleton, OfNat.one_ne_ofNat, if_false,
    dmaChWrite]

/-- R381: a strobe that the channel refuses: while RUNNING, a RESUME from IDLE, or a HALTED channel during a halt. -/
def Dev.goRefused (d : Dev) (c : Nat) (resume : Bool) : Prop :=
  d.dmaState c = 1 ∨ (d.dmaState c = 0 ∧ resume = true) ∨ (d.dmaState c = 3 ∧ d.fl F.DMA_ENGINE_STATUS_HALT = true)

/-- R381: GO and RESUME of a written word. -/
theorem dmaGo_of_word : View.on (fun _ => w) F.DMA_CH_GO_GO = bit w.toNat (F.DMA_CH_GO_GO).lo ∧
    View.on (fun _ => w) F.DMA_CH_GO_RESUME = bit w.toNat (F.DMA_CH_GO_RESUME).lo :=
  ⟨on_of_bit rfl (by decide), on_of_bit rfl (by decide)⟩

section
variable {c : Nat}

/-- R381: a write of GO = 0 does nothing. -/
theorem dmaGoWrite_idle (hgo : bit w.toNat (F.DMA_CH_GO_GO).lo = false) : dmaGoWrite c w d = d := by
  rw [dmaGoWrite, dmaGo_of_word.1, hgo]
  rfl

/-- R381: a strobe that is refused sets GO_REFUSED. -/
theorem dmaGoWrite_refused (hgo : bit w.toNat (F.DMA_CH_GO_GO).lo = true)
    (href : d.goRefused c (bit w.toNat (F.DMA_CH_GO_RESUME).lo)) : dmaGoWrite c w d = d.up (F.DMA_CH_STATUS_GO_REFUSED.i c) := by
  rw [dmaGoWrite, dmaGo_of_word.1, dmaGo_of_word.2, hgo]
  exact if_pos href

/-- R381: any other strobe starts the channel at DESC, or continues it with RESUME. -/
theorem dmaGoWrite_taken (hgo : bit w.toNat (F.DMA_CH_GO_GO).lo = true)
    (href : ¬ d.goRefused c (bit w.toNat (F.DMA_CH_GO_RESUME).lo)) : dmaGoWrite c w d =
      if bit w.toNat (F.DMA_CH_GO_RESUME).lo then
        d.dmaStart c (d.rg (F.DMA_CH_CUR_ADDR.i c) * 64) (d.rg (F.DMA_CH_BYTES_BYTES.i c))
      else d.dmaStart c (d.rg (F.DMA_CH_DESC_ADDR.i c) * 64) 0 := by
  rw [dmaGoWrite, dmaGo_of_word.1, dmaGo_of_word.2, hgo]
  exact if_neg href

end

/-- R388: a direct write of DMA_ENGINE_CTRL acts by its own rule, and repairs its parity. -/
theorem regAt_dmaEngineCtrl (hr : d.reaches q = true) : regAt q F.DMA_ENGINE_CTRL_CLEAR_HALT.off w d =
    (dmaEngineCtrl w d).restore .unbanked F.DMA_ENGINE_CTRL_CLEAR_HALT.off := by
  have hpage : F.DMA_ENGINE_CTRL_CLEAR_HALT.off / 65536 = 12 := by decide
  rw [regAt_eq_body (starterBars_of_reaches hr) (by decide)]
  simp only [regBody, hpage, if_true]

/-- R388, R392: CLEAR_HALT and HALT_VECTOR of a written word. -/
theorem engineCtrl_of_word : View.on (fun _ => w) F.DMA_ENGINE_CTRL_CLEAR_HALT = bit w.toNat 31 ∧
    View.g (fun _ => w) F.DMA_ENGINE_CTRL_HALT_VECTOR = bits w.toNat 0 6 :=
  ⟨on_of_bit rfl (by decide), View.g_const (by decide)⟩

section
variable {e : Dev}

/-- R388, R392: CLEAR_HALT takes HALT_VECTOR, and before the halt has settled sets CLEAR_EARLY. -/
theorem dmaEngineCtrl_early (hclear : bit w.toNat 31 = true) (he : d.sg F.DMA_ENGINE_CTRL_HALT_VECTOR (bits w.toNat 0 6) = e)
    (hset : e.fl F.DMA_ENGINE_STATUS_SETTLED = false) : dmaEngineCtrl w d = e.up F.DMA_ENGINE_STATUS_CLEAR_EARLY := by
  simp only [dmaEngineCtrl, engineCtrl_of_word.1, engineCtrl_of_word.2, hclear, he, hset, Bool.not_true, Bool.not_false,
    Bool.false_eq_true, if_true, if_false]

/-- R388, R392: CLEAR_HALT takes HALT_VECTOR, and ends a halt that has settled. -/
theorem dmaEngineCtrl_ends (hclear : bit w.toNat 31 = true) (he : d.sg F.DMA_ENGINE_CTRL_HALT_VECTOR (bits w.toNat 0 6) = e)
    (hset : e.fl F.DMA_ENGINE_STATUS_SETTLED = true) : dmaEngineCtrl w d =
      ((((e.dn F.DMA_ENGINE_STATUS_HALT).dn F.DMA_ENGINE_STATUS_SETTLED).dn F.DMA_ENGINE_STATUS_CAUSE).dn
        F.DMA_ENGINE_STATUS_SPACE).dn F.DMA_ENGINE_STATUS_WRITE := by
  simp only [dmaEngineCtrl, engineCtrl_of_word.1, engineCtrl_of_word.2, hclear, he, hset, Bool.not_true, Bool.false_eq_true,
    if_false]

end

/-- R387: the return of the outstanding reads settles a halt. -/
theorem dmaHaltSettled_halted (h : d.fl F.DMA_ENGINE_STATUS_HALT = true) :
    dmaHaltSettled d = d.up F.DMA_ENGINE_STATUS_SETTLED := if_pos h

end

section
variable {d : Dev} {c : Nat} {bs : List Byte}

/-- R483, R484: what an engine's event leaves as it is stays so in HOLD and out of it. -/
theorem engine_fixed {f : Dev → Dev} (h : f d = d) : Dev.engine f d = d := by rw [Dev.engine, h, ite_self]

/-- R385: the completion of a channel that runs no descriptor does not come. -/
theorem dmaDescComplete_idle (h : d.dmaState c ≠ 1) : dmaDescComplete c bs d = d := if_pos (.inl h)

/-- R383 to R385: the device once the bursts of channel `c`'s descriptor are served, and the descriptor has ended with OK. -/
def Dev.descServed (d : Dev) (c : Nat) (bs : List Byte) : Dev :=
  (Dev.dmaServe c (d.hostSource c bs).dmaLeft (d.hostSource c bs)).dmaFinish c

/-- R385: the completion of a running descriptor: the chain ends, or the next descriptor starts. -/
theorem dmaDescComplete_running (hrun : d.dmaState c = 1) (hhalt : d.fl F.DMA_ENGINE_STATUS_HALT = false) :
    dmaDescComplete c bs d =
      if descBit (d.dmaDesc c) 4 then (d.descServed c bs).dmaTo c 0
      else (d.descServed c bs).dmaStart c (wide (d.dmaDesc c) 8) 0 :=
  if_neg (by simp [hrun, hhalt])

end

section
variable {d : Dev} {kind : BusError} {addr : Nat} {ends : List (Fin 16 × Word)} {data : List (Fin 16 × List Byte)}

/-- R387: a bus error during a halt changes nothing (log 48). -/
theorem dmaBusError_halted (h : d.fl F.DMA_ENGINE_STATUS_HALT = true) : dmaBusError kind addr ends data d = d := if_pos h

/-- R387: the engine's own registers at a halt by a bus error. -/
def Dev.haltCaught (d : Dev) (kind : BusError) (addr : Nat) : Dev :=
  ((((d.up F.DMA_ENGINE_STATUS_HALT).sg F.DMA_ENGINE_STATUS_CAUSE (if kind = .dram then 0x18 else 0x1A)).sg
    F.DMA_ENGINE_STATUS_SPACE (if kind = .dram then 0 else 1)).sg F.DMA_HALT_ADDR_ADDR addr).incSat
      F.DMA_ENGINE_STATUS_HALT_COUNT

/-- R387: every running channel of a halted engine stops where the bus error found it. -/
def Dev.haltChannels (d : Dev) (ends : List (Fin 16 × Word)) (data : List (Fin 16 × List Byte)) : Dev :=
  ((Dev.each (fun c x =>
    if x.dmaState c = 1 then (x.hostSource c (forChannel c [] data)).dmaHalt c (forChannel c 0 ends).toNat
    else x) (List.range 16) d).faultSum F.SYS_FAULT_SUMMARY_ENGINE_HALT).attn .fault

/-- R387: a bus error halts the engine and its channels, is logged and sends its interrupt. -/
theorem dmaBusError_halts (h : d.fl F.DMA_ENGINE_STATUS_HALT = false) : dmaBusError kind addr ends data d =
    let e := (d.haltCaught kind addr).haltChannels ends data
    (e.logE 4 0xA 1 (e.unV F.DMA_ENGINE_STATUS_HALT.off).toNat).msix (e.rg F.DMA_ENGINE_CTRL_HALT_VECTOR) := by
  refine (if_neg (ne_true_of_eq_false h)).trans ?_
  cases kind <;> rfl

end

end Sys2Proof.Machine
end

section
/-! SUPPORT.  The check-value units (R394 to R397): whose unit it is, and what a write of CTRL or of a feed register does. -/

namespace Sys2Proof.Machine

section
variable {q : Rq} {w : Word} {d : Dev}

/-- R394: a host write of CHK_0 to CHK_3 sets UNIT_OWNED, whatever its register does. -/
theorem chkOwned_barred {n : Nat} {f : Dev → Dev} (hq : q = .host) (hn : n < 4) :
    chkOwned q n d f = d.up F.CHK_STATUS_UNIT_OWNED := by
  subst hq
  exact if_pos hn

/-- R394: any other write acts by its register's rule. -/
theorem chkOwned_open {n : Nat} {f : Dev → Dev} (h : q = .fw ∨ 4 ≤ n) : chkOwned q n d f = f d := by
  cases q with
  | host => exact if_neg (Nat.not_lt.mpr (h.resolve_left (by decide)))
  | fw => rfl

/-- R394: CTRL and the feed registers of each unit are ordinary registers at fixed offsets. -/
theorem chkOff_plain : ∀ f ∈ [F.CHK_CTRL_INIT, F.CHK_FEED8_DATA, F.CHK_FEED16_DATA, F.CHK_FEED32_DATA], ∀ k : Fin 8,
    let off := (f.i k.val).off
    primOf off = off ∧ off / 4 * 4 = off ∧ mapOf off = 0 ∧ mapped off = true ∧ areaOf off = none ∧
      (findReg off).map Prod.snd = some 0 ∧ (regOf off).pair = false := by
  decide

section
variable {k : Fin 8}

/-- R395 to R397: a direct write of CTRL or of a feed register acts by the rule of its unit. -/
theorem regAt_chk {f : Fld} (hf : f ∈ [F.CHK_CTRL_INIT, F.CHK_FEED8_DATA, F.CHK_FEED16_DATA, F.CHK_FEED32_DATA])
    (hr : d.reaches q = true) : regAt q (f.i k.val).off w d =
      chkWrite q false k.val (f.off % 0x40) (f.i k.val).off w d := by
  obtain ⟨hpage, hunit, hindex, hreg⟩ :
      let off := (f.i k.val).off
      off / 65536 = 13 ∧ within 0xD0100 0xD02FF off = true ∧ (off - 0xD0100) / 0x40 = k.val ∧ off % 0x40 = f.off % 0x40 := by
    revert k f; decide
  rw [regAt_eq_body (starterBars_of_reaches hr) (chkOff_plain f hf k)]
  simp only [regBody, hpage, hunit, hindex, hreg, if_true]

/-- R395, R397: a direct write of a unit's CTRL acts by its own rule, and repairs its parity. -/
theorem regAt_chkCtrl (hr : d.reaches q = true) : regAt q (F.CHK_CTRL_INIT.i k.val).off w d = chkOwned q k.val d (fun d =>
    (chkCtrl q k.val w d).restoreIf (F.CHK_CTRL_INIT.i k.val).off (F.CHK_CTRL_INIT.i k.val).off w) :=
  regAt_chk (by simp) hr

/-- R396: a direct write of FEED8 feeds one byte. -/
theorem regAt_chkFeed8 (hr : d.reaches q = true) :
    regAt q (F.CHK_FEED8_DATA.i k.val).off w d = chkFeed 1 q k.val w d := regAt_chk (by simp) hr

/-- R396: a direct write of FEED16 feeds two bytes. -/
theorem regAt_chkFeed16 (hr : d.reaches q = true) :
    regAt q (F.CHK_FEED16_DATA.i k.val).off w d = chkFeed 2 q k.val w d := regAt_chk (by simp) hr

/-- R396: a direct write of FEED32 feeds four bytes. -/
theorem regAt_chkFeed32 (hr : d.reaches q = true) :
    regAt q (F.CHK_FEED32_DATA.i k.val).off w d = chkFeed 4 q k.val w d := regAt_chk (by simp) hr

end

section
variable {n : Nat}

/-- R395: ALG 0 to 4 is taken. -/
theorem chkAlg_taken (h : bits w.toNat 0 3 < 5) : chkAlg n w d = d.sg (F.CHK_CTRL_ALG.i n) (bits w.toNat 0 3) := by
  have halg : View.g (fun _ => w) F.CHK_CTRL_ALG = bits w.toNat 0 3 := View.g_const (by decide)
  rw [chkAlg, halg, if_neg (Nat.not_le.mpr h)]

/-- R395: ALG 5 to 7 sets BAD_ALG. -/
theorem chkAlg_refused (h : 5 ≤ bits w.toNat 0 3) : chkAlg n w d = d.up F.CHK_STATUS_BAD_ALG := by
  have halg : View.g (fun _ => w) F.CHK_CTRL_ALG = bits w.toNat 0 3 := View.g_const (by decide)
  rw [chkAlg, halg, if_pos h]

/-- R395, R397: a CTRL write takes its ALG, and INIT then starts the unit under the algorithm in force. -/
theorem chkCtrl_open {e : Dev} (h : q = .fw ∨ 4 ≤ n) (he : chkAlg n w d = e) : chkCtrl q n w d =
    if bit w.toNat 31 then e.putChk n (ChkCtx.start (e.chk n).alg) else e := by
  have hon : View.on (fun _ => w) F.CHK_CTRL_INIT = bit w.toNat 31 := on_of_bit rfl (by decide)
  rw [chkCtrl, chkOwned_open h]
  simp only [he, hon]

/-- R396: the first `k` bytes of a number, least significant first, fed to a unit. -/
def ChkCtx.feeds (c : ChkCtx) (v k : Nat) : ChkCtx := (List.range k).foldl (fun c i => c.feed (v / 256 ^ i % 256)) c

/-- The little-endian bytes of a number, one by one. -/
theorem leBytes_eq (k v : Nat) : leBytes k v = (List.range k).map (fun i => BitVec.ofNat 8 (v / 256 ^ i)) := by
  induction k generalizing v with
  | zero => rfl
  | succ k ih =>
    rw [leBytes, ih, List.range_succ_eq_map, List.map_cons, List.map_map, Nat.pow_zero, Nat.div_one]
    simp only [Function.comp_def, Nat.div_div_eq_div_mul, Nat.pow_succ, Nat.mul_comm]

/-- R396: a feed of a unit takes its bytes, least significant first. -/
theorem chkFeed_open {k : Nat} (h : q = .fw ∨ 4 ≤ n) :
    chkFeed k q n w d = d.putChk n ((d.chk n).feeds w.toNat k) := by
  rw [chkFeed, chkOwned_open h, leBytes_eq, List.foldl_map]
  rfl

end

end

end Sys2Proof.Machine
end

section
/-! SUPPORT.  The settled statements of chapter 12: the copy engine and the check-value units. -/

namespace Sys2Proof.Machine

/-- Settles O36: both strobes write GO, whose rule decides by the channel's state; CLEAR_HALT decides by SETTLED. -/
theorem copyEngineStrobesAndHalt : Obligations.CopyEngineStrobesAndHalt := by
  refine ⟨fun c ch data rq s hr hc => ?_, fun rq data s hr hclear => ?_, fun s hdark hhalt => ?_⟩
  · intro go resume st refused
    have gives {e : Dev} (he : dmaGoWrite ch.val data s.dev = e) : Gives c s e := by
      have hwrite := (regAt_dmaGo hr).trans he
      rcases hc with rfl | rfl
      · exact Gives.run rfl (dark_of_reaches hr) hwrite
      · exact Gives.run rfl (dark_of_reaches hr) hwrite
    refine ⟨fun hgo => gives (dmaGoWrite_idle hgo), fun hgo href => gives (dmaGoWrite_refused hgo href),
      fun hgo href hres => gives ?_, fun hgo href hres => gives ?_⟩
    · exact (dmaGoWrite_taken hgo href).trans (if_neg (ne_true_of_eq_false hres))
    · exact (dmaGoWrite_taken hgo href).trans (if_pos hres)
  · intro d
    have yields {e : Dev} (he : dmaEngineCtrl data s.dev = e) : Yields (.clearHalt rq data) s e :=
      Yields.run rfl (dark_of_reaches hr) ⟨_, _, regAt_dmaEngineCtrl hr⟩ he
    exact ⟨fun hearly => yields (dmaEngineCtrl_early hclear rfl hearly),
      fun hset => yields (dmaEngineCtrl_ends hclear rfl hset)⟩
  · exact Gives.run rfl hdark (dmaHaltSettled_halted hhalt)

/-- Settles O37: a barred write is refused whole (`chkOwned_barred`), any other acts by the rule of its register. -/
theorem checkerUnitsStartAndTakeBytes : Obligations.CheckerUnitsStartAndTakeBytes := by
  intro rq unit data s hr n b a d1
  have hdark := dark_of_reaches hr
  refine ⟨fun hq hn => ⟨?_, ?_, ?_, ?_⟩, fun hopen => ?_⟩
  · have hwrite := (regAt_chkCtrl (w := data) hr).trans (chkOwned_barred hq hn)
    exact ⟨s.dev.mismatches, s.dev.latent, Gives.run rfl hdark hwrite⟩
  · exact Gives.run rfl hdark ((regAt_chkFeed8 hr).trans (chkOwned_barred hq hn))
  · exact Gives.run rfl hdark ((regAt_chkFeed16 hr).trans (chkOwned_barred hq hn))
  · exact Gives.run rfl hdark ((regAt_chkFeed32 hr).trans (chkOwned_barred hq hn))
  · have init {e g : Dev} (he : chkAlg n data s.dev = e)
        (hg : (if bit data.toNat 31 then e.putChk n (ChkCtx.start (e.chk n).alg) else e) = g) :
        Yields (.chkInit rq unit data) s g := by
      refine Yields.run rfl hdark ?_ ((chkCtrl_open hopen he).trans hg)
      rw [regAt_chkCtrl hr, chkOwned_open hopen]
      exact restoreIf_mismatches _ _ _ _
    have feed (k : Nat) := chkFeed_open (k := k) (w := data) (d := s.dev) hopen
    refine ⟨?_, ?_, ?_, fun hinit halg => init (chkAlg_taken halg) (if_pos hinit),
      fun hkeep halg => init (chkAlg_taken halg) (if_neg (ne_true_of_eq_false hkeep)),
      fun hkeep halg => init (chkAlg_refused halg) (if_neg (ne_true_of_eq_false hkeep)),
      fun hinit halg => init (chkAlg_refused halg) (if_pos hinit)⟩
    · exact Gives.run rfl hdark ((regAt_chkFeed8 hr).trans (feed 1))
    · exact Gives.run rfl hdark ((regAt_chkFeed16 hr).trans (feed 2))
    · exact Gives.run rfl hdark ((regAt_chkFeed32 hr).trans (feed 4))

/-- Settles O56: a running descriptor's completion is its bursts and then its end; a bus error halts the engine once. -/
theorem copiesCompleteAndHalt : Obligations.CopiesCompleteAndHalt := by
  intro s hdark d
  refine ⟨fun ch data hhold hrun hhalt => ?_, fun ch data hidle => ?_, fun kind addr ends data dt => ?_⟩
  · have hdone := dmaDescComplete_running (bs := data) hrun hhalt
    exact ⟨fun hlast => Gives.engine rfl hdark hhold (hdone.trans (if_pos hlast)),
      fun hmore => Gives.engine rfl hdark hhold (hdone.trans (if_neg (ne_true_of_eq_false hmore)))⟩
  · exact Gives.run rfl hdark (engine_fixed (dmaDescComplete_idle hidle))
  · intro x
    have gives {e : Dev} (he : dmaBusError kind addr.toNat ends data x = e) : Gives (.dmaBusError kind addr ends data dt) s e :=
      Gives.run (f := fun d => dmaBusError kind addr.toNat ends data (d.advance dt)) rfl hdark he
    exact ⟨fun hhalt => gives (dmaBusError_halted hhalt), fun hhalt => gives (dmaBusError_halts hhalt)⟩

end Sys2Proof.Machine
end

section
/-! SUPPORT.  The query and port rows of ICP (R320, R423, R431, R437, R438): which operands they take, and what each answers. -/

namespace Sys2Proof.Machine

/-- A number in range is within it. -/
theorem within_of {lo hi x : Nat} (hlo : lo ≤ x) (hhi : x ≤ hi) : within lo hi x = true := by simp [within, hlo, hhi]

/-- R423: a DisplayPort port in range is no bad parameter. -/
theorem badDp_of_lt {ps : List Word} (h : param ps 0 < 4) : badDp (nums ps) = false := decide_eq_false (Nat.not_le.mpr h)

/-- R423: a port in range is no bad parameter. -/
theorem badPort_of_lt {ps : List Word} (h : param ps 0 < 6) : badPort (nums ps) = false := decide_eq_false (Nat.not_le.mpr h)

/-- R423: a pipe and a window in range are no bad parameters. -/
theorem badGet_of_lt {ps : List Word} (hpipe : param ps 0 < 4) (hwin : param ps 1 < 64) : badGet (nums ps) = false := by
  have hw : ¬ 64 ≤ prm (nums ps) 1 := Nat.not_le.mpr hwin
  simp [badGet, badPipe_of_lt hpipe, hw]

/-- R423, R437: SENSOR_READ takes 1 to 48 sensors, none beyond the last of their kind. -/
theorem badSensorRead_of {ps : List Word} (hmin : 1 ≤ bits (param ps 0) 16 8) (hmax : bits (param ps 0) 16 8 ≤ 48)
    (hlast : bits (param ps 0) 8 8 + bits (param ps 0) 16 8 ≤ sensorCount (bits (param ps 0) 0 8)) :
    badSensorRead (nums ps) = false := by
  have hcount : within 1 48 (bits (prm (nums ps) 0) 16 8) = true := within_of hmin hmax
  have hend : ¬ sensorCount (bits (prm (nums ps) 0) 0 8) < bits (prm (nums ps) 0) 8 8 + bits (prm (nums ps) 0) 16 8 :=
    Nat.not_lt.mpr hlast
  simp [badSensorRead, hcount, hend]

/-- R423: LOG_READ takes 1 to 14 entries. -/
theorem badLogRead_of {ps : List Word} (hmin : 1 ≤ param ps 1) (hmax : param ps 1 ≤ 14) : badLogRead (nums ps) = false := by
  rw [badLogRead, Bool.not_eq_false']
  exact within_of hmin hmax

/-- R423, R507: HEALTH_READ takes 1 to 56 words of the 221. -/
theorem badHealthRead_of {ps : List Word} (hmin : 1 ≤ param ps 1) (hmax : param ps 1 ≤ 56)
    (hlast : param ps 0 + param ps 1 ≤ 221) : badHealthRead (nums ps) = false := by
  have hcount : within 1 56 (prm (nums ps) 1) = true := within_of hmin hmax
  have hend : ¬ 221 < prm (nums ps) 0 + prm (nums ps) 1 := Nat.not_lt.mpr hlast
  simp [badHealthRead, hcount, hend]

section
variable {p : List Nat} {d : Dev}

/-- R440: DEVICE_INFO reports the version of the image that runs. -/
theorem opDeviceInfo_slot {k : Nat} (h : d.runningSlot = some k) : opDeviceInfo p d =
    { pay := [d.payWord F.SYS_ID_GRADE, d.mramWord (slotBase k + 4), d.rg F.HEARTH_STATE_SLOT, d.rg F.FETCH_USABLE_MIB,
        d.rg F.ICP_ATTENTION_CONTROLLER], dev := d } := by rw [opDeviceInfo, h]

/-- R440: DEVICE_INFO while the recovery image runs. -/
theorem opDeviceInfo_recovery (h : d.runningSlot = none) : opDeviceInfo p d =
    { pay := [d.payWord F.SYS_ID_GRADE, d.mramWord 0x500004, d.rg F.HEARTH_STATE_SLOT, d.rg F.FETCH_USABLE_MIB,
        d.rg F.ICP_ATTENTION_CONTROLLER], dev := d } := by rw [opDeviceInfo, h]

/-- R423: FENCE_READ of an allocated fence. -/
theorem opFenceRead_value (h : (d.fenceAt (prm p 0)).alloc = true) : opFenceRead p d =
    { pay := [(d.fenceAt (prm p 0)).val.toNat % 2 ^ 32, (d.fenceAt (prm p 0)).val.toNat / 2 ^ 32], dev := d } := by
  simp [opFenceRead, h]

/-- R423: FENCE_READ of a FREE fence. -/
theorem opFenceRead_free (h : (d.fenceAt (prm p 0)).alloc = false) : opFenceRead p d = { code := 3, dev := d } := by
  simp [opFenceRead, h]

/-- R423: PORT_STATUS of a DisplayPort port. -/
theorem opPortStatus_dp (h : prm p 0 < 4) : opPortStatus p d =
    { pay := [d.payWord (F.DP_STATUS_PLUGGED.i (prm p 0)), d.payWord (F.DP_SINK_A_MAX_RATE.i (prm p 0)),
        d.payWord (F.DP_SINK_B_DSC_MAX_SLICES.i (prm p 0)), d.payWord (F.DP_HDCP_STATE.i (prm p 0))], dev := d } := by
  simp only [opPortStatus, h, if_true]

/-- R423: PORT_STATUS of a DSI port. -/
theorem opPortStatus_dsi (h : 4 ≤ prm p 0) : opPortStatus p d =
    { pay := [d.payWord (F.DSI_STATUS_READY.i (prm p 0 - 4)), 0, 0, 0], dev := d } := by
  simp only [opPortStatus, Nat.not_lt.mpr h, if_false]

/-- R423: the line of a stopped pipe shows 0. -/
theorem lineShow_stopped {n : Nat} (h : d.running n = false) : d.lineShow n = d.dn (F.PIPE_TG_STATUS_LINE.i n) :=
  if_neg (ne_true_of_eq_false h)

/-- R423: the line of a running pipe shows a free value below the frame's lines (log 4). -/
theorem lineShow_running {n : Nat} (h : d.running n = true) :
    d.lineShow n = d.draw.2.sg (F.PIPE_TG_STATUS_LINE.i n) (d.draw.1 % max 1 (d.frameLines n)) := if_pos h

/-- R431: LAYOUT_GET of a pipe that the host owns. -/
theorem opLayoutGet_unowned (h : d.fl (F.PIPE_OWNER_OWNER.i (prm p 0)) = false) :
    opLayoutGet p d = { code := 0x49, dev := d } := by simp [opLayoutGet, h]

/-- R423: LAYOUT_GET of a window of the layout. -/
theorem opLayoutGet_window (h : d.fl (F.PIPE_OWNER_OWNER.i (prm p 0)) = true)
    (hw : (d.svcOf (prm p 0)).layout.getD (prm p 1) [] ≠ []) : opLayoutGet p d =
    { pay := ((d.svcOf (prm p 0)).layout.getD (prm p 1) []).map (·.toNat), dev := d } := by
  simp only [opLayoutGet, h, Bool.not_true, Bool.false_eq_true, if_false, List.isEmpty_eq_false_iff.mpr hw]

/-- R423: LAYOUT_GET of an empty entry answers a removed window (log 16). -/
theorem opLayoutGet_empty (h : d.fl (F.PIPE_OWNER_OWNER.i (prm p 0)) = true)
    (hw : (d.svcOf (prm p 0)).layout.getD (prm p 1) [] = []) : opLayoutGet p d =
    { pay := (prm p 1 + prm p 0 * 256) :: List.replicate 29 0, dev := d } := by
  simp only [opLayoutGet, h, hw, Bool.not_true, Bool.false_eq_true, if_false, List.isEmpty_nil, if_true]

/-- R438: LOG_READ from an entry that the ring does not hold. -/
theorem opLogRead_none (h : d.logAt (prm p 0) = none) : opLogRead p d = { code := 3, dev := d } := by rw [opLogRead, h]

/-- R438: LOG_READ of one entry that the ring holds. -/
theorem opLogRead_one {e : LogEntry} (h : d.logAt (prm p 0) = some e) (hone : prm p 1 = 1)
    (hheld : subMod 32 d.logNewest (prm p 0) ≤ 65535) (hword : prm p 0 < 2 ^ 32) :
    opLogRead p d = { pay := e.words (prm p 0), dev := d } := by
  have hcount : min 1 (subMod 32 d.logNewest (prm p 0) + 1) = 1 := by omega
  simp only [opLogRead, h, hone, Nat.not_lt.mpr hheld, if_false, hcount, List.range_one, List.flatMap_singleton,
    Nat.add_zero, Nat.mod_eq_of_lt hword]

/-- R441, R443: FW_INFO with an image of a slot running. -/
theorem opFwInfo_slot {k : Nat} (h : d.runningSlot = some k) : opFwInfo p d =
    { pay := [d.mramWord (slotBase 0 + 4), d.mramWord (slotBase 1 + 4),
        d.slotSt 0 + d.slotSt 1 * 16 + d.hearth.selected * 256 + k * 512 + d.hearth.cfgState * 4096,
        d.rg F.SECURE_KEYS_ROLLBACK], dev := d } := by rw [opFwInfo, h]

/-- R441, R443: FW_INFO while the recovery image runs. -/
theorem opFwInfo_recovery (h : d.runningSlot = none) : opFwInfo p d =
    { pay := [d.mramWord (slotBase 0 + 4), d.mramWord (slotBase 1 + 4),
        d.slotSt 0 + d.slotSt 1 * 16 + d.hearth.selected * 256 + 1024 + d.hearth.cfgState * 4096,
        d.rg F.SECURE_KEYS_ROLLBACK], dev := d } := by rw [opFwInfo, h]

/-- R423: SINK_READ of an unplugged port. -/
theorem opSinkRead_unplugged {seen : Option (List Byte)} (h : d.fl (F.DP_STATUS_PLUGGED.i (prm p 0)) = false) :
    opSinkRead seen p d = { code := 0x4D, dev := d } := by simp [opSinkRead, h]

/-- R423: SINK_READ of a sink that fails. -/
theorem opSinkRead_failed (h : d.fl (F.DP_STATUS_PLUGGED.i (prm p 0)) = true) :
    opSinkRead none p d = { code := 0x4E, dev := d } := by simp [opSinkRead, h]

/-- R423: SINK_READ of a sink that answers. -/
theorem opSinkRead_bytes {bs : List Byte} (h : d.fl (F.DP_STATUS_PLUGGED.i (prm p 0)) = true) : opSinkRead (some bs) p d =
    { pay := padWords ((bs ++ List.replicate (bits (prm p 1) 16 8) 0).take (bits (prm p 1) 16 8)), dev := d } := by
  simp [opSinkRead, h]

/-- R423: DPCD_WRITE to an unplugged port. -/
theorem opDpcdWrite_unplugged {acked : Bool} (h : d.fl (F.DP_STATUS_PLUGGED.i (prm p 0)) = false) :
    opDpcdWrite acked p d = { code := 0x4D, dev := d } := by simp [opDpcdWrite, h]

/-- R423: DPCD_WRITE to a plugged port answers what the sink did. -/
theorem opDpcdWrite_plugged {acked : Bool} (h : d.fl (F.DP_STATUS_PLUGGED.i (prm p 0)) = true) :
    opDpcdWrite acked p d = { code := if acked then 0 else 0x4E, dev := d } := by simp [opDpcdWrite, h]

/-- R423: HDCP_TOPOLOGY of an unplugged port. -/
theorem opHdcpTopology_unplugged {seen : Option (List Word)} (h : d.fl (F.DP_STATUS_PLUGGED.i (prm p 0)) = false) :
    opHdcpTopology seen p d = { code := 0x4D, dev := d } := by simp [opHdcpTopology, h]

/-- R431: HDCP_TOPOLOGY without a session, or of a sink that does not answer (log 30). -/
theorem opHdcpTopology_unavailable {seen : Option (List Word)} (h : d.fl (F.DP_STATUS_PLUGGED.i (prm p 0)) = true)
    (hno : d.rg (F.DP_HDCP_STATE.i (prm p 0)) ≠ 2 ∨ seen = none) :
    opHdcpTopology seen p d = { code := 0x4F, dev := d } := by
  rcases hno with hstate | rfl
  · simp [opHdcpTopology, h, hstate]
  · simp [opHdcpTopology, h]

/-- R423: HDCP_TOPOLOGY of an authenticated session. -/
theorem opHdcpTopology_words {ws : List Word} (h : d.fl (F.DP_STATUS_PLUGGED.i (prm p 0)) = true)
    (hstate : d.rg (F.DP_HDCP_STATE.i (prm p 0)) = 2) :
    opHdcpTopology (some ws) p d = { pay := (ws.map (·.toNat)).take 60, dev := d } := by
  simp [opHdcpTopology, h, hstate]

/-- R423: DSI_DCS to a panel that is not ready. -/
theorem opDsiDcs_unready {seen : Option (List Byte)} (h : d.fl (F.DSI_STATUS_READY.i (prm p 0 - 4)) = false) :
    opDsiDcs seen p d = { code := 0x4D, dev := d } := by simp [opDsiDcs, h]

/-- R423: DSI_DCS to a panel that fails. -/
theorem opDsiDcs_failed (h : d.fl (F.DSI_STATUS_READY.i (prm p 0 - 4)) = true) :
    opDsiDcs none p d = { code := 0x4E, dev := d } := by simp [opDsiDcs, h]

/-- R423: DSI_DCS, a read of a panel that answers: the bytes it sent. -/
theorem opDsiDcs_read {bs : List Byte} (h : d.fl (F.DSI_STATUS_READY.i (prm p 0 - 4)) = true)
    (hread : bit (prm p 1) 31 = true) : opDsiDcs (some bs) p d =
    { pay := padWords ((bs ++ List.replicate (bits (prm p 1) 16 8) 0).take (bits (prm p 1) 16 8)), dev := d } := by
  simp [opDsiDcs, h, hread]

/-- R423: DSI_DCS, a write to a panel that answers. -/
theorem opDsiDcs_write {bs : List Byte} (h : d.fl (F.DSI_STATUS_READY.i (prm p 0 - 4)) = true)
    (hwrite : bit (prm p 1) 31 = false) : opDsiDcs (some bs) p d = { dev := d } := by
  simp [opDsiDcs, h, hwrite]

end

end Sys2Proof.Machine
end

section
/-! SUPPORT.  The control and layout rows of ICP (R410, R412, R414, R424 to R430, R490, R491): which operands they take, and what
    each answers. -/

namespace Sys2Proof.Machine

/-- R423: HEARTBEAT takes a HOST_LOST_MS of 0, or of 200 to 60,000. -/
theorem badHeartbeat_of {ps : List Word} (h : param ps 0 = 0 ∨ 200 ≤ param ps 0 ∧ param ps 0 ≤ 60000) :
    badHeartbeat (nums ps) = false := by
  have hms : prm (nums ps) 0 = 0 ∨ within 200 60000 (prm (nums ps) 0) = true := h.imp_right fun hin => within_of hin.1 hin.2
  rcases hms with hms | hms <;> simp [badHeartbeat, hms]

/-- R423: an atlas and a SID in range are no bad parameters. -/
theorem badAtlas_of_lt {ps : List Word} (hatlas : param ps 0 < 4) (hsid : param ps 1 < 16384) : badAtlas (nums ps) = false := by
  have ha : ¬ 4 ≤ prm (nums ps) 0 := Nat.not_le.mpr hatlas
  have hs : ¬ 16384 ≤ prm (nums ps) 1 := Nat.not_le.mpr hsid
  simp [badAtlas, ha, hs]

/-- R423: METER_TABLE_SET takes an address aligned to 4 bytes below 2⁴⁰ and 1 to 1,024 entries. -/
theorem badMeters_of {ps : List Word} (halign : param ps 0 % 4 = 0) (hbase : param ps 1 < 256) (hmin : 1 ≤ param ps 2)
    (hmax : param ps 2 ≤ 1024) : badMeters (nums ps) = false := by
  have ha : prm (nums ps) 0 % 4 = 0 := halign
  have hb : ¬ 256 ≤ prm (nums ps) 1 := Nat.not_le.mpr hbase
  have hn : within 1 1024 (prm (nums ps) 2) = true := within_of hmin hmax
  simp [badMeters, ha, hb, hn]

/-- R403: the parameters as words again. -/
theorem nums_words (ps : List Word) : (nums ps).map (BitVec.ofNat 32) = ps := by simp [nums, Function.comp_def]

/-- A row that passes its tests replies OK, and what follows its reply then begins. -/
theorem gives_then {c : Instr} {op : Nat} {bad : List Nat → Bool} {f : List Nat → Dev → Ans} {tr : Tr} {seq : BitVec 16}
    {ps : List Word} {s : State} {pay : List Nat} {e : Dev} {g : Dev → Dev} (hx : exec c s = s.run (icpRun op bad f tr seq ps))
    (h : s.dev.passes op tr seq ps = true) (hb : bad (nums ps) = false)
    (ha : f (nums ps) s.dev = { pay := pay, dev := e, after := g }) :
    Gives c s (g (e.answer tr op (seq.toNat % 256) ps true 0 pay)) :=
  gives_after (a := { pay := pay, dev := e, after := g }) hx h hb ha (Nat.zero_ne_add_one _) rfl

/-- R423: the opcode row of SOFT_RESET. -/
theorem opRow_softReset : opRow 0x0006 = some ⟨0x0006, 1, 1, false, true⟩ := rfl

/-- R451: in Starter mode a SOFT_RESET without bit 31 fails the Starter test. -/
theorem cmdTest_softReset_starter {tr : Tr} {ps : List Nat} {d : Dev} (hctl : d.rg F.ICP_ATTENTION_CONTROLLER = trCode tr)
    (hstarter : d.starter = true) (hpart : bit (prm ps 0) 31 = false) :
    d.cmdTest tr ⟨0x0006, 1, 1, false, true⟩ ps = some (0x46, []) := by
  have hbit : bit (ps.getD 0 0) 31 = false := hpart
  simp [Dev.cmdTest, hctl, hstarter, hbit, -List.getD_eq_getElem?_getD]

/-- R406: the next listed row that fails a test of 7 to 10 is answered with its code, while firmware runs and no shut-down
    test does. -/
theorem icpRun_failed {op : Nat} {bad : List Nat → Bool} {f : List Nat → Dev → Ans} {tr : Tr} {seq : BitVec 16}
    {ps : List Word} {d : Dev} {r : OpRow} {code : Nat} {pay : List Nat}
    (hnext : d.svcNext tr op (seq.toNat % 256) ps = true) (hrun : d.hearth.stopped = false) (htest : d.testing = false)
    (hrow : opRow op = some r) (hfail : d.cmdTest tr r (nums ps) = some (code, pay)) :
    icpRun op bad f tr seq ps d = d.answer tr op (seq.toNat % 256) ps false code pay := by
  have hcmd : d.cmdTest tr r (ps.map (·.toNat)) = some (code, pay) := hfail
  simp only [icpRun, hnext, fwResume_running hrun, htest, hrow, hcmd, Bool.not_true, Bool.false_eq_true, if_false]

section
variable {p : List Nat} {d : Dev}

/-- R410: outside Starter mode ACK_ATTENTION clears the bits it names. -/
theorem opAckAttention_plain (h : d.starter = false) : opAckAttention p d =
    let e := d.clrBits F.ICP_ATTENTION_ATTENTION (prm p 0 % 65536)
    { pay := [e.rg F.ICP_ATTENTION_ATTENTION], dev := e } := by
  simp [opAckAttention, h]

/-- R410: in Starter mode ACK_ATTENTION leaves STARTER set. -/
theorem opAckAttention_starter (h : d.starter = true) : opAckAttention p d =
    let e := d.clrBits F.ICP_ATTENTION_ATTENTION (prm p 0 % 65536 - (prm p 0 % 65536 &&& 2 ^ Att.starter.bit))
    { pay := [e.rg F.ICP_ATTENTION_ATTENTION], dev := e } := by
  simp [opAckAttention, h]

section
variable {tr : Tr}

/-- R412: CLAIM_CONTROL of the controller. -/
theorem opClaimControl_held (h : d.rg F.ICP_ATTENTION_CONTROLLER = trCode tr) :
    opClaimControl tr p d = { pay := [d.rg F.ICP_ATTENTION_CONTROLLER], dev := d } := if_pos h

/-- R412, R414: CLAIM_CONTROL while no transport is controller, or while the controller is lost. -/
theorem opClaimControl_taken (hother : d.rg F.ICP_ATTENTION_CONTROLLER ≠ trCode tr)
    (hfree : d.rg F.ICP_ATTENTION_CONTROLLER = 0 ∨ d.fl F.ICP_RING_STATUS_HOST_LOST = true) : opClaimControl tr p d =
    { pay := [trCode tr], dev := (d.sg F.ICP_ATTENTION_CONTROLLER (trCode tr)).dn F.ICP_RING_STATUS_HOST_LOST } :=
  (if_neg hother).trans (if_pos hfree)

/-- R412: CLAIM_CONTROL while another transport is controller. -/
theorem opClaimControl_refused (hother : d.rg F.ICP_ATTENTION_CONTROLLER ≠ trCode tr)
    (hheld : d.rg F.ICP_ATTENTION_CONTROLLER ≠ 0) (hhere : d.fl F.ICP_RING_STATUS_HOST_LOST = false) :
    opClaimControl tr p d = { code := 0x45, dev := d } :=
  (if_neg hother).trans (if_neg (by simp [hheld, hhere]))

end

/-- R424: SOFT_RESET of the whole device comes after its reply. -/
theorem opSoftReset_all (h : bit (prm p 0) 31 = true) (hplain : d.starter = false) :
    opSoftReset p d = { dev := d, after := fun d => d.warmReset .software } :=
  (if_pos h).trans (by rw [if_neg (ne_true_of_eq_false hplain)])

/-- R424, R451: SOFT_RESET of the whole device in Starter mode. -/
theorem opSoftReset_leaves_starter (h : bit (prm p 0) 31 = true) (hstarter : d.starter = true) :
    opSoftReset p d = { dev := d.dn F.SYS_BOOT_COUNT_FAILED_RUN, after := fun d => d.warmReset .software } :=
  (if_pos h).trans (by rw [if_pos hstarter])

/-- R424: a SOFT_RESET of blocks that takes a table in use away from a pipe it does not name. -/
theorem opSoftReset_inUse (hpart : bit (prm p 0) 31 = false) (hsome : prm p 0 ≠ 0) (hmask : prm p 0 &&& 0xF0F = prm p 0)
    (htables : bit (prm p 0) 11 = true) (hused : d.tablesInUse (prm p 0) = true) :
    opSoftReset p d = { code := 4, dev := d } := by
  simp [opSoftReset, hpart, hsome, hmask, htables, hused]

/-- R424: a SOFT_RESET of blocks resets the blocks of its mask. -/
theorem opSoftReset_blocks (hpart : bit (prm p 0) 31 = false) (hsome : prm p 0 ≠ 0) (hmask : prm p 0 &&& 0xF0F = prm p 0)
    (hfree : bit (prm p 0) 11 = true → d.tablesInUse (prm p 0) = false) :
    opSoftReset p d =
      let e := Dev.each (fun n d => if bit (prm p 0) n then d.pipeReset 3 n else d) pipes d
      { dev := (((e.onlyIf (bit (prm p 0) 8) (·.scraperReset)).onlyIf (bit (prm p 0) 9) (·.dmaReset)).onlyIf
          (bit (prm p 0) 10) (·.chkReset)).onlyIf (bit (prm p 0) 11) (·.tablesReset) } := by
  have hopen : ¬ (bit (prm p 0) 11 && d.tablesInUse (prm p 0)) = true := by simpa using hfree
  exact (if_neg (ne_true_of_eq_false hpart)).trans ((if_neg (by simp [hsome, hmask])).trans (if_neg hopen))

/-- R490: SHUTDOWN begins after its reply. -/
theorem opShutdown_begins (h : (d.power.moving != .none || d.inHold) = false) :
    opShutdown p d = { dev := d, after := fun d => d.shutBegin (prm p 0) } := if_neg (ne_true_of_eq_false h)

/-- R490: SHUTDOWN during a move between states, or in HOLD. -/
theorem opShutdown_refused (h : (d.power.moving != .none || d.inHold) = true) :
    opShutdown p d = { code := 0x57, dev := d } := if_pos h

/-- R491: POWER_STATE begins its move after its reply. -/
theorem opPowerState_begins (hstate : prm p 0 ≤ 3) (h : d.powerRefused (prm p 0) = false) :
    opPowerState p d = { pay := [prm p 0], dev := d, after := fun d => d.powerTake (prm p 0) } :=
  (if_neg (Nat.not_lt.mpr hstate)).trans (if_neg (ne_true_of_eq_false h))

/-- R491: POWER_STATE of a state that cannot be entered now. -/
theorem opPowerState_refused (hstate : prm p 0 ≤ 3) (h : d.powerRefused (prm p 0) = true) :
    opPowerState p d = { code := 0x57, dev := d } := (if_neg (Nat.not_lt.mpr hstate)).trans (if_pos h)

/-- R431: a pipe that takes no layout is not answered BAD_PARAM. -/
theorem serviceRefused_ne_badParam {n c : Nat} (h : d.serviceRefused n = some c) : c ≠ 0x43 := by
  unfold Dev.serviceRefused at h
  split at h
  · cases h; decide
  · split at h
    · cases h; decide
    · cases h

/-- R425, R431: LAYOUT_BEGIN of a pipe that takes no layout. -/
theorem opLayoutBegin_refused {c : Nat} (h : d.serviceRefused (prm p 0 % 4) = some c) :
    opLayoutBegin p d = { code := c, dev := d } := by rw [opLayoutBegin, h]

/-- R425: LAYOUT_BEGIN opens the staging as a copy of the layout, where one is asked for and there is one. -/
theorem opLayoutBegin_copies (h : d.serviceRefused (prm p 0 % 4) = none) (hcopy : bit (prm p 0) 8 = true)
    (hlay : (d.svcOf (prm p 0 % 4)).layout ≠ []) : opLayoutBegin p d =
    { dev := d.putSvc (prm p 0 % 4) { d.svcOf (prm p 0 % 4) with staged := some (d.svcOf (prm p 0 % 4)).layout } } := by
  simp [opLayoutBegin, h, hcopy, hlay]

/-- R425: LAYOUT_BEGIN opens the staging empty otherwise. -/
theorem opLayoutBegin_empty (h : d.serviceRefused (prm p 0 % 4) = none)
    (hempty : bit (prm p 0) 8 = false ∨ (d.svcOf (prm p 0 % 4)).layout = []) : opLayoutBegin p d =
    { dev := d.putSvc (prm p 0 % 4) { d.svcOf (prm p 0 % 4) with staged := some emptyLayout } } := by
  rcases hempty with hcopy | hlay
  · simp [opLayoutBegin, h, hcopy]
  · simp [opLayoutBegin, h, hlay]

/-- R425: LAYOUT_WINDOW with no staging open. -/
theorem opLayoutWindow_closed (h : (d.svcOf (bits (prm p 0) 8 2)).staged = none) :
    opLayoutWindow p d = { code := 0x4C, dev := d } := by rw [opLayoutWindow, h]

/-- R425, R426: LAYOUT_WINDOW of an enabled window writes its entry of the staging. -/
theorem opLayoutWindow_sets {ps : List Word} {st : List (List Word)} (h : (d.svcOf (bits (param ps 0) 8 2)).staged = some st)
    (hen : bit (param ps 0) 16 = true) : opLayoutWindow (nums ps) d =
    { dev := d.putSvc (bits (param ps 0) 8 2)
        { d.svcOf (bits (param ps 0) 8 2) with staged := some (st.set (param ps 0 % 64) ps) } } := by
  simp only [param] at *
  simp [opLayoutWindow, h, hen, nums_words]

/-- R425: LAYOUT_WINDOW of a window that is not enabled removes its entry of the staging. -/
theorem opLayoutWindow_removes {st : List (List Word)} (h : (d.svcOf (bits (prm p 0) 8 2)).staged = some st)
    (hoff : bit (prm p 0) 16 = false) : opLayoutWindow p d =
    { dev := d.putSvc (bits (prm p 0) 8 2)
        { d.svcOf (bits (prm p 0) 8 2) with staged := some (st.set (prm p 0 % 64) []) } } := by
  simp [opLayoutWindow, h, hoff]

/-- R425: LAYOUT_SET during a change of owner. -/
theorem opLayoutSet_pending (h : d.fl (F.PIPE_OWNER_PENDING.i (prm p 0)) = true) :
    opLayoutSet p d = { code := 0x48, dev := d } := by simp only [opLayoutSet, h]

/-- R425: LAYOUT_SET with no staging open. -/
theorem opLayoutSet_closed (h : d.fl (F.PIPE_OWNER_PENDING.i (prm p 0)) = false)
    (hnone : (d.svcOf (prm p 0)).staged = none) : opLayoutSet p d = { code := 0x4C, dev := d } := by
  simp only [opLayoutSet, h, hnone]

/-- R428: LAYOUT_SET of a layout beyond a limit. -/
theorem opLayoutSet_limited {lay : List (List Word)} {c w need have_ : Nat}
    (h : d.fl (F.PIPE_OWNER_PENDING.i (prm p 0)) = false) (hst : (d.svcOf (prm p 0)).staged = some lay)
    (hlim : d.layoutLimit (prm p 0) lay (d.layoutAlloc (prm p 0) lay) = some (c, w, need, have_)) :
    opLayoutSet p d = { code := 0x4B, pay := [c + w * 256, need, have_], dev := d } := by
  simp only [opLayoutSet, h, hst, hlim]

/-- R427: the layers that a layout allocated by `map` uses. -/
def layersUsed (map : Tab Nat) : List Nat := (map.filter (fun e => e.2 != 0)).map (fun e => e.2 - 1)

/-- R427: the layers of pipe `n` that go out of use with a layout allocated by `map`. -/
def Dev.layersGone (d : Dev) (n : Nat) (map : Tab Nat) : List Nat :=
  allLayers.filter (fun l => !(layersUsed map).contains l && d.svcLayer n l)

/-- R427: the commit that a staged layout within its limits makes. -/
def Dev.layoutCommit (d : Dev) (n : Nat) (lay : List (List Word)) : Option Result × Nat × Dev :=
  let map := (d.layoutAlloc n lay).map
  let front := !(d.svcOf n).front
  ((d.overlayFit n front).layoutProof n lay map front).fwCommit
    (.pipe n :: (allLayers.filter (fun l => (layersUsed map).contains l || (d.layersGone n map).contains l)).map BlkId.layer)

section
variable {lay : List (List Word)} {r : Option Result × Nat × Dev}

/-- R428: LAYOUT_SET whose commit is refused.  Stated of a commit given by name, so that comparing two never runs it. -/
theorem opLayoutSet_uncommitted {x : Result} (h : d.fl (F.PIPE_OWNER_PENDING.i (prm p 0)) = false)
    (hst : (d.svcOf (prm p 0)).staged = some lay)
    (hlim : d.layoutLimit (prm p 0) lay (d.layoutAlloc (prm p 0) lay) = none) (hr : d.layoutCommit (prm p 0) lay = r)
    (hcommit : r.1 = some x) : opLayoutSet p d =
    { code := 0x4B, pay := [x.code + limitWindow (d.layoutAlloc (prm p 0) lay).map x * 256, x.needed, x.avail],
      dev := r.2.2 } := by
  subst hr
  simp only [Dev.layoutCommit, Dev.layersGone, layersUsed] at hcommit
  simp only [opLayoutSet, h, hst, hlim, hcommit, Dev.layoutCommit, Dev.layersGone, layersUsed]

/-- R425, R427: LAYOUT_SET whose commit is accepted keeps the layout, draws it and closes the staging. -/
theorem opLayoutSet_committed (h : d.fl (F.PIPE_OWNER_PENDING.i (prm p 0)) = false)
    (hst : (d.svcOf (prm p 0)).staged = some lay)
    (hlim : d.layoutLimit (prm p 0) lay (d.layoutAlloc (prm p 0) lay) = none) (hr : d.layoutCommit (prm p 0) lay = r)
    (hcommit : r.1 = none) : opLayoutSet p d =
    let map := (d.layoutAlloc (prm p 0) lay).map
    let front := !(d.svcOf (prm p 0)).front
    let x := { r.2.2.svcOf (prm p 0) with staged := none, layout := lay, layers := map, front := front, bars := [] }
    let e := (r.2.2.putSvc (prm p 0) x).drawLayout (prm p 0) lay front
    { pay := [r.2.1, e.rg F.FETCH_HEADROOM_MBPS, e.freeBlocks.length,
        (layersUsed map).length + (lay.filter winEn).length * 256], dev := e } := by
  subst hr
  simp only [Dev.layoutCommit, Dev.layersGone, layersUsed] at hcommit
  simp only [opLayoutSet, h, hst, hlim, hcommit, Dev.layoutCommit, Dev.layersGone, layersUsed]

end

/-- R431: ATLAS_SET of a FREE surface. -/
theorem opAtlasSet_free (h : (d.surfAt (prm p 1)).st = .free) : opAtlasSet p d = { code := 3, dev := d } := if_pos h

/-- R423: ATLAS_SET of a registered surface. -/
theorem opAtlasSet_sets (h : (d.surfAt (prm p 1)).st ≠ .free) : opAtlasSet p d =
    let x : Atlas := ⟨prm p 1, bits (prm p 2) 0 8, bits (prm p 2) 8 8, bits (prm p 2) 16 8, bits (prm p 2) 24 2⟩
    { dev := { d with hearth := { d.hearth with
        atlases := Tab.put (fun _ => none) d.hearth.atlases (prm p 0) (some x) } } } := if_neg h

/-- R431: METER_TABLE_SET of a table beyond the usable DRAM. -/
theorem opMeterTableSet_beyond (h : d.usableBytes < prm2 p 0 + 4 * prm p 2) :
    opMeterTableSet p d = { code := 7, dev := d } := if_pos h

/-- R429: METER_TABLE_SET of a table within the usable DRAM. -/
theorem opMeterTableSet_sets (h : prm2 p 0 + 4 * prm p 2 ≤ d.usableBytes) : opMeterTableSet p d =
    let m : Meters := ⟨prm2 p 0, prm p 2, [prm p 3, prm p 4, prm p 5].map (BitVec.ofNat 32), prm p 6 % 65536,
      prm p 6 / 65536, []⟩
    { dev := { d with hearth := { d.hearth with meters := m } } } := if_neg (Nat.not_lt.mpr h)

/-- R430: the bytes that a pipe's two overlay buffers need with the timing words sent. -/
theorem timing_bytes {ps : List Word} {n : Nat} :
    16 * View.g (fun _ => BitVec.ofNat 32 (prm (nums ps) 2)) (F.PIPE_HTIMING_A_HACTIVE.i n)
        * View.g (fun _ => BitVec.ofNat 32 (prm (nums ps) 4)) (F.PIPE_VTIMING_A_VACTIVE.i n) =
      16 * bits (param ps 2) 0 14 * bits (param ps 4) 0 14 := by
  have hword (k : Nat) : (BitVec.ofNat 32 (prm (nums ps) k)).toNat = param ps k := by
    rw [BitVec.toNat_ofNat]
    refine Nat.mod_eq_of_lt ?_
    simp only [prm, nums, List.getD_eq_getElem?_getD, List.getElem?_map]
    cases ps[k]? with
    | none => decide
    | some w => exact w.isLt
  have hfit (f : Fld) (hf : f.lo + f.len ≤ 32) : (f.i n).lo + (f.i n).len ≤ 32 := hf
  rw [View.g_const (hfit _ (by decide)), View.g_const (hfit _ (by decide)), hword, hword]
  rfl

/-- R431: PIPE_TIMING_SET of a pipe that takes no timing. -/
theorem opPipeTimingSet_refused {c : Nat} (h : d.serviceRefused (prm p 0) = some c) :
    opPipeTimingSet p d = { code := c, dev := d } := by rw [opPipeTimingSet, h]

section
variable {ps : List Word}

/-- R430: PIPE_TIMING_SET of a picture beyond the pipe's region. -/
theorem opPipeTimingSet_small (h : d.serviceRefused (param ps 0) = none)
    (hsize : (d.svcOf (param ps 0)).size < 16 * bits (param ps 2) 0 14 * bits (param ps 4) 0 14) :
    opPipeTimingSet (nums ps) d = { code := 7, dev := d } := by
  have href : d.serviceRefused (prm (nums ps) 0) = none := h
  rw [← timing_bytes (n := param ps 0)] at hsize
  simp only [opPipeTimingSet, href]
  exact if_pos hsize

/-- R427: the commit that the timing words of pipe `n` make. -/
def Dev.timingCommit (d : Dev) (n : Nat) (ws : List Word) : Option Result × Nat × Dev :=
  (d.timingProof n ws).fwCommit ((d.timingProof n ws).timingBlocks n)

section
variable {r : Option Result × Nat × Dev}

/-- R428: PIPE_TIMING_SET of a picture that fits, whose commit is refused. -/
theorem opPipeTimingSet_uncommitted {x : Result} (h : d.serviceRefused (param ps 0) = none)
    (hfits : 16 * bits (param ps 2) 0 14 * bits (param ps 4) 0 14 ≤ (d.svcOf (param ps 0)).size)
    (hr : d.timingCommit (param ps 0) (ps.drop 1) = r) (hcommit : r.1 = some x) : opPipeTimingSet (nums ps) d =
    { code := 0x4B, pay := [x.code + 0xFF00, x.needed, x.avail], dev := r.2.2 } := by
  subst hr
  have hwords : ((nums ps).drop 1).map (BitVec.ofNat 32) = ps.drop 1 := by rw [List.map_drop, nums_words]
  rw [← timing_bytes (n := param ps 0)] at hfits
  simp only [Dev.timingCommit, param] at h hfits hcommit
  simp only [opPipeTimingSet, h, hwords, Nat.not_lt.mpr hfits, if_false, hcommit, Dev.timingCommit, param]

/-- R427: PIPE_TIMING_SET of a picture that fits, whose commit is accepted, keeps its seven words. -/
theorem opPipeTimingSet_committed (h : d.serviceRefused (param ps 0) = none)
    (hfits : 16 * bits (param ps 2) 0 14 * bits (param ps 4) 0 14 ≤ (d.svcOf (param ps 0)).size)
    (hr : d.timingCommit (param ps 0) (ps.drop 1) = r) (hcommit : r.1 = none) : opPipeTimingSet (nums ps) d =
    { pay := [r.2.1], dev := r.2.2.putSvc (param ps 0) { r.2.2.svcOf (param ps 0) with timing := ps.drop 1 } } := by
  subst hr
  have hwords : ((nums ps).drop 1).map (BitVec.ofNat 32) = ps.drop 1 := by rw [List.map_drop, nums_words]
  rw [← timing_bytes (n := param ps 0)] at hfits
  simp only [Dev.timingCommit, param] at h hfits hcommit
  simp only [opPipeTimingSet, h, hwords, Nat.not_lt.mpr hfits, if_false, hcommit, Dev.timingCommit, param]

end

end

end

section
variable {tr : Tr} {seq : BitVec 16} {ps : List Word} {s : State} {r : Option Result × Nat × Dev}

/-- R425, R427, R428: LAYOUT_SET of a layout within its limits replies by its commit `r`. -/
theorem replies_layoutSet {lay : List (List Word)} (h : s.dev.passes 0x0204 tr seq ps = true) (hpipe : param ps 0 < 4)
    (hown : s.dev.fl (F.PIPE_OWNER_PENDING.i (param ps 0)) = false) (hst : (s.dev.svcOf (param ps 0)).staged = some lay)
    (hlim : s.dev.layoutLimit (param ps 0) lay (s.dev.layoutAlloc (param ps 0) lay) = none)
    (hr : s.dev.layoutCommit (param ps 0) lay = r) :
    let map := (s.dev.layoutAlloc (param ps 0) lay).map
    let front := !(s.dev.svcOf (param ps 0)).front
    let x := { r.2.2.svcOf (param ps 0) with staged := none, layout := lay, layers := map, front := front, bars := [] }
    let e := (r.2.2.putSvc (param ps 0) x).drawLayout (param ps 0) lay front
    (∀ x, r.1 = some x → Replies (.layoutSet tr seq ps) 0x0204 tr seq ps s 0x4B
      [x.code + limitWindow map x * 256, x.needed, x.avail] r.2.2) ∧
    (r.1 = none → Replies (.layoutSet tr seq ps) 0x0204 tr seq ps s 0
      [r.2.1, e.rg F.FETCH_HEADROOM_MBPS, e.freeBlocks.length,
        (layersUsed map).length + (lay.filter winEn).length * 256] e) := by
  refine ⟨fun x hcommit => ?_, fun hcommit => ?_⟩
  · exact replies rfl h (badPipe_of_lt hpipe) (opLayoutSet_uncommitted hown hst hlim hr hcommit) (by decide)
  · exact replies rfl h (badPipe_of_lt hpipe) (opLayoutSet_committed hown hst hlim hr hcommit) (by decide)

/-- R427, R428: PIPE_TIMING_SET of a picture that fits replies by its commit `r`. -/
theorem replies_pipeTimingSet (h : s.dev.passes 0x0307 tr seq ps = true) (hpipe : param ps 0 < 4)
    (hopen : s.dev.serviceRefused (param ps 0) = none)
    (hfits : 16 * bits (param ps 2) 0 14 * bits (param ps 4) 0 14 ≤ (s.dev.svcOf (param ps 0)).size)
    (hr : s.dev.timingCommit (param ps 0) (ps.drop 1) = r) :
    (∀ x, r.1 = some x → Replies (.pipeTimingSet tr seq ps) 0x0307 tr seq ps s 0x4B
      [x.code + 0xFF00, x.needed, x.avail] r.2.2) ∧
    (r.1 = none → Replies (.pipeTimingSet tr seq ps) 0x0307 tr seq ps s 0 [r.2.1]
      (r.2.2.putSvc (param ps 0) { r.2.2.svcOf (param ps 0) with timing := ps.drop 1 })) := by
  refine ⟨fun x hcommit => ?_, fun hcommit => ?_⟩
  · exact replies rfl h (badPipe_of_lt hpipe) (opPipeTimingSet_uncommitted hopen hfits hr hcommit) (by decide)
  · exact replies rfl h (badPipe_of_lt hpipe) (opPipeTimingSet_committed hopen hfits hr hcommit) (by decide)

end

end Sys2Proof.Machine
end

section
/-! SUPPORT.  The ring and the side-band transports (R416, R419 to R422): which indices the ring takes, when it takes a command,
    and what a side-band packet, a read of its reply and a read of its status do. -/

namespace Sys2Proof.Machine

section
variable {d : Dev} {w : Word}

/-- R415, R416: a write of a register of the ring window acts by the rule of CMD_TAIL or RPL_HEAD, and else plainly. -/
theorem ringAt_register {off : Nat} (halign : off / 4 * 4 = off) (hwin : within 0x8000 0x801F off = true) : ringAt off w d =
    if ringBase + off = F.ICP_CMD_TAIL_TAIL.off then
      (icpCmdTailWrite w d).restoreIf F.ICP_CMD_TAIL_TAIL.off F.ICP_CMD_TAIL_TAIL.off w
    else if ringBase + off = F.ICP_RPL_HEAD_HEAD.off then
      (icpRplHeadWrite w d).restoreIf F.ICP_RPL_HEAD_HEAD.off F.ICP_RPL_HEAD_HEAD.off w
    else plainWrite .host false [(ringBase + off, w)] d := by
  have hfull : widthOf 15 = .full := rfl
  have hslots : ¬ off < 0x4000 := by simp [within] at hwin; omega
  simp only [ringAt, ringWrite, halign, hfull, hslots, hwin, reduceCtorEq, if_false, Bool.not_true, Bool.false_eq_true,
    show (Width.full == Width.narrow) = false from rfl, show (Width.full != Width.full) = false from rfl]
  split
  · simp_all
  · split
    · simp_all
    · rfl

/-- R415, R416: a write of CMD_TAIL acts by its own rule, and repairs its parity. -/
theorem ringAt_cmdTail : ringAt (F.ICP_CMD_TAIL_TAIL.off - ringBase) w d =
    (icpCmdTailWrite w d).restoreIf F.ICP_CMD_TAIL_TAIL.off F.ICP_CMD_TAIL_TAIL.off w :=
  (ringAt_register (by decide) (by decide)).trans (if_pos (by decide))

/-- R415, R416: a write of RPL_HEAD acts by its own rule, and repairs its parity. -/
theorem ringAt_rplHead : ringAt (F.ICP_RPL_HEAD_HEAD.off - ringBase) w d =
    (icpRplHeadWrite w d).restoreIf F.ICP_RPL_HEAD_HEAD.off F.ICP_RPL_HEAD_HEAD.off w :=
  (ringAt_register (by decide) (by decide)).trans ((if_neg (by decide)).trans (if_pos (by decide)))

/-- R416: commands in slots that are taken and whose reply is not lost. -/
def Dev.ringTaken (d : Dev) : Nat := countP (fun (x : SvcStep) => x.tr == Tr.pcie && !x.lost) d.icp.svc

/-- R416: the ring is on and holds a command, and a reply slot is left for it. -/
def Dev.ringReady (d : Dev) : Prop :=
  d.fl F.ICP_RING_CTRL_EN = true ∧ d.rg F.ICP_CMD_HEAD_HEAD ≠ d.rg F.ICP_CMD_TAIL_TAIL ∧
    subMod 7 (d.rg F.ICP_RPL_TAIL_TAIL) (d.rg F.ICP_RPL_HEAD_HEAD) + d.ringTaken < 64

/-- R416: the test that the ring takes a command. -/
theorem ringReady_iff : (d.fl F.ICP_RING_CTRL_EN && d.rg F.ICP_CMD_HEAD_HEAD != d.rg F.ICP_CMD_TAIL_TAIL &&
    decide (subMod 7 (d.rg F.ICP_RPL_TAIL_TAIL) (d.rg F.ICP_RPL_HEAD_HEAD) + d.ringTaken < 64)) = true ↔ d.ringReady := by
  simp [Dev.ringReady, and_assoc]

/-- R416: a command that the ring can take is copied, waits to execute, and CMD_HEAD advances. -/
theorem icpRingTake_takes (h : d.ringReady) : icpRingTake d =
    (d.svcQueue { tr := .pcie, words := (packetWords .pcie
      (d.slotBytes (d.rg F.ICP_CMD_HEAD_HEAD % 64 * 256) 256)).map (BitVec.ofNat 32) }).sg F.ICP_CMD_HEAD_HEAD
        ((d.rg F.ICP_CMD_HEAD_HEAD + 1) % 128) := if_pos (ringReady_iff.mpr h)

/-- R416: otherwise the ring takes nothing. -/
theorem icpRingTake_idle (h : ¬ d.ringReady) : icpRingTake d = d := if_neg (mt ringReady_iff.mp h)

end

section
variable {d : Dev} {tr : Tr} {bytes : List Byte} {n : Nat}

/-- R406: a side-band packet of whole words, 3 to 64 of them, is no framing error. -/
theorem badFrame_iff : badFrame n = false ↔ n % 4 = 0 ∧ 12 ≤ n ∧ n ≤ 256 := by
  simp [badFrame, and_assoc]

/-- R421: a transport holds no command and no unread reply. -/
def SideBand.free (x : SideBand) : Prop := x.busy = false ∧ x.reply = []

/-- R421: a second command of a side-band transport only sets OVERRUN. -/
theorem writePacket_overrun (htr : tr ≠ .pcie) (h : ¬ (d.side tr).free) :
    writePacket tr bytes d = d.putSide tr { d.side tr with overrun := true } := by
  have hheld : ((d.side tr).busy || !(d.side tr).reply.isEmpty) = true := by
    rw [SideBand.free, not_and_or, Bool.not_eq_false] at h
    simpa using h
  simp [writePacket, htr, hheld]

/-- R419, R420: a bad or short packet of a free transport sets FRAMING. -/
theorem writePacket_framing (htr : tr ≠ .pcie) (h : (d.side tr).free)
    (hbad : ((sidePacket tr bytes).2 || badFrame (sidePacket tr bytes).1.length) = true) :
    writePacket tr bytes d = d.putSide tr { d.side tr with framing := true } := by
  simp [writePacket, htr, h.1, h.2, Bool.or_eq_true _ _ ▸ hbad]

/-- R419 to R421: a whole packet of a free transport waits to execute. -/
theorem writePacket_whole {p : List Byte} (htr : tr ≠ .pcie) (h : (d.side tr).free) (hp : sidePacket tr bytes = (p, false))
    (hgood : badFrame p.length = false) : writePacket tr bytes d =
      (d.putSide tr { d.side tr with busy := true }).svcQueue
        { tr := tr, words := (packetWords tr p).map (BitVec.ofNat 32) } := by
  simp [writePacket, htr, h.1, h.2, hp, hgood]

/-- R419: an SPI packet that is sent whole. -/
theorem sidePacket_spi_whole (h : ofLe (bytes.take 2) + 2 ≤ bytes.length) :
    sidePacket .spi bytes = ((bytes.drop 2).take (ofLe (bytes.take 2)), false) := by
  have htwo : ¬ bytes.length < 2 := by omega
  have hall : ¬ ((bytes.drop 2).take (ofLe (bytes.take 2))).length < ofLe (bytes.take 2) := by
    rw [List.length_take, List.length_drop]; omega
  simp only [sidePacket, htwo, hall, decide_false, Bool.or_false]

/-- R419: an SPI packet that falls short of its length. -/
theorem sidePacket_spi_short (h : bytes.length < ofLe (bytes.take 2) + 2) : (sidePacket .spi bytes).2 = true := by
  have hshort : bytes.length < 2 ∨ ((bytes.drop 2).take (ofLe (bytes.take 2))).length < ofLe (bytes.take 2) := by
    rw [List.length_take, List.length_drop]; omega
  simpa only [sidePacket, Bool.or_eq_true, decide_eq_true_eq] using hshort

/-- R419: the turnaround byte that SPI sends before what is read. -/
def sideLead (tr : Tr) (bs : List Byte) : List Byte := if tr = .spi then 0 :: bs else bs

/-- The model's test of SPI agrees. -/
theorem sideLead_eq (tr : Tr) (bs : List Byte) : (if tr == .spi then 0 :: bs else bs) = sideLead tr bs := by
  simp [sideLead]

/-- R419, R420: a READ_REPLY of `n` bytes sends the reply followed by 0xFF. -/
def Dev.replySent (d : Dev) (tr : Tr) (n : Nat) : Dev :=
  d.send (.sideband tr (sideLead tr (((d.side tr).reply ++ List.replicate n 0xFF).take n)))

/-- R419 to R421: a READ_REPLY consumes a reply that it reads to its end. -/
theorem readReply_eq (htr : tr ≠ .pcie) : readReply tr n d =
    if (d.side tr).reply.length ≤ n then (d.replySent tr n).putSide tr { d.side tr with reply := [] }
    else d.replySent tr n := by
  simp only [readReply, beq_eq_false_iff_ne.mpr htr, Bool.false_eq_true, if_false, sideLead_eq]
  rfl

/-- R422: a READ_STATUS sends the status bytes and clears OVERRUN and FRAMING. -/
theorem readStatus_eq (htr : tr ≠ .pcie) : readStatus tr d =
    (d.send (.sideband tr (sideLead tr (d.sideStatus tr)))).putSide tr
      { d.side tr with overrun := false, framing := false } := by
  simp only [readStatus, beq_eq_false_iff_ne.mpr htr, Bool.false_eq_true, if_false, sideLead_eq]

/-- R419, R420: a bad command byte sets FRAMING. -/
theorem sidebandBadCommand_eq (htr : tr ≠ .pcie) :
    sidebandBadCommand tr d = d.putSide tr { d.side tr with framing := true } :=
  if_neg (ne_true_of_eq_false (beq_eq_false_iff_ne.mpr htr))

end

end Sys2Proof.Machine
end

section
/-! SUPPORT.  A received packet (R405 to R407, R411): where it joins those that wait, the tests it meets in order, and what each
    that fails answers. -/

namespace Sys2Proof.Machine

/-- A search that fails in a list finds the element put behind it. -/
theorem firstWith_append_last {α : Type} {p : α → Bool} {a : α} (ha : p a = true) :
    ∀ {l : List α}, firstWith p l = none → firstWith p (l ++ [a]) = some a
  | [], _ => by simp [firstWith, ha]
  | x :: t, h => by
    have hx : ¬ p x = true := fun hx => by simp [firstWith, hx] at h
    have ht : firstWith p t = none := by simpa [firstWith, hx] using h
    simpa [firstWith, hx] using firstWith_append_last ha ht

/-- At most four bytes make a word. -/
theorem ofLe_lt : ∀ bs : List Byte, ofLe bs < 256 ^ bs.length
  | [] => by simp [ofLe]
  | b :: t => by
    have hb : b.toNat < 256 := b.isLt
    have ht := ofLe_lt t
    rw [ofLe, List.length_cons, Nat.pow_succ]
    omega

/-- Words formed from bytes, kept as 32-bit words, read as they were formed. -/
theorem wordsLe_kept (n : Nat) (bs : List Byte) :
    ((wordsLe n bs).map (BitVec.ofNat 32)).map (·.toNat) = wordsLe n bs := by
  rw [List.map_map, wordsLe, List.map_map]
  refine List.map_congr_left fun k _ => ?_
  have hlen : ((bs.drop (4 * k)).take 4).length ≤ 4 := List.length_take_le _ _
  exact Nat.mod_eq_of_lt (Nat.lt_of_lt_of_le (ofLe_lt _) (Nat.pow_le_pow_right (by decide) hlen))

/-- R406: the words of a packet read as they were received. -/
theorem packetWords_kept {tr : Tr} {bs : List Byte} :
    ((packetWords tr bs).map (BitVec.ofNat 32)).map (·.toNat) = packetWords tr bs := wordsLe_kept _ _

section
variable {d : Dev} {tr : Tr}

/-- R411: packet `ws` of transport `tr` as it waits, received. -/
def receivedStep (tr : Tr) (ws : List Nat) : SvcStep :=
  { tr := tr, words := ws.map (BitVec.ofNat 32), stage := .received }

/-- R411: no packet of the transport waits. -/
def Dev.idle (d : Dev) (tr : Tr) : Prop := firstWith (fun z : SvcStep => z.tr == tr) d.icp.svc = none

/-- R25, R416: a packet of a transport that has none waiting joins those that wait. -/
theorem svcAdd_idle {ws : List Nat} (h : d.idle tr) : d.svcAdd tr ws = d.svcQueue (receivedStep tr ws) := by
  have hnone : d.icp.svc.any (fun s => s.isPacket tr ws && s.stage == .taken) = false := by
    rw [Bool.eq_false_iff]
    intro hany
    obtain ⟨z, hz, hmine⟩ := List.any_eq_true.mp hany
    have htr : (z.tr == tr) = true := by
      simp only [SvcStep.isPacket, Bool.and_eq_true] at hmine
      exact hmine.1.1
    obtain ⟨_, hfound⟩ := firstWith_of_mem (p := fun z : SvcStep => z.tr == tr) hz htr
    exact absurd (h.symm.trans hfound) (by simp)
  exact if_neg (ne_true_of_eq_false hnone)

/-- R406: the packets of a transport wait behind one that is past its tests. -/
theorem settle_waiting {z : SvcStep} (hz : firstWith (fun z : SvcStep => z.tr == tr) d.icp.svc = some z)
    (hstage : z.stage ≠ .received) : ∀ n, d.settle tr n = d
  | 0 => rfl
  | n + 1 => by rw [Dev.settle, hz]; exact if_neg hstage

/-- R406: the first packet of its transport is tested at once, and then those behind it. -/
theorem settleAll_first {ws : List Nat} (h : d.idle tr) (hws : (ws.map (BitVec.ofNat 32)).map (·.toNat) = ws) :
    (d.svcQueue (receivedStep tr ws)).settleAll tr =
      ((d.svcQueue (receivedStep tr ws)).packetTests tr ws).settle tr d.icp.svc.length := by
  have hfirst : firstWith (fun z : SvcStep => z.tr == tr) (d.svcQueue (receivedStep tr ws)).icp.svc =
      some (receivedStep tr ws) := firstWith_append_last (by simp [receivedStep]) h
  have hlen : (d.svcQueue (receivedStep tr ws)).icp.svc.length = d.icp.svc.length + 1 := List.length_append
  have hwords : (receivedStep tr ws).words.map (·.toNat) = ws := hws
  rw [Dev.settleAll, hlen, Dev.settle, hfirst]
  simp only [receivedStep, if_true] at hwords ⊢
  rw [hwords]

end

section
variable {d : Dev} {tr : Tr} {packet : List Byte}

/-- R406 test 1: the packet is of a size that its transport takes. -/
def framed (tr : Tr) (packet : List Byte) : Prop :=
  tr = .pcie ∨ packet.length % 4 = 0 ∧ 12 ≤ packet.length ∧ packet.length ≤ 256

/-- R406 test 1: the model's test of a packet's size. -/
theorem framed_iff : (tr != .pcie && badFrame packet.length) = false ↔ framed tr packet := by
  rw [Bool.and_eq_false_iff, badFrame_iff, framed, bne_eq_false_iff_eq]

/-- R414, R502: the device once a packet past test 3 has had its effect on arrival. -/
def Dev.arrived (d : Dev) (tr : Tr) (packet : List Byte) : Dev :=
  if lengthOk tr packet then d.arrive tr (packetWords tr packet) else d

/-- R406: a side-band packet of a bad size. -/
theorem icpPacketReceived_unframed (h : ¬ framed tr packet) :
    icpPacketReceived tr packet d = d.putSide tr { d.side tr with busy := false, framing := true } :=
  if_pos (Bool.of_not_eq_false (mt framed_iff.mp h))

/-- R406: any other packet joins those that wait, and the first of its transport is tested. -/
theorem icpPacketReceived_framed (h : framed tr packet) :
    icpPacketReceived tr packet d = ((d.arrived tr packet).svcAdd tr (packetWords tr packet)).settleAll tr :=
  if_neg (ne_true_of_eq_false (framed_iff.mpr h))

/-- R406: the first packet of its transport is tested, and then those behind it. -/
theorem icpPacketReceived_first (h : framed tr packet) (hidle : (d.arrived tr packet).idle tr) :
    icpPacketReceived tr packet d =
      (((d.arrived tr packet).svcQueue (receivedStep tr (packetWords tr packet))).packetTests tr
        (packetWords tr packet)).settle tr (d.arrived tr packet).icp.svc.length := by
  rw [icpPacketReceived_framed h, svcAdd_idle hidle, settleAll_first hidle packetWords_kept]

end

section
variable {d : Dev} {tr : Tr} {ws : List Nat}

/-- R403: word `k` of a packet. -/
def wordOf (ws : List Nat) (k : Nat) : Nat := ws.getD k 0

/-- R406: packet `ws` is refused with a code and a payload. -/
def Dev.refuses (d : Dev) (tr : Tr) (ws : List Nat) (code : Nat) (pay : List Nat) : Dev :=
  d.refusePacket tr ws (wordOf ws 0 / 65536) (wordOf ws 0 % 256) code pay

/-- R406 test 2: the received length is 3 to 64 words. -/
def Sized (tr : Tr) (ws : List Nat) : Prop := tr = .pcie → 3 ≤ wordOf ws 1 % 65536 ∧ wordOf ws 1 % 65536 ≤ 64

/-- R405, R406 test 3: the trailer is the packet's check value. -/
def Dev.checks (d : Dev) (ws : List Nat) : Prop := (d.trailer ws.dropLast).1 = ws.getLastD 0

/-- R406 test 5: the reserved bits and REPLY are 0. -/
def PlainHeader (ws : List Nat) : Prop :=
  bits (wordOf ws 0) 10 6 = 0 ∧ bits (wordOf ws 0) 8 1 = 0 ∧ wordOf ws 1 / 65536 = 0

/-- R406 test 2: the model's test of the received length. -/
theorem sized_iff : (tr == .pcie && !within 3 64 (ws.getD 1 0 % 65536)) = false ↔ Sized tr ws := by
  simp only [Sized, wordOf, within, Bool.and_eq_false_iff, beq_eq_false_iff_ne, Bool.not_eq_false', Bool.and_eq_true,
    decide_eq_true_eq, ne_eq, imp_iff_not_or]

/-- R406 test 2: a length out of range. -/
theorem packetTests_missized (h : ¬ Sized tr ws) : d.packetTests tr ws = d.refuses tr ws 0x41 [] :=
  if_pos (Bool.of_not_eq_false (mt sized_iff.mp h))

/-- R406 test 3: a trailer that is not the check value. -/
theorem packetTests_unchecked (hsize : Sized tr ws) (h : ¬ d.checks ws) :
    d.packetTests tr ws = (d.trailer ws.dropLast).2.refuses tr ws 0x40 [] :=
  (if_neg (ne_true_of_eq_false (sized_iff.mpr hsize))).trans (if_pos h)

/-- R406 tests 4 to 10, R407: what a check-clean packet of a length in range meets, `e` having run its check value. -/
def Dev.headerTests (e : Dev) (tr : Tr) (ws : List Nat) : Dev :=
  if wordOf ws 1 % 65536 ≠ ws.length then e.refuses tr ws 0x41 []
  else if bits (wordOf ws 0) 10 6 ≠ 0 ∨ bits (wordOf ws 0) 8 1 ≠ 0 ∨ wordOf ws 1 / 65536 ≠ 0 then e.refuses tr ws 0x43 []
  else match opRow (wordOf ws 0 / 65536) with
    | none => e.refuses tr ws 0x42 []
    | some r =>
      let st := (Tab.get (fun _ => []) e.icp.stored (trCode tr)).map (·.toNat)
      if bit (wordOf ws 0) 9 && !st.isEmpty && st.getD 0 0 == wordOf ws 0 / 65536 && st.getD 1 0 == wordOf ws 0 % 256 then
        e.resend tr ws st
      else match e.cmdTest tr r (ws.drop 2).dropLast with
        | some x => e.refuses tr ws x.1 x.2
        | none => e.svcStage (fun s => s.isPacket tr ws) .passed

/-- R406: a packet past tests 2 and 3 meets the tests of its header. -/
theorem packetTests_clean (hsize : Sized tr ws) (hcheck : d.checks ws) :
    d.packetTests tr ws = (d.trailer ws.dropLast).2.headerTests tr ws :=
  (if_neg (ne_true_of_eq_false (sized_iff.mpr hsize))).trans (if_neg (not_not.mpr hcheck))

/-- R406 test 4: a LENGTH that is not the received length. -/
theorem headerTests_length (h : wordOf ws 1 % 65536 ≠ ws.length) : d.headerTests tr ws = d.refuses tr ws 0x41 [] := if_pos h

/-- R406 test 5: a reserved bit or REPLY is set. -/
theorem headerTests_reserved (hlen : wordOf ws 1 % 65536 = ws.length) (h : ¬ PlainHeader ws) :
    d.headerTests tr ws = d.refuses tr ws 0x43 [] := by
  rw [PlainHeader, not_and_or, not_and_or] at h
  exact (if_neg (not_not.mpr hlen)).trans (if_pos h)

/-- R406 test 6: an unknown opcode. -/
theorem headerTests_unknown (hlen : wordOf ws 1 % 65536 = ws.length) (hplain : PlainHeader ws)
    (h : opRow (wordOf ws 0 / 65536) = none) : d.headerTests tr ws = d.refuses tr ws 0x42 [] := by
  obtain ⟨hres, hreply, hlen'⟩ := hplain
  simp [Dev.headerTests, hlen, hres, hreply, hlen', h]

/-- R406 tests 7 to 10: a packet that is no retry is refused by the first that fails, or waits to execute. -/
theorem headerTests_command {r : OpRow} (hlen : wordOf ws 1 % 65536 = ws.length) (hplain : PlainHeader ws)
    (hnew : bit (wordOf ws 0) 9 = false) (h : opRow (wordOf ws 0 / 65536) = some r) : d.headerTests tr ws =
      match d.cmdTest tr r (ws.drop 2).dropLast with
      | some x => d.refuses tr ws x.1 x.2
      | none => d.svcStage (fun s => s.isPacket tr ws) .passed := by
  obtain ⟨hres, hreply, hlen'⟩ := hplain
  simp [Dev.headerTests, hlen, hres, hreply, hlen', h, hnew]

end

end Sys2Proof.Machine
end

section
/-! SUPPORT.  The settled statements of chapter 13: the rows of ICP, its packets, its ring and its side-band transports. -/

namespace Sys2Proof.Machine

/-- Settles O43: each row passes its tests and has no bad operand, so that it replies what its operation answers. -/
theorem icpQueriesReportTheState : Obligations.IcpQueriesReportTheState := by
  intro tr seq ps s d P fid
  refine ⟨fun h k hrun => ?_, fun h hrun => ?_, fun h => ?_, fun h hsid => ?_, fun h => ?_, fun h hfid halloc => ?_,
    fun h hfid hfree => ?_, fun h hport => ?_, fun h hport => ?_, fun e h hpipe he => ?_, fun h hpipe hwin hown => ?_,
    fun h hpipe hwin hown hw => ?_, fun h hpipe hwin hown hw => ?_, fun h hmin hmax hlast => ?_, fun h => ?_,
    fun h hmin hmax hnone => ?_, fun h hone e he hheld hword => ?_, fun h hmin hmax hlast => ?_, fun h => ?_,
    fun h k hrun => ?_, fun h hrun => ?_, fun h hslice => ?_⟩
  · exact replies rfl h rfl (opDeviceInfo_slot hrun) (by decide)
  · exact replies rfl h rfl (opDeviceInfo_recovery hrun) (by decide)
  · exact replies (f := opGetStatus) rfl h rfl rfl (by decide)
  · exact replies (f := opSurfQuery) rfl h (badSid_of_lt hsid) rfl (by decide)
  · exact replies (f := opSurfSealStatus) rfl h rfl rfl (by decide)
  · exact replies rfl h (badFid_of_lt hfid) (opFenceRead_value halloc) (by decide)
  · exact replies rfl h (badFid_of_lt hfid) (opFenceRead_free hfree) (by decide)
  · exact replies rfl h (badPort_of_lt (Nat.lt_trans hport (by decide))) (opPortStatus_dp hport) (by decide)
  · have hdsi : 4 ≤ P 0 ∧ P 0 < 6 := by omega
    exact replies rfl h (badPort_of_lt hdsi.2) (opPortStatus_dsi hdsi.1) (by decide)
  · have hline : d.lineShow (P 0) = e := by
      rcases he with ⟨hrun, rfl⟩ | ⟨hrun, rfl⟩
      · exact lineShow_stopped hrun
      · exact lineShow_running hrun
    subst hline
    exact replies (f := opPipeStatus) rfl h (badPipe_of_lt hpipe) rfl (by decide)
  · exact replies rfl h (badGet_of_lt hpipe hwin) (opLayoutGet_unowned hown) (by decide)
  · exact replies rfl h (badGet_of_lt hpipe hwin) (opLayoutGet_window hown hw) (by decide)
  · exact replies rfl h (badGet_of_lt hpipe hwin) (opLayoutGet_empty hown hw) (by decide)
  · exact replies (f := opSensorRead) rfl h (badSensorRead_of hmin hmax hlast) rfl (by decide)
  · exact replies (f := opLogInfo) rfl h rfl rfl (by decide)
  · exact replies rfl h (badLogRead_of hmin hmax) (opLogRead_none hnone) (by decide)
  · exact replies rfl h (badLogRead_of hone.ge (hone.le.trans (by decide))) (opLogRead_one he hone hheld hword) (by decide)
  · exact replies (f := opHealthRead) rfl h (badHealthRead_of hmin hmax hlast) rfl (by decide)
  · exact replies (f := opMarginRead) rfl h rfl rfl (by decide)
  · exact replies rfl h rfl (opFwInfo_slot hrun) (by decide)
  · exact replies rfl h rfl (opFwInfo_recovery hrun) (by decide)
  · exact replies (f := opSelftestResult) rfl h (badSlice_of hslice) rfl (by decide)

/-- Settles O45: a row with good operands answers by the state of its port, and then by what the sink did. -/
theorem icpPortRowsPassTheSinksAnswer : Obligations.IcpPortRowsPassTheSinksAnswer := by
  intro tr seq ps s d P n plugged ready
  refine ⟨fun seen h hgood => ⟨fun hplug => ?_, fun hplug hseen => ?_, fun hplug bs hseen => ?_⟩,
    fun acked h hgood => ⟨fun hplug => ?_, fun hplug hack => ?_, fun hplug hack => ?_⟩,
    fun seen h hport => ⟨fun hplug => ?_, fun hplug hno => ?_, fun hplug hstate ws hseen => ?_⟩,
    fun seen h hgood => ⟨fun hready => ?_, fun hready hseen => ?_, fun hready bs hseen hread => ?_,
      fun hready bs hseen hwrite => ?_⟩⟩
  · exact replies rfl h hgood (opSinkRead_unplugged hplug) (by decide)
  · subst hseen
    exact replies rfl h hgood (opSinkRead_failed hplug) (by decide)
  · subst hseen
    exact replies rfl h hgood (opSinkRead_bytes hplug) (by decide)
  · exact replies rfl h hgood (opDpcdWrite_unplugged hplug) (by decide)
  · subst hack
    exact replies rfl h hgood (opDpcdWrite_plugged hplug) (by decide)
  · subst hack
    exact replies rfl h hgood (opDpcdWrite_plugged hplug) (by decide)
  · exact replies rfl h (badDp_of_lt hport) (opHdcpTopology_unplugged hplug) (by decide)
  · exact replies rfl h (badDp_of_lt hport) (opHdcpTopology_unavailable hplug hno) (by decide)
  · subst hseen
    exact replies rfl h (badDp_of_lt hport) (opHdcpTopology_words hplug hstate) (by decide)
  · exact replies rfl h hgood (opDsiDcs_unready hready) (by decide)
  · subst hseen
    exact replies rfl h hgood (opDsiDcs_failed hready) (by decide)
  · subst hseen
    exact replies rfl h hgood (opDsiDcs_read hready hread) (by decide)
  · subst hseen
    exact replies rfl h hgood (opDsiDcs_write hready hwrite) (by decide)

/-- Settles O44: each row answers what its operation does; a whole reset, SHUTDOWN and POWER_STATE begin after the reply. -/
theorem icpControlRowsTakeEffect : Obligations.IcpControlRowsTakeEffect := by
  intro tr seq ps s d P q owner
  refine ⟨fun h hms => ?_, fun h hplain => ?_, fun h hstarter => ?_, fun h hheld => ?_, fun h hother hfree => ?_,
    fun h hother hheld hhere => ?_, fun h => ?_, fun h hall hplain => ?_, fun h hall hstarter => ?_,
    fun hdark hnext hrun htest hctl hpart hstarter => ?_, fun h hsome hmask hpart hplain htables hused => ?_,
    fun h hsome hmask hpart hplain hused => ?_, fun h hfree => ?_, fun h hbusy => ?_, fun h hstate hfree => ?_,
    fun h hstate href => ?_⟩
  · exact replies (f := opHeartbeat) rfl h (badHeartbeat_of hms) rfl (by decide)
  · exact replies rfl h rfl (opAckAttention_plain hplain) (by decide)
  · exact replies rfl h rfl (opAckAttention_starter hstarter) (by decide)
  · exact replies rfl h rfl (opClaimControl_held hheld) (by decide)
  · exact replies rfl h rfl (opClaimControl_taken hother hfree) (by decide)
  · exact replies rfl h rfl (opClaimControl_refused hother hheld hhere) (by decide)
  · exact replies (f := opReleaseControl) rfl h rfl rfl (by decide)
  · exact gives_then (g := fun d => d.warmReset .software) rfl h rfl (opSoftReset_all hall hplain)
  · exact gives_then (g := fun d => d.warmReset .software) rfl h rfl (opSoftReset_leaves_starter hall hstarter)
  · exact Gives.run rfl hdark
      (icpRun_failed hnext hrun htest opRow_softReset (cmdTest_softReset_starter hctl hstarter hpart))
  · exact replies rfl h rfl (opSoftReset_inUse hpart hsome hmask htables hused) (by decide)
  · exact replies rfl h rfl (opSoftReset_blocks hpart hsome hmask hused) (by decide)
  · exact gives_then (g := fun d => d.shutBegin (P 0)) rfl h rfl (opShutdown_begins hfree)
  · exact replies rfl h rfl (opShutdown_refused hbusy) (by decide)
  · exact gives_then (g := fun d => d.powerTake (P 0)) rfl h rfl (opPowerState_begins hstate hfree)
  · exact replies rfl h rfl (opPowerState_refused hstate href) (by decide)

/-- Settles O47: each row answers by the owner of its pipe and its staging; LAYOUT_SET and PIPE_TIMING_SET by their commit. -/
theorem icpLayoutRowsStageAndSet : Obligations.IcpLayoutRowsStageAndSet := by
  intro tr seq ps s d P a2
  refine ⟨fun h => ⟨fun c href => ?_, fun hopen hcopy hlay => ?_, fun hopen hempty => ?_⟩,
    fun h hgood => ⟨fun hnone => ?_, fun st hst hen => ?_, fun st hst hoff => ?_⟩,
    fun h hpipe => ⟨fun hpend => ?_, fun hown hnone => ?_, fun lay c w need have_ hown hst hlim => ?_,
      fun lay hown hst hlim => ?_⟩,
    fun h hatlas hsid => ⟨fun hfree => ?_, fun hused => ?_⟩,
    fun h halign hbase hmin hmax => ⟨fun hbeyond => ?_, fun hfits => ?_⟩, fun h hgood => ?_,
    fun h hpipe => ⟨fun c href => ?_, fun hopen hsmall => ?_, fun hopen hfits => ?_⟩⟩
  · exact replies rfl h rfl (opLayoutBegin_refused href) (serviceRefused_ne_badParam href)
  · exact replies rfl h rfl (opLayoutBegin_copies hopen hcopy hlay) (by decide)
  · exact replies rfl h rfl (opLayoutBegin_empty hopen hempty) (by decide)
  · exact replies rfl h hgood (opLayoutWindow_closed hnone) (by decide)
  · exact replies rfl h hgood (opLayoutWindow_sets hst hen) (by decide)
  · exact replies rfl h hgood (opLayoutWindow_removes hst hoff) (by decide)
  · exact replies rfl h (badPipe_of_lt hpipe) (opLayoutSet_pending hpend) (by decide)
  · exact replies rfl h (badPipe_of_lt hpipe) (opLayoutSet_closed hown hnone) (by decide)
  · exact replies rfl h (badPipe_of_lt hpipe) (opLayoutSet_limited hown hst hlim) (by decide)
  · exact replies_layoutSet h hpipe hown hst hlim rfl
  · exact replies rfl h (badAtlas_of_lt hatlas hsid) (opAtlasSet_free hfree) (by decide)
  · exact replies rfl h (badAtlas_of_lt hatlas hsid) (opAtlasSet_sets hused) (by decide)
  · exact replies rfl h (badMeters_of halign hbase hmin hmax) (opMeterTableSet_beyond hbeyond) (by decide)
  · exact replies rfl h (badMeters_of halign hbase hmin hmax) (opMeterTableSet_sets hfits) (by decide)
  · exact replies (f := opMeterWrite) rfl h hgood rfl (by decide)
  · exact replies rfl h (badPipe_of_lt hpipe) (opPipeTimingSet_refused href) (serviceRefused_ne_badParam href)
  · exact replies rfl h (badPipe_of_lt hpipe) (opPipeTimingSet_small hopen hsmall) (by decide)
  · exact replies_pipeTimingSet h hpipe hopen hfits rfl

/-- Settles O58: the first packet of its transport meets the tests of its length and check value, then those of its header; the
    first that fails decides. -/
theorem packetsAreTestedInOrder : Obligations.PacketsAreTestedInOrder := by
  intro tr packet s hdark hframed ws w op seq x b n y e first sized clean header
  have gives {g : Dev} (hg : icpPacketReceived tr packet s.dev = g) : Gives (.icpPacketReceived tr packet) s g :=
    Gives.run rfl hdark hg
  have tested (hfirst : first) {g : Dev} (hg : y.packetTests tr ws = g) :
      Gives (.icpPacketReceived tr packet) s (g.settle tr n) :=
    gives ((icpPacketReceived_first hfirst.1 hfirst.2).trans (congrArg (·.settle tr n) hg))
  have checked (hclean : clean) {g : Dev} (hg : e.headerTests tr ws = g) :
      Gives (.icpPacketReceived tr packet) s (g.settle tr n) :=
    tested hclean.1 ((packetTests_clean hclean.2.1 hclean.2.2).trans hg)
  refine ⟨fun hno => gives (icpPacketReceived_unframed hno), fun z hf hz hstage => ?_,
    fun hfirst hsize => tested hfirst (packetTests_missized hsize),
    fun hfirst hsize hcheck => tested hfirst (packetTests_unchecked hsize hcheck),
    fun hclean hlen => checked hclean (headerTests_length hlen), fun hclean hlen hres => ?_,
    fun hclean hhead hop => checked hclean (headerTests_unknown hhead.1 hhead.2 hop),
    fun r code pay hclean hhead hnew hop htest => ?_, fun r hclean hhead hnew hop htest => ?_⟩
  · exact gives ((icpPacketReceived_framed hf).trans (settle_waiting hz hstage _))
  · have hset : ¬ PlainHeader ws := by rwa [PlainHeader, not_and_or, not_and_or]
    exact checked hclean (headerTests_reserved hlen hset)
  · exact checked hclean ((headerTests_command hhead.1 hhead.2 hnew hop).trans (by rw [htest]; rfl))
  · exact checked hclean ((headerTests_command hhead.1 hhead.2 hnew hop).trans (by rw [htest]))

/-- Settles O59: an index is refused by its difference, and a command is taken while the ring is ready for it. -/
theorem ringTakesAndRefusesIndices : Obligations.RingTakesAndRefusesIndices := by
  intro data s hdark d t h taken room bs ws
  have tail {e : Dev} (he : icpCmdTailWrite data d = e) : Yields (.icpCmdTailWrite data) s e :=
    Yields.run rfl hdark (ringAt_cmdTail (d := d) ▸ restoreIf_mismatches _ _ _ _) he
  have head {e : Dev} (he : icpRplHeadWrite data d = e) : Yields (.icpRplHeadWrite data) s e :=
    Yields.run rfl hdark (ringAt_rplHead (d := d) ▸ restoreIf_mismatches _ _ _ _) he
  refine ⟨fun hfew => tail (if_neg (Nat.not_lt.mpr hfew)), fun hmany => tail (if_pos hmany),
    fun hfew => head (if_neg (Nat.not_lt.mpr hfew)), fun hmany => head (if_pos hmany), fun hon hsome hroom => ?_,
    fun hno => ?_⟩
  · exact Gives.run rfl hdark (icpRingTake_takes ⟨hon, hsome, hroom⟩)
  · exact Gives.run rfl hdark (icpRingTake_idle hno)

/-- Settles O60: a WRITE_PACKET acts by what its transport holds and by the packet, a read by what there is to send. -/
theorem sideBandTransportsHoldOneOfEach : Obligations.SideBandTransportsHoldOneOfEach := by
  intro tr bytes len s hdark htr d x free n lead out
  have gives {c : Instr} {f : Dev → Dev} {e : Dev} (hc : exec c s = s.run f) (he : f d = e) : Gives c s e :=
    Gives.run hc hdark he
  refine ⟨fun hheld => ?_, fun hfree hi2c hword hmin hmax => ?_, fun hfree hi2c hbad => ?_,
    fun hfree hspi => ?_, fun hfree hspi hshort => ?_, fun hend => ?_, fun hmore => ?_, ?_, ?_⟩
  · exact gives rfl (writePacket_overrun htr hheld)
  · subst hi2c
    exact gives rfl (writePacket_whole htr hfree rfl (badFrame_iff.mpr ⟨hword, hmin, hmax⟩))
  · subst hi2c
    have hframe : badFrame bytes.length = true := by
      rw [← Bool.not_eq_false]
      exact mt badFrame_iff.mp hbad
    exact gives rfl (writePacket_framing htr hfree hframe)
  · intro m hwhole hword hmin hmax
    subst hspi
    have hlen : ((bytes.drop 2).take m).length = m := by rw [List.length_take, List.length_drop]; omega
    exact gives rfl (writePacket_whole htr hfree (sidePacket_spi_whole hwhole)
      (badFrame_iff.mpr (hlen.symm ▸ ⟨hword, hmin, hmax⟩)))
  · subst hspi
    exact gives rfl (writePacket_framing htr hfree (by rw [sidePacket_spi_short hshort]; rfl))
  · exact gives rfl ((readReply_eq htr).trans (if_pos hend))
  · exact gives rfl ((readReply_eq htr).trans (if_neg (Nat.not_le.mpr hmore)))
  · exact gives rfl (readStatus_eq htr)
  · exact gives rfl (sidebandBadCommand_eq htr)

end Sys2Proof.Machine
end

section
/-! SUPPORT.  When a command can act (R486, R487, R515): the shape of each command's meaning, by its reach. -/

namespace Sys2Proof.Machine

/-- A command that needs the main supply is an effect outside DEEP and structural scan. -/
theorem exec_awake {c : Instr} (h : c.reach = .awake) (s : State) : ∃ f, exec c s = s.run f := by
  cases c with
  | aonPowerOn | aonBrownout => cases h
  | hpdPlug | hpdUnplug | brownoutWarn | brownoutRecovery | perstAssert | perstDeassert | wakeNFall | sidebandWake | refclkLost
  | refclkReturn => cases h
  | dramWindowWrite addr data dt => exact ⟨fun d => dramWindowWrite addr.toNat data (d.advance dt), rfl⟩
  | dramEccError ch uncorrectable reader dt =>
    exact ⟨fun d => dramEccError ch.val uncorrectable reader.reader reader.addr.toNat (d.advance dt), rfl⟩
  | dmaBusError kind addr ends data dt => exact ⟨fun d => dmaBusError kind addr.toNat ends data (d.advance dt), rfl⟩
  | _ => exact ⟨_, rfl⟩

/-- A command of the always-on island is an effect outside structural scan. -/
theorem exec_inDeep {c : Instr} (h : c.reach = .inDeep) (s : State) : ∃ f, exec c s = s.runAon f := by
  cases c with
  | hpdPlug | hpdUnplug | brownoutWarn | brownoutRecovery | perstAssert | perstDeassert | wakeNFall | sidebandWake | refclkLost
  | refclkReturn => exact ⟨_, rfl⟩
  | _ => cases h

/-- R486, R515: a dark device is left as it is by a command that needs the main supply. -/
theorem exec_dark {c : Instr} {s : State} (hdark : s.dev.dark = true) (h : c.reach = .awake) : exec c s = .next s := by
  obtain ⟨f, hf⟩ := exec_awake h s
  exact hf.trans (State.run_dark hdark)

/-- R515: in structural scan only a cold power-on changes the device. -/
theorem exec_scan {c : Instr} {s : State} (hscan : s.dev.power.scan = true) (h : c.reach ≠ .always) : exec c s = .next s := by
  cases hc : c.reach with
  | always => exact absurd hc h
  | inDeep =>
    obtain ⟨f, hf⟩ := exec_inDeep hc s
    exact hf.trans (State.runAon_scan hscan)
  | awake => exact exec_dark (by rw [Dev.dark, hscan, Bool.or_true]) hc

end Sys2Proof.Machine
end

section
/-! SUPPORT.  Power requests (R479, R491), the ends of power transitions (R483 to R486), and the events of rails, brownouts,
    reset pins, wake pins and the reference clock (R464 to R472, R478, R487, R488, R502, R537). -/

namespace Sys2Proof.Machine

variable {d : Dev}

/-! ### Requests -/

/-- R491: a refused request sets REFUSED. -/
theorem powerCtrlWrite_refused {w : Word} (h : d.powerRefused (bits w.toNat 0 2) = true) :
    powerCtrlWrite w d = d.up F.POWER_STATUS_REFUSED := by
  unfold powerCtrlWrite
  rw [View.g_const (by decide)]
  exact if_pos h

/-- R491: any other request is taken. -/
theorem powerCtrlWrite_taken {w : Word} (h : d.powerRefused (bits w.toNat 0 2) = false) :
    powerCtrlWrite w d = d.powerTake (bits w.toNat 0 2) := by
  unfold powerCtrlWrite
  rw [View.g_const (by decide)]
  exact if_neg (ne_true_of_eq_false h)

/-- R483: a request for HOLD begins its entry. -/
theorem powerTake_hold {t : Nat} (ht : t = 2) : d.powerTake t = (d.sg F.POWER_CTRL_TARGET t).holdBegin false := if_pos ht

/-- R486: a request for DEEP begins its entry, with the outputs stopped at once. -/
theorem powerTake_deep {t : Nat} (ht : t = 3) : d.powerTake t = (d.sg F.POWER_CTRL_TARGET t).deepBegin true := by
  subst ht
  rfl

/-- R485: a request for ACTIVE in HOLD begins the exit, with the request as its source. -/
theorem powerTake_exits {t : Nat} (ht : t = 0) (h : (d.sg F.POWER_CTRL_TARGET t).inHold = true) :
    d.powerTake t = (d.sg F.POWER_CTRL_TARGET t).holdExit 9 := by
  subst ht
  exact if_pos h

/-- R481: a request for ACTIVE outside HOLD is only kept in TARGET. -/
theorem powerTake_stays {t : Nat} (ht : t = 0) (h : (d.sg F.POWER_CTRL_TARGET t).inHold = false) :
    d.powerTake t = d.sg F.POWER_CTRL_TARGET t := by
  subst ht
  exact if_neg (ne_true_of_eq_false h)

/-- R479: PIPE of a written word. -/
theorem powerPipeReset_eq (q : Rq) (w : Word) (d : Dev) : powerPipeReset q w d =
    Dev.each (fun p e =>
      if !bit (bits w.toNat 0 4) p then e
      else if q == .host && e.svcOwned p then e.ownViolation p
      else e.pipeReset 1 p) pipes d := by
  unfold powerPipeReset
  rw [View.g_const (by decide)]
  rfl

/-! ### The ends of transitions -/

/-- R483, R490, R493: the end of the entry to HOLD counts it, and under SHUTDOWN keeps the DRAM. -/
theorem holdEntryComplete_holds {e e2 : Dev} (hmove : d.power.moving = .toHold)
    (he : ((((d.cutAll.portsOff).sg F.POWER_STATUS_STATE 2).dn F.POWER_STATUS_TRANSITION).incSat F.POWER_STATUS_HOLD_COUNT) = e)
    (he2 : (if e.power.shut.isSome then (e.up F.POWER_STATUS_SHUTDOWN).up F.SYS_RESET_CTRL_RETAIN_DRAM else e) = e2) :
    holdEntryComplete d = { e2 with power := { e2.power with shut := none, moving := .none } }.wakePending := by
  subst he he2
  simp only [holdEntryComplete, hmove]

/-- R485: the end of the exit from HOLD clears what POWER_STATUS shows of it, and pipes restart. -/
theorem holdExitComplete_exits (hmove : d.power.moving = .fromHold) :
    holdExitComplete d = (((((d.dn F.POWER_STATUS_STATE).dn F.POWER_STATUS_TRANSITION).dn F.POWER_STATUS_HOLD_THERMAL).dn
      F.POWER_STATUS_SHUTDOWN).moveTo .none).resume := by
  unfold holdExitComplete
  rw [hmove, if_pos (by decide)]
  simp only [Dev.each_cons, Dev.each_nil]

/-- R486, R487: the end of the entry to DEEP loses the DRAM and the link. -/
theorem deepEntryComplete_loses {e : Dev} (hmove : d.power.moving = .toDeep)
    (he : ((d.enginesStop true).cutAll.portsOff).sg F.POWER_STATUS_STATE 3 = e) :
    deepEntryComplete d =
      { e with mem := [], power := { e.power with shut := none, moving := .none, pcie := false } }.wakePending := by
  subst he
  unfold deepEntryComplete
  rw [hmove, if_pos (by decide)]

/-- R485: a thermal HOLD ends once every island has stayed below its limit for 10 s. -/
theorem thermalHoldExit_cool {since : Nat} (hhold : d.inHold = true) (hthermal : d.fl F.POWER_STATUS_HOLD_THERMAL = true)
    (hstill : d.power.moving = .none) (hcool : d.power.coolSince = some since) (hlong : since + 10000000000 ≤ d.now) :
    thermalHoldExit d = d.holdExit 8 := by
  simp [thermalHoldExit, hhold, hthermal, hstill, hcool, hlong]

/-- R485: outside HOLD there is nothing to end. -/
theorem thermalHoldExit_active (h : d.inHold = false) : thermalHoldExit d = d := by
  simp [thermalHoldExit, h]

/-! ### Rails, brownouts and resets from outside -/

/-- A cold power-on acts always. -/
theorem Gives.runCold {c : Instr} {s : State} {f : Dev → Dev} (hc : exec c s = s.runCold f) : Gives c s (f s.dev) := hc

/-- R464: a rail that feeds no island is recorded for none. -/
theorem railTimeout_none {r : Rail} (hboot : d.power.boot = .rails) (h : railIslands r = []) :
    railTimeout r d = { d with power := { d.power with boot := .railWait } } := by
  simp [railTimeout, hboot, h]

/-- R464: a rail that feeds islands is recorded for one of them. -/
theorem railTimeout_one {r : Rail} (hboot : d.power.boot = .rails) (h : railIslands r ≠ []) :
    ∃ i ∈ railIslands r, railTimeout r d =
      ({ d with power := { d.power with boot := .railWait } }.draw).2.sg F.POWER_BROWNOUT_RESET_ISLAND i := by
  cases hl : railIslands r with
  | nil => exact absurd hl h
  | cons i rest =>
    have hin := Nat.mod_lt (Config.freeNat d.free) (Nat.zero_lt_succ rest.length)
    refine ⟨(i :: rest).getD (Config.freeNat d.free % (rest.length + 1)) 0, ?_, ?_⟩
    · rw [List.getD_eq_getElem _ _ hin]
      exact List.getElem_mem hin
    · simp [railTimeout, hboot, hl, Dev.draw]

/-- R464: the rails start again once EN_MAIN has been low. -/
theorem railRetry_waits (hboot : d.power.boot = .railWait) :
    railRetry d = { d with power := { d.power with boot := .rails } } := by simp [railRetry, hboot]

/-- R470: an island's reset level resets a device that is past its power-up. -/
theorem brownoutReset_powered {i : Nat} (hup : d.poweredUp = true) (hi : i ≠ 6) : brownoutReset i d =
    ((brownoutWarn i d).sg F.POWER_BROWNOUT_RESET_ISLAND i).warmBy .brownout i := by simp [brownoutReset, hup, hi]

/-- R468: a warning of a supplied island that shows none is set, counted and reported. -/
theorem brownoutWarn_new {i : Nat} (hnew : bit (d.rg F.POWER_BROWNOUT_ACTIVE) i = false) (hsup : d.supplied i = true) :
    brownoutWarn i d = (((d.orBits F.POWER_BROWNOUT_BROWNOUT_WARN (2 ^ i)).orBits F.POWER_BROWNOUT_ACTIVE (2 ^ i)).incSat
      F.POWER_BROWNOUT_WARN_COUNT).attn .power := by simp [brownoutWarn, hnew, hsup]

/-- R469: the end of a warning that stands writes what was held back, and is logged. -/
theorem brownoutRecovery_ends {i mv us : Nat} (h : bit (d.rg F.POWER_BROWNOUT_ACTIVE) i = true) : brownoutRecovery i mv us d =
    (((d.clrBits F.POWER_BROWNOUT_ACTIVE (2 ^ i)).mramFlush).logFlush).logE 4 7 1 (i * 2 ^ 28 + mv * 2 ^ 16 + min us 65535) := by
  simp [brownoutRecovery, h]

/-! ### The reference clock and the wake pins -/

/-- R537: in DEEP a lost reference is not logged. -/
theorem refclkLost_deep (hhold : d.fl F.IO_STATUS_HOLDOVER = false) (hdeep : d.deep = true) :
    refclkLost d = ((d.up F.IO_STATUS_REFCLK_LOST).up F.IO_STATUS_HOLDOVER).attn .fault := by simp [refclkLost, hhold, hdeep]

/-- R537: outside DEEP a lost reference enters holdover and is logged. -/
theorem refclkLost_awake (hhold : d.fl F.IO_STATUS_HOLDOVER = false) (hdeep : d.deep = false) :
    refclkLost d = (((d.up F.IO_STATUS_REFCLK_LOST).up F.IO_STATUS_HOLDOVER).attn .fault).logOpen := by
  simp [refclkLost, hhold, hdeep]

/-- R478, R488: the release of PERST_N trains the link, and wakes where that is enabled. -/
theorem perstDeassert_eq {e : Dev} (he : { d with power := { d.power with
      perst := false, pcie := d.power.pcie || (d.power.boot == Boot.released && !d.deep) } } = e) :
    perstDeassert d = e.onlyIf (d.fl F.POWER_WAKE_PERST) (·.wakeEvent 2) := by
  subst he
  rfl

/-- R502: WAKE_N stops a running shut-down test. -/
theorem wakeNFall_testing (h : d.testing = true) : wakeNFall d = d.testStop.sg F.POWER_WAKE_LAST_SRC 1 := if_pos h

/-- R488: where no test runs, an enabled WAKE_N wakes. -/
theorem wakeNFall_wakes (h : d.testing = false) (hen : d.fl F.POWER_WAKE_WAKE_N = true) : wakeNFall d = d.wakeEvent 1 := by
  simp [wakeNFall, h, hen]

/-- R487: in DEEP a side-band transaction that may not wake is only left unanswered. -/
theorem sidebandWake_disabled {tr : Tr} (hdeep : d.deep = true) (hen : d.fl F.POWER_WAKE_SIDEBAND = false) :
    sidebandWake tr d = d.send (.nack tr) := by simp [sidebandWake, hdeep, hen]

/-- R487: in DEEP an enabled side-band transaction wakes. -/
theorem sidebandWake_enabled {tr : Tr} (hdeep : d.deep = true) (hen : d.fl F.POWER_WAKE_SIDEBAND = true) :
    sidebandWake tr d = (d.send (.nack tr)).deepWake 3 := by
  have hwake : (d.send (.nack tr)).wakeEvent 3 = (d.send (.nack tr)).deepWake 3 := if_pos hdeep
  simp [sidebandWake, hdeep, hen, hwake]

end Sys2Proof.Machine
end

section
/-! SUPPORT.  The events of Hearth (R414, R435, R443, R447, R448, R452, R500, R505, R507): the watchdog, a Leaven run, the minute
    count, a start, the end of a slice, and the loss of the host. -/

namespace Sys2Proof.Machine

variable {d : Dev}

/-! ### The watchdog -/

/-- R435: before a start a watchdog expiry only lets time pass. -/
theorem watchdogExpiry_unreleased {dt : Nat} {e : Dev} (he : d.advance dt = e) (hboot : e.power.boot ≠ .released) :
    watchdogExpiry dt d = e := by
  subst he
  exact if_pos (bne_iff_ne.mpr hboot)

/-- R435: the third expiry in its window resets the device. -/
theorem watchdogExpiry_third {dt : Nat} {e : Dev} (he : d.advance dt = e) (hboot : e.power.boot = .released)
    (hthird : 2 ≤ e.hearth.expiries.length) :
    watchdogExpiry dt d = (e.faultSum F.SYS_FAULT_SUMMARY_WATCHDOG).warmReset .watchdog := by
  subst he
  exact (if_neg (by simp [hboot])).trans (if_pos hthird)

/-- R435: an earlier expiry restarts Hearth, counts the restart and logs it. -/
theorem watchdogExpiry_restarts {dt : Nat} {e e2 e3 : Dev} (he : d.advance dt = e) (hboot : e.power.boot = .released)
    (hearly : e.hearth.expiries.length < 2)
    (h2 : ({ e with hearth := { e.hearth with expiries := e.now :: e.hearth.expiries } }.hearthRestart).incSat
      F.HEARTH_WDOG_RESTARTS = e2)
    (h3 : (e2.sg F.HEARTH_WDOG_RECENT e2.hearth.expiries.length).faultSum F.SYS_FAULT_SUMMARY_WATCHDOG = e3) :
    watchdogExpiry dt d = (e3.attn .resetSeen).logE 4 0 3 (e3.rg F.HEARTH_WDOG_RESTARTS) := by
  subst he h2 h3
  exact (if_neg (by simp [hboot])).trans (if_neg (Nat.not_le.mpr hearly))

/-! ### A Leaven run -/

/-- R460: showing the margins writes their registers only. -/
theorem OnlyRegs.marginShow (d : Dev) : OnlyRegs d d.marginShow := .each (fun _ d => .sg d _ _) _ _

/-- R452: a run writes the ageing and margin registers, ends measuring, and leaves a plan. -/
theorem leavenMeasure_plans (d : Dev) (degrade : List (BitVec 16)) (periodic : Bool) : ∃ y acts, OnlyRegs d y ∧
    OnlyRegs { y with hearth := { y.hearth with measuring := false, plan := some acts } } (d.leavenMeasure degrade periodic) := by
  unfold Dev.leavenMeasure
  refine ⟨_, _, ?_, .marginShow _⟩
  split
  · exact .rf d
  · exact .each (fun _ d => .sg d _ _) _ _

/-- R452, R453: a completed run has a plan, and has touched no bank and no DRAM. -/
theorem leavenRunComplete_plans {degrade : List (BitVec 16)} {e : Dev} (h : d.hearth.measuring = true)
    (he : leavenRunComplete degrade d = e) : e.hearth.measuring = false ∧ e.hearth.plan.isSome = true ∧
      e.proof = d.proof ∧ e.active = d.active ∧ e.mem = d.mem := by
  subst he
  rw [leavenRunComplete, if_pos h]
  obtain ⟨y, acts, ⟨hy⟩, ⟨hm⟩⟩ := leavenMeasure_plans d degrade true
  generalize d.leavenMeasure degrade true = z at hm ⊢
  exact ⟨(congrArg (fun z : Dev => z.hearth.measuring) hm :), (congrArg (fun z : Dev => z.hearth.plan.isSome) hm :),
    (congrArg Dev.proof hm :).trans (congrArg Dev.proof hy :), (congrArg Dev.active hm :).trans (congrArg Dev.active hy :),
    (congrArg Dev.mem hm :).trans (congrArg Dev.mem hy :)⟩

/-! ### The minute count and a start -/

/-- R507: 60 minutes more in ACTIVE or REST stand in the health record. -/
theorem healthRecordMinutes_counts {e : Dev} (h : d.rg F.POWER_STATUS_STATE < 2)
    (he : { d with hearth := { d.hearth with minutes := d.hearth.minutes + 60 } } = e) :
    healthRecordMinutes d = (e.healthUpdate (·.set 2 (e.hearth.minutes % 2 ^ 32))).minToRun := by
  subst he
  exact if_neg (Nat.not_le.mpr h)

/-- R443: a successful start closes the attempt; an image of a slot takes the rollback counter with it. -/
theorem startSuccess_closes {e : Dev} (hopen : d.hearth.attempt = 1) (hserve : d.rg F.HEARTH_STATE_STATE = 1)
    (he : { d with hearth := { d.hearth with attempt := 0 } }.dn F.SYS_BOOT_COUNT_FAILED_RUN = e) :
    startSuccess d = if e.fl F.HEARTH_STATE_RECOVERY_IMAGE then e else
      e.sg F.SECURE_KEYS_ROLLBACK (max (e.rg F.SECURE_KEYS_ROLLBACK) (e.slotRollback (e.rg F.HEARTH_STATE_SLOT))) := by
  subst he
  exact if_pos ⟨hopen, hserve⟩

/-- R448: a start that takes too long is a warm reset. -/
theorem startTimeout_late (hboot : d.power.boot = .released) (hstart : d.rg F.HEARTH_STATE_STATE = 0) :
    startTimeout d = d.warmReset .watchdog := if_pos (by simp [hboot, hstart])

/-- R448: a start that is over is not late. -/
theorem startTimeout_over (h : d.rg F.HEARTH_STATE_STATE ≠ 0) : startTimeout d = d := if_neg (by simp [h])

/-- R464: a device that may leave reset has not left it. -/
theorem boot_ne_released_of_mayRelease (h : d.mayRelease = true) : d.power.boot ≠ .released := by
  intro hboot
  simp [Dev.mayRelease, hboot] at h

/-- R524: sampling the straps does not touch the power state. -/
theorem straps_power (x : Straps) : ((d.strapSeen x).straps x).power = d.power := by
  have hup (b : Bool) : (d.onlyIf b (·.up F.IO_STATUS_STRAP_CHANGED)).power = d.power := by
    cases b
    · rfl
    · rfl
  unfold Dev.straps Dev.strapSeen
  simp only [Dev.sg_power]
  exact hup _

/-- R525: with the test strap the device stays in reset. -/
theorem resetReleaseEvent_strapped {seen : StartSeen} (hmay : d.mayRelease = true) (htest : seen.straps.testMode = true) :
    resetReleaseEvent seen d = ((d.strapSeen seen.straps).straps seen.straps).up F.IO_STATUS_TEST_STRAP := by
  have hrel : resetRelease seen d = ((d.strapSeen seen.straps).straps seen.straps).up F.IO_STATUS_TEST_STRAP := by
    unfold resetRelease
    rw [if_neg (by simp [hmay])]
    exact if_pos htest
  have hboot : (resetRelease seen d).power.boot ≠ .released := by
    rw [hrel, Dev.up_eq, Dev.sg_power, straps_power]
    exact boot_ne_released_of_mayRelease hmay
  exact (if_neg (by simp [hboot])).trans hrel

/-- R447: without it the start runs, and firmware that then runs answers the HPD events that waited. -/
theorem resetReleaseEvent_starts {seen : StartSeen} {e e2 e3 : Dev} (hmay : d.mayRelease = true)
    (htest : seen.straps.testMode = false) (he : (d.strapSeen seen.straps).straps seen.straps = e)
    (he2 : (({ e with startAt := e.now, power := { e.power with boot := .released } }.dn F.IO_STATUS_TEST_STRAP).edpStrap.sg
      F.LINESTORE_POOL_RESERVED 900) = e2)
    (he3 : (e2.startBoot seen).1.startRun (e2.startBoot seen).2 seen = e3) :
    resetReleaseEvent seen d = if e3.power.boot = .released then e3.hpdServe else e3 := by
  subst he he2
  have hrel : resetRelease seen d = e3 := by
    unfold resetRelease
    rw [if_neg (by simp [hmay])]
    exact (if_neg (ne_true_of_eq_false htest)).trans he3
  unfold resetReleaseEvent
  rw [hrel]
  simp [boot_ne_released_of_mayRelease hmay]

/-! ### The end of a slice and the loss of the host -/

/-- R500, R501: the running slice of a shut-down test ends. -/
theorem sliceOver_test {x : SliceSeen} (h : d.testing = true) : d.sliceOver x = d.testEnd x := if_pos h

/-- R505: the running slice on demand ends. -/
theorem sliceOver_demand {x : SliceSeen} (h : d.testing = false) (hrun : d.fl F.SECURE_ST_STATUS_RUNNING = true) :
    d.sliceOver x = d.demandEnd x := (if_neg (ne_true_of_eq_false h)).trans (if_pos hrun)

/-- R499: where no slice runs, none ends. -/
theorem sliceOver_idle {x : SliceSeen} (h : d.testing = false) (hidle : d.fl F.SECURE_ST_STATUS_RUNNING = false) :
    d.sliceOver x = d := (if_neg (ne_true_of_eq_false h)).trans (if_neg (ne_true_of_eq_false hidle))

/-- R500: a slice that is short of its count ends with its budget as its time. -/
theorem sliceBudgetExpiry_short {x : SliceSeen} (h : x.count.toNat < x.expCount.toNat) :
    sliceBudgetExpiry x d = d.sliceOver { x with micros := d.budgetUs (d.rg F.SECURE_ST_STATUS_SLICE) } := if_pos h

/-- R414: a host whose HEARTBEAT came in the same cycle is not lost. -/
theorem hostLost_beat (h : d.icp.beatAt = some d.now) : hostLost d = d := if_pos (.inr (.inr h))

/-- R414: otherwise the controller's loss is counted, shown and logged. -/
theorem hostLost_counts (hctl : d.rg F.ICP_ATTENTION_CONTROLLER ≠ 0) (hnew : d.fl F.ICP_RING_STATUS_HOST_LOST = false)
    (hbeat : d.icp.beatAt ≠ some d.now) : hostLost d =
      ({ d with icp := { d.icp with lostCount := satAdd 16 d.icp.lostCount 1, wasLost := true } }.up
        F.ICP_RING_STATUS_HOST_LOST).logE 4 5 1 d.icp.lostMs := by simp [hostLost, hctl, hnew, hbeat]

end Sys2Proof.Machine
end

section
/-! SUPPORT.  The settled statements of chapter 15: supplies, resets, wake sources, power states and the events of Hearth. -/

namespace Sys2Proof.Machine

/-- Settles O5: by a command's reach its meaning is empty in DEEP, in scan, or in both. -/
theorem deepAndScanLeaveOnlyTheirOwnCommands : Obligations.DeepAndScanLeaveOnlyTheirOwnCommands := by
  refine fun c s => ⟨fun hdeep hawake => ?_, fun hscan hcold => exec_scan hscan hcold, fun hdark t ht hne hawake => ?_⟩
  · exact exec_dark (by rw [Dev.dark, hdeep, Bool.true_or]) hawake
  · have hst : t = s := Host.Outcome.next.inj (ht.symm.trans (exec_dark hdark hawake))
    exact hne (congrArg State.dev hst)

/-- Settles O27: each event acts by its own rule; a rail's timeout is recorded for an island that the rail feeds. -/
theorem supplyAndResetEvents : Obligations.SupplyAndResetEvents := by
  refine ⟨fun s => ⟨?_, ?_⟩,
    fun s hdark => ⟨fun hboot r hnone => ?_, fun hboot r hfeeds => ?_, fun hboot => ?_, fun hup => ?_, fun i hup hi => ?_, ?_⟩,
    fun s hscan => ⟨fun i hnew hsup => ?_, fun i mv us hwarn => ?_, fun hhold hdeep => ?_, fun hhold hdeep => ?_, ?_,
      fun d hd => ?_, fun d hd => ⟨fun hen => ?_, fun hen => ?_⟩, fun htest hen => ?_, fun htest => ?_,
      fun tr hdeep hen => ?_, fun tr hdeep hen => ?_⟩⟩
  · exact Gives.runCold (f := aonPowerOn) rfl
  · exact Gives.runCold (f := aonBrownout) rfl
  · exact Gives.run rfl hdark (railTimeout_none hboot hnone)
  · obtain ⟨i, hin, heq⟩ := railTimeout_one hboot hfeeds
    refine Completes.run (f := railTimeout r) rfl hdark ?_
    rw [heq]
    exact ⟨rfl, i, hin, rfl⟩
  · exact Gives.run rfl hdark (railRetry_waits hboot)
  · exact Gives.run rfl hdark (if_pos hup)
  · exact Gives.run rfl hdark (brownoutReset_powered hup hi)
  · exact Gives.run (f := functionLevelReset) rfl hdark rfl
  · exact Gives.runAon rfl hscan (brownoutWarn_new hnew hsup)
  · exact Gives.runAon rfl hscan (brownoutRecovery_ends hwarn)
  · exact Gives.runAon rfl hscan (refclkLost_deep hhold hdeep)
  · exact Gives.runAon rfl hscan (refclkLost_awake hhold hdeep)
  · exact Gives.runAon (f := refclkReturn) rfl hscan rfl
  · subst hd
    exact Gives.runAon (f := perstAssert) rfl hscan rfl
  · refine Gives.runAon rfl hscan ((perstDeassert_eq hd.symm).trans ?_)
    rw [hen, Dev.onlyIf_true]
  · refine Gives.runAon rfl hscan ((perstDeassert_eq hd.symm).trans ?_)
    rw [hen, Dev.onlyIf_false]
  · exact Gives.runAon rfl hscan (wakeNFall_wakes htest hen)
  · exact Gives.runAon rfl hscan (wakeNFall_testing htest)
  · exact Gives.runAon rfl hscan (sidebandWake_disabled hdeep hen)
  · exact Gives.runAon rfl hscan (sidebandWake_enabled hdeep hen)

/-- Settles O49: each event acts by the rule of its own case. -/
theorem hearthEventsTakeEffect : Obligations.HearthEventsTakeEffect := by
  intro s hdark d
  refine ⟨fun dt => ?_, fun therm droop dt => ?_, ?_, fun degrade hmeas => ?_, fun hawake => ?_, fun hasleep => ?_,
    fun hopen hserve => ?_, fun hboot hstart => ?_, fun hover => ?_, fun seen hmay => ?_, fun x => ?_, ?_, fun hbeat => ?_,
    fun hctl hnew hbeat => ?_⟩
  · intro e
    refine ⟨fun hboot => ?_, fun hboot hthird => ?_, fun hboot hearly => ?_⟩
    · exact Gives.run rfl hdark (watchdogExpiry_unreleased rfl hboot)
    · exact Gives.run rfl hdark (watchdogExpiry_third rfl hboot hthird)
    · intro h e2 e3
      exact Gives.run rfl hdark (watchdogExpiry_restarts rfl hboot hearly rfl rfl)
  · intro e0 e e2
    exact Gives.run (f := sensorSample therm droop dt) rfl hdark rfl
  · exact Gives.run (f := leavenRun) rfl hdark rfl
  · exact Completes.run (f := leavenRunComplete degrade) rfl hdark (leavenRunComplete_plans hmeas rfl)
  · intro h e
    exact Gives.run rfl hdark (healthRecordMinutes_counts hawake rfl)
  · exact Gives.run (f := healthRecordMinutes) rfl hdark (if_pos hasleep)
  · intro h e
    have hclose := startSuccess_closes hopen hserve (e := e) rfl
    exact ⟨fun hrec => Gives.run rfl hdark (hclose.trans (if_pos hrec)),
      fun hslot => Gives.run rfl hdark (hclose.trans (if_neg (ne_true_of_eq_false hslot)))⟩
  · exact Gives.run rfl hdark (startTimeout_late hboot hstart)
  · exact Gives.run rfl hdark (startTimeout_over hover)
  · intro e
    refine ⟨fun htest => Gives.run rfl hdark (resetReleaseEvent_strapped hmay htest), fun htest => ?_⟩
    intro p e2 e3
    exact Gives.run rfl hdark (resetReleaseEvent_starts hmay htest rfl rfl rfl)
  · refine ⟨fun htest => ?_, fun hno hrun => ?_, fun hno hidle => ?_, ?_, ?_⟩
    · exact Gives.run (f := sliceEnd x) rfl hdark (sliceOver_test htest)
    · exact Gives.run (f := sliceEnd x) rfl hdark (sliceOver_demand hno hrun)
    · exact Gives.run (f := sliceEnd x) rfl hdark (sliceOver_idle hno hidle)
    · intro y hshort htest
      exact Gives.run rfl hdark ((sliceBudgetExpiry_short hshort).trans (sliceOver_test htest))
    · intro y hshort hno hrun
      exact Gives.run rfl hdark ((sliceBudgetExpiry_short hshort).trans (sliceOver_demand hno hrun))
  · exact Gives.run (f := debugChallengeExpiry) rfl hdark rfl
  · exact Gives.run rfl hdark (hostLost_beat hbeat)
  · intro x
    exact Gives.run rfl hdark (hostLost_counts hctl hnew hbeat)

/-- Settles O50: a request is refused or taken by its target; each transition's end acts in its own state. -/
theorem powerCommandsAndTransitions : Obligations.PowerCommandsAndTransitions := by
  intro s hdark d
  refine ⟨fun c rq data hc => ?_, fun rq data => ?_, fun since hhold hthermal hstill hcool hlong => ?_, fun hactive => ?_,
    fun hmove => ?_, fun hmove => ?_, fun hmove => ?_⟩
  · intro t e
    have gives {g : Dev} (hg : powerCtrlWrite data s.dev = g) : Gives c s g := by
      rcases hc with rfl | rfl | rfl
      · exact Gives.run rfl hdark hg
      · exact Gives.run rfl hdark hg
      · exact Gives.run rfl hdark hg
    have takes {g : Dev} (href : d.powerRefused t = false) (hg : d.powerTake t = g) : Gives c s g :=
      gives ((powerCtrlWrite_taken href).trans hg)
    exact ⟨fun href => gives (powerCtrlWrite_refused href), fun href ht => takes href (powerTake_hold ht),
      fun href ht => takes href (powerTake_deep ht), fun href ht hhold => takes href (powerTake_exits ht hhold),
      fun href ht hactive => takes href (powerTake_stays ht hactive)⟩
  · exact Gives.run rfl hdark (powerPipeReset_eq rq data s.dev)
  · exact Gives.run rfl hdark (thermalHoldExit_cool hhold hthermal hstill hcool hlong)
  · exact Gives.run rfl hdark (thermalHoldExit_active hactive)
  · intro e e2 p
    exact Gives.run rfl hdark (holdEntryComplete_holds hmove rfl rfl)
  · exact Gives.run rfl hdark (holdExitComplete_exits hmove)
  · intro e p e2
    exact Gives.run rfl hdark (deepEntryComplete_loses hmove rfl)

end Sys2Proof.Machine
end
